-- ==== Sys2Proof/Word.lean ====
section
/-! DEFINITION. The word types of the LN7440: every register is 32 bits wide (R2). -/

namespace Sys2Proof

/-- A register or core word, 32 bits (R2). -/
abbrev Word := BitVec 32

/-- One byte of memory (R11). -/
abbrev Byte := BitVec 8

/-- A line-time value, 48 bits in units of 10 ns (R39). -/
abbrev LineTime := BitVec 48

end Sys2Proof
end

