-- ==== Sys2Proof/Machine/Bits.lean ====
section
/-! DEFINITION. Bit fields, sign extension, byte order and saturation: the plain helpers every block uses. -/

namespace Sys2Proof.Machine

/-- Field `w` bits wide whose least significant bit is `lo`, as a number. -/
def fld (v : Word) (lo w : Nat) : Nat := (v.toNat >>> lo) % 2 ^ w

/-- One bit of a word. -/
def bitOf (v : Word) (n : Nat) : Bool := v.getLsbD n

/-- The mask of a field. -/
def maskOf (lo w : Nat) : Word := BitVec.ofNat 32 ((2 ^ w - 1) <<< lo)

/-- `v` with the field at `lo`, `w` bits wide, replaced by the low bits of `n`. -/
def setFld (v : Word) (lo w n : Nat) : Word :=
  (v &&& ~~~ (maskOf lo w)) ||| BitVec.ofNat 32 ((n % 2 ^ w) <<< lo)

/-- `v` with bit `n` set or cleared. -/
def setBit (v : Word) (n : Nat) (b : Bool) : Word := setFld v n 1 b.toNat

/-- A word that carries bits of `new` under `mask` and of `old` elsewhere. -/
def mergeMask (old new mask : Word) : Word := (old &&& ~~~ mask) ||| (new &&& mask)

/-- A number as a word. -/
def wd (n : Nat) : Word := BitVec.ofNat 32 n

/-- An integer as a word, modulo 2^32. -/
def wdI (n : Int) : Word := BitVec.ofInt 32 n

/-- The signed value of the low `w` bits of `n`. -/
def sgn (w n : Nat) : Int :=
  let m := n % 2 ^ w
  if m < 2 ^ (w - 1) then (m : Int) else (m : Int) - (2 ^ w : Nat)

/-- Saturation of an integer to a signed range of `w` bits. -/
def satS (w : Nat) (x : Int) : Int :=
  let hi : Int := (2 ^ (w - 1) : Nat) - 1
  let lo : Int := - (2 ^ (w - 1) : Nat)
  if x > hi then hi else if x < lo then lo else x

/-- Clamp to an inclusive range. -/
def clampI (lo hi x : Int) : Int := if x > hi then hi else if x < lo then lo else x

/-- Addition that stops at the top of `w` unsigned bits. -/
def satAdd (w a b : Nat) : Nat := if a + b ≥ 2 ^ w then 2 ^ w - 1 else a + b

/-- A 32-bit counter plus one, saturating. -/
def incSat (v : Word) : Word := if v = 0xFFFFFFFF#32 then v else v + 1#32

/-- Floor division of an integer by a power of two. -/
def asr (x : Int) (n : Nat) : Int := x / (2 ^ n : Nat)

/-- Shift right by `n` with rounding half up. -/
def rshr (x : Int) (n : Nat) : Int := if n = 0 then x else (x + (2 ^ (n - 1) : Nat)) / (2 ^ n : Nat)

/-- The four bytes of a word, least significant first (R11). -/
def wordBytes (v : Word) : List Byte :=
  [v.extractLsb' 0 8, v.extractLsb' 8 8, v.extractLsb' 16 8, v.extractLsb' 24 8]

/-- The big-endian octets of a number, `n` of them (R12). -/
def beOctets : Nat → Nat → List Byte
  | 0, _ => []
  | n + 1, v => BitVec.ofNat 8 (v >>> (8 * n)) :: beOctets n v

/-- The number whose big-endian octets are the list (R12). -/
def beNat (l : List Byte) : Nat := l.foldl (fun a b => a * 256 + b.toNat) 0

/-- Whether a list of bits of `w` below `k` holds any one. -/
def anyBit (v : Word) (mask : Nat) : Bool := (v.toNat &&& mask) != 0

/-- Keep the old value of a field whose new value is a reserved encoding (R6). -/
def keepFld (old : Word) (lo w : Nat) (bad : Nat → Bool) (v : Word) : Word :=
  if bad (fld v lo w) then setFld v lo w (fld old lo w) else v

end Sys2Proof.Machine
end

