-- ==== Sys2Proof/Machine/CoreWord.lean ====
section
/-! DEFINITION. The instruction words of the Badger core: the formats of Table 7-6 and the codes of Table 7-7 (R384 to R387). -/

namespace Sys2Proof.Machine

/-- Instructions of format R that use RD, RA and RB and no AUX bits. -/
inductive RegFn where
  | add | sub | and | or | xor | shl | shr | sra | slt | sltu | min | max | adds | subs | mul | mulh | mulhu | div | divu | rem | remu
  | bmove | bfill | vmac16 | vmac32 | bcrc32 | bcrc16
  deriving DecidableEq, Repr

/-- OP and FUNC (Table 7-7). -/
def RegFn.code : RegFn → Nat × Nat
  | .add => (0x00, 0x00)
  | .sub => (0x00, 0x01)
  | .and => (0x00, 0x02)
  | .or => (0x00, 0x03)
  | .xor => (0x00, 0x04)
  | .shl => (0x00, 0x05)
  | .shr => (0x00, 0x06)
  | .sra => (0x00, 0x07)
  | .slt => (0x00, 0x08)
  | .sltu => (0x00, 0x09)
  | .min => (0x00, 0x0A)
  | .max => (0x00, 0x0B)
  | .adds => (0x00, 0x0C)
  | .subs => (0x00, 0x0D)
  | .mul => (0x00, 0x10)
  | .mulh => (0x00, 0x11)
  | .mulhu => (0x00, 0x12)
  | .div => (0x00, 0x18)
  | .divu => (0x00, 0x19)
  | .rem => (0x00, 0x1A)
  | .remu => (0x00, 0x1B)
  | .bmove => (0x30, 0x00)
  | .bfill => (0x30, 0x01)
  | .vmac16 => (0x30, 0x02)
  | .vmac32 => (0x30, 0x03)
  | .bcrc32 => (0x30, 0x04)
  | .bcrc16 => (0x30, 0x05)

/-- Every one of them. -/
def RegFn.all : List RegFn :=
  [.add, .sub, .and, .or, .xor, .shl, .shr, .sra, .slt, .sltu, .min, .max, .adds, .subs, .mul, .mulh, .mulhu, .div, .divu, .rem, .remu,
   .bmove, .bfill, .vmac16, .vmac32, .bcrc32, .bcrc16]

/-- Instructions of format I with RD, RA and an 18-bit IMM. -/
inductive ImmFn where
  | addi | andi | ori | xori | slti | sltiu | lb | lbu | lh | lhu | lw | sb | sh | sw
  deriving DecidableEq, Repr

/-- OP (Table 7-7). -/
def ImmFn.code : ImmFn → Nat
  | .addi => 0x01
  | .andi => 0x02
  | .ori => 0x03
  | .xori => 0x04
  | .slti => 0x05
  | .sltiu => 0x06
  | .lb => 0x10
  | .lbu => 0x11
  | .lh => 0x12
  | .lhu => 0x13
  | .lw => 0x14
  | .sb => 0x18
  | .sh => 0x19
  | .sw => 0x1A

/-- Every one of them. -/
def ImmFn.all : List ImmFn := [.addi, .andi, .ori, .xori, .slti, .sltiu, .lb, .lbu, .lh, .lhu, .lw, .sb, .sh, .sw]

/-- The shift-immediate instructions. -/
inductive ShiftFn where
  | shli | shri | srai
  deriving DecidableEq, Repr

/-- OP (Table 7-7). -/
def ShiftFn.code : ShiftFn → Nat
  | .shli => 0x08
  | .shri => 0x09
  | .srai => 0x0A

/-- Every one of them. -/
def ShiftFn.all : List ShiftFn := [.shli, .shri, .srai]

/-- The branches. -/
inductive BranchFn where
  | beq | bne | blt | bge | bltu | bgeu
  deriving DecidableEq, Repr

/-- OP (Table 7-7). -/
def BranchFn.code : BranchFn → Nat
  | .beq => 0x20
  | .bne => 0x21
  | .blt => 0x22
  | .bge => 0x23
  | .bltu => 0x24
  | .bgeu => 0x25

/-- Every one of them. -/
def BranchFn.all : List BranchFn := [.beq, .bne, .blt, .bge, .bltu, .bgeu]

/-- The instructions that use no field. -/
inductive PlainFn where
  | ret | eret | gret | brk | fence | critb | crite | yield
  deriving DecidableEq, Repr

/-- OP and FUNC (Table 7-7). -/
def PlainFn.code : PlainFn → Nat × Nat
  | .ret => (0x2C, 0x00)
  | .eret => (0x3F, 0x02)
  | .gret => (0x3F, 0x04)
  | .brk => (0x3F, 0x06)
  | .fence => (0x3F, 0x07)
  | .critb => (0x3F, 0x08)
  | .crite => (0x3F, 0x09)
  | .yield => (0x3F, 0x0A)

/-- Every one of them. -/
def PlainFn.all : List PlainFn := [.ret, .eret, .gret, .brk, .fence, .critb, .crite, .yield]

/-- An instruction as its word gives it: the instruction and its fields. -/
inductive CoreIns where
  | reg (f : RegFn) (rd ra rb : BitVec 4)
  | clz (rd ra : BitVec 4)
  | mulsh (rd ra rb : BitVec 4) (n : BitVec 5)
  | imm (f : ImmFn) (rd ra : BitVec 4) (v : BitVec 18)
  | lui (rd : BitVec 4) (v : BitVec 18)
  | shift (f : ShiftFn) (rd ra : BitVec 4) (n : BitVec 5)
  | branch (f : BranchFn) (ra rb : BitVec 4) (off : BitVec 18)
  | jmp (off : BitVec 26)
  | call (off : BitVec 26)
  | jr (ra : BitVec 4)
  | callr (ra : BitVec 4)
  | plain (f : PlainFn)
  | mfs (rd : BitVec 4) (aux : BitVec 8)
  | mts (aux : BitVec 8) (ra : BitVec 4)
  | gate (n : BitVec 6)
  | trap (n : BitVec 8)
  deriving DecidableEq, Repr

/-- A word of format R (Table 7-6). -/
def formR (op func : Nat) (rd ra rb : BitVec 4) (aux : BitVec 8) : Word := BitVec.ofNat 6 op ++ rd ++ ra ++ rb ++ aux ++ BitVec.ofNat 6 func

/-- A word of format I; format B has RA and RB in the first two fields (Table 7-6). -/
def formI (op : Nat) (x y : BitVec 4) (imm : BitVec 18) : Word := BitVec.ofNat 6 op ++ x ++ y ++ imm

/-- A word of format J (Table 7-6). -/
def formJ (op : Nat) (off : BitVec 26) : Word := BitVec.ofNat 6 op ++ off

/-- The word of an instruction: unused fields are 0. -/
def CoreIns.encode : CoreIns → Word
  | .reg f rd ra rb => formR f.code.1 f.code.2 rd ra rb 0#8
  | .clz rd ra => formR 0x00 0x0E rd ra 0#4 0#8
  | .mulsh rd ra rb n => formR 0x00 0x13 rd ra rb (0#3 ++ n)
  | .imm f rd ra v => formI f.code rd ra v
  | .lui rd v => formI 0x07 rd 0#4 v
  | .shift f rd ra n => formI f.code rd ra (0#13 ++ n)
  | .branch f ra rb off => formI f.code ra rb off
  | .jmp off => formJ 0x28 off
  | .call off => formJ 0x29 off
  | .jr ra => formR 0x2A 0x00 0#4 ra 0#4 0#8
  | .callr ra => formR 0x2B 0x00 0#4 ra 0#4 0#8
  | .plain f => formR f.code.1 f.code.2 0#4 0#4 0#4 0#8
  | .mfs rd aux => formR 0x3F 0x00 rd 0#4 0#4 aux
  | .mts aux ra => formR 0x3F 0x01 0#4 ra 0#4 aux
  | .gate n => formR 0x3F 0x03 0#4 0#4 0#4 (0#2 ++ n)
  | .trap n => formR 0x3F 0x05 0#4 0#4 0#4 n

/-- What the fields of a word offer, before unused fields are looked at. -/
def guessCore (w : Word) : Option CoreIns :=
  let op := (w.extractLsb' 26 6).toNat
  let func := (w.extractLsb' 0 6).toNat
  let x := w.extractLsb' 22 4
  let y := w.extractLsb' 18 4
  let z := w.extractLsb' 14 4
  let aux := w.extractLsb' 6 8
  let imm := w.extractLsb' 0 18
  let n := w.extractLsb' 0 5
  match RegFn.all.find? fun f => f.code == (op, func) with
  | some f => some (.reg f x y z)
  | none =>
    match ImmFn.all.find? fun f => f.code == op with
    | some f => some (.imm f x y imm)
    | none =>
      match ShiftFn.all.find? fun f => f.code == op with
      | some f => some (.shift f x y n)
      | none =>
        match BranchFn.all.find? fun f => f.code == op with
        | some f => some (.branch f x y imm)
        | none =>
          match PlainFn.all.find? fun f => f.code == (op, func) with
          | some f => some (.plain f)
          | none =>
            if op = 0x00 ∧ func = 0x0E then some (.clz x y)
            else if op = 0x00 ∧ func = 0x13 then some (.mulsh x y z (w.extractLsb' 6 5))
            else if op = 0x07 then some (.lui x imm)
            else if op = 0x28 then some (.jmp (w.extractLsb' 0 26))
            else if op = 0x29 then some (.call (w.extractLsb' 0 26))
            else if op = 0x2A then some (.jr y)
            else if op = 0x2B then some (.callr y)
            else if op = 0x3F ∧ func = 0x00 then some (.mfs x aux)
            else if op = 0x3F ∧ func = 0x01 then some (.mts aux y)
            else if op = 0x3F ∧ func = 0x03 then some (.gate (w.extractLsb' 6 6))
            else if op = 0x3F ∧ func = 0x05 then some (.trap aux)
            else none

/-- Decode a word: a reserved OP or FUNC, or an unused field that is not 0, is no instruction (R386). -/
def decodeCore (w : Word) : Option CoreIns := (guessCore w).filter fun i => i.encode == w

/-- A word whose execution raises the illegal-instruction exception: it is no instruction, or MFS or MTS names what R342 does not let it name. -/
def illegalWord (w : Word) : Bool :=
  match decodeCore w with
  | none => true
  | some (.mfs _ aux) => decide (12 ≤ aux.toNat)
  | some (.mts aux _) => decide (11 ≤ aux.toNat)
  | some _ => false

end Sys2Proof.Machine
end

