-- ==== Sys2Proof/Machine/Types.lean ====
section
/-! DEFINITION. The types State is made of: the names of modes and states the spec gives, and one structure of plain data for each block. -/

namespace Sys2Proof.Machine

/-! ## Access, time and power -/

/-- The access paths of the register pages (R126, R142): the core path carries its privilege level. -/
inductive Path where
  | network | spi | coreSup | coreUser | monitor
  deriving DecidableEq, Repr

/-- Clock states (Table 1-3). -/
inductive ClkState where
  | osc | search | pull | locked | hold | ref
  deriving DecidableEq, Repr

/-- Tick states (Table 1-5). -/
inductive TckState where
  | idle | armed | run | holdover | safe
  deriving DecidableEq, Repr

/-- Power modes (R102) and the hold in power-on reset (R89, R91). -/
inductive PowerMode where
  | por | run | doze | sleep
  deriving DecidableEq, Repr

/-- What a memory read meets: sound data, a corrected error or an uncorrectable one (R346, R706). -/
inductive Ecc where
  | ok | corrected | uncorrectable
  deriving DecidableEq, Repr

/-- What a read meets where two things bear on it. -/
def Ecc.or : Ecc → Ecc → Ecc
  | .ok, y => y
  | .uncorrectable, _ => .uncorrectable
  | .corrected, .uncorrectable => .uncorrectable
  | .corrected, _ => .corrected

/-- A pending authorisation: tick number and scheduled edge (R41). -/
structure Auth where
  num : Word
  edge : LineTime
  deriving DecidableEq, Repr

/-- The clock block: what the CLK registers do not hold as plain words (R25 to R38, R812 to R817). `stepLoad` is what the step of R28 adds to the counter,
`afterLoss` tells that CLK is in OSC since a REFIN loss (R37),
`benchZero` that the counter has counted from zero since TCK entered ARMED with CLK in OSC (R778), `holdAt` is the line-time of entry to HOLD. -/
structure ClkSt where
  state : ClkState
  refok : Bool
  pllok : Bool
  good : Nat
  bad : Nat
  corr : List Int
  stepDue : Bool
  stepLoad : Option LineTime
  refLoaded : Bool
  afterLoss : Bool
  benchZero : Bool
  holdAt : LineTime
  ltHi : Option (BitVec 16)
  deriving DecidableEq, Repr

/-- The tick block (R41 to R68). `phase` is in core cycles since the edge; `inTick` is 1 from the edge to the end of the tick. `step` counts the parts of
Table 1-2 after the commit phases that have begun: 1 the core budget, 2 the landing of monitor writes, 3 the close of the digest, 4 the self-test steps, 5 the trace marker,
6 the response assembly; `evals` counts the evaluations of the slots of this tick. -/
structure TckSt where
  state : TckState
  synth : Bool
  pend : Option Auth
  pnum : Word
  pedge : LineTime
  lat : Bool
  cause : Nat
  now : Word
  edge : LineTime
  inTick : Bool
  phase : Nat
  stopReq : Bool
  safeReq : List Nat
  e1 : LineTime
  ran : Bool
  budget : Nat
  step : Nat
  evals : Nat
  deriving DecidableEq, Repr

/-- Levels the environment holds on pins and supplies, and what the part has sampled of them (R83 to R101, R822). `told` tells that the command under way has said how
WAKE, HSP_CS and MON_RX stand; `nresOut` that the part drives NRES low (Table 2-6, R96). -/
structure PinSt where
  vbatOk : Bool
  vioOk : Bool
  vioLvl5 : Bool
  nresLow : Bool
  faultExt : Bool
  twsel : Bool
  boot : Bool
  twselS : Bool
  bootS : Bool
  gpioIn : List (Option Bool)
  gpioS : Nat
  fext : Bool
  wake : Bool
  hspLow : Bool
  monLow : Bool
  told : Bool
  nresOut : Bool
  deriving DecidableEq, Repr

/-- What the environment holds at the release of reset: VIO at 5 V, VBAT above its warning threshold, the straps, the GPIO levels, and how many AON cycles have
passed since a command last said; `soft` are the bytes of the images where boot meets a single-bit error, which is corrected. -/
structure Levels where
  vio5 : Bool
  vbat : Bool
  twsel : Bool
  boot : Bool
  gpio : List (Option Bool)
  aon : Nat
  soft : List Nat := []
  deriving DecidableEq, Repr

/-- The levels of the wake pin, HSP_CSN and MON_RX at a mode request (R821). -/
structure WakePins where
  wake : Bool
  hspLow : Bool
  monLow : Bool
  deriving DecidableEq, Repr

/-- The power block (R102 to R114). `start` is the step of Table 2-4 the last system reset ran from (R823), 5 also once a loss of the CORE PLL is noted in it (R817), `entry` the AON count at the last entry to DOZE or
SLEEP (Table 2-8). -/
structure PwrSt where
  mode : PowerMode
  inReset : Bool
  modeLast : Nat
  sretd : Bool
  tretd : Bool
  rejWhy : Nat
  start : Nat
  entry : Word
  deriving DecidableEq, Repr

/-! ## Self-test, life cycle, log -/

/-- A targeted test: its report (Table 15-1), code (Table 15-2) and the tick of the report. -/
structure Job where
  src : Nat
  test : Nat
  unit : Word
  page : Nat
  tick : Word
  deriving DecidableEq, Repr

/-- One lane of self-test (R714): the running test, how many of its steps are done, the pending test, and what step 1 found. -/
structure Lane where
  run : Option Job
  step : Nat
  pend : Option Job
  spare : Nat
  copyBad : Bool
  failed : Bool
  deriving DecidableEq, Repr

/-- A spare row that is mapped (R711, R712). -/
structure Spare where
  row : Nat
  fused : Bool
  deriving DecidableEq, Repr

/-- Self-test (R706 to R726). `spares` is keyed by bank + 16 × spare, as SLF.RIDX numbers them. -/
structure SlfSt where
  mem : Lane
  ana : Lane
  sys : Lane
  busy : Bool
  refWhy : Nat
  decayCt : Nat
  spares : List (Nat × Spare)
  sRow : Nat
  fBlk : Nat
  lPos : Nat
  lastLasting : Option Nat
  regf : Option Job
  deriving DecidableEq, Repr

/-- Fused values (R89, R727). `lc` is the eight-bit life-cycle field; `repairs` are the records of repaired rows, bank + 16 × spare to row. -/
structure Fuses where
  uid : BitVec 64
  rctrim : Word
  lc : BitVec 8
  repairs : List (Nat × Nat)
  deriving DecidableEq, Repr

/-- Life cycle (R727 to R735). `state` is 0 BLANK, 1 TEST, 2 FIELD, 3 RETURN, 4 END. -/
structure LcsSt where
  state : Nat
  pend : Bool
  chalV : Bool
  lockout : Bool
  completed : Bool
  cmdWhy : Nat
  deriving DecidableEq, Repr

/-- An entry waiting in the log queue (R738): kind, page and data; tick, state and number are taken when it is written. -/
structure LogReq where
  kind : Nat
  page : Nat
  data0 : Word
  data1 : Word
  deriving DecidableEq, Repr

/-- A log entry (Table 15-7). -/
structure LogEntry where
  w0 : Word
  w1 : Word
  w2 : Word
  w3 : Word
  deriving DecidableEq, Repr

/-- The event log (R736 to R743). `ring` is keyed by index; `held` is the count of entries held. -/
structure LogSt where
  queue : List LogReq
  ring : List (Nat × LogEntry)
  wptr : Nat
  wrapped : Bool
  held : Nat
  pbuf : List LogEntry
  pbusy : Bool
  ringS : List (Nat × LogEntry)
  deriving DecidableEq, Repr

/-! ## Cycle frames and queues -/

/-- A register command in the command queue (Table 6-2), with the path it came by. -/
structure Cmd where
  path : Path
  op : Nat
  tag : Nat
  addr : Nat
  data : Word
  mask : Word
  deriving DecidableEq, Repr

/-- A response entry (Table 6-4). -/
structure Resp where
  tag : Nat
  status : Nat
  addr : Nat
  data : Word
  etick : Word
  deriving DecidableEq, Repr

/-- An event entry (Table 6-4). `phase` is the phase ÷ 8, or 0xFFFF outside a tick. -/
structure EvEntry where
  page : Nat
  num : Nat
  level : Nat
  phase : Nat
  etick : Word
  deriving DecidableEq, Repr

/-- A frame handed over by the line transceiver: its octets, the line-times of its stamp point and of its completion, the rate error in 1/16 ppm, and CYC.MAC, CYC.NODE and
CYC.ETYPE as they stood at its completion (R165, R333). -/
structure Handed where
  oct : List Byte
  stamp : LineTime
  done : LineTime
  rate : Int
  mac : Nat
  node : Nat
  etype : Nat
  deriving DecidableEq, Repr

/-- Receive FIFO, command, response and event queues, transmit buffer and staging of the cycle engine (R302, R310). -/
structure CycSt where
  seqv : Bool
  hmacv : Bool
  staged : Option (Word × List Word)
  fifo : List (List Cmd)
  waited : Bool
  cmdq : List Cmd
  rspq : List Resp
  evq : List EvEntry
  txbuf : Option (List Byte)
  txNow : Option (List Byte)
  cdrop : Bool
  evlost : Bool
  rejWhy : Nat
  handover : List Handed
  deriving DecidableEq, Repr

/-! ## Power stage -/

/-- Output states (Table 9-3). -/
inductive OutState where
  | off | safe | drive
  deriving DecidableEq, Repr

/-- How a leg stood at the end of the slot before: the FET commanded on, if any (true: the high side), from which cycle on, and the cycle in which a FET of the leg last turned on; both
count from the start of the slot that followed (R453, R454, R458). -/
structure LegPast where
  lvl : Option Bool
  since : Int
  turn : Int
  deriving DecidableEq, Repr

/-- The power stage beside its registers (R445 to R474). `cond` holds, in the FLT layout, the monitor conditions that hold now, `condL` those the last strobe
latched (R54). `point` counts the half-slots of this tick that have begun, `past` tells how each leg stood at the end of the slot before (none: no FET on), `cmpF` are the compares of
this slot's first half (R451), `tripKA` and `tripKB` the cycles of the slot at which a cycle-by-cycle trip came (R462); `drove` and `braked` tell how the stage stood when it last
settled, `brakeIn` the line-time at which BRAKE began and the low sides that were on (R466). -/
structure PstSt where
  rel : Bool
  out : OutState
  brake : Bool
  subst : Bool
  cprdy : Bool
  relWhy : Nat
  relReq : Bool
  cbcA : Nat
  cbcB : Nat
  tripA : Bool
  tripB : Bool
  cond : Nat
  otw : Bool
  condL : Nat
  point : Nat
  past : List LegPast
  cmpF : List Nat
  tripKA : Nat
  tripKB : Nat
  drove : Bool
  braked : Bool
  brakeIn : Option (LineTime × List Bool)
  deriving DecidableEq, Repr

/-! ## Trace -/

/-- Trace states (Table 13-4). -/
inductive TrcState where
  | idle | run | armed | post | done
  deriving DecidableEq, Repr

/-- Trace capture (R638 to R648). `ram` is keyed by record index; records are 64 bits with the type in the top four. `mark` is the tick and phase at which a record was last produced,
`same` the number of records at the end of the queue that this cycle produced (R641). -/
structure TrcSt where
  state : TrcState
  wrapped : Bool
  trigv : Bool
  retd : Bool
  disarmed : Bool
  queue : List (BitVec 64)
  ram : List (Nat × BitVec 64)
  wptr : Nat
  start : Nat
  trigidx : Nat
  armCount : Nat
  postCount : Nat
  lossTick : Nat
  lostRaised : Bool
  prev : List (Nat × Int)
  ramS : List (Nat × BitVec 64)
  mark : Option (Word × Nat)
  same : Nat
  deriving DecidableEq, Repr

/-! ## Line transceiver -/

/-- Link states (Table 4-4). -/
inductive LinkState where
  | down | energy | up | fault
  deriving DecidableEq, Repr

/-- PLCA states (Table 4-8). -/
inductive PlcaState where
  | off | searching | follower | coordinator
  deriving DecidableEq, Repr

/-- Steps of a reflectometry measurement (R202). -/
inductive CdgStep where
  | none | quiet | pulses
  deriving DecidableEq, Repr

/-- The line transceiver (R153 to R214). `link` is the state of Table 4-4 without FAULT, which FLT gives; `energy` is the detector without the
forced 1 of R160; `profact` is as LNK.STAT.PROFACT; `silent` is the latched silence of R171 since the last restart, `hush` that of R722; `opp` counts the further frames of a burst;
`plca`, `burst`, `txcfg`, `rxcfg` are the settings in force (R195); `held` the LNS counts kept back under FREEZE. -/
structure LnkSt where
  link : LinkState
  profact : Nat
  plcaStat : PlcaState
  energy : Bool
  settling : Bool
  agc : Nat
  silent : Bool
  coordHalt : Bool
  clash : Nat
  attempts : Nat
  backoff : Bool
  jabRx : Bool
  jit : List Nat
  plca : Word
  burst : Word
  txcfg : Word
  rxcfg : Word
  held : List (Nat × Nat)
  lastTx : List Byte
  nego : Bool
  opp : Nat
  cdg : CdgStep
  cdgDone : Bool
  cdgRes : Nat
  cdgRefuse : Nat
  gain : Nat
  amp : Nat
  outS : Bool
  clashed : Bool
  oppNo : Nat
  bcnAt : LineTime
  txEnd : LineTime
  pulses : Nat
  hush : Bool
  deriving DecidableEq, Repr

/-! ## The Badger core -/

/-- A store in the write buffer (R366): address, width in bytes, data, the level it was issued at, the drain cycles it still takes, and what the read of the word it merges
into meets. -/
structure BufStore where
  addr : Nat
  width : Nat
  data : Word
  sup : Bool
  left : Nat
  ecc : Ecc
  deriving DecidableEq, Repr

/-- A pending LATE_STORE (R412, R413). -/
structure LateErr where
  addr : Word
  sub : Nat
  multi : Bool
  deriving DecidableEq, Repr

/-- Processor status (Table 7-2). -/
structure Psr where
  sup : Bool
  ie : Bool
  tb : Bool
  eb : Bool
  crit : Bool
  lp : Bool
  sat : Bool
  deriving DecidableEq, Repr

/-- The core (R336 to R423). `gpr` is keyed by bank × 8 + register for the 18 banks (16 the trap bank, 17 the emergency bank)
and by 144 + n for the common register cn; unlisted registers read zero. `lines` holds the flash lines in the two fetch buffers, the latest first, `pref` a
line whose prefetch runs and the cycles it still takes, `fetched` the address of the last fetch (R362); `longPc` is the address of the long instruction that STAT.LONG
tells of (R381). -/
structure CpuSt where
  gpr : List (Nat × Word)
  psr : Psr
  epc : Word
  estat : Word
  cause : Word
  eaddr : Word
  vbase : Word
  sett : Word
  ssp : Word
  screeBase : Word
  screeLimit : Word
  pc : Word
  ftop : Nat
  res : Nat
  long : Bool
  ovrct : Nat
  ovrThis : Bool
  parked : Bool
  held : Bool
  wb : List BufStore
  late : Option LateErr
  expire : Bool
  critLeft : Nat
  lines : List Nat
  pref : Option (Nat × Nat)
  fetched : Word
  longPc : Word
  deriving DecidableEq, Repr

/-! ## Isinasia -/

/-- What a carrier of a symbol of known content shows (R256, R264): the known power and the error power after equalisation, in one unit, and the channel estimate H laid
out as an equaliser word. -/
structure Meas where
  known : Nat
  err : Nat
  h : Word
  deriving DecidableEq, Repr

/-- A position the aligner tests (R257): the index of its first prefix sample, the sign decisions on the sync carriers, and the 52 bits of the header in the symbol that
follows, once that symbol has been received. -/
structure Win where
  pos : Nat
  sync : Word
  hdr : Option Nat
  deriving DecidableEq, Repr

/-- What the receiver's analog side finds in a superframe's time: the positions tested, ascending; the payload octets as received (scrambled); carriers 3 to 60 of S; the
carriers of REVERB symbols, by number; the residuals of the echo and tap cancellers in 0.25 dB below the launch level; the line-time of the superframe's start; the
samples by which the timing loop moves the expected position; the steps the sample peak asks of the coarse gain at the symbol boundaries, the step the power of S
asks of the fine gain, and the index of the first sample of that time, its first symbol boundary. -/
structure SfRx where
  wins : List Win
  oct : List Byte
  meas : List Meas
  revs : List (Nat × Meas)
  echo : Nat
  tap : Nat
  stamp : LineTime
  slip : Int
  peak : List Int
  spow : Int
  start : Nat
  deriving DecidableEq, Repr

/-- A carrier's value as levels and power: X = (i + jq) ÷ sqrt(n ÷ 3), 0 where `n` is 0 (R218). -/
structure Carr where
  i : Int
  q : Int
  n : Nat
  deriving DecidableEq, Repr

/-- A candidate of the aligner: the position of its latest detection, and whether it is in CHECK (Table 5-7). -/
structure Cand where
  pos : Nat
  check : Bool
  deriving DecidableEq, Repr

/-- A tap record (R280): SFN, the header bits, LT and the scrambled payload bits in octets. -/
structure TapRec where
  sfn : Nat
  hdr : Nat
  lt : Bool
  pay : List Byte
  deriving DecidableEq, Repr

/-- A page of the negotiation (R238, Table 5-5): the base page with 10BASE-T1S and the next-page bit, the message page with an identifier, the unformatted page. -/
inductive NegPage where
  | base (t1s next : Bool)
  | message (id : BitVec 24)
  | unformatted (w : Word)
  deriving DecidableEq, Repr

/-- What a negotiation has chosen (R239, R240): whether this end may be master, the largest loading and whether low-power idle is used. -/
structure NegLink where
  master : Bool
  bmax : Nat
  lpi : Bool
  deriving DecidableEq, Repr

/-- An outstanding proposal of the receiver (R267, R268): `ack` is 0 unanswered, 1 accepted, 2 busy. -/
structure Prop5 where
  seq : Nat
  slot : Bool
  tries : Nat
  ack : Nat
  deriving DecidableEq, Repr

/-- The Isinasia profile (R215 to R287). `negd` is what a negotiation chose, none where the registers rule (R241). `stage` is as ISN.STAT.TSTAGE and `left` the
superframes of it, or of the silence after a failure, that remain; `done` tells that training has ended. `expect` is the sample position of the next S in LOCKED and
`rxStart` the line-time at which a received superframe began. `cd` is the swap countdown: 0 none, 5 an ACK 0x00 to be sent, 4 accepted and waiting to start, 3 to 1 the
SWP value of the next header, 6 the flip is due. `units` are units not begun, messages marked true; `cut` is the rest of one begun, 0 a frame, 1 a message, 2 the ACK 0x00 that the
countdown `cd` waits for, whose proposal had SEQ `cdSeq`. `xSent` counts the superframes sent in stage X, and `freeze` is the sample position to which a sync detection has frozen the gain.
`coarse` and `fine` are the gain in 6 dB and 0.25 dB steps, `snrAcc` the averaged SNR of carriers 3 to 60 in 1/65,536 of 0.25 dB, `eqSet` that an equaliser estimate has
been taken in this training, `ecGen` and `tcGen` how often the echo and tap cancellers have adapted, `ecTaps` and `tcTaps` their coefficients once they have. `taps` are tap records received, `tapFrag` the fragments of one with
its SFN and the next index, `tapOn` that the lead's SFN is known, `tapBuf` the rest of the lead's unit stream, `tapTx` the fragments of the record last sent. `txLevels`
holds carriers 3 to 60 in the symbols of the last superframe sent, `txWas` those of the one before, `txPay` its scrambled payload. -/
structure IsnSt where
  negd : Option NegLink
  stage : Nat
  left : Nat
  done : Bool
  locked : Bool
  cands : List Cand
  expect : Nat
  miss : Nat
  txSfn : Nat
  rxSfn : Nat
  seed : Nat
  seedSeq : Option Nat
  seedAck : Bool
  rxSeedNext : Option Nat
  seedDone : Option (Nat × Nat)
  ltTx : Bool
  ltRx : Bool
  cd : Nat
  cdSlot : Bool
  cdSeq : Option Nat
  xSent : Nat
  prop : Option Prop5
  msgSeq : Nat
  msgq : List (List Byte)
  lpiTx : Bool
  lpiRx : Bool
  lpiFirst : Bool
  rcvTx : Bool
  rcvRx : Bool
  rcvPend : Bool
  rcvAge : Nat
  echoHigh : Nat
  echoBase : Nat
  units : List (Bool × List Byte)
  cut : Option (Nat × List Byte)
  rxBuf : List Byte
  rxStamp : LineTime
  rxStart : LineTime
  skip : Bool
  rxHdr : Nat
  lqiLow : Bool
  coarse : Nat
  fine : Int
  freeze : Nat
  snrAcc : List Int
  eqSet : Bool
  ecGen : Nat
  tcGen : Nat
  ecTaps : List (BitVec 32)
  tcTaps : List (BitVec 32)
  taps : List TapRec
  tapFrag : Nat × Nat × List Byte
  tapOn : Bool
  tapBuf : List Byte
  tapTx : List (List Byte)
  negPage : Word
  negOut : List NegPage
  negAcks : Nat
  txHdr : Nat
  txPay : List Byte
  txLevels : List (List Carr)
  txWas : List (List Carr)
  deriving DecidableEq, Repr

/-! ## Force and measure, converters -/

/-- One force channel (R482 to R521). `blank` counts strobes still flagged RANGING. -/
structure FmSt where
  owner : Nat
  incomp : Bool
  neg : Bool
  irng : Nat
  vrng : Nat
  comprun : Nat
  revrun : Nat
  dwI : Nat
  dwV : Nat
  goodI : Int
  goodV : Int
  blank : Nat
  reqs : List Nat
  losing : List Nat
  safety : Bool
  deriving DecidableEq, Repr

/-- The converters and calibration (R486 to R516). `vals` holds the value and flags of the six SAR positions in the latest slot; `sums` the sum and
count of I and V of each channel over the window's strobes, `nexts` those of the strobe at which the window ends, the first of a window that follows on (R508);
`pstart` tells that a window waits for its tick, `pready` that this tick is it. -/
structure AdcSt where
  vals : List (Int × Nat)
  slot : Nat
  pbusy : Bool
  pdone : Bool
  pstart : Bool
  pready : Bool
  left : Nat
  strobes : Nat
  ranging : Bool
  sums : List (Int × Nat)
  nexts : List (Int × Nat)
  fact : Bool
  loadErr : Bool
  deriving DecidableEq, Repr

/-! ## The sequencer -/

/-- A requested jump or withdrawal that has landed (R542). -/
inductive JReq where
  | jump (tgt : Nat)
  | clear
  deriving DecidableEq, Repr

/-- The sequencer (R527 to R560). `state` is as SEQ.STAT.STATE. `pwin`, `pnext`
and `pres` are a PREC point's window, the next one's length and a completed one's result; `prec` is a PREC record that waits for its window. -/
structure SeqSt where
  state : Nat
  seg : Nat
  point : Nat
  n : Nat
  lo : Word
  hi : Word
  bound : Option Nat
  jreq : Option JReq
  arm : Bool
  go : Bool
  pause : Bool
  resume : Bool
  abort : Bool
  armwhy : Nat
  abwhy : Nat
  chused : Nat
  segs : List (Nat × (Word × Word))
  plo : Word
  sd0 : Word
  capptr : Nat
  dropped : Bool
  sumI : Int
  cntI : Nat
  sumV : Int
  cntV : Nat
  ovr : Bool
  incomp : Bool
  ranging : Bool
  syn : Bool
  pwin : Bool
  pnext : Option Nat
  pres : Option (Bool × Word)
  prec : Option (Word × Word × Nat)
  deriving DecidableEq, Repr

/-! ## The control engine -/

/-- One loop (R567 to R583). `pT` and `fT` are the proportional and feed-forward terms of its run; `sat` is P, I, OUT, ACC of the last run. -/
structure LoopSt where
  acc : Int
  dst : Int
  ep : Int
  yp : Int
  out : Int
  err : Int
  pT : Int
  fT : Int
  first : Bool
  region : Nat
  ran : Bool
  inhib : Bool
  win : Bool
  sat : Nat
  deriving DecidableEq, Repr

/-- The engine (R561 to R588). `nodes` holds every computed node; `gv`, `win` and `winL`, the loop that won last, belong to the groups; `binW` holds the bins the core has written since the
last evaluation, with the phase (R629). -/
structure CtlSt where
  nodes : List (Nat × Int)
  loops : List LoopSt
  win : List Nat
  gv : List Bool
  sinkovr : Nat
  wasDrive : Bool
  lastAuth : Bool
  winL : List (Option Nat)
  binW : List (Nat × Nat)
  deriving DecidableEq, Repr

/-- The vector unit (R589 to R597). `hall` holds the levels of HALL3 to HALL1 and `hallL`, `encL` what the strobe latched. -/
structure VecSt where
  hall : Nat
  hallL : Nat
  enc : Int
  encL : Int
  sector : Option Nat
  slots : Nat
  omega : Int
  theta : Int
  iaP : Int
  ibP : Int
  lock : Bool
  okRun : Nat
  badRun : Nat
  deriving DecidableEq, Repr

/-! ## Generators, repetitive controllers, injectors -/

/-- One profile generator (R604 to R625). `pass` tells that its last evaluation found it passing its target; `pos` and `vel` are its nodes before injection. -/
structure GenSt where
  p : Int
  v : Int
  a : Int
  jc : Int
  t : Int
  arrived : Bool
  ovr : Bool
  pass : Bool
  pos : Int
  vel : Int
  deriving DecidableEq, Repr

/-- One repetitive controller (R607 to R629). `prev` is the bin of the previous evaluation since it was enabled. -/
structure RptSt where
  b : Nat
  prev : Option Nat
  learned : Bool
  deriving DecidableEq, Repr

/-- One injector (R609, R610, R632 to R637). `fresh` tells that the run's first evaluation is still to come. -/
structure InjSt where
  run : Bool
  phi : Nat
  f : Int
  s : Nat
  k : Nat
  out : Int
  fresh : Bool
  deriving DecidableEq, Repr

/-! ## The twin -/

/-- A SAMPLE packet (Table 14-7). -/
structure Sample where
  slot : Word
  hall : Nat
  cmp : Nat
  enc : Word
  vals : List (Int × Nat)
  prec : Word
  pflg : Nat
  deriving DecidableEq, Repr

/-- A DECISION packet (R672). -/
structure Decision where
  fseq : Nat
  fcs : Word
  outcome : Nat
  tick : Word
  edge : LineTime
  margin : Nat
  deriving DecidableEq, Repr

/-- The messages of the CTRL packet (Table 14-5). -/
inductive CtrlMsg where
  | hello | resync | verdict (lasting : Bool) | verdictRequest | resign | join (tick : Word)
  deriving DecidableEq, Repr

/-- A received HELLO (R669). -/
structure Hello where
  uid : BitVec 64
  twsel : Bool
  version : Nat
  fwid : Word
  cfgsum : Word
  cfg : Nat
  pstate : Nat
  role : Bool
  netSrc : Bool
  deriving DecidableEq, Repr

/-- A part of the join image (R701, R702): the core and engine state of Table 14-4. Its layout is private to the device (R667), so what each of the five
packets carries is the model's choice. -/
inductive ImagePart where
  | core (c : CpuSt) (regs : List (Nat × Word))
  | engine (c : CtlSt) (v : VecSt)
  | learning (g : List GenSt) (r : List RptSt) (i : List InjSt)
  | owl (a b : FmSt) (d : AdcSt)
  | schedule (t : TckSt) (q : SeqSt) (p : PstSt)
  deriving DecidableEq, Repr

/-- The twin block (R653 to R705). `pstate` is as TWN.STAT.PSTATE, `role` true for LEAD. `digq` holds the entries of the digest that is open: width, address and data; `digKeys` orders those at its end that landed in
the core cycle `digMark` (R685). `due` tells that the
agreement deadline of the slot is still to come, `got` counts the slots of this tick whose SAMPLE came by it, `heard` tells that a HELLO has come since entry to HELLO. `sent` is the packets
the last sending command sent, `image` the parts of the join image among them. `cursor` is where the pass over the dirty pages stands. `told` tells that a report of the twin has joined an AREF job of another source, whose verdict the partner waits for (R696, R720). `copies` are CYCLE payloads held for a decision: FSEQ, FCS, octets, stamp and completion time. `promote` is 1 once the lead has resigned,
2 in the tick after, 3 from the promotion to the next edge and 4 through that tick; `resign` is 1 when asked for and 2 once done, until the next edge. `listed` holds the
events whose cause routes are presented, `toList` those of the tick's TICKREC (R676, R677). -/
structure TwnSt where
  pstate : Nat
  role : Bool
  hold : Bool
  linkup : Bool
  unag : Bool
  joinwhy : Nat
  verdL : Nat
  verdS : Nat
  skew : Int
  skewRun : Nat
  disRun : Nat
  digq : List (Nat × Nat × Word)
  digKeys : List Nat
  digMark : Option (Word × Nat)
  sample : Option Sample
  due : Bool
  got : Nat
  heard : Bool
  lineAct : Bool
  pdig : Option (Word × Nat × Nat)
  noDig : Nat
  unagRun : Nat
  dirty : List Nat
  round : Nat
  cursor : Nat
  join : Option Word
  verdict : Bool
  verdTicks : Nat
  promote : Nat
  resign : Nat
  twinOwn : Bool
  gpio : Option Nat
  listed : List (Nat × Nat)
  toList : List (Nat × Nat)
  copies : List (Nat × Word × List Byte × LineTime × LineTime)
  decisions : List Decision
  upTicks : Nat
  sent : List (List Byte)
  image : List ImagePart
  told : Bool
  deriving DecidableEq, Repr

/-! ## Monitor, host SPI, flash -/

/-- The requests of the monitor link (Table 16-7). `eccs` is what the reads of a READ meet, word by word; a WRITE carries its COUNT beside its words. -/
inductive MonReq where
  | ping
  | read (addr count : Nat) (eccs : List Ecc)
  | write (addr count : Nat) (words : List Word)
  | modify (addr : Nat) (data mask : Word) (ecc : Ecc)
  | step (count : Nat)
  | halt
  | go (addr : Nat)
  | reset (kind : Nat)
  | ret (resp : List Byte)
  | other (cmd : Nat)
  deriving DecidableEq, Repr

/-- A request with its SEQ, and whether its LEN fits the command. -/
structure MonCall where
  req : MonReq
  seq : Nat
  fits : Bool
  deriving DecidableEq, Repr

/-- The monitor engine (R764 to R783). `prev` is CMD, SEQ and the answer of the previous valid request; `wait` a WRITE or MODIFY that has not landed or a
READ that waits for the flash, `buf` the one-frame buffer; `stepping` that a stepped authorisation drives the ticks; `answer` the octets last sent. -/
structure MonSt where
  synced : Bool
  prev : Option (Nat × Nat × List Byte)
  wait : Option MonCall
  buf : Option MonCall
  stepping : Bool
  answer : List Byte
  deriving DecidableEq, Repr

/-- The host SPI port (R762 to R772). `removed` is the entry the previous transaction removed; `sdo` the octets of the last transaction. -/
structure HspSt where
  fifo : List Resp
  last : Nat
  removed : Option Resp
  mode3 : Bool
  sdo : List Byte
  deriving DecidableEq, Repr

/-- A flash operation in progress (R758). -/
inductive FlsOp where
  | program (line : Nat) (d0 d1 d2 d3 : Word)
  | erase (sector : Nat)
  deriving DecidableEq, Repr

/-- The flash controller (R757 to R761). -/
structure FlsSt where
  op : Option FlsOp
  done : Bool
  refwhy : Nat
  deriving DecidableEq, Repr

end Sys2Proof.Machine
end

