-- ==== Sys2Proof/Syntax.lean ====
section
/-! DEFINITION. The commands of the block, one constructor for each row of the table of operations and events, with what each carries.

What the sender knows and the block does not comes as an operand: `path` is the access path of a write; `dt` the time since a command last said the time, in
line-time units or AON cycles; `ecc`, `eccY`, `fill` and `eccs` what a read of memory meets (`fill` the read of word `fillAt` of a frame that is filled, the `ecc` of SB and SH the read their merge makes as they drain); `good`, `fits`, `pass`, `verify` and `ok` the outcome of a check the block
makes on something it does not hold; `gates` and `gpio` the gate readback and the GPIO levels at an edge; `n` of a long instruction how many elements the command
carries out at most. -/

namespace Sys2Proof

open Sys2Proof.Machine

/-- The commands of the block: one constructor for each row of the table of operations and events; those that carry something come first,
because the number of such a constructor is bounded. -/
inductive Instr where
  /-- RESET_RELEASE (R96): After the internal reset and the 64 AON-cycle hold, NRES reads high, TWSEL and BOOT are sampled and the boot ROM starts. -/
  | resetRelease (levels : Levels)
  /-- SOFTWARE_RESET (R93): A write of KIND 0b01 to SYS.RSTREQ performs a system reset with cause SW. -/
  | softwareReset (path : Path)
  /-- CORE_RESET_REQUEST (R750): A write of KIND 0b10 to SYS.RSTREQ resets the core alone, held to the end of the tick in RUN or HOLDOVER. -/
  | coreResetRequest (path : Path)
  /-- CORE_RESET_RELEASE (R749): The core leaves core reset with reset values and restarts at 0x0000_0000 in boot ROM. -/
  | coreResetRelease (regfPass : Bool) (soft : List Nat := [])
  /-- DOZE_REQUEST (R105): A write of DOZE to PWR.CTRL.MODE is checked under R103 and, if accepted, stops the core and CORE. -/
  | dozeRequest (path : Path) (pins : WakePins) (dt : Nat)
  /-- SLEEP_REQUEST (R108): A write of SLEEP to PWR.CTRL.MODE is checked under R103 and, if accepted, latches retention and removes VDD5 and VDD1. -/
  | sleepRequest (path : Path) (pins : WakePins) (dt : Nat) (sret : Bool) (tret : Bool)
  /-- WAKE_PIN (R111): An edge on WAKE of the configured polarity, stable for FILT AON cycles, wakes the device. -/
  | wakePin (also : Nat) (dt : Nat)
  /-- WAKE_LINE (R111): Line energy present for LDUR × 8 AON cycles wakes the device. -/
  | wakeLine (also : Nat) (dt : Nat) (outS : Bool := false)
  /-- WAKE_TIMER (R111): WTIMER AON cycles after entry to DOZE or SLEEP elapse and wake the device. -/
  | wakeTimer (also : Nat) (dt : Nat)
  /-- WAKE_HSP (R113): A fall of HSP_CS wakes the device from DOZE, and the waking transaction is discarded. -/
  | wakeHsp (also : Nat) (dt : Nat)
  /-- WAKE_MON (R113): A start bit on MON_RX wakes the device from DOZE, and the waking byte is discarded. -/
  | wakeMon (also : Nat) (dt : Nat)
  /-- WAKE_TWIN (R111): Activity on TWRX wakes the device from DOZE. -/
  | wakeTwin (also : Nat) (dt : Nat)
  /-- CLK_LOSS_GAP (R25): No valid host frame for CLK.LOSS.GAP µs moves CLK from PULL to SEARCH or from LOCKED to HOLD. -/
  | clkLossGap (dt : LineTime)
  /-- REFOK_SET (R812): REFIN edges present for a continuous 1 ms set REFOK and may move CLK to REF. -/
  | refokSet (dt : LineTime)
  /-- REF_LOSS (R36): No REFIN edge for 1 µs clears REFOK, switches LINE to the RC oscillator, enters OSC and raises REF_LOSS. -/
  | refLoss (dt : LineTime)
  /-- CLK_SRC_WRITE (R38): An accepted change of CLK.CTRL.SRC switches the clock state machine between REF and the DCO states. -/
  | clkSrcWrite (path : Path) (src : Bool) (dt : LineTime)
  /-- LT_LO_READ (R40): A core read of CLK.LT_LO latches the upper line-time bits into CLK.LT_HI. -/
  | ltLoRead (dt : LineTime)
  /-- TCK_ARM (R50): A write of 1 to TCK.CTRL.ARM is checked and, if accepted, enters ARMED, parks the core and restarts enabled loops. -/
  | tckArm (path : Path)
  /-- TCK_STOP (R49): A write of 1 to TCK.CTRL.STOP enters IDLE at once or at the end of the tick in progress. -/
  | tckStop (path : Path)
  /-- MCLR (R80): A write of 1 to TCK.CTRL.MCLR sets TCK.MINMARG.MIN to 0x000F_FFFF. -/
  | mclr (path : Path)
  /-- TICK_EDGE (R46): The edge of an accepted authorisation fires at its scheduled line-time and the tick's commit phases begin. -/
  | tickEdge (gates : Nat) (gpio : List (Option Bool))
  /-- SYNTHETIC_TICK (R62): A synthetic tick edge fires on the holdover schedule and runs without set-points or network commands. -/
  | syntheticTick (gates : Nat) (gpio : List (Option Bool))
  /-- SLOT_STROBE (R54): At the strobe phase of each slot the ADCs sample and Hall, encoder and comparator states latch. -/
  | slotStrobe (raws : List Int) (hall : Nat)
  /-- ENCODER_EDGE (R592): A quadrature edge on HALL1 or HALL2 moves the encoder count. -/
  | encoderEdge (chan : Nat)
  /-- PWM_UPDATE (R451): At each update point of a slot each leg's compare is recomputed from its duty source. -/
  | pwmUpdate (start : Bool)
  /-- PROTECTION_TRIP (R461): A protection monitor latches, placing the stage in SAFE, driving FAULT_N and raising TRIP. -/
  | protectionTrip (n : Fin 10) (mv : Nat := 0) (ns : Nat := 0) (dt : LineTime := 0)
  /-- CBC_TRIP (R462): A cycle-by-cycle overcurrent trip turns off the guarded high sides to the slot boundary and counts CBCRUN. -/
  | cbcTrip (b : Bool) (mv : Nat := 0) (ns : Nat := 0) (dt : LineTime := 0)
  /-- OT_WARNING (R480): The junction comes within 25 °C of the OT threshold or leaves it, raising OTW or OTW_END. -/
  | otWarning (on : Bool)
  /-- SAFENOW (R468): A write of 1 to PST.CTRL.SAFENOW places the stage in SAFE within 2 core cycles. -/
  | safenow (path : Path)
  /-- RELEASE (R472): A write of 1 to PST.CTRL.RELEASE requests DRIVE, refused at once in IDLE or SAFE. -/
  | release (path : Path)
  /-- RX_FRAME (R165): The receiver completes a frame, stamps it and passes it on or drops and counts it. -/
  | rxFrame (oct : List Byte) (dt : LineTime) (back : LineTime) (rate : Int) (jit : Nat) (sym : Nat)
  /-- TX_FRAME (R170): The transmitter sends a handed-over frame under the medium-access rules. -/
  | txFrame (dt : LineTime)
  /-- PLCA_TX_OPPORTUNITY (R176): The node's own transmit opportunity begins and it transmits a burst or yields after TOTMR. -/
  | plcaTxOpportunity (dt : LineTime)
  /-- COLLISION (R181): A CSMA/CD collision aborts the frame and starts backoff, dropping it after 16 attempts. -/
  | collision (bitTimes : Nat)
  /-- LINK_WINDOW_EXPIRY (R188): The LINKCFG.WIN window passes without energy or frames and LSTATE falls. -/
  | linkWindowExpiry (quiet : Bool)
  /-- RESTART (R196): A write of 1 to LNK.CTRL.RESTART, or a profile change, restarts the port. -/
  | restart (path : Path)
  /-- LNS_CLR (R199): A write of 1 to LNS.CTRL.CLR sets every LNS counter to zero. -/
  | lnsClr (path : Path)
  /-- LNS_FREEZE (R199): A write to LNS.CTRL.FREEZE holds counters or adds the held counts on release. -/
  | lnsFreeze (path : Path) (on : Bool)
  /-- CDG_START (R201): A write of 1 to CDG.CTRL.START starts a reflectometry measurement if the conditions hold. -/
  | cdgStart (path : Path)
  /-- CDG_DONE (R202): Processing ends, results and DONE are written and the port restarts. -/
  | cdgDone (peaks : List (Nat × Int))
  /-- CDG_ABORT (R204): A write of 1 to CDG.CTRL.ABORT ends a measurement as if disturbed, without the event. -/
  | cdgAbort (path : Path)
  /-- NEG_DONE (R240): Negotiation completes, choosing Isinasia or 10BASE-T1S and writing NEGRES. -/
  | negDone (page : Word) (id : Option (BitVec 24)) (base10 : Bool) (more : Nat := 0)
  /-- TRAINING_STAGE_END (R243): A training stage's superframe count ends and the next stage begins. -/
  | trainingStageEnd (echo : Nat)
  /-- SUPERFRAME_RX (R259): A received superframe is detected, decoded, checked and its payload delivered. -/
  | superframeRx (rx : SfRx)
  /-- LOADNOW (R265): A write of 1 to ISN.CTRL.LOADNOW computes and proposes a table. -/
  | loadnow (path : Path)
  /-- RCV (R252): A write of 1 to ISN.CTRL.RCV requests reconvergence. -/
  | rcv (path : Path)
  /-- RETRAIN (R196): A write of 1 to ISN.CTRL.RETRAIN restarts the port. -/
  | retrain (path : Path)
  /-- ISC_CLR (R286): A write of 1 to ISC.CTRL.CLR sets every ISC counter to zero. -/
  | iscClr (path : Path)
  /-- FLUSH (R322): A write of 1 to QUE.CTRL.FLUSH removes every queued command, answering FLUSHED or ABORTED. -/
  | flush (path : Path)
  /-- LOCK_WRITE (R127): A write to a page's LOCK opens it with its key or closes it, and may set fences. -/
  | lockWrite (path : Path) (page : Nat) (v : Word)
  /-- FLT_CLEAR (R130): A write of 1 to a FLT bit clears it only while the page is open to the writer. -/
  | fltClear (path : Path) (page : Nat) (v : Word)
  /-- EVT_CLEAR (R138): A write of 1 to an EVT bit clears it, and for WRITE_SHADOWED also zeroes SHADOW. -/
  | evtClear (path : Path) (page : Nat) (v : Word)
  /-- EVEN_WRITE (R137): A write to EVEN enables routing, refusing to clear SAFETY-level bits unless the page is open. -/
  | evenWrite (path : Path) (page : Nat) (v : Word)
  /-- REGISTER_WRITE (R144): A write to a register with no row of its own lands per Table 3-7 subject to reach, key and range checks. -/
  | registerWrite (path : Path) (addr : Nat) (v : Word)
  /-- ADD (R387): rd := ra + rb modulo 2^32. -/
  | add (rd : Fin 16) (ra : Fin 16) (rb : Fin 16)
  /-- SUB (R387): rd := ra − rb. -/
  | sub (rd : Fin 16) (ra : Fin 16) (rb : Fin 16)
  /-- AND (R387): Bitwise AND. -/
  | and (rd : Fin 16) (ra : Fin 16) (rb : Fin 16)
  /-- OR (R387): Bitwise OR. -/
  | or (rd : Fin 16) (ra : Fin 16) (rb : Fin 16)
  /-- XOR (R387): Bitwise XOR. -/
  | xor (rd : Fin 16) (ra : Fin 16) (rb : Fin 16)
  /-- SHL (R387): Shift left by register. -/
  | shl (rd : Fin 16) (ra : Fin 16) (rb : Fin 16)
  /-- SHR (R387): Logical shift right by register. -/
  | shr (rd : Fin 16) (ra : Fin 16) (rb : Fin 16)
  /-- SRA (R387): Arithmetic shift right by register. -/
  | sra (rd : Fin 16) (ra : Fin 16) (rb : Fin 16)
  /-- SLT (R387): Signed set-less-than. -/
  | slt (rd : Fin 16) (ra : Fin 16) (rb : Fin 16)
  /-- SLTU (R387): Unsigned set-less-than. -/
  | sltu (rd : Fin 16) (ra : Fin 16) (rb : Fin 16)
  /-- MIN (R387): Signed minimum. -/
  | min (rd : Fin 16) (ra : Fin 16) (rb : Fin 16)
  /-- MAX (R387): Signed maximum. -/
  | max (rd : Fin 16) (ra : Fin 16) (rb : Fin 16)
  /-- ADDS (R387): Signed saturating add, setting PSR.SAT on saturation. -/
  | adds (rd : Fin 16) (ra : Fin 16) (rb : Fin 16)
  /-- SUBS (R387): Signed saturating subtract, setting PSR.SAT on saturation. -/
  | subs (rd : Fin 16) (ra : Fin 16) (rb : Fin 16)
  /-- CLZ (R387): Count leading zeros of ra. -/
  | clz (rd : Fin 16) (ra : Fin 16)
  /-- MUL (R387): Low 32 bits of the product. -/
  | mul (rd : Fin 16) (ra : Fin 16) (rb : Fin 16)
  /-- MULH (R387): High 32 bits of the signed product. -/
  | mulh (rd : Fin 16) (ra : Fin 16) (rb : Fin 16)
  /-- MULHU (R387): High 32 bits of the unsigned product. -/
  | mulhu (rd : Fin 16) (ra : Fin 16) (rb : Fin 16)
  /-- MULSH (R387): Signed product shifted right with rounding and saturation. -/
  | mulsh (rd : Fin 16) (ra : Fin 16) (rb : Fin 16) (n : BitVec 5)
  /-- DIV (R388): Signed quotient with defined division-by-zero results. -/
  | div (rd : Fin 16) (ra : Fin 16) (rb : Fin 16)
  /-- DIVU (R388): Unsigned quotient. -/
  | divu (rd : Fin 16) (ra : Fin 16) (rb : Fin 16)
  /-- REM (R388): Signed remainder. -/
  | rem (rd : Fin 16) (ra : Fin 16) (rb : Fin 16)
  /-- REMU (R388): Unsigned remainder. -/
  | remu (rd : Fin 16) (ra : Fin 16) (rb : Fin 16)
  /-- ADDI (R387): rd := ra + sign-extended imm. -/
  | addi (rd : Fin 16) (ra : Fin 16) (imm : BitVec 18)
  /-- ANDI (R387): rd := ra AND zero-extended imm. -/
  | andi (rd : Fin 16) (ra : Fin 16) (imm : BitVec 18)
  /-- ORI (R387): rd := ra OR zero-extended imm. -/
  | ori (rd : Fin 16) (ra : Fin 16) (imm : BitVec 18)
  /-- XORI (R387): rd := ra XOR zero-extended imm. -/
  | xori (rd : Fin 16) (ra : Fin 16) (imm : BitVec 18)
  /-- SLTI (R387): Signed set-less-than immediate. -/
  | slti (rd : Fin 16) (ra : Fin 16) (imm : BitVec 18)
  /-- SLTIU (R387): Unsigned set-less-than immediate. -/
  | sltiu (rd : Fin 16) (ra : Fin 16) (imm : BitVec 18)
  /-- LUI (R385): rd := imm × 2^14. -/
  | lui (rd : Fin 16) (imm : BitVec 18)
  /-- SHLI (R387): Shift left by immediate. -/
  | shli (rd : Fin 16) (ra : Fin 16) (n : BitVec 5)
  /-- SHRI (R387): Logical shift right by immediate. -/
  | shri (rd : Fin 16) (ra : Fin 16) (n : BitVec 5)
  /-- SRAI (R387): Arithmetic shift right by immediate. -/
  | srai (rd : Fin 16) (ra : Fin 16) (n : BitVec 5)
  /-- LB (R344): Load a sign-extended byte. -/
  | lb (rd : Fin 16) (ra : Fin 16) (imm : BitVec 18) (ecc : Ecc)
  /-- LBU (R344): Load a zero-extended byte. -/
  | lbu (rd : Fin 16) (ra : Fin 16) (imm : BitVec 18) (ecc : Ecc)
  /-- LH (R344): Load a sign-extended halfword. -/
  | lh (rd : Fin 16) (ra : Fin 16) (imm : BitVec 18) (ecc : Ecc)
  /-- LHU (R344): Load a zero-extended halfword. -/
  | lhu (rd : Fin 16) (ra : Fin 16) (imm : BitVec 18) (ecc : Ecc)
  /-- LW (R367): Load a word, waiting for buffered stores to the same word. -/
  | lw (rd : Fin 16) (ra : Fin 16) (imm : BitVec 18) (ecc : Ecc)
  /-- SB (R366): Store a byte into the write buffer. -/
  | sb (rd : Fin 16) (ra : Fin 16) (imm : BitVec 18) (ecc : Ecc := .ok)
  /-- SH (R366): Store a halfword into the write buffer. -/
  | sh (rd : Fin 16) (ra : Fin 16) (imm : BitVec 18) (ecc : Ecc := .ok)
  /-- SW (R366): Store a word into the write buffer. -/
  | sw (rd : Fin 16) (ra : Fin 16) (imm : BitVec 18)
  /-- STORE_DRAIN (R366): A buffered store leaves the write buffer and lands on its target. -/
  | storeDrain (ecc : Ecc)
  /-- BEQ (R387): Branch if equal. -/
  | beq (ra : Fin 16) (rb : Fin 16) (off : BitVec 18)
  /-- BNE (R387): Branch if not equal. -/
  | bne (ra : Fin 16) (rb : Fin 16) (off : BitVec 18)
  /-- BLT (R387): Branch if less, signed. -/
  | blt (ra : Fin 16) (rb : Fin 16) (off : BitVec 18)
  /-- BGE (R387): Branch if greater or equal, signed. -/
  | bge (ra : Fin 16) (rb : Fin 16) (off : BitVec 18)
  /-- BLTU (R387): Branch if less, unsigned. -/
  | bltu (ra : Fin 16) (rb : Fin 16) (off : BitVec 18)
  /-- BGEU (R387): Branch if greater or equal, unsigned. -/
  | bgeu (ra : Fin 16) (rb : Fin 16) (off : BitVec 18)
  /-- JMP (R387): Jump by offset. -/
  | jmp (off : BitVec 26)
  /-- CALL (R348): Forward rotation then jump, spilling a frame when the ring is full. -/
  | call (off : BitVec 26)
  /-- JR (R387): Jump to ra. -/
  | jr (ra : Fin 16)
  /-- CALLR (R348): Forward rotation then jump to ra. -/
  | callr (ra : Fin 16)
  /-- RET (R350): Transfer to b7 and make the backward rotation, filling a frame when needed. -/
  | ret (fill : Ecc) (fillAt : Fin 8 := 0)
  /-- BMOVE (R370): Resumable word copy in ascending order. -/
  | bmove (rd : Fin 16) (ra : Fin 16) (rb : Fin 16) (n : Nat) (ecc : Ecc)
  /-- BFILL (R370): Resumable word fill. -/
  | bfill (rd : Fin 16) (ra : Fin 16) (rb : Fin 16) (n : Nat)
  /-- VMAC16 (R370): Resumable 16-bit multiply-accumulate into LACC. -/
  | vmac16 (rd : Fin 16) (ra : Fin 16) (rb : Fin 16) (n : Nat) (ecc : Ecc) (eccY : Ecc)
  /-- VMAC32 (R370): Resumable 32-bit multiply-accumulate into LACC. -/
  | vmac32 (rd : Fin 16) (ra : Fin 16) (rb : Fin 16) (n : Nat) (ecc : Ecc) (eccY : Ecc)
  /-- BCRC32 (R370): Resumable reflected CRC-32 over bytes. -/
  | bcrc32 (rd : Fin 16) (ra : Fin 16) (rb : Fin 16) (n : Nat) (ecc : Ecc)
  /-- BCRC16 (R370): Resumable CRC-16/CCITT over bytes. -/
  | bcrc16 (rd : Fin 16) (ra : Fin 16) (rb : Fin 16) (n : Nat) (ecc : Ecc)
  /-- MFS (R342): Read a special register. -/
  | mfs (rd : Fin 16) (aux : BitVec 8)
  /-- MTS (R342): Write a special register, with SCREE_BASE and PSR restrictions. -/
  | mts (aux : BitVec 8) (ra : Fin 16)
  /-- ERET (R408): Exception return with the bank effect of Table 7-4. -/
  | eret (fill : Ecc) (fillAt : Fin 8 := 0)
  /-- GATE (R426): Checked entry to a gate at supervisor level. -/
  | gate (n : BitVec 6) (ecc : Ecc)
  /-- GRET (R428): Gate return from the link word. -/
  | gret (ecc : Ecc) (fill : Ecc) (fillAt : Fin 8 := 0)
  /-- TRAP (R387): Software trap with code AUX. -/
  | trap (aux : BitVec 8)
  /-- HWMCLR (R360): A write of 1 to CPU.CTRL.HWMCLR sets SCREE_HWM to SCREE_PTR. -/
  | hwmclr (path : Path)
  /-- OVRCLR (R389): A write of 1 to CPU.CTRL.OVRCLR zeroes STAT.OVRCNT. -/
  | ovrclr (path : Path)
  /-- OWN_REQ (R518): A write of 1 to FMx.OWN.REQ makes a one-shot ownership request for the next arbitration. -/
  | ownReq (path : Path) (c : Fin 2)
  /-- OWN_REL (R518): A write of 1 to FMx.OWN.REL by the owner gives up the channel. -/
  | ownRel (path : Path) (c : Fin 2)
  /-- PSTART (R508): A write of 1 to ADC.CTRL.PSTART starts a precision window at the next slot 0. -/
  | pstart (path : Path)
  /-- PSTOP (R508): A write of 1 to ADC.CTRL.PSTOP ends the window in progress without a result. -/
  | pstop (path : Path)
  /-- PRECISION_WINDOW_END (R509): A precision window ends after NSLOT slots and writes its result and averages. -/
  | precisionWindowEnd (raw : Int) (ovl : Bool)
  /-- CAL_LOAD (R515): A write of 1 to CAL.CTRL.LOAD loads a calibration image in IDLE or SAFE. -/
  | calLoad (path : Path)
  /-- SEQ_ARM (R533): A write of 1 to SEQ.CTRL.ARM is refused at once or held for checking. -/
  | seqArm (path : Path)
  /-- GO (R536): A write of 1 to SEQ.CTRL.GO is latched as a start trigger. -/
  | go (path : Path)
  /-- PAUSE (R552): A write of 1 to SEQ.CTRL.PAUSE is latched at the next step to enter PAUSED. -/
  | pause (path : Path)
  /-- RESUME (R552): A write of 1 to SEQ.CTRL.RESUME is latched to return to RUN. -/
  | resume (path : Path)
  /-- ABORT (R553): A write of 1 to SEQ.CTRL.ABORT is latched to enter ABORTED. -/
  | abort (path : Path)
  /-- JUMP_REQUEST (R542): A write to SEQ.JUMP with REQ requests a jump to a segment. -/
  | jumpRequest (path : Path) (tgt : BitVec 8)
  /-- JUMP_CLEAR (R542): A write to SEQ.JUMP with CLR withdraws the bound request. -/
  | jumpClear (path : Path)
  /-- POINT_WINDOW_WRITE (R559): A write to SEQ.PHI writes point PIDX from PLO and advances PIDX. -/
  | pointWindowWrite (path : Path) (hi : Word)
  /-- SEGMENT_WINDOW_WRITE (R560): A write to SEQ.SD1 writes segment SIDX and advances SIDX. -/
  | segmentWindowWrite (path : Path) (sd1 : Word)
  /-- TRC_ARM (R639): A write of 1 to TRC.CTRL.ARM starts trace in RUN or ARMED. -/
  | trcArm (path : Path)
  /-- TRC_STOP (R638): A write of 1 to TRC.CTRL.STOP ends trace capture. -/
  | trcStop (path : Path)
  /-- FORCE (R644): A write of 1 to TRC.CTRL.FORCE is a trigger. -/
  | force (path : Path)
  /-- USER (R640): A write to TRC.USER produces a USER record. -/
  | user (path : Path) (v : Word)
  /-- PAIR (R668): A write of 1 to TWN.CTRL.PAIR enters HELLO. -/
  | pair (path : Path)
  /-- UNPAIR (R671): A write of 1 to TWN.CTRL.UNPAIR detaches both devices and returns the writer to SINGLE. -/
  | unpair (path : Path)
  /-- RESIGN (R698): A write of 1 to TWN.CTRL.RESIGN by the lead starts the handover. -/
  | resign (path : Path)
  /-- HELLO (R670): A received HELLO is checked and, if passing, the pair takes roles and enters TRACK. -/
  | hello (hello : Hello) (good : Bool)
  /-- SAMPLE_SEND (R680): The lead sends a SAMPLE packet in every slot from strobe + 36. -/
  | sampleSend (ended : Bool)
  /-- SAMPLE_PACKET (R681): The shadow receives a SAMPLE packet for agreement. -/
  | samplePacket (x : Sample) (skew : Int) (good : Bool)
  /-- DIGEST_PACKET (R687): A device receives the partner's DIGEST. -/
  | digestPacket (tick : Word) (dig : BitVec 64) (st : Nat) (good : Bool)
  /-- FAILOVER_DECISION (R688): At G + 192 after an UNAGREED tick the shadow resyncs, detaches or promotes. -/
  | failoverDecision (gates : Nat) (line : Bool)
  /-- TICKREC (R676): The shadow receives a TICKREC with GPIO levels and events. -/
  | tickrec (gpio : Nat) (why : Nat) (evs : List (Nat × Nat)) (good : Bool)
  /-- DECISION (R673): The shadow applies a received DECISION to its copy of the frame. -/
  | decision (d : Decision) (good : Bool)
  /-- FILL_REQUEST (R674): The lead receives FILL and answers with CONTENT. -/
  | fillRequest (fseq : Nat) (good : Bool)
  /-- CONTENT (R674): The shadow receives the content of a frame it lacked. -/
  | content (fseq : Nat) (payload : List Byte) (good : Bool)
  /-- TAP (R280): The shadow receives a tap-record fragment. -/
  | tap (sfn : Nat) (idx : Nat) (body : List Byte) (last : Bool) (good : Bool)
  /-- CTRL_RESYNC (R688): A received CTRL RESYNC returns both devices to TRACK. -/
  | ctrlResync (good : Bool)
  /-- CTRL_VERDICT (R696): A received CTRL VERDICT records the partner's verdict. -/
  | ctrlVerdict (lasting : Bool) (good : Bool)
  /-- CTRL_VERDICT_REQUEST (R683): A received VERDICT-REQUEST treats the event as a divergence. -/
  | ctrlVerdictRequest (good : Bool)
  /-- CTRL_JOIN (R702): A received CTRL JOIN names the tick at which both devices enter JOINED. -/
  | ctrlJoin (tick : Word) (good : Bool)
  /-- PAGE (R700): The shadow writes a received tracked page. -/
  | page (number : Nat) (payload : List Byte) (good : Bool)
  /-- IMAGE (R700): The shadow receives a join-image fragment. -/
  | image (part : ImagePart) (good : Bool)
  /-- JOIN_CHECK (R701): At the snapshot point the lead checks whether it can join at the next edge. -/
  | joinCheck (fits : Bool)
  /-- STEP_WINDOW (R717): In each step window each lane runs one step of its test and patrol runs. -/
  | stepWindow (memOk : Bool) (copyBad : Bool) (anaOk : Bool) (sysOk : Bool) (found : List (Nat × Word)) (copyAt : List (Fin 32) := [])
  /-- CLK_TEST_END (R719): The CLK test's count ends and its verdict is written. -/
  | clkTestEnd (pass : Bool)
  /-- CLRBKT (R710): A write of 1 to SLF.CTRL.CLRBKT zeroes every bucket. -/
  | clrbkt (path : Path)
  /-- FUSE (R725): A write of 1 to SLF.CTRL.FUSE burns repair fuses for soft repairs. -/
  | fuse (path : Path)
  /-- BIST (R726): A write of 1 to SLF.CTRL.BIST runs full BIST then a system reset. -/
  | bist (path : Path) (fails : Nat) (addr : Word) (rows : List (Nat × Nat))
  /-- LCS_CMD (R731): A write to LCS.CMD with the key requests the next life-cycle transition. -/
  | lcsCmd (path : Path) (v : Word)
  /-- CHREQ (R733): A write of 1 to LCS.CTRL.CHREQ draws a new challenge. -/
  | chreq (path : Path)
  /-- LOG_CLR (R739): A write of 1 to LOG.CTRL.CLR empties the log. -/
  | logClr (path : Path)
  /-- PFLUSH (R742): A write of 1 to LOG.CTRL.PFLUSH requests a persistent write. -/
  | pflush (path : Path)
  /-- LOG_USER (R737): A write to LOG.USER writes a USER entry. -/
  | logUser (path : Path) (v : Word)
  /-- PERSIST_WRITE (R743): Pending persistent entries are written to data flash when permitted. -/
  | persistWrite (verify : Bool)
  /-- PROGRAM (R758): A write of 0b01 to FLS.CTRL.OP programs a flash line if the conditions hold. -/
  | program (path : Path)
  /-- ERASE (R758): A write of 0b10 to FLS.CTRL.OP erases a flash sector if the conditions hold. -/
  | erase (path : Path)
  /-- FLASH_OP_DONE (R760): A flash operation ends with margin verification, setting DONE and possibly VERIFY. -/
  | flashOpDone (verify : Bool)
  /-- FLASH_PROTECT (R761): A write of 1 to an FLS.PROT or DPROT bit protects a sector until reset. -/
  | flashProtect (path : Path) (k : Fin 5) (v : Word)
  /-- SPI_NOP (R763): An SPI NOP transaction presents the response FIFO front. -/
  | spiNop (rep : Bool) (mode3 : Bool) (code : Nat) (tag : Nat) (addr : Nat)
  /-- SPI_READ (R770): An SPI READ enters the command queue and answers into the response FIFO. -/
  | spiRead (rep : Bool) (mode3 : Bool) (tag : Nat) (addr : Nat) (data : Word) (mask : Word)
  /-- SPI_WRITE (R770): An SPI WRITE enters the command queue and answers into the response FIFO. -/
  | spiWrite (rep : Bool) (mode3 : Bool) (tag : Nat) (addr : Nat) (data : Word) (mask : Word)
  /-- SPI_MODIFY (R770): An SPI MODIFY enters the command queue and answers into the response FIFO. -/
  | spiModify (rep : Bool) (mode3 : Bool) (tag : Nat) (addr : Nat) (data : Word) (mask : Word)
  /-- SPI_FLUSHMARK (R770): An SPI FLUSHMARK enters the command queue and is answered OK. -/
  | spiFlushmark (rep : Bool) (mode3 : Bool) (tag : Nat) (addr : Nat) (data : Word) (mask : Word)
  /-- SPI_TICK (R772): An SPI TICK carries an authorisation completing at the rise of HSP_CS. -/
  | spiTick (rep : Bool) (mode3 : Bool) (num : Word) (edge : LineTime) (dt : LineTime)
  /-- MON_SYNC (R774): An unsynchronised monitor measures an 0x55 octet and sets its baud rate. -/
  | monSync (baud : Nat)
  /-- RESYNC (R774): A write of 1 to MON.CTRL.RESYNC returns the monitor to autobaud. -/
  | resync (path : Path)
  /-- PING (R765): The monitor answers identity, life-cycle and boot status. -/
  | ping (seq : Nat) (fits : Bool)
  /-- MON_READ (R777): The monitor reads COUNT words on arrival. -/
  | monRead (seq : Nat) (fits : Bool) (addr : Nat) (count : Nat) (eccs : List Ecc)
  /-- MON_WRITE (R776): The monitor checks and lands COUNT words in one guard window. -/
  | monWrite (seq : Nat) (fits : Bool) (addr : Nat) (count : Nat) (words : List Word)
  /-- MON_MODIFY (R776): The monitor read-modify-writes one word. -/
  | monModify (seq : Nat) (fits : Bool) (addr : Nat) (data : Word) (mask : Word) (ecc : Ecc)
  /-- STEP (R778): The monitor authorises COUNT bench ticks. -/
  | step (seq : Nat) (fits : Bool) (count : Nat) (dt : LineTime)
  /-- HALT (R780): The monitor stops bench stepping. -/
  | halt (seq : Nat) (fits : Bool)
  /-- MON_GO (R781): The monitor sets GOADDR and performs a core reset into GO mode. -/
  | monGo (seq : Nat) (fits : Bool) (addr : Nat)
  /-- MON_RESET (R782): The monitor performs a system reset with cause SW. -/
  | monReset (seq : Nat) (fits : Bool) (kind : Nat)
  /-- RETURN (R783): The monitor requests FIELD to RETURN with an authenticated response. -/
  | returnReq (seq : Nat) (fits : Bool) (resp : List Byte)
  /-- LINE_ENERGY (R160): The energy detector starts or stops reporting energy on the line. This moves LSTATE between DOWN and ENERGY, sets or restores AGC, ends carrier deferral and lets a jabbered receiver resume. -/
  | lineEnergy (mv : Nat) (gain : Nat) (noise : Nat) (outS : Bool := false)
  /-- ACQ_TONE (R242): An Isinasia slave detects, or loses, the master's continuous ACQ tone on carrier 16. This estimates the rate and AGC and ends stage ACQ under R237. -/
  | acqTone (present : Bool) (rate : Int)
  /-- CTRL_RESIGN (R698): The shadow receives the lead's CTRL RESIGN message and begins its promotion handover. -/
  | ctrlResign (good : Bool)
  /-- GPIO4_EDGE (R644): An edge on GPIO4 of polarity GEDGE, stable for 2 core cycles while ALT4 is 1, triggers trace. -/
  | gpio4Edge (rising : Bool)
  /-- MONITOR_CONDITION_END (R463): A protection monitor condition of Table 9-5 stops holding. SUP.STAT then follows, and clearing of the FLT bit and release condition 0x3 become possible. -/
  | monitorConditionEnd (n : Fin 10)
  /-- ILLEGAL_INSTRUCTION (R386): The core issues a word with a reserved OP or FUNC, or with a non-zero unused field, and takes the ILLEGAL heavy trap. -/
  | illegalInstruction (word : Word)
  /-- INSTRUCTION_ACCESS_FAULT (R345): Fetching the next instruction is refused by the memory map or the MPU, or meets an uncorrectable error, and the core takes IACCESS or MEMERR. -/
  | instructionAccessFault (ecc : Ecc)
  /-- FRAME_ERR (R768): An SPI transaction that is not 128 SCK cycles, or whose CRC fails, executes nothing and raises HSP.EVT.FRAME_ERR. -/
  | frameErr (rep : Bool) (mode3 : Bool)
  /-- CYCLE_FRAME_RX (R303): A received frame passes the Table 6-6 checks and is accepted, authorising, staging and queueing. -/
  | cycleFrameRx (also : Nat := 0) (dt : Nat := 0)
  /-- PAGE_SEND (R699): The lead sends a dirty tracked page in free link time. -/
  | pageSend (ecc : Ecc := .ok) (word : Fin 64 := 0)
  /-- POWER_ON_RESET (R89): VBAT rises above the POR threshold and the device runs the power-up sequence of Table 2-4 from step 1. -/
  | powerOnReset
  /-- VDD5_BROWN_OUT (R93): VDD5 falls below its brown-out threshold and a system reset with cause BOR5 runs from step 2. -/
  | vdd5BrownOut
  /-- VDD1_BROWN_OUT (R93): VDD1 falls below its brown-out threshold and a system reset with cause BOR1 runs from step 3. -/
  | vdd1BrownOut
  /-- VBAT_LOW (R91): VBAT falls below the warning threshold, clearing VBATOK and raising VBAT_LOW. -/
  | vbatLow
  /-- VBAT_OK (R91): VBAT recovers above the warning threshold, setting VBATOK and raising VBAT_OK. -/
  | vbatOk
  /-- VIO_LOSS (R91): VIO falls below its loss threshold, VIO pins go to high impedance and VIO_LOSS is raised. -/
  | vioLoss
  /-- VIO_OK (R91): VIO recovers, VIO pins return and VIO_OK is raised, with FAULT_N input re-evaluated. -/
  | vioOk
  /-- PIN_RESET (R95): NRES held low from outside for at least 10 µs causes a system reset with cause PIN. -/
  | pinReset
  /-- SUPERVISOR_RESET (R93): No CORE clock for 64 AON cycles in RUN causes a system reset with cause SUPV. -/
  | supervisorReset
  /-- FAULT_N_EXTERNAL_PULL (R101): FAULT_N pulled low from outside with FIN set sets FEXT, raises SYS.EVT.FEXT and places the stage in its safe state. -/
  | faultNExternalPull
  /-- PLL_LOCK (R817): The CORE PLL locks after reset release and CLK leaves OSC for SEARCH or REF. -/
  | pllLock
  /-- PLL_UNLOCK (R30): Loss of CORE PLL lock switches CORE to LINE, raises PLL_UNLOCK, ends the tick and enters SAFE, and reports to self-test. -/
  | pllUnlock
  /-- PLL_RELOCK (R31): After the PLL has held lock for 50 µs CORE switches back, PLLOK is set and PLL_RELOCK is raised. -/
  | pllRelock
  /-- HOLD_TIMEOUT (R813): 20 ms in HOLD moves CLK to SEARCH, raises HOLD_TIMEOUT and requests SAFE at the end of the tick. -/
  | holdTimeout
  /-- CORE_RESUME (R381): At phase 64 the parked core resumes at CPU.PARKPC and pending exceptions are considered. -/
  | coreResume
  /-- BUDGET_END (R379): When the budget expires the core parks, completing a long-instruction element and deferring to an open critical window. -/
  | budgetEnd
  /-- CRIT_EXPIRE (R417): A critical window reaching CRIT_MAX cycles or phase G − 1 is force-closed and CRIT_EXPIRE becomes pending. -/
  | critExpire
  /-- MONITOR_WRITE_LANDING (R144): At phases G to G + 63 waiting monitor writes land one per cycle. -/
  | monitorWriteLanding
  /-- DIGEST_CLOSE (R686): At phase G + 64 the twin digest of the tick closes. -/
  | digestClose
  /-- TICK_END (R49): At the end of a tick requested SAFE or IDLE entries take effect. -/
  | tickEnd (temp : Int := 400)
  /-- HOLDOVER_ENTRY (R60): At E1 − 400 with no authorisation pending TCK enters HOLDOVER and schedules synthetic ticks. -/
  | holdoverEntry
  /-- HOLDOVER_EXHAUSTED (R61): At E1 + N × 100 × P with no authorised edge TCK enters SAFE with SAFE_CAUSE 0x1. -/
  | holdoverExhausted
  /-- ENGINE_EVALUATION (R563): The control engine evaluates its stages in the 32 cycles ending at the output write and writes outputs. -/
  | engineEvaluation
  /-- HALL_TIMEOUT (R591): HTIMEOUT slots without a Hall edge set ω_h to 0, centre THETA and raise HALL_TIMEOUT. -/
  | hallTimeout
  /-- ENC_Z (R592): An edge on HALL3 with ZEN set zeroes the encoder count and raises ENC_Z. -/
  | encZ
  /-- INJECTOR_RUN_END (R633): An injector run ends after LEN evaluations and raises DONE. -/
  | injectorRunEnd
  /-- CP_READY (R456): VCP rises above its undervoltage threshold after CPEN and CPRDY becomes 1. -/
  | cpReady
  /-- BEACON_RX (R174): A valid PLCA BEACON moves a follower to active and starts the PLCA cycle count. -/
  | beaconRx (dt : LineTime := 0#48)
  /-- PLCA_LOSS (R174): No BEACON for 4,000 bit times returns a follower to searching and raises PLCA_LOSS. -/
  | plcaLoss
  /-- BEACON_TX (R175): A coordinator sends a BEACON at the start of each PLCA cycle. -/
  | beaconTx (dt : LineTime := 0#48)
  /-- ID_CLASH (R179): A collision in the node's own opportunity aborts the frame and may set IDCLASH and FAULT. -/
  | idClash
  /-- BACKOFF_END (R181): The backoff interval expires and the node retries the frame. -/
  | backoffEnd
  /-- JABBER_TX (R183): A transmission lasting 20,000 bit times is cut, setting TXJAB. -/
  | jabberTx
  /-- DRIVER_FAULT (R184): Line driver overcurrent ends the transmission within 1 µs and sets DRVFLT. -/
  | driverFault
  /-- JABBER_RX (R187): A received transmission of 20,000 bit times is discarded and counted. -/
  | jabberRx
  /-- LNK_CONFIG_APPLY (R195): An accepted LNK configuration write takes effect once the port is neither transmitting nor receiving. -/
  | lnkConfigApply
  /-- CDG_PULSE_TRAIN (R202): After QUIET µs without energy the pulser sends 2^AVG pulses. -/
  | cdgPulseTrain
  /-- DISTURBED (R203): Foreign energy during a measurement ends it with invalid results and raises DISTURBED. -/
  | disturbed
  /-- NEGOTIATION (R238): With PROF AUTO the port runs Clause 98 negotiation with base, message and unformatted pages. -/
  | negotiation
  /-- TRAINING_START (R242): The master starts training at QUIET on entry to Isinasia. -/
  | trainingStart
  /-- TRAINING_RESTART (R249): After 50 superframes of silence the master restarts training at QUIET. -/
  | trainingRestart
  /-- SUPERFRAME_TX (R233): A transmitted superframe begins at a 2,000-unit boundary or at the received superframe start. -/
  | superframeTx (dt : LineTime := 0#48)
  /-- LOAD_PROPOSE (R267): A received LOAD_PROPOSE is answered with ACK and, if accepted, written to the transmit slot. -/
  | loadPropose
  /-- ACK (R268): A received ACK ends, defers or fails an outstanding proposal or SEED. -/
  | ack
  /-- SEED (R269): A received SEED is stored as the receive seed and acknowledged. -/
  | seed
  /-- LQI_REPORT (R270): A received LQI_REPORT is stored in ISC.FARLQI. -/
  | lqiReport
  /-- LQI_REPORT_SEND (R270): Every 256 superframes in showtime the receiver sends an LQI_REPORT. -/
  | lqiReportSend
  /-- SWAP_FLIP (R267): After the SWP countdown the transmitter sends LT naming the new slot. -/
  | swapFlip
  /-- PROPOSAL_TIMEOUT (R268): 64 superframes without ACK or countdown cause a resend or SWAP_FAIL. -/
  | proposalTimeout
  /-- LOADING_PERIOD (R265): Every LOADCFG.PERIOD superframes the receiver proposes a changed table. -/
  | loadingPeriod
  /-- RECONVERGENCE_START (R253): Having sent and received RCV, the end begins 50 superframes of reconvergence. -/
  | reconvergenceStart
  /-- RECONVERGENCE_END (R253): The reconvergence count ends and showtime resumes. -/
  | reconvergenceEnd
  /-- LPI_ENTER (R271): A transmitter whose LPI conditions hold enters low-power idle. -/
  | lpiEnter
  /-- LPI_EXIT (R272): A transmitter whose LPI condition ends leaves low-power idle. -/
  | lpiExit
  /-- SECTION_ADMIT (R318): A section at the FIFO front moves to the command queue once credits allow. -/
  | sectionAdmit
  /-- CMD_READ (R299): A network READ command returns the register value in a response entry. -/
  | cmdRead
  /-- CMD_WRITE (R299): A network WRITE command writes DATA and produces a response entry. -/
  | cmdWrite
  /-- CMD_MODIFY (R299): A network MODIFY command read-modify-writes under MASK. -/
  | cmdModify
  /-- CMD_FLUSHMARK (R299): A network FLUSHMARK command writes nothing and is answered OK. -/
  | cmdFlushmark
  /-- RESPONSE_ASSEMBLY (R321): At G + 448 a RESPONSE frame is assembled into the transmit buffer. -/
  | responseAssembly
  /-- IDLE_REPORT (R321): In IDLE, ARMED and SAFE a RESPONSE frame is assembled every IDLERPT µs. -/
  | idleReport
  /-- LATE_STORE (R412): An error reported while a store drains makes LATE_STORE pending, taken as a heavy trap. -/
  | lateStore
  /-- BRK (R387): Breakpoint exception. -/
  | brk
  /-- FENCE (R387): Wait until the write buffer is empty. -/
  | fence
  /-- CRITB (R415): Open a critical window. -/
  | critb
  /-- CRITE (R416): Close the critical window. -/
  | crite
  /-- YIELD (R382): Park the core at once. -/
  | yield
  /-- LIGHT_EVENT_ENTRY (R407): At an instruction boundary a pending cause route enters the handler with a forward rotation. -/
  | lightEventEntry
  /-- SEQ_ARM_CHECK (R534): At the next authorised phase 48 the held arm request is checked and the sequencer armed or refused. -/
  | seqArmCheck
  /-- TRACE_TICK_MARKER (R640): At G + 384 TICK and STAMP records are produced. -/
  | traceTickMarker
  /-- TRACE_RECORD_WRITE (R642): A queued record is written to trace RAM at WPTR, ending capture when counts are reached. -/
  | traceRecordWrite
  /-- HELLO_SEND (R669): Every 64 µs in HELLO the device sends a CTRL HELLO. -/
  | helloSend
  /-- HELLO_TIMEOUT (R670): No HELLO within 10 ms of entry writes JOINWHY 0x1. -/
  | helloTimeout
  /-- TWIN_LINK_DOWN (R666): No valid symbol for 320 core cycles clears LINKUP and raises LINKDOWN. -/
  | twinLinkDown
  /-- TWIN_LINK_UP (R666): 64 consecutive valid commas set LINKUP. -/
  | twinLinkUp
  /-- AGREEMENT_DEADLINE (R682): At strobe + 280 the shadow compares and commits the lead's samples or its own as UNAGREED. -/
  | agreementDeadline
  /-- DIGEST_SEND (R687): Each device sends its DIGEST packet after the digest closes. -/
  | digestSend
  /-- DIGEST_COMPARE (R687): At G + 192 the digests are compared, counting or raising DIVERGE. -/
  | digestCompare
  /-- VERDICT_OUTCOME (R697): When both verdicts are known the pair takes the outcome of Table 14-9. -/
  | verdictOutcome
  /-- TICKREC_SEND (R676): The lead sends a TICKREC from phase G + 192. -/
  | tickrecSend
  /-- AUTO_REPAIR (R691): A detached shadow with AUTO re-pairs after LINKUP holds 64 ticks. -/
  | autoRepair
  /-- BUCKET_DECAY (R710): Every DECAY ticks each non-zero bucket falls by 1. -/
  | bucketDecay
  /-- LOG_ENTRY_WRITE (R738): A queued log entry is written at WPTR. -/
  | logEntryWrite
  /-- STEP_DONE (R779): The last stepped tick ends and STEP_DONE is raised. -/
  | stepDone
  /-- POWER_FAIL (R91): VBAT falls below the POR threshold and the device is held in power-on reset with its gates low. -/
  | powerFail
  /-- DETECTOR_SETTLED (R160): 20 µs after reset release, ENERGY stops reading a forced 1 and follows the detector. -/
  | detectorSettled
  /-- FAULT_N_RELEASE (R101): An outside source releases FAULT_N, so SYS.STAT.FEXT and FAULTPIN return to their undriven levels. -/
  | faultNRelease
  /-- CRC_ERR (R775): The monitor discards a request with a bad CRC or LEN, or one cut off by a gap of 20 octet times, and counts it in MON.CRCCT. -/
  | crcErr
  /-- FRAMING_ERRORS (R774): 64 consecutive UART framing errors return the monitor to the unsynchronised state. -/
  | framingErrors
  deriving DecidableEq, Repr

end Sys2Proof
end

