-- ==== Sys2Proof/Decode.lean ====
section
/-! DEFINITION. The commands as words: no row of the table gives its command bits, so no word spells one. The instruction words of the core are in Machine/CoreWord.lean; which command each
OP and FUNC of Table 7-7 picks stands here. -/

namespace Sys2Proof

/-- The command that a word spells by the table's bits: none, for the table gives no row any bits. -/
def decodeTableWord (_nbits _w : Nat) : Option Instr := none

open Machine

/-- What a word of the core does not hold and its command carries: how many elements of a long instruction are carried out, and what the reads of memory meet. -/
structure Meets where
  n : Nat := 1
  ecc : Ecc := .ok
  eccY : Ecc := .ok
  fill : Ecc := .ok
  fillAt : Fin 8 := 0
  deriving DecidableEq, Repr

/-- The command of a format R instruction (Table 7-7). -/
def Machine.RegFn.instr (m : Meets) (f : RegFn) (rd ra rb : Fin 16) : Instr :=
  match f with
  | .add => .add rd ra rb
  | .sub => .sub rd ra rb
  | .and => .and rd ra rb
  | .or => .or rd ra rb
  | .xor => .xor rd ra rb
  | .shl => .shl rd ra rb
  | .shr => .shr rd ra rb
  | .sra => .sra rd ra rb
  | .slt => .slt rd ra rb
  | .sltu => .sltu rd ra rb
  | .min => .min rd ra rb
  | .max => .max rd ra rb
  | .adds => .adds rd ra rb
  | .subs => .subs rd ra rb
  | .mul => .mul rd ra rb
  | .mulh => .mulh rd ra rb
  | .mulhu => .mulhu rd ra rb
  | .div => .div rd ra rb
  | .divu => .divu rd ra rb
  | .rem => .rem rd ra rb
  | .remu => .remu rd ra rb
  | .bmove => .bmove rd ra rb m.n m.ecc
  | .bfill => .bfill rd ra rb m.n
  | .vmac16 => .vmac16 rd ra rb m.n m.ecc m.eccY
  | .vmac32 => .vmac32 rd ra rb m.n m.ecc m.eccY
  | .bcrc32 => .bcrc32 rd ra rb m.n m.ecc
  | .bcrc16 => .bcrc16 rd ra rb m.n m.ecc

/-- The command of a format I instruction with an 18-bit IMM (Table 7-7). -/
def Machine.ImmFn.instr (m : Meets) (f : ImmFn) (rd ra : Fin 16) (v : BitVec 18) : Instr :=
  match f with
  | .addi => .addi rd ra v
  | .andi => .andi rd ra v
  | .ori => .ori rd ra v
  | .xori => .xori rd ra v
  | .slti => .slti rd ra v
  | .sltiu => .sltiu rd ra v
  | .lb => .lb rd ra v m.ecc
  | .lbu => .lbu rd ra v m.ecc
  | .lh => .lh rd ra v m.ecc
  | .lhu => .lhu rd ra v m.ecc
  | .lw => .lw rd ra v m.ecc
  | .sb => .sb rd ra v m.ecc
  | .sh => .sh rd ra v m.ecc
  | .sw => .sw rd ra v

/-- The command of an instruction that uses no field (Table 7-7). -/
def Machine.PlainFn.instr (m : Meets) (f : PlainFn) : Instr :=
  match f with
  | .ret => .ret m.fill m.fillAt
  | .eret => .eret m.fill m.fillAt
  | .gret => .gret m.ecc m.fill m.fillAt
  | .brk => .brk
  | .fence => .fence
  | .critb => .critb
  | .crite => .crite
  | .yield => .yield

/-- The command of a core instruction (Table 7-7). -/
def Machine.CoreIns.instr (m : Meets) : CoreIns → Instr
  | .reg f rd ra rb => f.instr m rd.toFin ra.toFin rb.toFin
  | .clz rd ra => .clz rd.toFin ra.toFin
  | .mulsh rd ra rb n => .mulsh rd.toFin ra.toFin rb.toFin n
  | .imm f rd ra v => f.instr m rd.toFin ra.toFin v
  | .lui rd v => .lui rd.toFin v
  | .shift .shli rd ra n => .shli rd.toFin ra.toFin n
  | .shift .shri rd ra n => .shri rd.toFin ra.toFin n
  | .shift .srai rd ra n => .srai rd.toFin ra.toFin n
  | .branch .beq ra rb off => .beq ra.toFin rb.toFin off
  | .branch .bne ra rb off => .bne ra.toFin rb.toFin off
  | .branch .blt ra rb off => .blt ra.toFin rb.toFin off
  | .branch .bge ra rb off => .bge ra.toFin rb.toFin off
  | .branch .bltu ra rb off => .bltu ra.toFin rb.toFin off
  | .branch .bgeu ra rb off => .bgeu ra.toFin rb.toFin off
  | .jmp off => .jmp off
  | .call off => .call off
  | .jr ra => .jr ra.toFin
  | .callr ra => .callr ra.toFin
  | .plain f => f.instr m
  | .mfs rd aux => .mfs rd.toFin aux
  | .mts aux ra => .mts aux ra.toFin
  | .gate n => .gate n m.ecc
  | .trap n => .trap n

/-- The command a word at PC has the core carry out: its instruction's, or the illegal-instruction exception (R386, R387). -/
def coreCommand (m : Meets) (w : Word) : Instr :=
  if illegalWord w then .illegalInstruction w
  else match decodeCore w with
    | some i => i.instr m
    | none => .illegalInstruction w

end Sys2Proof
end

