-- ==== Sys2Proof/Machine/Crc.lean ====
section
/-! DEFINITION. The cyclic redundancy checks the spec names: reflected CRC-32, CRC-16/CCITT and CRC-64/ECMA-182. -/

namespace Sys2Proof.Machine

/-- One bit of a left-shifting CRC of width `w` and polynomial `poly`. -/
def crcBitL (w poly : Nat) (crc : Nat) (b : Bool) : Nat :=
  let top := (crc >>> (w - 1)) % 2 == 1
  let sh := (crc <<< 1) % 2 ^ w
  if top != b then sh ^^^ poly else sh

/-- One octet, most significant bit first. -/
def crcByteL (w poly : Nat) (crc : Nat) (x : Byte) : Nat :=
  [7, 6, 5, 4, 3, 2, 1, 0].foldl (fun c i => crcBitL w poly c (x.getLsbD i)) crc

/-- CRC-16/CCITT step, polynomial 0x1021. -/
def crc16Byte (crc : Nat) (x : Byte) : Nat := crcByteL 16 0x1021 crc x

/-- CRC-16/CCITT of octets, initial value 0xFFFF. -/
def crc16 (l : List Byte) : Nat := l.foldl crc16Byte 0xFFFF

/-- CRC-64 step, ECMA-182 polynomial. -/
def crc64Byte (crc : Nat) (x : Byte) : Nat := crcByteL 64 0x42F0E1EBA9EA3693 crc x

/-- One bit of the reflected CRC-32. -/
def crc32Bit (crc : Nat) : Nat :=
  if crc % 2 == 1 then (crc >>> 1) ^^^ 0xEDB88320 else crc >>> 1

/-- One octet of the reflected CRC-32, without initial or final inversion. -/
def crc32Byte (crc : Nat) (x : Byte) : Nat :=
  [0, 1, 2, 3, 4, 5, 6, 7].foldl (fun c _ => crc32Bit c) (crc ^^^ x.toNat)

/-- The Ethernet CRC-32 of octets: all ones at first, inverted at the end. -/
def crc32 (l : List Byte) : Nat := (l.foldl crc32Byte 0xFFFFFFFF) ^^^ 0xFFFFFFFF

end Sys2Proof.Machine
end

