-- ==== Sys2Proof/Config.lean ====
section
/-! DEFINITION. The free values: what the spec leaves open and the block goes on with. Each is a constant with no body, so no proof can lean on its value. -/

namespace Sys2Proof

/-- Free value (R733, R181, R822): the n-th draw from the noise source, the back-off draw and every other value the spec leaves undefined; State counts the draws. -/
opaque Config.noise : Nat → BitVec 128

/-- Free value (R749, R755): the content of boot ROM, by byte address. -/
opaque Config.bootRom : Nat → BitVec 8

/-- Free value (R528, R647, R726): what a byte of RAM holds once its content has been lost, by how often that has happened and by address. -/
opaque Config.lostRam : Nat → Nat → BitVec 8

/-- Free value (R528): whether a word of list RAM reads with wrong parity once its content has been lost, by how often that has happened and by word. -/
opaque Config.lostParity : Nat → Nat → Bool

/-- Free value (R734): whether a 64-octet response verifies as an ECDSA signature over the challenge and the device number. -/
opaque Config.ecdsaOk : List (BitVec 8) → BitVec 128 → BitVec 64 → Bool

/-- Free value (R595): how far the observer's arctangent lies from the exact one, by its two operands. -/
opaque Config.atanError : Int → Int → Int

/-- Free value (R250, R279): coefficient `i` of the echo canceller (0 to 95) and of the tap canceller (96 to 191) after it has adapted `n` times, in 2^-31; the spec
states how the cancellers adapt and no value. -/
opaque Config.canceller : Nat → Nat → BitVec 32

/-- Free value (R216, Table 17-8): how far the launch constant A lies above 20.9 mV, in µV; only the remainder by 4,601 counts, so that A keeps its stated range. -/
opaque Config.launch : Nat

/-- Free value (R592): whether the encoder count rises when HALL1 leads HALL2. -/
opaque Config.encForward : Bool

end Sys2Proof
end

