-- ==== Sys2Proof/Machine/RegMap.lean ====
section
/-! DEFINITION. The register map: a name for every register's offset in the window, and the table of access codes, writable bits, action bits and reset values (R7, R120 to R122 and the register table of each chapter). -/

namespace Sys2Proof.Machine

/-- The access codes of Table 0-4; `lkts` is a register both under key and tick-shadowed. -/
inductive Access where
  | rw | ro | w1c | wo | ts | lk | lkts
  deriving DecidableEq, Repr

/-- One register: its offset in the page, its code, the bits a write changes, its write-only action bits, its reset value. -/
structure RegDesc where
  off : Nat
  acc : Access
  wmask : Nat
  amask : Nat
  reset : Nat
  deriving DecidableEq, Repr

/-! Offsets from 0x4000_0000 of the block-specific registers. -/

/-- SYS.RSTCAUSE (R116). -/
abbrev R.SYS_RSTCAUSE : Nat := 0x20
/-- SYS.RSTREQ (R116). -/
abbrev R.SYS_RSTREQ : Nat := 0x24
/-- SYS.FCFG (R116). -/
abbrev R.SYS_FCFG : Nat := 0x28
/-- SYS.GPCFG (R116). -/
abbrev R.SYS_GPCFG : Nat := 0x2C
/-- SYS.GPOUT (R116). -/
abbrev R.SYS_GPOUT : Nat := 0x30
/-- SYS.GPIN (R116). -/
abbrev R.SYS_GPIN : Nat := 0x34
/-- SYS.PINCFG (R116). -/
abbrev R.SYS_PINCFG : Nat := 0x38
/-- SYS.UID_LO (R116). -/
abbrev R.SYS_UID_LO : Nat := 0x40
/-- SYS.UID_HI (R116). -/
abbrev R.SYS_UID_HI : Nat := 0x44
/-- CLK.LOCKCFG (R75). -/
abbrev R.CLK_LOCKCFG : Nat := 0x120
/-- CLK.LOSS (R75). -/
abbrev R.CLK_LOSS : Nat := 0x124
/-- CLK.LTOFS (R75). -/
abbrev R.CLK_LTOFS : Nat := 0x128
/-- CLK.LT_LO (R75). -/
abbrev R.CLK_LT_LO : Nat := 0x12C
/-- CLK.LT_HI (R75). -/
abbrev R.CLK_LT_HI : Nat := 0x130
/-- CLK.PERR (R75). -/
abbrev R.CLK_PERR : Nat := 0x134
/-- CLK.FERR (R75). -/
abbrev R.CLK_FERR : Nat := 0x138
/-- CLK.DCOW (R75). -/
abbrev R.CLK_DCOW : Nat := 0x13C
/-- CLK.RCTRIM (R75). -/
abbrev R.CLK_RCTRIM : Nat := 0x140
/-- CLK.LOSSCT (R75). -/
abbrev R.CLK_LOSSCT : Nat := 0x144
/-- CLK.HOLDT (R75). -/
abbrev R.CLK_HOLDT : Nat := 0x148
/-- TCK.PERIOD (R77). -/
abbrev R.TCK_PERIOD : Nat := 0x220
/-- TCK.SLOTS (R77). -/
abbrev R.TCK_SLOTS : Nat := 0x224
/-- TCK.STROBE (R77). -/
abbrev R.TCK_STROBE : Nat := 0x228
/-- TCK.BUDGET (R77). -/
abbrev R.TCK_BUDGET : Nat := 0x22C
/-- TCK.HOLD (R77). -/
abbrev R.TCK_HOLD : Nat := 0x230
/-- TCK.COAST (R77). -/
abbrev R.TCK_COAST : Nat := 0x234
/-- TCK.NOW (R77). -/
abbrev R.TCK_NOW : Nat := 0x238
/-- TCK.EDGE_LO (R77). -/
abbrev R.TCK_EDGE_LO : Nat := 0x23C
/-- TCK.EDGE_HI (R77). -/
abbrev R.TCK_EDGE_HI : Nat := 0x240
/-- TCK.PNUM (R77). -/
abbrev R.TCK_PNUM : Nat := 0x244
/-- TCK.PEDGE_LO (R77). -/
abbrev R.TCK_PEDGE_LO : Nat := 0x248
/-- TCK.PEDGE_HI (R77). -/
abbrev R.TCK_PEDGE_HI : Nat := 0x24C
/-- TCK.HCOUNT (R77). -/
abbrev R.TCK_HCOUNT : Nat := 0x250
/-- TCK.LATE (R77). -/
abbrev R.TCK_LATE : Nat := 0x254
/-- TCK.REJ (R77). -/
abbrev R.TCK_REJ : Nat := 0x258
/-- TCK.MARGIN (R77). -/
abbrev R.TCK_MARGIN : Nat := 0x25C
/-- TCK.MINMARG (R77). -/
abbrev R.TCK_MINMARG : Nat := 0x260
/-- PWR.WAKEEN (R118). -/
abbrev R.PWR_WAKEEN : Nat := 0x320
/-- PWR.WAKECFG (R118). -/
abbrev R.PWR_WAKECFG : Nat := 0x324
/-- PWR.WAKESRC (R118). -/
abbrev R.PWR_WAKESRC : Nat := 0x328
/-- PWR.WTIMER (R118). -/
abbrev R.PWR_WTIMER : Nat := 0x32C
/-- PWR.AONCNT (R118). -/
abbrev R.PWR_AONCNT : Nat := 0x330
/-- PWR.SCRATCH0 (R118). -/
abbrev R.PWR_SCRATCH0 : Nat := 0x334
/-- PWR.SCRATCH1 (R118). -/
abbrev R.PWR_SCRATCH1 : Nat := 0x338
/-- PWR.SCRATCH2 (R118). -/
abbrev R.PWR_SCRATCH2 : Nat := 0x33C
/-- PWR.SCRATCH3 (R118). -/
abbrev R.PWR_SCRATCH3 : Nat := 0x340
/-- SUP.VDTHR (R480). -/
abbrev R.SUP_VDTHR : Nat := 0x420
/-- SUP.VDDGL (R480). -/
abbrev R.SUP_VDDGL : Nat := 0x424
/-- LNK.PLCA (R209). -/
abbrev R.LNK_PLCA : Nat := 0x820
/-- LNK.BURST (R209). -/
abbrev R.LNK_BURST : Nat := 0x824
/-- LNK.TXCFG (R209). -/
abbrev R.LNK_TXCFG : Nat := 0x828
/-- LNK.RXCFG (R209). -/
abbrev R.LNK_RXCFG : Nat := 0x82C
/-- LNK.LINKCFG (R209). -/
abbrev R.LNK_LINKCFG : Nat := 0x830
/-- LNK.SQI (R209). -/
abbrev R.LNK_SQI : Nat := 0x834
/-- LNK.TEST (R209). -/
abbrev R.LNK_TEST : Nat := 0x838
/-- LNK.STAMP_LO (R209). -/
abbrev R.LNK_STAMP_LO : Nat := 0x83C
/-- LNK.STAMP_HI (R209). -/
abbrev R.LNK_STAMP_HI : Nat := 0x840
/-- LNS.RXOK (R212). -/
abbrev R.LNS_RXOK : Nat := 0x920
/-- LNS.RXFCS (R212). -/
abbrev R.LNS_RXFCS : Nat := 0x924
/-- LNS.RXSYM (R212). -/
abbrev R.LNS_RXSYM : Nat := 0x928
/-- LNS.RXJAB (R212). -/
abbrev R.LNS_RXJAB : Nat := 0x92C
/-- LNS.RXSHORT (R212). -/
abbrev R.LNS_RXSHORT : Nat := 0x930
/-- LNS.TXOK (R212). -/
abbrev R.LNS_TXOK : Nat := 0x934
/-- LNS.TXCOLL (R212). -/
abbrev R.LNS_TXCOLL : Nat := 0x938
/-- LNS.TXLATE (R212). -/
abbrev R.LNS_TXLATE : Nat := 0x93C
/-- LNS.TXEXC (R212). -/
abbrev R.LNS_TXEXC : Nat := 0x940
/-- LNS.TXJAB (R212). -/
abbrev R.LNS_TXJAB : Nat := 0x944
/-- LNS.BCNRX (R212). -/
abbrev R.LNS_BCNRX : Nat := 0x948
/-- LNS.BCNMISS (R212). -/
abbrev R.LNS_BCNMISS : Nat := 0x94C
/-- LNS.TXOPP (R212). -/
abbrev R.LNS_TXOPP : Nat := 0x950
/-- LNS.TXYIELD (R212). -/
abbrev R.LNS_TXYIELD : Nat := 0x954
/-- LNS.LINKDN (R212). -/
abbrev R.LNS_LINKDN : Nat := 0x958
/-- ISN.RXCFG (R285). -/
abbrev R.ISN_RXCFG : Nat := 0xA20
/-- ISN.LOADCFG (R285). -/
abbrev R.ISN_LOADCFG : Nat := 0xA24
/-- ISN.ECCFG (R285). -/
abbrev R.ISN_ECCFG : Nat := 0xA28
/-- ISN.LQCFG (R285). -/
abbrev R.ISN_LQCFG : Nat := 0xA2C
/-- ISN.NEGCAP (R285). -/
abbrev R.ISN_NEGCAP : Nat := 0xA30
/-- ISN.NEGID (R285). -/
abbrev R.ISN_NEGID : Nat := 0xA34
/-- ISN.NEGRES (R285). -/
abbrev R.ISN_NEGRES : Nat := 0xA38
/-- ISN.TXSEED (R285). -/
abbrev R.ISN_TXSEED : Nat := 0xA3C
/-- ISN.RXSEED (R285). -/
abbrev R.ISN_RXSEED : Nat := 0xA40
/-- ISN.SFN (R285). -/
abbrev R.ISN_SFN : Nat := 0xA44
/-- ISC.LQI (R286). -/
abbrev R.ISC_LQI : Nat := 0xB20
/-- ISC.RATE (R286). -/
abbrev R.ISC_RATE : Nat := 0xB24
/-- ISC.PAYRATE (R286). -/
abbrev R.ISC_PAYRATE : Nat := 0xB28
/-- ISC.HDRERR (R286). -/
abbrev R.ISC_HDRERR : Nat := 0xB2C
/-- ISC.SYNCMISS (R286). -/
abbrev R.ISC_SYNCMISS : Nat := 0xB30
/-- ISC.LOCKLOSS (R286). -/
abbrev R.ISC_LOCKLOSS : Nat := 0xB34
/-- ISC.SWAPS (R286). -/
abbrev R.ISC_SWAPS : Nat := 0xB38
/-- ISC.RECONVS (R286). -/
abbrev R.ISC_RECONVS : Nat := 0xB3C
/-- ISC.PAYDROP (R286). -/
abbrev R.ISC_PAYDROP : Nat := 0xB40
/-- ISC.UNITERR (R286). -/
abbrev R.ISC_UNITERR : Nat := 0xB44
/-- ISC.ECRES (R286). -/
abbrev R.ISC_ECRES : Nat := 0xB48
/-- ISC.TAPMISS (R286). -/
abbrev R.ISC_TAPMISS : Nat := 0xB4C
/-- ISC.FARLQI (R286). -/
abbrev R.ISC_FARLQI : Nat := 0xB50
/-- CDG.CFG (R213). -/
abbrev R.CDG_CFG : Nat := 0xC20
/-- CDG.RES0 (R213). -/
abbrev R.CDG_RES0 : Nat := 0xC24
/-- CDG.RES1 (R213). -/
abbrev R.CDG_RES1 : Nat := 0xC28
/-- CDG.RES2 (R213). -/
abbrev R.CDG_RES2 : Nat := 0xC2C
/-- CDG.RES3 (R213). -/
abbrev R.CDG_RES3 : Nat := 0xC30
/-- CDG.TOF0 (R213). -/
abbrev R.CDG_TOF0 : Nat := 0xC34
/-- CYC.ETYPE (R332). -/
abbrev R.CYC_ETYPE : Nat := 0x1020
/-- CYC.MAC_LO (R332). -/
abbrev R.CYC_MAC_LO : Nat := 0x1024
/-- CYC.MAC_HI (R332). -/
abbrev R.CYC_MAC_HI : Nat := 0x1028
/-- CYC.GRP_LO (R332). -/
abbrev R.CYC_GRP_LO : Nat := 0x102C
/-- CYC.GRP_HI (R332). -/
abbrev R.CYC_GRP_HI : Nat := 0x1030
/-- CYC.NODE (R332). -/
abbrev R.CYC_NODE : Nat := 0x1034
/-- CYC.FSEQ (R332). -/
abbrev R.CYC_FSEQ : Nat := 0x1038
/-- CYC.RPTCFG (R332). -/
abbrev R.CYC_RPTCFG : Nat := 0x103C
/-- CYC.IDLERPT (R332). -/
abbrev R.CYC_IDLERPT : Nat := 0x1040
/-- CYC.MVSEL0 (R332). -/
abbrev R.CYC_MVSEL0 : Nat := 0x1044
/-- CYC.MVSEL1 (R332). -/
abbrev R.CYC_MVSEL1 : Nat := 0x1048
/-- CYC.MVSEL2 (R332). -/
abbrev R.CYC_MVSEL2 : Nat := 0x104C
/-- CYC.MVSEL3 (R332). -/
abbrev R.CYC_MVSEL3 : Nat := 0x1050
/-- CYC.MVSEL4 (R332). -/
abbrev R.CYC_MVSEL4 : Nat := 0x1054
/-- CYC.MVSEL5 (R332). -/
abbrev R.CYC_MVSEL5 : Nat := 0x1058
/-- CYC.MVSEL6 (R332). -/
abbrev R.CYC_MVSEL6 : Nat := 0x105C
/-- CYC.MVSEL7 (R332). -/
abbrev R.CYC_MVSEL7 : Nat := 0x1060
/-- CYC.MVSEL8 (R332). -/
abbrev R.CYC_MVSEL8 : Nat := 0x1064
/-- CYC.MVSEL9 (R332). -/
abbrev R.CYC_MVSEL9 : Nat := 0x1068
/-- CYC.MVSEL10 (R332). -/
abbrev R.CYC_MVSEL10 : Nat := 0x106C
/-- CYC.MVSEL11 (R332). -/
abbrev R.CYC_MVSEL11 : Nat := 0x1070
/-- CYC.MVSEL12 (R332). -/
abbrev R.CYC_MVSEL12 : Nat := 0x1074
/-- CYC.MVSEL13 (R332). -/
abbrev R.CYC_MVSEL13 : Nat := 0x1078
/-- CYC.MVSEL14 (R332). -/
abbrev R.CYC_MVSEL14 : Nat := 0x107C
/-- CYC.MVSEL15 (R332). -/
abbrev R.CYC_MVSEL15 : Nat := 0x1080
/-- CYC.HMAC_LO (R332). -/
abbrev R.CYC_HMAC_LO : Nat := 0x1084
/-- CYC.HMAC_HI (R332). -/
abbrev R.CYC_HMAC_HI : Nat := 0x1088
/-- CYC.RXOK (R332). -/
abbrev R.CYC_RXOK : Nat := 0x108C
/-- CYC.RXOTHER (R332). -/
abbrev R.CYC_RXOTHER : Nat := 0x1090
/-- CYC.RXADDR (R332). -/
abbrev R.CYC_RXADDR : Nat := 0x1094
/-- CYC.RXFMT (R332). -/
abbrev R.CYC_RXFMT : Nat := 0x1098
/-- CYC.RXSTALE (R332). -/
abbrev R.CYC_RXSTALE : Nat := 0x109C
/-- CYC.SPDROP (R332). -/
abbrev R.CYC_SPDROP : Nat := 0x10A0
/-- CYC.TXRSP (R332). -/
abbrev R.CYC_TXRSP : Nat := 0x10A4
/-- CYC.SHADOW (R332). -/
abbrev R.CYC_SHADOW : Nat := 0x10FC
/-- QUE.CREDIT (R334). -/
abbrev R.QUE_CREDIT : Nat := 0x1120
/-- QUE.CDROPCT (R334). -/
abbrev R.QUE_CDROPCT : Nat := 0x1124
/-- QUE.CVIOLCT (R334). -/
abbrev R.QUE_CVIOLCT : Nat := 0x1128
/-- QUE.RLOSTCT (R334). -/
abbrev R.QUE_RLOSTCT : Nat := 0x112C
/-- QUE.EVLOSTCT (R334). -/
abbrev R.QUE_EVLOSTCT : Nat := 0x1130
/-- CPU.CRIT_MAX (R389). -/
abbrev R.CPU_CRIT_MAX : Nat := 0x1820
/-- CPU.SCREE_PTR (R389). -/
abbrev R.CPU_SCREE_PTR : Nat := 0x1824
/-- CPU.SCREE_HWM (R389). -/
abbrev R.CPU_SCREE_HWM : Nat := 0x1828
/-- CPU.SCREE_WARN (R389). -/
abbrev R.CPU_SCREE_WARN : Nat := 0x182C
/-- CPU.DEPTH (R389). -/
abbrev R.CPU_DEPTH : Nat := 0x1830
/-- CPU.LACC_LO (R389). -/
abbrev R.CPU_LACC_LO : Nat := 0x1834
/-- CPU.LACC_HI (R389). -/
abbrev R.CPU_LACC_HI : Nat := 0x1838
/-- CPU.SPILLS (R389). -/
abbrev R.CPU_SPILLS : Nat := 0x183C
/-- CPU.FILLS (R389). -/
abbrev R.CPU_FILLS : Nat := 0x1840
/-- CPU.PARKPC (R389). -/
abbrev R.CPU_PARKPC : Nat := 0x1844
/-- CPU.LASTUSE (R389). -/
abbrev R.CPU_LASTUSE : Nat := 0x1848
/-- CPU.SHADOW (R389). -/
abbrev R.CPU_SHADOW : Nat := 0x18FC
/-- MPU.RBASE0 (R439). -/
abbrev R.MPU_RBASE0 : Nat := 0x1920
/-- MPU.RBASE1 (R439). -/
abbrev R.MPU_RBASE1 : Nat := 0x1924
/-- MPU.RBASE2 (R439). -/
abbrev R.MPU_RBASE2 : Nat := 0x1928
/-- MPU.RBASE3 (R439). -/
abbrev R.MPU_RBASE3 : Nat := 0x192C
/-- MPU.RBASE4 (R439). -/
abbrev R.MPU_RBASE4 : Nat := 0x1930
/-- MPU.RBASE5 (R439). -/
abbrev R.MPU_RBASE5 : Nat := 0x1934
/-- MPU.RBASE6 (R439). -/
abbrev R.MPU_RBASE6 : Nat := 0x1938
/-- MPU.RBASE7 (R439). -/
abbrev R.MPU_RBASE7 : Nat := 0x193C
/-- MPU.RLIM0 (R439). -/
abbrev R.MPU_RLIM0 : Nat := 0x1940
/-- MPU.RLIM1 (R439). -/
abbrev R.MPU_RLIM1 : Nat := 0x1944
/-- MPU.RLIM2 (R439). -/
abbrev R.MPU_RLIM2 : Nat := 0x1948
/-- MPU.RLIM3 (R439). -/
abbrev R.MPU_RLIM3 : Nat := 0x194C
/-- MPU.RLIM4 (R439). -/
abbrev R.MPU_RLIM4 : Nat := 0x1950
/-- MPU.RLIM5 (R439). -/
abbrev R.MPU_RLIM5 : Nat := 0x1954
/-- MPU.RLIM6 (R439). -/
abbrev R.MPU_RLIM6 : Nat := 0x1958
/-- MPU.RLIM7 (R439). -/
abbrev R.MPU_RLIM7 : Nat := 0x195C
/-- MPU.RATTR0 (R439). -/
abbrev R.MPU_RATTR0 : Nat := 0x1960
/-- MPU.RATTR1 (R439). -/
abbrev R.MPU_RATTR1 : Nat := 0x1964
/-- MPU.RATTR2 (R439). -/
abbrev R.MPU_RATTR2 : Nat := 0x1968
/-- MPU.RATTR3 (R439). -/
abbrev R.MPU_RATTR3 : Nat := 0x196C
/-- MPU.RATTR4 (R439). -/
abbrev R.MPU_RATTR4 : Nat := 0x1970
/-- MPU.RATTR5 (R439). -/
abbrev R.MPU_RATTR5 : Nat := 0x1974
/-- MPU.RATTR6 (R439). -/
abbrev R.MPU_RATTR6 : Nat := 0x1978
/-- MPU.RATTR7 (R439). -/
abbrev R.MPU_RATTR7 : Nat := 0x197C
/-- MPU.DADDR (R439). -/
abbrev R.MPU_DADDR : Nat := 0x1980
/-- MPU.DINFO (R439). -/
abbrev R.MPU_DINFO : Nat := 0x1984
/-- GTE.BASE (R440). -/
abbrev R.GTE_BASE : Nat := 0x1A20
/-- GTE.FADDR (R440). -/
abbrev R.GTE_FADDR : Nat := 0x1A24
/-- GTE.COUNT (R440). -/
abbrev R.GTE_COUNT : Nat := 0x1A28
/-- PST.CFG (R477). -/
abbrev R.PST_CFG : Nat := 0x2020
/-- PST.SAFE (R477). -/
abbrev R.PST_SAFE : Nat := 0x2024
/-- PST.DUTY1 (R477). -/
abbrev R.PST_DUTY1 : Nat := 0x2028
/-- PST.DUTY2 (R477). -/
abbrev R.PST_DUTY2 : Nat := 0x202C
/-- PST.DUTY3 (R477). -/
abbrev R.PST_DUTY3 : Nat := 0x2030
/-- PST.DUTY4 (R477). -/
abbrev R.PST_DUTY4 : Nat := 0x2034
/-- PST.BDUTYA (R477). -/
abbrev R.PST_BDUTYA : Nat := 0x2038
/-- PST.BDUTYB (R477). -/
abbrev R.PST_BDUTYB : Nat := 0x203C
/-- PST.CMP1 (R477). -/
abbrev R.PST_CMP1 : Nat := 0x2040
/-- PST.CMP2 (R477). -/
abbrev R.PST_CMP2 : Nat := 0x2044
/-- PST.CMP3 (R477). -/
abbrev R.PST_CMP3 : Nat := 0x2048
/-- PST.CMP4 (R477). -/
abbrev R.PST_CMP4 : Nat := 0x204C
/-- PST.OCCFG (R477). -/
abbrev R.PST_OCCFG : Nat := 0x2050
/-- PST.TRIPCT (R477). -/
abbrev R.PST_TRIPCT : Nat := 0x2054
/-- PST.CBCCT (R477). -/
abbrev R.PST_CBCCT : Nat := 0x2058
/-- PST.LAST (R477). -/
abbrev R.PST_LAST : Nat := 0x205C
/-- PST.LASTTICK (R477). -/
abbrev R.PST_LASTTICK : Nat := 0x2060
/-- GDR.DT (R478). -/
abbrev R.GDR_DT : Nat := 0x2120
/-- GDR.HSDRV (R478). -/
abbrev R.GDR_HSDRV : Nat := 0x2124
/-- GDR.LSDRV (R478). -/
abbrev R.GDR_LSDRV : Nat := 0x2128
/-- GDR.VDS (R478). -/
abbrev R.GDR_VDS : Nat := 0x212C
/-- GDR.MINON (R478). -/
abbrev R.GDR_MINON : Nat := 0x2130
/-- GDR.GSTAT (R478). -/
abbrev R.GDR_GSTAT : Nat := 0x2134
/-- GDR.OCT (R478). -/
abbrev R.GDR_OCT : Nat := 0x2138
/-- FMx.BIND (R522). -/
abbrev R.FM_BIND (n : Nat) : Nat := 0x2420 + 256 * n
/-- FMx.OWN (R522). -/
abbrev R.FM_OWN (n : Nat) : Nat := 0x2424 + 256 * n
/-- FMx.LEVEL (R522). -/
abbrev R.FM_LEVEL (n : Nat) : Nat := 0x2428 + 256 * n
/-- FMx.LIMIT (R522). -/
abbrev R.FM_LIMIT (n : Nat) : Nat := 0x242C + 256 * n
/-- FMx.COMPCFG (R522). -/
abbrev R.FM_COMPCFG (n : Nat) : Nat := 0x2430 + 256 * n
/-- FMx.RANGE (R522). -/
abbrev R.FM_RANGE (n : Nat) : Nat := 0x2434 + 256 * n
/-- FMx.SHUNT (R522). -/
abbrev R.FM_SHUNT (n : Nat) : Nat := 0x2438 + 256 * n
/-- FMx.I (R522). -/
abbrev R.FM_I (n : Nat) : Nat := 0x243C + 256 * n
/-- FMx.V (R522). -/
abbrev R.FM_V (n : Nat) : Nat := 0x2440 + 256 * n
/-- FMx.IFLG (R522). -/
abbrev R.FM_IFLG (n : Nat) : Nat := 0x2444 + 256 * n
/-- FMx.VFLG (R522). -/
abbrev R.FM_VFLG (n : Nat) : Nat := 0x2448 + 256 * n
/-- FMx.AVGI (R522). -/
abbrev R.FM_AVGI (n : Nat) : Nat := 0x244C + 256 * n
/-- FMx.AVGV (R522). -/
abbrev R.FM_AVGV (n : Nat) : Nat := 0x2450 + 256 * n
/-- FMx.AVGN (R522). -/
abbrev R.FM_AVGN (n : Nat) : Nat := 0x2454 + 256 * n
/-- FMx.RNGCT (R522). -/
abbrev R.FM_RNGCT (n : Nat) : Nat := 0x2458 + 256 * n
/-- ADC.SEQ (R524). -/
abbrev R.ADC_SEQ : Nat := 0x2620
/-- ADC.PCFG (R524). -/
abbrev R.ADC_PCFG : Nat := 0x2624
/-- ADC.PRES (R524). -/
abbrev R.ADC_PRES : Nat := 0x2628
/-- ADC.PRAW (R524). -/
abbrev R.ADC_PRAW : Nat := 0x262C
/-- ADC.PFLG (R524). -/
abbrev R.ADC_PFLG : Nat := 0x2630
/-- ADC.PEND (R524). -/
abbrev R.ADC_PEND : Nat := 0x2634
/-- ADC.TDIE (R524). -/
abbrev R.ADC_TDIE : Nat := 0x2638
/-- ADC.RAW0 (R524). -/
abbrev R.ADC_RAW0 : Nat := 0x263C
/-- ADC.RAW1 (R524). -/
abbrev R.ADC_RAW1 : Nat := 0x2640
/-- ADC.RAW2 (R524). -/
abbrev R.ADC_RAW2 : Nat := 0x2644
/-- ADC.RAW3 (R524). -/
abbrev R.ADC_RAW3 : Nat := 0x2648
/-- ADC.RAW4 (R524). -/
abbrev R.ADC_RAW4 : Nat := 0x264C
/-- ADC.RAW5 (R524). -/
abbrev R.ADC_RAW5 : Nat := 0x2650
/-- CAL.TREF (R525). -/
abbrev R.CAL_TREF : Nat := 0x2720
/-- CAL.LADDR (R525). -/
abbrev R.CAL_LADDR : Nat := 0x2724
/-- CAL.E0W0 (R525). -/
abbrev R.CAL_E0W0 : Nat := 0x2730
/-- CAL.E0W1 (R525). -/
abbrev R.CAL_E0W1 : Nat := 0x2734
/-- CAL.E1W0 (R525). -/
abbrev R.CAL_E1W0 : Nat := 0x2738
/-- CAL.E1W1 (R525). -/
abbrev R.CAL_E1W1 : Nat := 0x273C
/-- CAL.E2W0 (R525). -/
abbrev R.CAL_E2W0 : Nat := 0x2740
/-- CAL.E2W1 (R525). -/
abbrev R.CAL_E2W1 : Nat := 0x2744
/-- CAL.E3W0 (R525). -/
abbrev R.CAL_E3W0 : Nat := 0x2748
/-- CAL.E3W1 (R525). -/
abbrev R.CAL_E3W1 : Nat := 0x274C
/-- CAL.E4W0 (R525). -/
abbrev R.CAL_E4W0 : Nat := 0x2750
/-- CAL.E4W1 (R525). -/
abbrev R.CAL_E4W1 : Nat := 0x2754
/-- CAL.E5W0 (R525). -/
abbrev R.CAL_E5W0 : Nat := 0x2758
/-- CAL.E5W1 (R525). -/
abbrev R.CAL_E5W1 : Nat := 0x275C
/-- CAL.E6W0 (R525). -/
abbrev R.CAL_E6W0 : Nat := 0x2760
/-- CAL.E6W1 (R525). -/
abbrev R.CAL_E6W1 : Nat := 0x2764
/-- CAL.E7W0 (R525). -/
abbrev R.CAL_E7W0 : Nat := 0x2768
/-- CAL.E7W1 (R525). -/
abbrev R.CAL_E7W1 : Nat := 0x276C
/-- CAL.E8W0 (R525). -/
abbrev R.CAL_E8W0 : Nat := 0x2770
/-- CAL.E8W1 (R525). -/
abbrev R.CAL_E8W1 : Nat := 0x2774
/-- CAL.E9W0 (R525). -/
abbrev R.CAL_E9W0 : Nat := 0x2778
/-- CAL.E9W1 (R525). -/
abbrev R.CAL_E9W1 : Nat := 0x277C
/-- CAL.E10W0 (R525). -/
abbrev R.CAL_E10W0 : Nat := 0x2780
/-- CAL.E10W1 (R525). -/
abbrev R.CAL_E10W1 : Nat := 0x2784
/-- CAL.E11W0 (R525). -/
abbrev R.CAL_E11W0 : Nat := 0x2788
/-- CAL.E11W1 (R525). -/
abbrev R.CAL_E11W1 : Nat := 0x278C
/-- CAL.E12W0 (R525). -/
abbrev R.CAL_E12W0 : Nat := 0x2790
/-- CAL.E12W1 (R525). -/
abbrev R.CAL_E12W1 : Nat := 0x2794
/-- CAL.E13W0 (R525). -/
abbrev R.CAL_E13W0 : Nat := 0x2798
/-- CAL.E13W1 (R525). -/
abbrev R.CAL_E13W1 : Nat := 0x279C
/-- CAL.E14W0 (R525). -/
abbrev R.CAL_E14W0 : Nat := 0x27A0
/-- CAL.E14W1 (R525). -/
abbrev R.CAL_E14W1 : Nat := 0x27A4
/-- CAL.E15W0 (R525). -/
abbrev R.CAL_E15W0 : Nat := 0x27A8
/-- CAL.E15W1 (R525). -/
abbrev R.CAL_E15W1 : Nat := 0x27AC
/-- CAL.E16W0 (R525). -/
abbrev R.CAL_E16W0 : Nat := 0x27B0
/-- CAL.E16W1 (R525). -/
abbrev R.CAL_E16W1 : Nat := 0x27B4
/-- CAL.E17W0 (R525). -/
abbrev R.CAL_E17W0 : Nat := 0x27B8
/-- CAL.E17W1 (R525). -/
abbrev R.CAL_E17W1 : Nat := 0x27BC
/-- CAL.E18W0 (R525). -/
abbrev R.CAL_E18W0 : Nat := 0x27C0
/-- CAL.E18W1 (R525). -/
abbrev R.CAL_E18W1 : Nat := 0x27C4
/-- CAL.E19W0 (R525). -/
abbrev R.CAL_E19W0 : Nat := 0x27C8
/-- CAL.E19W1 (R525). -/
abbrev R.CAL_E19W1 : Nat := 0x27CC
/-- CAL.E20W0 (R525). -/
abbrev R.CAL_E20W0 : Nat := 0x27D0
/-- CAL.E20W1 (R525). -/
abbrev R.CAL_E20W1 : Nat := 0x27D4
/-- CAL.E21W0 (R525). -/
abbrev R.CAL_E21W0 : Nat := 0x27D8
/-- CAL.E21W1 (R525). -/
abbrev R.CAL_E21W1 : Nat := 0x27DC
/-- CAL.E22W0 (R525). -/
abbrev R.CAL_E22W0 : Nat := 0x27E0
/-- CAL.E22W1 (R525). -/
abbrev R.CAL_E22W1 : Nat := 0x27E4
/-- CAL.E23W0 (R525). -/
abbrev R.CAL_E23W0 : Nat := 0x27E8
/-- CAL.E23W1 (R525). -/
abbrev R.CAL_E23W1 : Nat := 0x27EC
/-- CAL.E24W0 (R525). -/
abbrev R.CAL_E24W0 : Nat := 0x27F0
/-- CAL.E24W1 (R525). -/
abbrev R.CAL_E24W1 : Nat := 0x27F4
/-- CAL.E25W0 (R525). -/
abbrev R.CAL_E25W0 : Nat := 0x27F8
/-- CAL.E25W1 (R525). -/
abbrev R.CAL_E25W1 : Nat := 0x27FC
/-- SEQ.START (R559). -/
abbrev R.SEQ_START : Nat := 0x2820
/-- SEQ.POINT (R559). -/
abbrev R.SEQ_POINT : Nat := 0x2824
/-- SEQ.JUMP (R559). -/
abbrev R.SEQ_JUMP : Nat := 0x2828
/-- SEQ.JLOG (R559). -/
abbrev R.SEQ_JLOG : Nat := 0x282C
/-- SEQ.JTICK (R559). -/
abbrev R.SEQ_JTICK : Nat := 0x2830
/-- SEQ.CAPBASE (R559). -/
abbrev R.SEQ_CAPBASE : Nat := 0x2834
/-- SEQ.CAPLEN (R559). -/
abbrev R.SEQ_CAPLEN : Nat := 0x2838
/-- SEQ.CAPPTR (R559). -/
abbrev R.SEQ_CAPPTR : Nat := 0x283C
/-- SEQ.CAPLOST (R559). -/
abbrev R.SEQ_CAPLOST : Nat := 0x2840
/-- SEQ.THR0 (R559). -/
abbrev R.SEQ_THR0 : Nat := 0x2844
/-- SEQ.THR1 (R559). -/
abbrev R.SEQ_THR1 : Nat := 0x2848
/-- SEQ.THR2 (R559). -/
abbrev R.SEQ_THR2 : Nat := 0x284C
/-- SEQ.THR3 (R559). -/
abbrev R.SEQ_THR3 : Nat := 0x2850
/-- SEQ.LIM0 (R559). -/
abbrev R.SEQ_LIM0 : Nat := 0x2854
/-- SEQ.LIM1 (R559). -/
abbrev R.SEQ_LIM1 : Nat := 0x2858
/-- SEQ.LIM2 (R559). -/
abbrev R.SEQ_LIM2 : Nat := 0x285C
/-- SEQ.LIM3 (R559). -/
abbrev R.SEQ_LIM3 : Nat := 0x2860
/-- SEQ.PIDX (R559). -/
abbrev R.SEQ_PIDX : Nat := 0x2864
/-- SEQ.PLO (R559). -/
abbrev R.SEQ_PLO : Nat := 0x2868
/-- SEQ.PHI (R559). -/
abbrev R.SEQ_PHI : Nat := 0x286C
/-- SEQ.SIDX (R559). -/
abbrev R.SEQ_SIDX : Nat := 0x2870
/-- SEQ.SD0 (R559). -/
abbrev R.SEQ_SD0 : Nat := 0x2874
/-- SEQ.SD1 (R559). -/
abbrev R.SEQ_SD1 : Nat := 0x2878
/-- CTL.SP0 (R601). -/
abbrev R.CTL_SP0 : Nat := 0x3020
/-- CTL.SP1 (R601). -/
abbrev R.CTL_SP1 : Nat := 0x3024
/-- CTL.SP2 (R601). -/
abbrev R.CTL_SP2 : Nat := 0x3028
/-- CTL.SP3 (R601). -/
abbrev R.CTL_SP3 : Nat := 0x302C
/-- CTL.SP4 (R601). -/
abbrev R.CTL_SP4 : Nat := 0x3030
/-- CTL.SP5 (R601). -/
abbrev R.CTL_SP5 : Nat := 0x3034
/-- CTL.SP6 (R601). -/
abbrev R.CTL_SP6 : Nat := 0x3038
/-- CTL.SP7 (R601). -/
abbrev R.CTL_SP7 : Nat := 0x303C
/-- CTL.SP8 (R601). -/
abbrev R.CTL_SP8 : Nat := 0x3040
/-- CTL.SP9 (R601). -/
abbrev R.CTL_SP9 : Nat := 0x3044
/-- CTL.SP10 (R601). -/
abbrev R.CTL_SP10 : Nat := 0x3048
/-- CTL.SP11 (R601). -/
abbrev R.CTL_SP11 : Nat := 0x304C
/-- CTL.SP12 (R601). -/
abbrev R.CTL_SP12 : Nat := 0x3050
/-- CTL.SP13 (R601). -/
abbrev R.CTL_SP13 : Nat := 0x3054
/-- CTL.SP14 (R601). -/
abbrev R.CTL_SP14 : Nat := 0x3058
/-- CTL.SP15 (R601). -/
abbrev R.CTL_SP15 : Nat := 0x305C
/-- CTL.CONST0 (R601). -/
abbrev R.CTL_CONST0 : Nat := 0x3060
/-- CTL.CONST1 (R601). -/
abbrev R.CTL_CONST1 : Nat := 0x3064
/-- CTL.CONST2 (R601). -/
abbrev R.CTL_CONST2 : Nat := 0x3068
/-- CTL.CONST3 (R601). -/
abbrev R.CTL_CONST3 : Nat := 0x306C
/-- CTL.CONST4 (R601). -/
abbrev R.CTL_CONST4 : Nat := 0x3070
/-- CTL.CONST5 (R601). -/
abbrev R.CTL_CONST5 : Nat := 0x3074
/-- CTL.CONST6 (R601). -/
abbrev R.CTL_CONST6 : Nat := 0x3078
/-- CTL.CONST7 (R601). -/
abbrev R.CTL_CONST7 : Nat := 0x307C
/-- CTL.SINK0 (R601). -/
abbrev R.CTL_SINK0 : Nat := 0x3080
/-- CTL.SINK1 (R601). -/
abbrev R.CTL_SINK1 : Nat := 0x3084
/-- CTL.SINK2 (R601). -/
abbrev R.CTL_SINK2 : Nat := 0x3088
/-- CTL.SINK3 (R601). -/
abbrev R.CTL_SINK3 : Nat := 0x308C
/-- CTL.SINK4 (R601). -/
abbrev R.CTL_SINK4 : Nat := 0x3090
/-- CTL.SINK5 (R601). -/
abbrev R.CTL_SINK5 : Nat := 0x3094
/-- CTL.LEVSEL (R601). -/
abbrev R.CTL_LEVSEL : Nat := 0x3098
/-- CTL.GRP0 (R601). -/
abbrev R.CTL_GRP0 : Nat := 0x309C
/-- CTL.GRP1 (R601). -/
abbrev R.CTL_GRP1 : Nat := 0x30A0
/-- CTL.GRP2 (R601). -/
abbrev R.CTL_GRP2 : Nat := 0x30A4
/-- CTL.GOUT0 (R601). -/
abbrev R.CTL_GOUT0 : Nat := 0x30A8
/-- CTL.GOUT1 (R601). -/
abbrev R.CTL_GOUT1 : Nat := 0x30AC
/-- CTL.GOUT2 (R601). -/
abbrev R.CTL_GOUT2 : Nat := 0x30B0
/-- CTL.PROBE (R601). -/
abbrev R.CTL_PROBE : Nat := 0x30B4
/-- CTL.PVAL (R601). -/
abbrev R.CTL_PVAL : Nat := 0x30B8
/-- LPn.SRC (R602). -/
abbrev R.LP_SRC (n : Nat) : Nat := 0x3120 + 256 * n
/-- LPn.CFG (R602). -/
abbrev R.LP_CFG (n : Nat) : Nat := 0x3124 + 256 * n
/-- LPn.SCHSEL (R602). -/
abbrev R.LP_SCHSEL (n : Nat) : Nat := 0x3128 + 256 * n
/-- LPn.B1 (R602). -/
abbrev R.LP_B1 (n : Nat) : Nat := 0x312C + 256 * n
/-- LPn.B2 (R602). -/
abbrev R.LP_B2 (n : Nat) : Nat := 0x3130 + 256 * n
/-- LPn.B3 (R602). -/
abbrev R.LP_B3 (n : Nat) : Nat := 0x3134 + 256 * n
/-- LPn.HYST (R602). -/
abbrev R.LP_HYST (n : Nat) : Nat := 0x3138 + 256 * n
/-- LPn.OUTMIN (R602). -/
abbrev R.LP_OUTMIN (n : Nat) : Nat := 0x313C + 256 * n
/-- LPn.OUTMAX (R602). -/
abbrev R.LP_OUTMAX (n : Nat) : Nat := 0x3140 + 256 * n
/-- LPn.IMIN (R602). -/
abbrev R.LP_IMIN (n : Nat) : Nat := 0x3144 + 256 * n
/-- LPn.IMAX (R602). -/
abbrev R.LP_IMAX (n : Nat) : Nat := 0x3148 + 256 * n
/-- LPn.ACCINIT (R602). -/
abbrev R.LP_ACCINIT (n : Nat) : Nat := 0x314C + 256 * n
/-- LPn.ACC (R602). -/
abbrev R.LP_ACC (n : Nat) : Nat := 0x3150 + 256 * n
/-- LPn.OUT (R602). -/
abbrev R.LP_OUT (n : Nat) : Nat := 0x3154 + 256 * n
/-- LPn.ERR (R602). -/
abbrev R.LP_ERR (n : Nat) : Nat := 0x3158 + 256 * n
/-- LPn.RUNCT (R602). -/
abbrev R.LP_RUNCT (n : Nat) : Nat := 0x315C + 256 * n
/-- LPn.KP0 (R602). -/
abbrev R.LP_KP0 (n : Nat) : Nat := 0x3160 + 256 * n
/-- LPn.KP1 (R602). -/
abbrev R.LP_KP1 (n : Nat) : Nat := 0x3178 + 256 * n
/-- LPn.KP2 (R602). -/
abbrev R.LP_KP2 (n : Nat) : Nat := 0x3190 + 256 * n
/-- LPn.KP3 (R602). -/
abbrev R.LP_KP3 (n : Nat) : Nat := 0x31A8 + 256 * n
/-- LPn.KI0 (R602). -/
abbrev R.LP_KI0 (n : Nat) : Nat := 0x3164 + 256 * n
/-- LPn.KI1 (R602). -/
abbrev R.LP_KI1 (n : Nat) : Nat := 0x317C + 256 * n
/-- LPn.KI2 (R602). -/
abbrev R.LP_KI2 (n : Nat) : Nat := 0x3194 + 256 * n
/-- LPn.KI3 (R602). -/
abbrev R.LP_KI3 (n : Nat) : Nat := 0x31AC + 256 * n
/-- LPn.KD0 (R602). -/
abbrev R.LP_KD0 (n : Nat) : Nat := 0x3168 + 256 * n
/-- LPn.KD1 (R602). -/
abbrev R.LP_KD1 (n : Nat) : Nat := 0x3180 + 256 * n
/-- LPn.KD2 (R602). -/
abbrev R.LP_KD2 (n : Nat) : Nat := 0x3198 + 256 * n
/-- LPn.KD3 (R602). -/
abbrev R.LP_KD3 (n : Nat) : Nat := 0x31B0 + 256 * n
/-- LPn.KFA0 (R602). -/
abbrev R.LP_KFA0 (n : Nat) : Nat := 0x316C + 256 * n
/-- LPn.KFA1 (R602). -/
abbrev R.LP_KFA1 (n : Nat) : Nat := 0x3184 + 256 * n
/-- LPn.KFA2 (R602). -/
abbrev R.LP_KFA2 (n : Nat) : Nat := 0x319C + 256 * n
/-- LPn.KFA3 (R602). -/
abbrev R.LP_KFA3 (n : Nat) : Nat := 0x31B4 + 256 * n
/-- LPn.KFB0 (R602). -/
abbrev R.LP_KFB0 (n : Nat) : Nat := 0x3170 + 256 * n
/-- LPn.KFB1 (R602). -/
abbrev R.LP_KFB1 (n : Nat) : Nat := 0x3188 + 256 * n
/-- LPn.KFB2 (R602). -/
abbrev R.LP_KFB2 (n : Nat) : Nat := 0x31A0 + 256 * n
/-- LPn.KFB3 (R602). -/
abbrev R.LP_KFB3 (n : Nat) : Nat := 0x31B8 + 256 * n
/-- LPn.SH0 (R602). -/
abbrev R.LP_SH0 (n : Nat) : Nat := 0x3174 + 256 * n
/-- LPn.SH1 (R602). -/
abbrev R.LP_SH1 (n : Nat) : Nat := 0x318C + 256 * n
/-- LPn.SH2 (R602). -/
abbrev R.LP_SH2 (n : Nat) : Nat := 0x31A4 + 256 * n
/-- LPn.SH3 (R602). -/
abbrev R.LP_SH3 (n : Nat) : Nat := 0x31BC + 256 * n
/-- PRF.CFG0 (R649). -/
abbrev R.PRF_CFG0 : Nat := 0x3920
/-- PRF.CFG1 (R649). -/
abbrev R.PRF_CFG1 : Nat := 0x3940
/-- PRF.CFG2 (R649). -/
abbrev R.PRF_CFG2 : Nat := 0x3960
/-- PRF.CFG3 (R649). -/
abbrev R.PRF_CFG3 : Nat := 0x3980
/-- PRF.VMAX0 (R649). -/
abbrev R.PRF_VMAX0 : Nat := 0x3924
/-- PRF.VMAX1 (R649). -/
abbrev R.PRF_VMAX1 : Nat := 0x3944
/-- PRF.VMAX2 (R649). -/
abbrev R.PRF_VMAX2 : Nat := 0x3964
/-- PRF.VMAX3 (R649). -/
abbrev R.PRF_VMAX3 : Nat := 0x3984
/-- PRF.AMAX0 (R649). -/
abbrev R.PRF_AMAX0 : Nat := 0x3928
/-- PRF.AMAX1 (R649). -/
abbrev R.PRF_AMAX1 : Nat := 0x3948
/-- PRF.AMAX2 (R649). -/
abbrev R.PRF_AMAX2 : Nat := 0x3968
/-- PRF.AMAX3 (R649). -/
abbrev R.PRF_AMAX3 : Nat := 0x3988
/-- PRF.JMAX0 (R649). -/
abbrev R.PRF_JMAX0 : Nat := 0x392C
/-- PRF.JMAX1 (R649). -/
abbrev R.PRF_JMAX1 : Nat := 0x394C
/-- PRF.JMAX2 (R649). -/
abbrev R.PRF_JMAX2 : Nat := 0x396C
/-- PRF.JMAX3 (R649). -/
abbrev R.PRF_JMAX3 : Nat := 0x398C
/-- PRF.PRE0 (R649). -/
abbrev R.PRF_PRE0 : Nat := 0x3930
/-- PRF.PRE1 (R649). -/
abbrev R.PRF_PRE1 : Nat := 0x3950
/-- PRF.PRE2 (R649). -/
abbrev R.PRF_PRE2 : Nat := 0x3970
/-- PRF.PRE3 (R649). -/
abbrev R.PRF_PRE3 : Nat := 0x3990
/-- PRF.POS0 (R649). -/
abbrev R.PRF_POS0 : Nat := 0x3934
/-- PRF.POS1 (R649). -/
abbrev R.PRF_POS1 : Nat := 0x3954
/-- PRF.POS2 (R649). -/
abbrev R.PRF_POS2 : Nat := 0x3974
/-- PRF.POS3 (R649). -/
abbrev R.PRF_POS3 : Nat := 0x3994
/-- PRF.VEL0 (R649). -/
abbrev R.PRF_VEL0 : Nat := 0x3938
/-- PRF.VEL1 (R649). -/
abbrev R.PRF_VEL1 : Nat := 0x3958
/-- PRF.VEL2 (R649). -/
abbrev R.PRF_VEL2 : Nat := 0x3978
/-- PRF.VEL3 (R649). -/
abbrev R.PRF_VEL3 : Nat := 0x3998
/-- PRF.ACC0 (R649). -/
abbrev R.PRF_ACC0 : Nat := 0x393C
/-- PRF.ACC1 (R649). -/
abbrev R.PRF_ACC1 : Nat := 0x395C
/-- PRF.ACC2 (R649). -/
abbrev R.PRF_ACC2 : Nat := 0x397C
/-- PRF.ACC3 (R649). -/
abbrev R.PRF_ACC3 : Nat := 0x399C
/-- RPT.CFG0 (R650). -/
abbrev R.RPT_CFG0 : Nat := 0x3A20
/-- RPT.CFG1 (R650). -/
abbrev R.RPT_CFG1 : Nat := 0x3A40
/-- RPT.SEL0 (R650). -/
abbrev R.RPT_SEL0 : Nat := 0x3A24
/-- RPT.SEL1 (R650). -/
abbrev R.RPT_SEL1 : Nat := 0x3A44
/-- RPT.KL0 (R650). -/
abbrev R.RPT_KL0 : Nat := 0x3A28
/-- RPT.KL1 (R650). -/
abbrev R.RPT_KL1 : Nat := 0x3A48
/-- RPT.WLIM0 (R650). -/
abbrev R.RPT_WLIM0 : Nat := 0x3A2C
/-- RPT.WLIM1 (R650). -/
abbrev R.RPT_WLIM1 : Nat := 0x3A4C
/-- RPT.PHOFS0 (R650). -/
abbrev R.RPT_PHOFS0 : Nat := 0x3A30
/-- RPT.PHOFS1 (R650). -/
abbrev R.RPT_PHOFS1 : Nat := 0x3A50
/-- RPT.BIN0 (R650). -/
abbrev R.RPT_BIN0 : Nat := 0x3A34
/-- RPT.BIN1 (R650). -/
abbrev R.RPT_BIN1 : Nat := 0x3A54
/-- RPT.OUT0 (R650). -/
abbrev R.RPT_OUT0 : Nat := 0x3A38
/-- RPT.OUT1 (R650). -/
abbrev R.RPT_OUT1 : Nat := 0x3A58
/-- RPT.SKIPCT0 (R650). -/
abbrev R.RPT_SKIPCT0 : Nat := 0x3A3C
/-- RPT.SKIPCT1 (R650). -/
abbrev R.RPT_SKIPCT1 : Nat := 0x3A5C
/-- INJ.CFG0 (R651). -/
abbrev R.INJ_CFG0 : Nat := 0x3B20
/-- INJ.CFG1 (R651). -/
abbrev R.INJ_CFG1 : Nat := 0x3B40
/-- INJ.AMP0 (R651). -/
abbrev R.INJ_AMP0 : Nat := 0x3B24
/-- INJ.AMP1 (R651). -/
abbrev R.INJ_AMP1 : Nat := 0x3B44
/-- INJ.FREQ0 (R651). -/
abbrev R.INJ_FREQ0 : Nat := 0x3B28
/-- INJ.FREQ1 (R651). -/
abbrev R.INJ_FREQ1 : Nat := 0x3B48
/-- INJ.DF0 (R651). -/
abbrev R.INJ_DF0 : Nat := 0x3B2C
/-- INJ.DF1 (R651). -/
abbrev R.INJ_DF1 : Nat := 0x3B4C
/-- INJ.LEN0 (R651). -/
abbrev R.INJ_LEN0 : Nat := 0x3B30
/-- INJ.LEN1 (R651). -/
abbrev R.INJ_LEN1 : Nat := 0x3B50
/-- INJ.PHASE0 (R651). -/
abbrev R.INJ_PHASE0 : Nat := 0x3B34
/-- INJ.PHASE1 (R651). -/
abbrev R.INJ_PHASE1 : Nat := 0x3B54
/-- INJ.CNT0 (R651). -/
abbrev R.INJ_CNT0 : Nat := 0x3B38
/-- INJ.CNT1 (R651). -/
abbrev R.INJ_CNT1 : Nat := 0x3B58
/-- INJ.OUT0 (R651). -/
abbrev R.INJ_OUT0 : Nat := 0x3B3C
/-- INJ.OUT1 (R651). -/
abbrev R.INJ_OUT1 : Nat := 0x3B5C
/-- VEC.SEL (R603). -/
abbrev R.VEC_SEL : Nat := 0x3C20
/-- VEC.SEL2 (R603). -/
abbrev R.VEC_SEL2 : Nat := 0x3C24
/-- VEC.HALLMAP (R603). -/
abbrev R.VEC_HALLMAP : Nat := 0x3C28
/-- VEC.HOFS (R603). -/
abbrev R.VEC_HOFS : Nat := 0x3C2C
/-- VEC.HTIMEOUT (R603). -/
abbrev R.VEC_HTIMEOUT : Nat := 0x3C30
/-- VEC.ENC (R603). -/
abbrev R.VEC_ENC : Nat := 0x3C34
/-- VEC.EOFS (R603). -/
abbrev R.VEC_EOFS : Nat := 0x3C38
/-- VEC.OBSR (R603). -/
abbrev R.VEC_OBSR : Nat := 0x3C3C
/-- VEC.OBSLT (R603). -/
abbrev R.VEC_OBSLT : Nat := 0x3C40
/-- VEC.PLLKP (R603). -/
abbrev R.VEC_PLLKP : Nat := 0x3C44
/-- VEC.PLLKI (R603). -/
abbrev R.VEC_PLLKI : Nat := 0x3C48
/-- VEC.PLLSH (R603). -/
abbrev R.VEC_PLLSH : Nat := 0x3C4C
/-- VEC.OBSTHR (R603). -/
abbrev R.VEC_OBSTHR : Nat := 0x3C50
/-- VEC.ADV (R603). -/
abbrev R.VEC_ADV : Nat := 0x3C54
/-- VEC.THETA (R603). -/
abbrev R.VEC_THETA : Nat := 0x3C58
/-- VEC.OMEGA (R603). -/
abbrev R.VEC_OMEGA : Nat := 0x3C5C
/-- VEC.OBSTHETA (R603). -/
abbrev R.VEC_OBSTHETA : Nat := 0x3C60
/-- VEC.OBSERR (R603). -/
abbrev R.VEC_OBSERR : Nat := 0x3C64
/-- VEC.ENCCNT (R603). -/
abbrev R.VEC_ENCCNT : Nat := 0x3C68
/-- TRC.CFG (R652). -/
abbrev R.TRC_CFG : Nat := 0x4020
/-- TRC.CH0 (R652). -/
abbrev R.TRC_CH0 : Nat := 0x4024
/-- TRC.CH1 (R652). -/
abbrev R.TRC_CH1 : Nat := 0x4028
/-- TRC.CH2 (R652). -/
abbrev R.TRC_CH2 : Nat := 0x402C
/-- TRC.CH3 (R652). -/
abbrev R.TRC_CH3 : Nat := 0x4030
/-- TRC.CH4 (R652). -/
abbrev R.TRC_CH4 : Nat := 0x4034
/-- TRC.CH5 (R652). -/
abbrev R.TRC_CH5 : Nat := 0x4038
/-- TRC.CH6 (R652). -/
abbrev R.TRC_CH6 : Nat := 0x403C
/-- TRC.CH7 (R652). -/
abbrev R.TRC_CH7 : Nat := 0x4040
/-- TRC.TRIG (R652). -/
abbrev R.TRC_TRIG : Nat := 0x4044
/-- TRC.TLEV (R652). -/
abbrev R.TRC_TLEV : Nat := 0x4048
/-- TRC.PRE (R652). -/
abbrev R.TRC_PRE : Nat := 0x404C
/-- TRC.POST (R652). -/
abbrev R.TRC_POST : Nat := 0x4050
/-- TRC.WPTR (R652). -/
abbrev R.TRC_WPTR : Nat := 0x4054
/-- TRC.START (R652). -/
abbrev R.TRC_START : Nat := 0x4058
/-- TRC.TRIGIDX (R652). -/
abbrev R.TRC_TRIGIDX : Nat := 0x405C
/-- TRC.LOST (R652). -/
abbrev R.TRC_LOST : Nat := 0x4060
/-- TRC.USER (R652). -/
abbrev R.TRC_USER : Nat := 0x4064
/-- TWN.CFG (R704). -/
abbrev R.TWN_CFG : Nat := 0x4820
/-- TWN.MBASE (R704). -/
abbrev R.TWN_MBASE : Nat := 0x4824
/-- TWN.MSIZE (R704). -/
abbrev R.TWN_MSIZE : Nat := 0x4828
/-- TWN.FWID (R704). -/
abbrev R.TWN_FWID : Nat := 0x482C
/-- TWN.TOL (R704). -/
abbrev R.TWN_TOL : Nat := 0x4830
/-- TWN.XCFG (R704). -/
abbrev R.TWN_XCFG : Nat := 0x4834
/-- TWN.DIG_LO (R704). -/
abbrev R.TWN_DIG_LO : Nat := 0x4838
/-- TWN.DIG_HI (R704). -/
abbrev R.TWN_DIG_HI : Nat := 0x483C
/-- TWN.PDIG_LO (R704). -/
abbrev R.TWN_PDIG_LO : Nat := 0x4840
/-- TWN.PDIG_HI (R704). -/
abbrev R.TWN_PDIG_HI : Nat := 0x4844
/-- TWN.DIGTICK (R704). -/
abbrev R.TWN_DIGTICK : Nat := 0x4848
/-- TWN.DIGOK (R704). -/
abbrev R.TWN_DIGOK : Nat := 0x484C
/-- TWN.UNAGCT (R704). -/
abbrev R.TWN_UNAGCT : Nat := 0x4850
/-- TWN.DISCT (R704). -/
abbrev R.TWN_DISCT : Nat := 0x4854
/-- TWN.XFER (R704). -/
abbrev R.TWN_XFER : Nat := 0x4858
/-- TWN.PUID_LO (R704). -/
abbrev R.TWN_PUID_LO : Nat := 0x485C
/-- TWN.PUID_HI (R704). -/
abbrev R.TWN_PUID_HI : Nat := 0x4860
/-- TWN.LINKERR (R704). -/
abbrev R.TWN_LINKERR : Nat := 0x4864
/-- SLF.CLS (R745). -/
abbrev R.SLF_CLS : Nat := 0x5020
/-- SLF.LASTV (R745). -/
abbrev R.SLF_LASTV : Nat := 0x5024
/-- SLF.LASTU (R745). -/
abbrev R.SLF_LASTU : Nat := 0x5028
/-- SLF.LASTTICK (R745). -/
abbrev R.SLF_LASTTICK : Nat := 0x502C
/-- SLF.BKT0 (R745). -/
abbrev R.SLF_BKT0 : Nat := 0x5030
/-- SLF.BKT1 (R745). -/
abbrev R.SLF_BKT1 : Nat := 0x5034
/-- SLF.BKT2 (R745). -/
abbrev R.SLF_BKT2 : Nat := 0x5038
/-- SLF.DETCT (R745). -/
abbrev R.SLF_DETCT : Nat := 0x503C
/-- SLF.TRANCT (R745). -/
abbrev R.SLF_TRANCT : Nat := 0x5040
/-- SLF.LASTCT (R745). -/
abbrev R.SLF_LASTCT : Nat := 0x5044
/-- SLF.NOTESTCT (R745). -/
abbrev R.SLF_NOTESTCT : Nat := 0x5048
/-- SLF.RIDX (R745). -/
abbrev R.SLF_RIDX : Nat := 0x504C
/-- SLF.RINFO (R745). -/
abbrev R.SLF_RINFO : Nat := 0x5050
/-- SLF.BISTRES (R745). -/
abbrev R.SLF_BISTRES : Nat := 0x5054
/-- SLF.BISTADDR (R745). -/
abbrev R.SLF_BISTADDR : Nat := 0x5058
/-- SLF.PATPOS (R745). -/
abbrev R.SLF_PATPOS : Nat := 0x505C
/-- LCS.CMD (R747). -/
abbrev R.LCS_CMD : Nat := 0x5120
/-- LCS.CHAL0 (R747). -/
abbrev R.LCS_CHAL0 : Nat := 0x5124
/-- LCS.CHAL1 (R747). -/
abbrev R.LCS_CHAL1 : Nat := 0x5128
/-- LCS.CHAL2 (R747). -/
abbrev R.LCS_CHAL2 : Nat := 0x512C
/-- LCS.CHAL3 (R747). -/
abbrev R.LCS_CHAL3 : Nat := 0x5130
/-- LCS.AUTHFAIL (R747). -/
abbrev R.LCS_AUTHFAIL : Nat := 0x5134
/-- LCS.FUSE (R747). -/
abbrev R.LCS_FUSE : Nat := 0x5138
/-- LOG.WPTR (R748). -/
abbrev R.LOG_WPTR : Nat := 0x5220
/-- LOG.PCFG (R748). -/
abbrev R.LOG_PCFG : Nat := 0x5224
/-- LOG.RIDX (R748). -/
abbrev R.LOG_RIDX : Nat := 0x5228
/-- LOG.RD0 (R748). -/
abbrev R.LOG_RD0 : Nat := 0x522C
/-- LOG.RD1 (R748). -/
abbrev R.LOG_RD1 : Nat := 0x5230
/-- LOG.RD2 (R748). -/
abbrev R.LOG_RD2 : Nat := 0x5234
/-- LOG.RD3 (R748). -/
abbrev R.LOG_RD3 : Nat := 0x5238
/-- LOG.PIDX (R748). -/
abbrev R.LOG_PIDX : Nat := 0x523C
/-- LOG.PRD0 (R748). -/
abbrev R.LOG_PRD0 : Nat := 0x5240
/-- LOG.PRD1 (R748). -/
abbrev R.LOG_PRD1 : Nat := 0x5244
/-- LOG.PRD2 (R748). -/
abbrev R.LOG_PRD2 : Nat := 0x5248
/-- LOG.PRD3 (R748). -/
abbrev R.LOG_PRD3 : Nat := 0x524C
/-- LOG.LOSTCT (R748). -/
abbrev R.LOG_LOSTCT : Nat := 0x5250
/-- LOG.OVWRCT (R748). -/
abbrev R.LOG_OVWRCT : Nat := 0x5254
/-- LOG.PLOSTCT (R748). -/
abbrev R.LOG_PLOSTCT : Nat := 0x5258
/-- LOG.USER (R748). -/
abbrev R.LOG_USER : Nat := 0x525C
/-- MON.BAUD (R786). -/
abbrev R.MON_BAUD : Nat := 0x5820
/-- MON.BOOT (R786). -/
abbrev R.MON_BOOT : Nat := 0x5824
/-- MON.GOADDR (R786). -/
abbrev R.MON_GOADDR : Nat := 0x5828
/-- MON.STEPREM (R786). -/
abbrev R.MON_STEPREM : Nat := 0x582C
/-- MON.CRCCT (R786). -/
abbrev R.MON_CRCCT : Nat := 0x5830
/-- MON.OVRCT (R786). -/
abbrev R.MON_OVRCT : Nat := 0x5834
/-- MON.SHADOW (R786). -/
abbrev R.MON_SHADOW : Nat := 0x58FC
/-- HSP.TICKWHY (R785). -/
abbrev R.HSP_TICKWHY : Nat := 0x5920
/-- HSP.FRAMECT (R785). -/
abbrev R.HSP_FRAMECT : Nat := 0x5924
/-- HSP.BUSYCT (R785). -/
abbrev R.HSP_BUSYCT : Nat := 0x5928
/-- HSP.SHADOW (R785). -/
abbrev R.HSP_SHADOW : Nat := 0x59FC
/-- FLS.ADDR (R784). -/
abbrev R.FLS_ADDR : Nat := 0x5A20
/-- FLS.DATA0 (R784). -/
abbrev R.FLS_DATA0 : Nat := 0x5A24
/-- FLS.DATA1 (R784). -/
abbrev R.FLS_DATA1 : Nat := 0x5A28
/-- FLS.DATA2 (R784). -/
abbrev R.FLS_DATA2 : Nat := 0x5A2C
/-- FLS.DATA3 (R784). -/
abbrev R.FLS_DATA3 : Nat := 0x5A30
/-- FLS.PROT0 (R784). -/
abbrev R.FLS_PROT0 : Nat := 0x5A34
/-- FLS.PROT1 (R784). -/
abbrev R.FLS_PROT1 : Nat := 0x5A38
/-- FLS.PROT2 (R784). -/
abbrev R.FLS_PROT2 : Nat := 0x5A3C
/-- FLS.PROT3 (R784). -/
abbrev R.FLS_PROT3 : Nat := 0x5A40
/-- FLS.DPROT (R784). -/
abbrev R.FLS_DPROT : Nat := 0x5A44

/-! The common words of every page (Table 3-1). -/

/-- ID of page `p`. -/
abbrev rID (p : Nat) : Nat := 256 * p
/-- CTRL of page `p`. -/
abbrev rCTRL (p : Nat) : Nat := 256 * p + 4
/-- STAT of page `p`. -/
abbrev rSTAT (p : Nat) : Nat := 256 * p + 8
/-- EVT of page `p`. -/
abbrev rEVT (p : Nat) : Nat := 256 * p + 12
/-- EVEN of page `p`. -/
abbrev rEVEN (p : Nat) : Nat := 256 * p + 16
/-- EVRT of page `p`. -/
abbrev rEVRT (p : Nat) : Nat := 256 * p + 20
/-- FLT of page `p`. -/
abbrev rFLT (p : Nat) : Nat := 256 * p + 24
/-- LOCK of page `p`. -/
abbrev rLOCK (p : Nat) : Nat := 256 * p + 28

/-! Page numbers (Table 3-3). -/

/-- Page SYS (Table 3-3). -/
abbrev P.SYS : Nat := 0x0
/-- Page CLK (Table 3-3). -/
abbrev P.CLK : Nat := 0x1
/-- Page TCK (Table 3-3). -/
abbrev P.TCK : Nat := 0x2
/-- Page PWR (Table 3-3). -/
abbrev P.PWR : Nat := 0x3
/-- Page SUP (Table 3-3). -/
abbrev P.SUP : Nat := 0x4
/-- Page LNK (Table 3-3). -/
abbrev P.LNK : Nat := 0x8
/-- Page LNS (Table 3-3). -/
abbrev P.LNS : Nat := 0x9
/-- Page ISN (Table 3-3). -/
abbrev P.ISN : Nat := 0xA
/-- Page ISC (Table 3-3). -/
abbrev P.ISC : Nat := 0xB
/-- Page CDG (Table 3-3). -/
abbrev P.CDG : Nat := 0xC
/-- Page CYC (Table 3-3). -/
abbrev P.CYC : Nat := 0x10
/-- Page QUE (Table 3-3). -/
abbrev P.QUE : Nat := 0x11
/-- Page CPU (Table 3-3). -/
abbrev P.CPU : Nat := 0x18
/-- Page MPU (Table 3-3). -/
abbrev P.MPU : Nat := 0x19
/-- Page GTE (Table 3-3). -/
abbrev P.GTE : Nat := 0x1A
/-- Page PST (Table 3-3). -/
abbrev P.PST : Nat := 0x20
/-- Page GDR (Table 3-3). -/
abbrev P.GDR : Nat := 0x21
/-- Page of force channel `n`, 0 for A and 1 for B (Table 3-3). -/
abbrev P.FM (n : Nat) : Nat := 0x24 + n
/-- Page ADC (Table 3-3). -/
abbrev P.ADC : Nat := 0x26
/-- Page CAL (Table 3-3). -/
abbrev P.CAL : Nat := 0x27
/-- Page SEQ (Table 3-3). -/
abbrev P.SEQ : Nat := 0x28
/-- Page CTL (Table 3-3). -/
abbrev P.CTL : Nat := 0x30
/-- Page of loop `n` (Table 3-3). -/
abbrev P.LP (n : Nat) : Nat := 0x31 + n
/-- Page PRF (Table 3-3). -/
abbrev P.PRF : Nat := 0x39
/-- Page RPT (Table 3-3). -/
abbrev P.RPT : Nat := 0x3A
/-- Page INJ (Table 3-3). -/
abbrev P.INJ : Nat := 0x3B
/-- Page VEC (Table 3-3). -/
abbrev P.VEC : Nat := 0x3C
/-- Page TRC (Table 3-3). -/
abbrev P.TRC : Nat := 0x40
/-- Page TWN (Table 3-3). -/
abbrev P.TWN : Nat := 0x48
/-- Page SLF (Table 3-3). -/
abbrev P.SLF : Nat := 0x50
/-- Page LCS (Table 3-3). -/
abbrev P.LCS : Nat := 0x51
/-- Page LOG (Table 3-3). -/
abbrev P.LOG : Nat := 0x52
/-- Page MON (Table 3-3). -/
abbrev P.MON : Nat := 0x58
/-- Page HSP (Table 3-3). -/
abbrev P.HSP : Nat := 0x59
/-- Page FLS (Table 3-3). -/
abbrev P.FLS : Nat := 0x5A

/-- The registers of page SYS beside the common words (R116). -/
def pageRegsSYS : List RegDesc :=
  [⟨0x8, .ro, 0x0, 0x0, 0x0⟩,
   ⟨0xC, .w1c, 0x1, 0x0, 0x0⟩,
   ⟨0x20, .w1c, 0xFF, 0x0, 0x1⟩,
   ⟨0x24, .lk, 0x0, 0x3, 0x0⟩,
   ⟨0x28, .rw, 0x13, 0x0, 0x1⟩,
   ⟨0x2C, .rw, 0x33F3F3F, 0x0, 0x3F00⟩,
   ⟨0x30, .ts, 0x3F, 0x0, 0x0⟩,
   ⟨0x34, .ro, 0x0, 0x0, 0x0⟩,
   ⟨0x38, .rw, 0x1, 0x0, 0x0⟩,
   ⟨0x40, .ro, 0x0, 0x0, 0x0⟩,
   ⟨0x44, .ro, 0x0, 0x0, 0x0⟩]
/-- The registers of page CLK beside the common words (R75). -/
def pageRegsCLK : List RegDesc :=
  [⟨0x4, .rw, 0x1, 0x0, 0x0⟩,
   ⟨0x8, .ro, 0x0, 0x0, 0x0⟩,
   ⟨0xC, .w1c, 0xFF, 0x0, 0x0⟩,
   ⟨0x20, .rw, 0xFFFFF, 0x0, 0x30408⟩,
   ⟨0x24, .rw, 0x7FFF, 0x0, 0x9C4⟩,
   ⟨0x28, .rw, 0xFFF, 0x0, 0x0⟩,
   ⟨0x2C, .ro, 0x0, 0x0, 0x0⟩,
   ⟨0x30, .ro, 0x0, 0x0, 0x0⟩,
   ⟨0x34, .ro, 0x0, 0x0, 0x0⟩,
   ⟨0x38, .ro, 0x0, 0x0, 0x0⟩,
   ⟨0x3C, .ro, 0x0, 0x0, 0x0⟩,
   ⟨0x40, .ro, 0x0, 0x0, 0x0⟩,
   ⟨0x44, .ro, 0x0, 0x0, 0x0⟩,
   ⟨0x48, .ro, 0x0, 0x0, 0x0⟩]
/-- The registers of page TCK beside the common words (R77). -/
def pageRegsTCK : List RegDesc :=
  [⟨0x4, .rw, 0x103, 0x230, 0x0⟩,
   ⟨0x8, .ro, 0x0, 0x0, 0x0⟩,
   ⟨0xC, .w1c, 0x7FF, 0x0, 0x0⟩,
   ⟨0x18, .w1c, 0xF, 0x0, 0x0⟩,
   ⟨0x20, .rw, 0x7FF, 0x0, 0x3E8⟩,
   ⟨0x24, .rw, 0x3, 0x0, 0x0⟩,
   ⟨0x28, .rw, 0x3FFFF, 0x0, 0x40⟩,
   ⟨0x2C, .ts, 0x7FFFF, 0x0, 0x100⟩,
   ⟨0x30, .ts, 0x7F, 0x0, 0x8⟩,
   ⟨0x34, .ts, 0xFFFF, 0x0, 0xAAAA⟩,
   ⟨0x38, .ro, 0x0, 0x0, 0xFFFFFFFF⟩,
   ⟨0x3C, .ro, 0x0, 0x0, 0x0⟩,
   ⟨0x40, .ro, 0x0, 0x0, 0x0⟩,
   ⟨0x44, .ro, 0x0, 0x0, 0x0⟩,
   ⟨0x48, .ro, 0x0, 0x0, 0x0⟩,
   ⟨0x4C, .ro, 0x0, 0x0, 0x0⟩,
   ⟨0x50, .ro, 0x0, 0x0, 0x0⟩,
   ⟨0x54, .ro, 0x0, 0x0, 0x0⟩,
   ⟨0x58, .ro, 0x0, 0x0, 0x0⟩,
   ⟨0x5C, .ro, 0x0, 0x0, 0x0⟩,
   ⟨0x60, .ro, 0x0, 0x0, 0xFFFFF⟩]
/-- The registers of page PWR beside the common words (R118). -/
def pageRegsPWR : List RegDesc :=
  [⟨0x4, .rw, 0x30, 0x3, 0x0⟩,
   ⟨0x8, .ro, 0x0, 0x0, 0x0⟩,
   ⟨0xC, .w1c, 0x3F, 0x0, 0x0⟩,
   ⟨0x20, .rw, 0x7F, 0x0, 0x3⟩,
   ⟨0x24, .rw, 0xFFFF03, 0x0, 0x81001⟩,
   ⟨0x28, .ro, 0x0, 0x0, 0x0⟩,
   ⟨0x2C, .rw, 0xFFFFFFFF, 0x0, 0x0⟩,
   ⟨0x30, .ro, 0x0, 0x0, 0x0⟩,
   ⟨0x34, .rw, 0xFFFFFFFF, 0x0, 0x0⟩,
   ⟨0x38, .rw, 0xFFFFFFFF, 0x0, 0x0⟩,
   ⟨0x3C, .rw, 0xFFFFFFFF, 0x0, 0x0⟩,
   ⟨0x40, .rw, 0xFFFFFFFF, 0x0, 0x0⟩]
/-- The registers of page SUP beside the common words (R480). -/
def pageRegsSUP : List RegDesc :=
  [⟨0x8, .ro, 0x0, 0x0, 0x0⟩,
   ⟨0xC, .w1c, 0x7, 0x0, 0x0⟩,
   ⟨0x20, .rw, 0x1F1F, 0x0, 0x1403⟩,
   ⟨0x24, .rw, 0x3, 0x0, 0x3⟩]
/-- The registers of page LNK beside the common words (R209). -/
def pageRegsLNK : List RegDesc :=
  [⟨0x4, .lk, 0x33, 0x100, 0x0⟩,
   ⟨0x8, .ro, 0x0, 0x0, 0xC0⟩,
   ⟨0xC, .w1c, 0xFFF, 0x0, 0x0⟩,
   ⟨0x18, .w1c, 0x7, 0x0, 0x0⟩,
   ⟨0x20, .lk, 0x3FFFFFF, 0x0, 0x22008FF⟩,
   ⟨0x24, .lk, 0xFF0F, 0x0, 0x8000⟩,
   ⟨0x28, .rw, 0x1F, 0x0, 0xA⟩,
   ⟨0x2C, .rw, 0x7F0F, 0x0, 0x3704⟩,
   ⟨0x30, .rw, 0xFFFF, 0x0, 0x3E8⟩,
   ⟨0x34, .ro, 0x0, 0x0, 0x0⟩,
   ⟨0x38, .lk, 0x7, 0x0, 0x0⟩,
   ⟨0x3C, .ro, 0x0, 0x0, 0x0⟩,
   ⟨0x40, .ro, 0x0, 0x0, 0x0⟩]
/-- The registers of page LNS beside the common words (R212). -/
def pageRegsLNS : List RegDesc :=
  [⟨0x4, .rw, 0x2, 0x1, 0x0⟩,
   ⟨0x8, .ro, 0x0, 0x0, 0x0⟩,
   ⟨0xC, .w1c, 0x1, 0x0, 0x0⟩,
   ⟨0x20, .ro, 0x0, 0x0, 0x0⟩,
   ⟨0x24, .ro, 0x0, 0x0, 0x0⟩,
   ⟨0x28, .ro, 0x0, 0x0, 0x0⟩,
   ⟨0x2C, .ro, 0x0, 0x0, 0x0⟩,
   ⟨0x30, .ro, 0x0, 0x0, 0x0⟩,
   ⟨0x34, .ro, 0x0, 0x0, 0x0⟩,
   ⟨0x38, .ro, 0x0, 0x0, 0x0⟩,
   ⟨0x3C, .ro, 0x0, 0x0, 0x0⟩,
   ⟨0x40, .ro, 0x0, 0x0, 0x0⟩,
   ⟨0x44, .ro, 0x0, 0x0, 0x0⟩,
   ⟨0x48, .ro, 0x0, 0x0, 0x0⟩,
   ⟨0x4C, .ro, 0x0, 0x0, 0x0⟩,
   ⟨0x50, .ro, 0x0, 0x0, 0x0⟩,
   ⟨0x54, .ro, 0x0, 0x0, 0x0⟩,
   ⟨0x58, .ro, 0x0, 0x0, 0x0⟩]
/-- The registers of page ISN beside the common words (R285). -/
def pageRegsISN : List RegDesc :=
  [⟨0x4, .lk, 0x3, 0x70, 0x0⟩,
   ⟨0x8, .ro, 0x0, 0x0, 0x70⟩,
   ⟨0xC, .w1c, 0x1FFF, 0x0, 0x0⟩,
   ⟨0x18, .w1c, 0x3, 0x0, 0x0⟩,
   ⟨0x20, .rw, 0x77, 0x0, 0x23⟩,
   ⟨0x24, .rw, 0xFFFFFF7F, 0x0, 0x4003A18⟩,
   ⟨0x28, .rw, 0xF0F, 0x0, 0x606⟩,
   ⟨0x2C, .rw, 0xFF0F, 0x0, 0x8804⟩,
   ⟨0x30, .rw, 0x3F, 0x0, 0x2A⟩,
   ⟨0x34, .rw, 0xFFFFFF, 0x0, 0x0⟩,
   ⟨0x38, .ro, 0x0, 0x0, 0x0⟩,
   ⟨0x3C, .ro, 0x0, 0x0, 0x7FFFFF⟩,
   ⟨0x40, .ro, 0x0, 0x0, 0x7FFFFF⟩,
   ⟨0x44, .ro, 0x0, 0x0, 0x0⟩]
/-- The registers of page ISC beside the common words (R286). -/
def pageRegsISC : List RegDesc :=
  [⟨0x4, .wo, 0x0, 0x1, 0x0⟩,
   ⟨0x20, .ro, 0x0, 0x0, 0x0⟩,
   ⟨0x24, .ro, 0x0, 0x0, 0x0⟩,
   ⟨0x28, .ro, 0x0, 0x0, 0x0⟩,
   ⟨0x2C, .ro, 0x0, 0x0, 0x0⟩,
   ⟨0x30, .ro, 0x0, 0x0, 0x0⟩,
   ⟨0x34, .ro, 0x0, 0x0, 0x0⟩,
   ⟨0x38, .ro, 0x0, 0x0, 0x0⟩,
   ⟨0x3C, .ro, 0x0, 0x0, 0x0⟩,
   ⟨0x40, .ro, 0x0, 0x0, 0x0⟩,
   ⟨0x44, .ro, 0x0, 0x0, 0x0⟩,
   ⟨0x48, .ro, 0x0, 0x0, 0x0⟩,
   ⟨0x4C, .ro, 0x0, 0x0, 0x0⟩,
   ⟨0x50, .ro, 0x0, 0x0, 0x0⟩]
/-- The registers of page CDG beside the common words (R213). -/
def pageRegsCDG : List RegDesc :=
  [⟨0x4, .wo, 0x0, 0x3, 0x0⟩,
   ⟨0x8, .ro, 0x0, 0x0, 0x0⟩,
   ⟨0xC, .w1c, 0xF, 0x0, 0x0⟩,
   ⟨0x20, .rw, 0xFFF7FFF, 0x0, 0x6640DA9⟩,
   ⟨0x24, .ro, 0x0, 0x0, 0x0⟩,
   ⟨0x28, .ro, 0x0, 0x0, 0x0⟩,
   ⟨0x2C, .ro, 0x0, 0x0, 0x0⟩,
   ⟨0x30, .ro, 0x0, 0x0, 0x0⟩,
   ⟨0x34, .ro, 0x0, 0x0, 0x0⟩]
/-- The registers of page CYC beside the common words (R332). -/
def pageRegsCYC : List RegDesc :=
  [⟨0x4, .lk, 0x1, 0x0, 0x0⟩,
   ⟨0x8, .ro, 0x0, 0x0, 0x0⟩,
   ⟨0xC, .w1c, 0x801F, 0x0, 0x0⟩,
   ⟨0x20, .lk, 0xFFFF, 0x0, 0x88B5⟩,
   ⟨0x24, .lk, 0xFFFFFFFF, 0x0, 0x4E000000⟩,
   ⟨0x28, .lk, 0xFFFF, 0x0, 0x24C⟩,
   ⟨0x2C, .lk, 0xFFFFFFFF, 0x0, 0x0⟩,
   ⟨0x30, .lk, 0xFFFF, 0x0, 0x0⟩,
   ⟨0x34, .lk, 0xFFFF, 0x0, 0x0⟩,
   ⟨0x38, .ro, 0x0, 0x0, 0x0⟩,
   ⟨0x3C, .ts, 0x7F3F1F, 0x0, 0x402000⟩,
   ⟨0x40, .rw, 0xFFFF, 0x0, 0xC8⟩,
   ⟨0x44, .ts, 0xFFFF, 0x0, 0x0⟩,
   ⟨0x48, .ts, 0xFFFF, 0x0, 0x0⟩,
   ⟨0x4C, .ts, 0xFFFF, 0x0, 0x0⟩,
   ⟨0x50, .ts, 0xFFFF, 0x0, 0x0⟩,
   ⟨0x54, .ts, 0xFFFF, 0x0, 0x0⟩,
   ⟨0x58, .ts, 0xFFFF, 0x0, 0x0⟩,
   ⟨0x5C, .ts, 0xFFFF, 0x0, 0x0⟩,
   ⟨0x60, .ts, 0xFFFF, 0x0, 0x0⟩,
   ⟨0x64, .ts, 0xFFFF, 0x0, 0x0⟩,
   ⟨0x68, .ts, 0xFFFF, 0x0, 0x0⟩,
   ⟨0x6C, .ts, 0xFFFF, 0x0, 0x0⟩,
   ⟨0x70, .ts, 0xFFFF, 0x0, 0x0⟩] ++
  [⟨0x74, .ts, 0xFFFF, 0x0, 0x0⟩,
   ⟨0x78, .ts, 0xFFFF, 0x0, 0x0⟩,
   ⟨0x7C, .ts, 0xFFFF, 0x0, 0x0⟩,
   ⟨0x80, .ts, 0xFFFF, 0x0, 0x0⟩,
   ⟨0x84, .ro, 0x0, 0x0, 0x0⟩,
   ⟨0x88, .ro, 0x0, 0x0, 0x0⟩,
   ⟨0x8C, .ro, 0x0, 0x0, 0x0⟩,
   ⟨0x90, .ro, 0x0, 0x0, 0x0⟩,
   ⟨0x94, .ro, 0x0, 0x0, 0x0⟩,
   ⟨0x98, .ro, 0x0, 0x0, 0x0⟩,
   ⟨0x9C, .ro, 0x0, 0x0, 0x0⟩,
   ⟨0xA0, .ro, 0x0, 0x0, 0x0⟩,
   ⟨0xA4, .ro, 0x0, 0x0, 0x0⟩,
   ⟨0xFC, .ro, 0x0, 0x0, 0x0⟩]
/-- The registers of page QUE beside the common words (R334). -/
def pageRegsQUE : List RegDesc :=
  [⟨0x4, .rw, 0x1F00, 0x1, 0x0⟩,
   ⟨0x8, .ro, 0x0, 0x0, 0x0⟩,
   ⟨0xC, .w1c, 0x3, 0x0, 0x0⟩,
   ⟨0x20, .ro, 0x0, 0x0, 0x2020⟩,
   ⟨0x24, .ro, 0x0, 0x0, 0x0⟩,
   ⟨0x28, .ro, 0x0, 0x0, 0x0⟩,
   ⟨0x2C, .ro, 0x0, 0x0, 0x0⟩,
   ⟨0x30, .ro, 0x0, 0x0, 0x0⟩]
/-- The registers of page CPU beside the common words (R389). -/
def pageRegsCPU : List RegDesc :=
  [⟨0x4, .wo, 0x0, 0x3, 0x0⟩,
   ⟨0x8, .ro, 0x0, 0x0, 0x2010⟩,
   ⟨0xC, .w1c, 0x800F, 0x0, 0x0⟩,
   ⟨0x18, .w1c, 0x1, 0x0, 0x0⟩,
   ⟨0x20, .rw, 0xFF, 0x0, 0x40⟩,
   ⟨0x24, .ro, 0x0, 0x0, 0x2001F000⟩,
   ⟨0x28, .ro, 0x0, 0x0, 0x2001F000⟩,
   ⟨0x2C, .rw, 0x1FFE0, 0x0, 0x2001FC00⟩,
   ⟨0x30, .ro, 0x0, 0x0, 0x1⟩,
   ⟨0x34, .rw, 0xFFFFFFFF, 0x0, 0x0⟩,
   ⟨0x38, .rw, 0xFFFFFFFF, 0x0, 0x0⟩,
   ⟨0x3C, .ro, 0x0, 0x0, 0x0⟩,
   ⟨0x40, .ro, 0x0, 0x0, 0x0⟩,
   ⟨0x44, .ro, 0x0, 0x0, 0x0⟩,
   ⟨0x48, .ro, 0x0, 0x0, 0x0⟩,
   ⟨0xFC, .ro, 0x0, 0x0, 0x0⟩]
/-- The registers of page MPU beside the common words (R439). -/
def pageRegsMPU : List RegDesc :=
  [⟨0x4, .rw, 0x1, 0x0, 0x0⟩,
   ⟨0x8, .ro, 0x0, 0x0, 0x0⟩,
   ⟨0xC, .w1c, 0x3, 0x0, 0x0⟩,
   ⟨0x20, .rw, 0xFFFFFFE0, 0x0, 0x0⟩,
   ⟨0x24, .rw, 0xFFFFFFE0, 0x0, 0x0⟩,
   ⟨0x28, .rw, 0xFFFFFFE0, 0x0, 0x0⟩,
   ⟨0x2C, .rw, 0xFFFFFFE0, 0x0, 0x0⟩,
   ⟨0x30, .rw, 0xFFFFFFE0, 0x0, 0x0⟩,
   ⟨0x34, .rw, 0xFFFFFFE0, 0x0, 0x0⟩,
   ⟨0x38, .rw, 0xFFFFFFE0, 0x0, 0x0⟩,
   ⟨0x3C, .rw, 0xFFFFFFE0, 0x0, 0x0⟩,
   ⟨0x40, .rw, 0xFFFFFFE0, 0x0, 0x0⟩,
   ⟨0x44, .rw, 0xFFFFFFE0, 0x0, 0x0⟩,
   ⟨0x48, .rw, 0xFFFFFFE0, 0x0, 0x0⟩,
   ⟨0x4C, .rw, 0xFFFFFFE0, 0x0, 0x0⟩,
   ⟨0x50, .rw, 0xFFFFFFE0, 0x0, 0x0⟩,
   ⟨0x54, .rw, 0xFFFFFFE0, 0x0, 0x0⟩,
   ⟨0x58, .rw, 0xFFFFFFE0, 0x0, 0x0⟩,
   ⟨0x5C, .rw, 0xFFFFFFE0, 0x0, 0x0⟩,
   ⟨0x60, .rw, 0xFF, 0x0, 0x0⟩,
   ⟨0x64, .rw, 0xFF, 0x0, 0x0⟩,
   ⟨0x68, .rw, 0xFF, 0x0, 0x0⟩,
   ⟨0x6C, .rw, 0xFF, 0x0, 0x0⟩,
   ⟨0x70, .rw, 0xFF, 0x0, 0x0⟩] ++
  [⟨0x74, .rw, 0xFF, 0x0, 0x0⟩,
   ⟨0x78, .rw, 0xFF, 0x0, 0x0⟩,
   ⟨0x7C, .rw, 0xFF, 0x0, 0x0⟩,
   ⟨0x80, .ro, 0x0, 0x0, 0x0⟩,
   ⟨0x84, .ro, 0x0, 0x0, 0x0⟩]
/-- The registers of page GTE beside the common words (R440). -/
def pageRegsGTE : List RegDesc :=
  [⟨0x4, .rw, 0x1, 0x0, 0x0⟩,
   ⟨0x8, .ro, 0x0, 0x0, 0x0⟩,
   ⟨0xC, .w1c, 0x3, 0x0, 0x0⟩,
   ⟨0x20, .lk, 0xFFFFFE00, 0x0, 0x0⟩,
   ⟨0x24, .ro, 0x0, 0x0, 0x0⟩,
   ⟨0x28, .ro, 0x0, 0x0, 0x0⟩]
/-- The registers of page PST beside the common words (R477). -/
def pageRegsPST : List RegDesc :=
  [⟨0x4, .rw, 0x1, 0x30, 0x0⟩,
   ⟨0x8, .ro, 0x0, 0x0, 0x0⟩,
   ⟨0xC, .w1c, 0x7F, 0x0, 0x0⟩,
   ⟨0x18, .w1c, 0xFFF, 0x0, 0x0⟩,
   ⟨0x20, .lk, 0xFFF0F, 0x0, 0x0⟩,
   ⟨0x24, .lk, 0x1, 0x0, 0x0⟩,
   ⟨0x28, .rw, 0x1FFFF, 0x0, 0x0⟩,
   ⟨0x2C, .rw, 0x1FFFF, 0x0, 0x0⟩,
   ⟨0x30, .rw, 0x1FFFF, 0x0, 0x0⟩,
   ⟨0x34, .rw, 0x1FFFF, 0x0, 0x0⟩,
   ⟨0x38, .rw, 0x3FFFF, 0x0, 0x0⟩,
   ⟨0x3C, .rw, 0x3FFFF, 0x0, 0x0⟩,
   ⟨0x40, .ro, 0x0, 0x0, 0x0⟩,
   ⟨0x44, .ro, 0x0, 0x0, 0x0⟩,
   ⟨0x48, .ro, 0x0, 0x0, 0x0⟩,
   ⟨0x4C, .ro, 0x0, 0x0, 0x0⟩,
   ⟨0x50, .lk, 0xFF033F3F, 0x0, 0x8003F3F⟩,
   ⟨0x54, .ro, 0x0, 0x0, 0x0⟩,
   ⟨0x58, .ro, 0x0, 0x0, 0x0⟩,
   ⟨0x5C, .ro, 0x0, 0x0, 0x0⟩,
   ⟨0x60, .ro, 0x0, 0x0, 0x0⟩]
/-- The registers of page GDR beside the common words (R478). -/
def pageRegsGDR : List RegDesc :=
  [⟨0x20, .rw, 0xFF, 0x0, 0x20⟩,
   ⟨0x24, .rw, 0xFF, 0x0, 0x77⟩,
   ⟨0x28, .rw, 0xFF, 0x0, 0x77⟩,
   ⟨0x2C, .rw, 0xFFF, 0x0, 0x999⟩,
   ⟨0x30, .rw, 0xFF, 0x0, 0x10⟩,
   ⟨0x34, .ro, 0x0, 0x0, 0x0⟩,
   ⟨0x38, .rw, 0x303, 0x0, 0x101⟩]
/-- The registers of page FMA and FMB beside the common words (R522). -/
def pageRegsFM : List RegDesc :=
  [⟨0x4, .ts, 0x73, 0x0, 0x0⟩,
   ⟨0x8, .ro, 0x0, 0x0, 0x2500⟩,
   ⟨0xC, .w1c, 0x7FF, 0x0, 0x0⟩,
   ⟨0x18, .w1c, 0x3, 0x0, 0x0⟩,
   ⟨0x20, .lk, 0x37777F, 0x0, 0x0⟩,
   ⟨0x24, .rw, 0x10, 0x3, 0x0⟩,
   ⟨0x28, .ts, 0xFFFFFFFF, 0x0, 0x0⟩,
   ⟨0x2C, .ts, 0x7FFFFFFF, 0x0, 0x7FFFFFFF⟩,
   ⟨0x30, .ts, 0xFF, 0x0, 0x4⟩,
   ⟨0x34, .ts, 0xFF337737, 0x0, 0x10205025⟩,
   ⟨0x38, .lk, 0x13F3F, 0x0, 0x3F3F⟩,
   ⟨0x3C, .ro, 0x0, 0x0, 0x0⟩,
   ⟨0x40, .ro, 0x0, 0x0, 0x0⟩,
   ⟨0x44, .ro, 0x0, 0x0, 0x0⟩,
   ⟨0x48, .ro, 0x0, 0x0, 0x0⟩,
   ⟨0x4C, .ro, 0x0, 0x0, 0x0⟩,
   ⟨0x50, .ro, 0x0, 0x0, 0x0⟩,
   ⟨0x54, .ro, 0x0, 0x0, 0x0⟩,
   ⟨0x58, .ro, 0x0, 0x0, 0x0⟩]
/-- The registers of page ADC beside the common words (R524). -/
def pageRegsADC : List RegDesc :=
  [⟨0x4, .rw, 0x4, 0x3, 0x0⟩,
   ⟨0x8, .ro, 0x0, 0x0, 0x0⟩,
   ⟨0xC, .w1c, 0x7, 0x0, 0x0⟩,
   ⟨0x18, .w1c, 0x1, 0x0, 0x0⟩,
   ⟨0x20, .rw, 0xFFF0FFF, 0x0, 0x9430A21⟩,
   ⟨0x24, .rw, 0x1FFF0037, 0x0, 0x10000⟩,
   ⟨0x28, .ro, 0x0, 0x0, 0x0⟩,
   ⟨0x2C, .ro, 0x0, 0x0, 0x0⟩,
   ⟨0x30, .ro, 0x0, 0x0, 0x0⟩,
   ⟨0x34, .ro, 0x0, 0x0, 0x0⟩,
   ⟨0x38, .ro, 0x0, 0x0, 0x190⟩,
   ⟨0x3C, .ro, 0x0, 0x0, 0x0⟩,
   ⟨0x40, .ro, 0x0, 0x0, 0x0⟩,
   ⟨0x44, .ro, 0x0, 0x0, 0x0⟩,
   ⟨0x48, .ro, 0x0, 0x0, 0x0⟩,
   ⟨0x4C, .ro, 0x0, 0x0, 0x0⟩,
   ⟨0x50, .ro, 0x0, 0x0, 0x0⟩]
/-- The registers of page CAL beside the common words (R525). -/
def pageRegsCAL : List RegDesc :=
  [⟨0x4, .rw, 0x30, 0x1, 0x0⟩,
   ⟨0x8, .ro, 0x0, 0x0, 0x0⟩,
   ⟨0xC, .w1c, 0x7, 0x0, 0x0⟩,
   ⟨0x20, .ts, 0xFFFFFFFF, 0x0, 0x190⟩,
   ⟨0x24, .rw, 0xFFFFFFFC, 0x0, 0xC003F00⟩,
   ⟨0x30, .lkts, 0xFFFFFFFF, 0x0, 0x0⟩,
   ⟨0x34, .lkts, 0xFFFFFFFF, 0x0, 0x0⟩,
   ⟨0x38, .lkts, 0xFFFFFFFF, 0x0, 0x0⟩,
   ⟨0x3C, .lkts, 0xFFFFFFFF, 0x0, 0x0⟩,
   ⟨0x40, .lkts, 0xFFFFFFFF, 0x0, 0x0⟩,
   ⟨0x44, .lkts, 0xFFFFFFFF, 0x0, 0x0⟩,
   ⟨0x48, .lkts, 0xFFFFFFFF, 0x0, 0x0⟩,
   ⟨0x4C, .lkts, 0xFFFFFFFF, 0x0, 0x0⟩,
   ⟨0x50, .lkts, 0xFFFFFFFF, 0x0, 0x0⟩,
   ⟨0x54, .lkts, 0xFFFFFFFF, 0x0, 0x0⟩,
   ⟨0x58, .lkts, 0xFFFFFFFF, 0x0, 0x0⟩,
   ⟨0x5C, .lkts, 0xFFFFFFFF, 0x0, 0x0⟩,
   ⟨0x60, .lkts, 0xFFFFFFFF, 0x0, 0x0⟩,
   ⟨0x64, .lkts, 0xFFFFFFFF, 0x0, 0x0⟩,
   ⟨0x68, .lkts, 0xFFFFFFFF, 0x0, 0x0⟩,
   ⟨0x6C, .lkts, 0xFFFFFFFF, 0x0, 0x0⟩,
   ⟨0x70, .lkts, 0xFFFFFFFF, 0x0, 0x0⟩,
   ⟨0x74, .lkts, 0xFFFFFFFF, 0x0, 0x0⟩,
   ⟨0x78, .lkts, 0xFFFFFFFF, 0x0, 0x0⟩] ++
  [⟨0x7C, .lkts, 0xFFFFFFFF, 0x0, 0x0⟩,
   ⟨0x80, .lkts, 0xFFFFFFFF, 0x0, 0x0⟩,
   ⟨0x84, .lkts, 0xFFFFFFFF, 0x0, 0x0⟩,
   ⟨0x88, .lkts, 0xFFFFFFFF, 0x0, 0x0⟩,
   ⟨0x8C, .lkts, 0xFFFFFFFF, 0x0, 0x0⟩,
   ⟨0x90, .lkts, 0xFFFFFFFF, 0x0, 0x0⟩,
   ⟨0x94, .lkts, 0xFFFFFFFF, 0x0, 0x0⟩,
   ⟨0x98, .lkts, 0xFFFFFFFF, 0x0, 0x0⟩,
   ⟨0x9C, .lkts, 0xFFFFFFFF, 0x0, 0x0⟩,
   ⟨0xA0, .lkts, 0xFFFFFFFF, 0x0, 0x0⟩,
   ⟨0xA4, .lkts, 0xFFFFFFFF, 0x0, 0x0⟩,
   ⟨0xA8, .lkts, 0xFFFFFFFF, 0x0, 0x0⟩,
   ⟨0xAC, .lkts, 0xFFFFFFFF, 0x0, 0x0⟩,
   ⟨0xB0, .lkts, 0xFFFFFFFF, 0x0, 0x0⟩,
   ⟨0xB4, .lkts, 0xFFFFFFFF, 0x0, 0x0⟩,
   ⟨0xB8, .lkts, 0xFFFFFFFF, 0x0, 0x0⟩,
   ⟨0xBC, .lkts, 0xFFFFFFFF, 0x0, 0x0⟩,
   ⟨0xC0, .lkts, 0xFFFFFFFF, 0x0, 0x0⟩,
   ⟨0xC4, .lkts, 0xFFFFFFFF, 0x0, 0x0⟩,
   ⟨0xC8, .lkts, 0xFFFFFFFF, 0x0, 0x0⟩,
   ⟨0xCC, .lkts, 0xFFFFFFFF, 0x0, 0x0⟩,
   ⟨0xD0, .lkts, 0xFFFFFFFF, 0x0, 0x0⟩,
   ⟨0xD4, .lkts, 0xFFFFFFFF, 0x0, 0x0⟩,
   ⟨0xD8, .lkts, 0xFFFFFFFF, 0x0, 0x0⟩] ++
  [⟨0xDC, .lkts, 0xFFFFFFFF, 0x0, 0x0⟩,
   ⟨0xE0, .lkts, 0xFFFFFFFF, 0x0, 0x0⟩,
   ⟨0xE4, .lkts, 0xFFFFFFFF, 0x0, 0x0⟩,
   ⟨0xE8, .lkts, 0xFFFFFFFF, 0x0, 0x0⟩,
   ⟨0xEC, .lkts, 0xFFFFFFFF, 0x0, 0x0⟩,
   ⟨0xF0, .lkts, 0xFFFFFFFF, 0x0, 0x0⟩,
   ⟨0xF4, .lkts, 0xFFFFFFFF, 0x0, 0x0⟩,
   ⟨0xF8, .lkts, 0xFFFFFFFF, 0x0, 0x0⟩,
   ⟨0xFC, .lkts, 0xFFFFFFFF, 0x0, 0x0⟩]
/-- The registers of page SEQ beside the common words (R559). -/
def pageRegsSEQ : List RegDesc :=
  [⟨0x4, .rw, 0x73300, 0x1F, 0x0⟩,
   ⟨0x8, .ro, 0x0, 0x0, 0x0⟩,
   ⟨0xC, .w1c, 0x1FFF, 0x0, 0x0⟩,
   ⟨0x18, .w1c, 0x1, 0x0, 0x0⟩,
   ⟨0x20, .rw, 0xFF, 0x0, 0x0⟩,
   ⟨0x24, .ro, 0x0, 0x0, 0x0⟩,
   ⟨0x28, .wo, 0x0, 0xC00000FF, 0x0⟩,
   ⟨0x2C, .ro, 0x0, 0x0, 0x0⟩,
   ⟨0x30, .ro, 0x0, 0x0, 0x0⟩,
   ⟨0x34, .rw, 0x3FFE, 0x0, 0x0⟩,
   ⟨0x38, .rw, 0x3FFF, 0x0, 0x1⟩,
   ⟨0x3C, .ro, 0x0, 0x0, 0x0⟩,
   ⟨0x40, .ro, 0x0, 0x0, 0x0⟩,
   ⟨0x44, .rw, 0xFFFFFFFF, 0x0, 0x0⟩,
   ⟨0x48, .rw, 0xFFFFFFFF, 0x0, 0x0⟩,
   ⟨0x4C, .rw, 0xFFFFFFFF, 0x0, 0x0⟩,
   ⟨0x50, .rw, 0xFFFFFFFF, 0x0, 0x0⟩,
   ⟨0x54, .rw, 0x7FFFFFFF, 0x0, 0x7FFFFFFF⟩,
   ⟨0x58, .rw, 0x7FFFFFFF, 0x0, 0x7FFFFFFF⟩,
   ⟨0x5C, .rw, 0x7FFFFFFF, 0x0, 0x7FFFFFFF⟩,
   ⟨0x60, .rw, 0x7FFFFFFF, 0x0, 0x7FFFFFFF⟩,
   ⟨0x64, .rw, 0x3FFF, 0x0, 0x0⟩,
   ⟨0x68, .rw, 0xFFFFFFFF, 0x0, 0x0⟩,
   ⟨0x6C, .rw, 0xFFFFFFFF, 0x0, 0x0⟩] ++
  [⟨0x70, .rw, 0xFF, 0x0, 0x0⟩,
   ⟨0x74, .rw, 0xFFFFFFFF, 0x0, 0x0⟩,
   ⟨0x78, .rw, 0xFFFFFFFF, 0x0, 0x0⟩]
/-- The registers of page CTL beside the common words (R601). -/
def pageRegsCTL : List RegDesc :=
  [⟨0x4, .ts, 0x0, 0x1, 0x0⟩,
   ⟨0x8, .ro, 0x0, 0x0, 0x0⟩,
   ⟨0xC, .w1c, 0x1F, 0x0, 0x0⟩,
   ⟨0x20, .ro, 0x0, 0x0, 0x0⟩,
   ⟨0x24, .ro, 0x0, 0x0, 0x0⟩,
   ⟨0x28, .ro, 0x0, 0x0, 0x0⟩,
   ⟨0x2C, .ro, 0x0, 0x0, 0x0⟩,
   ⟨0x30, .ro, 0x0, 0x0, 0x0⟩,
   ⟨0x34, .ro, 0x0, 0x0, 0x0⟩,
   ⟨0x38, .ro, 0x0, 0x0, 0x0⟩,
   ⟨0x3C, .ro, 0x0, 0x0, 0x0⟩,
   ⟨0x40, .ro, 0x0, 0x0, 0x0⟩,
   ⟨0x44, .ro, 0x0, 0x0, 0x0⟩,
   ⟨0x48, .ro, 0x0, 0x0, 0x0⟩,
   ⟨0x4C, .ro, 0x0, 0x0, 0x0⟩,
   ⟨0x50, .ro, 0x0, 0x0, 0x0⟩,
   ⟨0x54, .ro, 0x0, 0x0, 0x0⟩,
   ⟨0x58, .ro, 0x0, 0x0, 0x0⟩,
   ⟨0x5C, .ro, 0x0, 0x0, 0x0⟩,
   ⟨0x60, .ts, 0xFFFFFFFF, 0x0, 0x0⟩,
   ⟨0x64, .ts, 0xFFFFFFFF, 0x0, 0x0⟩,
   ⟨0x68, .ts, 0xFFFFFFFF, 0x0, 0x0⟩,
   ⟨0x6C, .ts, 0xFFFFFFFF, 0x0, 0x0⟩,
   ⟨0x70, .ts, 0xFFFFFFFF, 0x0, 0x0⟩] ++
  [⟨0x74, .ts, 0xFFFFFFFF, 0x0, 0x0⟩,
   ⟨0x78, .ts, 0xFFFFFFFF, 0x0, 0x0⟩,
   ⟨0x7C, .ts, 0xFFFFFFFF, 0x0, 0x0⟩,
   ⟨0x80, .ts, 0x1FF, 0x0, 0x0⟩,
   ⟨0x84, .ts, 0x1FF, 0x0, 0x0⟩,
   ⟨0x88, .ts, 0x1FF, 0x0, 0x0⟩,
   ⟨0x8C, .ts, 0x1FF, 0x0, 0x0⟩,
   ⟨0x90, .ts, 0x1FF, 0x0, 0x0⟩,
   ⟨0x94, .ts, 0x1FF, 0x0, 0x0⟩,
   ⟨0x98, .ts, 0x1FF01FF, 0x0, 0x0⟩,
   ⟨0x9C, .ts, 0xFFFF, 0x0, 0x0⟩,
   ⟨0xA0, .ts, 0xFFFF, 0x0, 0x0⟩,
   ⟨0xA4, .ts, 0xFFFF, 0x0, 0x0⟩,
   ⟨0xA8, .ro, 0x0, 0x0, 0x0⟩,
   ⟨0xAC, .ro, 0x0, 0x0, 0x0⟩,
   ⟨0xB0, .ro, 0x0, 0x0, 0x0⟩,
   ⟨0xB4, .rw, 0xFF, 0x0, 0x0⟩,
   ⟨0xB8, .ro, 0x0, 0x0, 0x0⟩]
/-- The registers of page LP0 to LP7 beside the common words (R602). -/
def pageRegsLP : List RegDesc :=
  [⟨0x4, .ts, 0x5, 0x2, 0x0⟩,
   ⟨0x8, .ro, 0x0, 0x0, 0x0⟩,
   ⟨0xC, .w1c, 0x7F, 0x0, 0x0⟩,
   ⟨0x20, .ts, 0xFFFFFFFF, 0x0, 0x0⟩,
   ⟨0x24, .ts, 0x7FFFF7, 0x0, 0x0⟩,
   ⟨0x28, .ts, 0xFF, 0x0, 0x0⟩,
   ⟨0x2C, .ts, 0xFFFFFFFF, 0x0, 0x0⟩,
   ⟨0x30, .ts, 0xFFFFFFFF, 0x0, 0x0⟩,
   ⟨0x34, .ts, 0xFFFFFFFF, 0x0, 0x0⟩,
   ⟨0x38, .ts, 0x7FFFFFFF, 0x0, 0x0⟩,
   ⟨0x3C, .ts, 0xFFFFFFFF, 0x0, 0x80000000⟩,
   ⟨0x40, .ts, 0xFFFFFFFF, 0x0, 0x7FFFFFFF⟩,
   ⟨0x44, .ts, 0xFFFFFFFF, 0x0, 0x80000000⟩,
   ⟨0x48, .ts, 0xFFFFFFFF, 0x0, 0x7FFFFFFF⟩,
   ⟨0x4C, .ts, 0xFFFFFFFF, 0x0, 0x0⟩,
   ⟨0x50, .ro, 0x0, 0x0, 0x0⟩,
   ⟨0x54, .ro, 0x0, 0x0, 0x0⟩,
   ⟨0x58, .ro, 0x0, 0x0, 0x0⟩,
   ⟨0x5C, .ro, 0x0, 0x0, 0x0⟩,
   ⟨0x60, .ts, 0xFFFFFFFF, 0x0, 0x0⟩,
   ⟨0x64, .ts, 0xFFFFFFFF, 0x0, 0x0⟩,
   ⟨0x68, .ts, 0xFFFFFFFF, 0x0, 0x0⟩,
   ⟨0x6C, .ts, 0xFFFFFFFF, 0x0, 0x0⟩,
   ⟨0x70, .ts, 0xFFFFFFFF, 0x0, 0x0⟩] ++
  [⟨0x74, .ts, 0x1FFFFFF, 0x0, 0x0⟩,
   ⟨0x78, .ts, 0xFFFFFFFF, 0x0, 0x0⟩,
   ⟨0x7C, .ts, 0xFFFFFFFF, 0x0, 0x0⟩,
   ⟨0x80, .ts, 0xFFFFFFFF, 0x0, 0x0⟩,
   ⟨0x84, .ts, 0xFFFFFFFF, 0x0, 0x0⟩,
   ⟨0x88, .ts, 0xFFFFFFFF, 0x0, 0x0⟩,
   ⟨0x8C, .ts, 0x1FFFFFF, 0x0, 0x0⟩,
   ⟨0x90, .ts, 0xFFFFFFFF, 0x0, 0x0⟩,
   ⟨0x94, .ts, 0xFFFFFFFF, 0x0, 0x0⟩,
   ⟨0x98, .ts, 0xFFFFFFFF, 0x0, 0x0⟩,
   ⟨0x9C, .ts, 0xFFFFFFFF, 0x0, 0x0⟩,
   ⟨0xA0, .ts, 0xFFFFFFFF, 0x0, 0x0⟩,
   ⟨0xA4, .ts, 0x1FFFFFF, 0x0, 0x0⟩,
   ⟨0xA8, .ts, 0xFFFFFFFF, 0x0, 0x0⟩,
   ⟨0xAC, .ts, 0xFFFFFFFF, 0x0, 0x0⟩,
   ⟨0xB0, .ts, 0xFFFFFFFF, 0x0, 0x0⟩,
   ⟨0xB4, .ts, 0xFFFFFFFF, 0x0, 0x0⟩,
   ⟨0xB8, .ts, 0xFFFFFFFF, 0x0, 0x0⟩,
   ⟨0xBC, .ts, 0x1FFFFFF, 0x0, 0x0⟩]
/-- The registers of page PRF beside the common words (R649). -/
def pageRegsPRF : List RegDesc :=
  [⟨0x4, .ts, 0x0, 0xF0F, 0x0⟩,
   ⟨0x8, .ro, 0x0, 0x0, 0x0⟩,
   ⟨0xC, .w1c, 0x1FFF, 0x0, 0x0⟩,
   ⟨0x20, .ts, 0xFF1F03, 0x0, 0x0⟩,
   ⟨0x24, .ts, 0x7FFFFFFF, 0x0, 0x7FFFFFFF⟩,
   ⟨0x28, .ts, 0x7FFFFFFF, 0x0, 0x10000⟩,
   ⟨0x2C, .ts, 0x7FFFFFFF, 0x0, 0x100⟩,
   ⟨0x30, .ts, 0xFFFFFFFF, 0x0, 0x0⟩,
   ⟨0x34, .ro, 0x0, 0x0, 0x0⟩,
   ⟨0x38, .ro, 0x0, 0x0, 0x0⟩,
   ⟨0x3C, .ro, 0x0, 0x0, 0x0⟩,
   ⟨0x40, .ts, 0xFF1F03, 0x0, 0x0⟩,
   ⟨0x44, .ts, 0x7FFFFFFF, 0x0, 0x7FFFFFFF⟩,
   ⟨0x48, .ts, 0x7FFFFFFF, 0x0, 0x10000⟩,
   ⟨0x4C, .ts, 0x7FFFFFFF, 0x0, 0x100⟩,
   ⟨0x50, .ts, 0xFFFFFFFF, 0x0, 0x0⟩,
   ⟨0x54, .ro, 0x0, 0x0, 0x0⟩,
   ⟨0x58, .ro, 0x0, 0x0, 0x0⟩,
   ⟨0x5C, .ro, 0x0, 0x0, 0x0⟩,
   ⟨0x60, .ts, 0xFF1F03, 0x0, 0x0⟩,
   ⟨0x64, .ts, 0x7FFFFFFF, 0x0, 0x7FFFFFFF⟩,
   ⟨0x68, .ts, 0x7FFFFFFF, 0x0, 0x10000⟩,
   ⟨0x6C, .ts, 0x7FFFFFFF, 0x0, 0x100⟩,
   ⟨0x70, .ts, 0xFFFFFFFF, 0x0, 0x0⟩] ++
  [⟨0x74, .ro, 0x0, 0x0, 0x0⟩,
   ⟨0x78, .ro, 0x0, 0x0, 0x0⟩,
   ⟨0x7C, .ro, 0x0, 0x0, 0x0⟩,
   ⟨0x80, .ts, 0xFF1F03, 0x0, 0x0⟩,
   ⟨0x84, .ts, 0x7FFFFFFF, 0x0, 0x7FFFFFFF⟩,
   ⟨0x88, .ts, 0x7FFFFFFF, 0x0, 0x10000⟩,
   ⟨0x8C, .ts, 0x7FFFFFFF, 0x0, 0x100⟩,
   ⟨0x90, .ts, 0xFFFFFFFF, 0x0, 0x0⟩,
   ⟨0x94, .ro, 0x0, 0x0, 0x0⟩,
   ⟨0x98, .ro, 0x0, 0x0, 0x0⟩,
   ⟨0x9C, .ro, 0x0, 0x0, 0x0⟩]
/-- The registers of page RPT beside the common words (R650). -/
def pageRegsRPT : List RegDesc :=
  [⟨0x4, .ts, 0x0, 0x3, 0x0⟩,
   ⟨0x8, .ro, 0x0, 0x0, 0x0⟩,
   ⟨0xC, .w1c, 0x1F, 0x0, 0x0⟩,
   ⟨0x20, .ts, 0xFF01FF1F, 0x0, 0x0⟩,
   ⟨0x24, .ts, 0x1F1FFFFF, 0x0, 0x0⟩,
   ⟨0x28, .ts, 0xFFFFFFFF, 0x0, 0x0⟩,
   ⟨0x2C, .ts, 0x7FFFFFFF, 0x0, 0x7FFFFFFF⟩,
   ⟨0x30, .ts, 0xFFFFFFFF, 0x0, 0x0⟩,
   ⟨0x34, .ro, 0x0, 0x0, 0x0⟩,
   ⟨0x38, .ro, 0x0, 0x0, 0x0⟩,
   ⟨0x3C, .ro, 0x0, 0x0, 0x0⟩,
   ⟨0x40, .ts, 0xFF01FF1F, 0x0, 0x0⟩,
   ⟨0x44, .ts, 0x1F1FFFFF, 0x0, 0x0⟩,
   ⟨0x48, .ts, 0xFFFFFFFF, 0x0, 0x0⟩,
   ⟨0x4C, .ts, 0x7FFFFFFF, 0x0, 0x7FFFFFFF⟩,
   ⟨0x50, .ts, 0xFFFFFFFF, 0x0, 0x0⟩,
   ⟨0x54, .ro, 0x0, 0x0, 0x0⟩,
   ⟨0x58, .ro, 0x0, 0x0, 0x0⟩,
   ⟨0x5C, .ro, 0x0, 0x0, 0x0⟩]
/-- The registers of page INJ beside the common words (R651). -/
def pageRegsINJ : List RegDesc :=
  [⟨0x4, .ts, 0x0, 0x33, 0x0⟩,
   ⟨0x8, .ro, 0x0, 0x0, 0x0⟩,
   ⟨0xC, .w1c, 0x1F, 0x0, 0x0⟩,
   ⟨0x20, .ts, 0xFFFFF03, 0x0, 0x10000⟩,
   ⟨0x24, .ts, 0xFFFFFFFF, 0x0, 0x0⟩,
   ⟨0x28, .ts, 0xFFFFFFFF, 0x0, 0x0⟩,
   ⟨0x2C, .ts, 0xFFFFFFFF, 0x0, 0x0⟩,
   ⟨0x30, .ts, 0xFFFFFFFF, 0x0, 0x0⟩,
   ⟨0x34, .ro, 0x0, 0x0, 0x0⟩,
   ⟨0x38, .ro, 0x0, 0x0, 0x0⟩,
   ⟨0x3C, .ro, 0x0, 0x0, 0x0⟩,
   ⟨0x40, .ts, 0xFFFFF03, 0x0, 0x10000⟩,
   ⟨0x44, .ts, 0xFFFFFFFF, 0x0, 0x0⟩,
   ⟨0x48, .ts, 0xFFFFFFFF, 0x0, 0x0⟩,
   ⟨0x4C, .ts, 0xFFFFFFFF, 0x0, 0x0⟩,
   ⟨0x50, .ts, 0xFFFFFFFF, 0x0, 0x0⟩,
   ⟨0x54, .ro, 0x0, 0x0, 0x0⟩,
   ⟨0x58, .ro, 0x0, 0x0, 0x0⟩,
   ⟨0x5C, .ro, 0x0, 0x0, 0x0⟩]
/-- The registers of page VEC beside the common words (R603). -/
def pageRegsVEC : List RegDesc :=
  [⟨0x4, .ts, 0xF3, 0x0, 0x0⟩,
   ⟨0x8, .ro, 0x0, 0x0, 0x0⟩,
   ⟨0xC, .w1c, 0x7F, 0x0, 0x0⟩,
   ⟨0x20, .ts, 0xFFFFFFFF, 0x0, 0x0⟩,
   ⟨0x24, .ts, 0xFFFF, 0x0, 0x0⟩,
   ⟨0x28, .ts, 0xFFFFFF, 0x0, 0xFFFFFF⟩,
   ⟨0x2C, .ts, 0xFFFFFFFF, 0x0, 0x0⟩,
   ⟨0x30, .ts, 0xFFFF, 0x0, 0xFA0⟩,
   ⟨0x34, .ts, 0xFFFFF, 0x0, 0x11000⟩,
   ⟨0x38, .ts, 0xFFFFFFFF, 0x0, 0x0⟩,
   ⟨0x3C, .ts, 0xFFFFFFFF, 0x0, 0x0⟩,
   ⟨0x40, .ts, 0xFFFFFFFF, 0x0, 0x0⟩,
   ⟨0x44, .ts, 0xFFFFFFFF, 0x0, 0x0⟩,
   ⟨0x48, .ts, 0xFFFFFFFF, 0x0, 0x0⟩,
   ⟨0x4C, .ts, 0x1F1F, 0x0, 0x0⟩,
   ⟨0x50, .ts, 0xFFFFFFFF, 0x0, 0x2000000⟩,
   ⟨0x54, .ts, 0xFFFF, 0x0, 0x0⟩,
   ⟨0x58, .ro, 0x0, 0x0, 0x0⟩,
   ⟨0x5C, .ro, 0x0, 0x0, 0x0⟩,
   ⟨0x60, .ro, 0x0, 0x0, 0x0⟩,
   ⟨0x64, .ro, 0x0, 0x0, 0x0⟩,
   ⟨0x68, .ro, 0x0, 0x0, 0x0⟩]
/-- The registers of page TRC beside the common words (R652). -/
def pageRegsTRC : List RegDesc :=
  [⟨0x4, .wo, 0x0, 0x7, 0x0⟩,
   ⟨0x8, .ro, 0x0, 0x0, 0x0⟩,
   ⟨0xC, .w1c, 0xF, 0x0, 0x0⟩,
   ⟨0x20, .rw, 0xFFFFF, 0x0, 0x0⟩,
   ⟨0x24, .rw, 0xFF, 0x0, 0x0⟩,
   ⟨0x28, .rw, 0xFF, 0x0, 0x0⟩,
   ⟨0x2C, .rw, 0xFF, 0x0, 0x0⟩,
   ⟨0x30, .rw, 0xFF, 0x0, 0x0⟩,
   ⟨0x34, .rw, 0xFF, 0x0, 0x0⟩,
   ⟨0x38, .rw, 0xFF, 0x0, 0x0⟩,
   ⟨0x3C, .rw, 0xFF, 0x0, 0x0⟩,
   ⟨0x40, .rw, 0xFF, 0x0, 0x0⟩,
   ⟨0x44, .rw, 0x3FFF0737, 0x0, 0x0⟩,
   ⟨0x48, .rw, 0xFFFFFFFF, 0x0, 0x0⟩,
   ⟨0x4C, .rw, 0x3FFF, 0x0, 0x0⟩,
   ⟨0x50, .rw, 0x3FFF, 0x0, 0x1⟩,
   ⟨0x54, .ro, 0x0, 0x0, 0x0⟩,
   ⟨0x58, .ro, 0x0, 0x0, 0x0⟩,
   ⟨0x5C, .ro, 0x0, 0x0, 0x0⟩,
   ⟨0x60, .ro, 0x0, 0x0, 0x0⟩,
   ⟨0x64, .wo, 0x0, 0xFFFFFFFF, 0x0⟩]
/-- The registers of page TWN beside the common words (R704). -/
def pageRegsTWN : List RegDesc :=
  [⟨0x4, .wo, 0x0, 0x7, 0x0⟩,
   ⟨0x8, .ro, 0x0, 0x0, 0x0⟩,
   ⟨0xC, .w1c, 0x3FFF, 0x0, 0x0⟩,
   ⟨0x18, .w1c, 0x7, 0x0, 0x0⟩,
   ⟨0x20, .lk, 0x7, 0x0, 0x0⟩,
   ⟨0x24, .lk, 0x1FF00, 0x0, 0x20000000⟩,
   ⟨0x28, .lk, 0x1FF, 0x0, 0x0⟩,
   ⟨0x2C, .lk, 0xFFFFFFFF, 0x0, 0x0⟩,
   ⟨0x30, .rw, 0xFFFF0FFF, 0x0, 0x8020010⟩,
   ⟨0x34, .rw, 0xF, 0x0, 0x4⟩,
   ⟨0x38, .ro, 0x0, 0x0, 0x0⟩,
   ⟨0x3C, .ro, 0x0, 0x0, 0x0⟩,
   ⟨0x40, .ro, 0x0, 0x0, 0x0⟩,
   ⟨0x44, .ro, 0x0, 0x0, 0x0⟩,
   ⟨0x48, .ro, 0x0, 0x0, 0x0⟩,
   ⟨0x4C, .ro, 0x0, 0x0, 0x0⟩,
   ⟨0x50, .ro, 0x0, 0x0, 0x0⟩,
   ⟨0x54, .ro, 0x0, 0x0, 0x0⟩,
   ⟨0x58, .ro, 0x0, 0x0, 0x0⟩,
   ⟨0x5C, .ro, 0x0, 0x0, 0x0⟩,
   ⟨0x60, .ro, 0x0, 0x0, 0x0⟩,
   ⟨0x64, .ro, 0x0, 0x0, 0x0⟩]
/-- The registers of page SLF beside the common words (R745). -/
def pageRegsSLF : List RegDesc :=
  [⟨0x4, .rw, 0x7, 0x700, 0x7⟩,
   ⟨0x8, .ro, 0x0, 0x0, 0x0⟩,
   ⟨0xC, .w1c, 0x1FF, 0x0, 0x0⟩,
   ⟨0x18, .w1c, 0xF, 0x0, 0x0⟩,
   ⟨0x20, .rw, 0xFFFF00FF, 0x0, 0x27100004⟩,
   ⟨0x24, .ro, 0x0, 0x0, 0x0⟩,
   ⟨0x28, .ro, 0x0, 0x0, 0x0⟩,
   ⟨0x2C, .ro, 0x0, 0x0, 0x0⟩,
   ⟨0x30, .ro, 0x0, 0x0, 0x0⟩,
   ⟨0x34, .ro, 0x0, 0x0, 0x0⟩,
   ⟨0x38, .ro, 0x0, 0x0, 0x0⟩,
   ⟨0x3C, .ro, 0x0, 0x0, 0x0⟩,
   ⟨0x40, .ro, 0x0, 0x0, 0x0⟩,
   ⟨0x44, .ro, 0x0, 0x0, 0x0⟩,
   ⟨0x48, .ro, 0x0, 0x0, 0x0⟩,
   ⟨0x4C, .rw, 0x1F, 0x0, 0x0⟩,
   ⟨0x50, .ro, 0x0, 0x0, 0x0⟩,
   ⟨0x54, .ro, 0x0, 0x0, 0x0⟩,
   ⟨0x58, .ro, 0x0, 0x0, 0x0⟩,
   ⟨0x5C, .ro, 0x0, 0x0, 0x0⟩]
/-- The registers of page LCS beside the common words (R747). -/
def pageRegsLCS : List RegDesc :=
  [⟨0x4, .wo, 0x0, 0x1, 0x0⟩,
   ⟨0x8, .ro, 0x0, 0x0, 0x0⟩,
   ⟨0xC, .w1c, 0x7, 0x0, 0x0⟩,
   ⟨0x20, .wo, 0x0, 0xFFFF0007, 0x0⟩,
   ⟨0x24, .ro, 0x0, 0x0, 0x0⟩,
   ⟨0x28, .ro, 0x0, 0x0, 0x0⟩,
   ⟨0x2C, .ro, 0x0, 0x0, 0x0⟩,
   ⟨0x30, .ro, 0x0, 0x0, 0x0⟩,
   ⟨0x34, .ro, 0x0, 0x0, 0x0⟩,
   ⟨0x38, .ro, 0x0, 0x0, 0x0⟩]
/-- The registers of page LOG beside the common words (R748). -/
def pageRegsLOG : List RegDesc :=
  [⟨0x4, .wo, 0x0, 0x3, 0x0⟩,
   ⟨0x8, .ro, 0x0, 0x0, 0x0⟩,
   ⟨0xC, .w1c, 0xF, 0x0, 0x0⟩,
   ⟨0x18, .w1c, 0x1, 0x0, 0x0⟩,
   ⟨0x20, .ro, 0x0, 0x0, 0x0⟩,
   ⟨0x24, .rw, 0xFFFF, 0x0, 0x5B0⟩,
   ⟨0x28, .rw, 0xFF, 0x0, 0x0⟩,
   ⟨0x2C, .ro, 0x0, 0x0, 0x0⟩,
   ⟨0x30, .ro, 0x0, 0x0, 0x0⟩,
   ⟨0x34, .ro, 0x0, 0x0, 0x0⟩,
   ⟨0x38, .ro, 0x0, 0x0, 0x0⟩,
   ⟨0x3C, .rw, 0x1F, 0x0, 0x0⟩,
   ⟨0x40, .ro, 0x0, 0x0, 0x0⟩,
   ⟨0x44, .ro, 0x0, 0x0, 0x0⟩,
   ⟨0x48, .ro, 0x0, 0x0, 0x0⟩,
   ⟨0x4C, .ro, 0x0, 0x0, 0x0⟩,
   ⟨0x50, .ro, 0x0, 0x0, 0x0⟩,
   ⟨0x54, .ro, 0x0, 0x0, 0x0⟩,
   ⟨0x58, .ro, 0x0, 0x0, 0x0⟩,
   ⟨0x5C, .wo, 0x0, 0xFFFFFFFF, 0x0⟩]
/-- The registers of page MON beside the common words (R786). -/
def pageRegsMON : List RegDesc :=
  [⟨0x4, .wo, 0x0, 0x1, 0x0⟩,
   ⟨0x8, .ro, 0x0, 0x0, 0x0⟩,
   ⟨0xC, .w1c, 0x800F, 0x0, 0x0⟩,
   ⟨0x20, .ro, 0x0, 0x0, 0x0⟩,
   ⟨0x24, .ro, 0x0, 0x0, 0x0⟩,
   ⟨0x28, .ro, 0x0, 0x0, 0x0⟩,
   ⟨0x2C, .ro, 0x0, 0x0, 0x0⟩,
   ⟨0x30, .ro, 0x0, 0x0, 0x0⟩,
   ⟨0x34, .ro, 0x0, 0x0, 0x0⟩,
   ⟨0xFC, .ro, 0x0, 0x0, 0x0⟩]
/-- The registers of page HSP beside the common words (R785). -/
def pageRegsHSP : List RegDesc :=
  [⟨0x8, .ro, 0x0, 0x0, 0x0⟩,
   ⟨0xC, .w1c, 0x8007, 0x0, 0x0⟩,
   ⟨0x20, .ro, 0x0, 0x0, 0x0⟩,
   ⟨0x24, .ro, 0x0, 0x0, 0x0⟩,
   ⟨0x28, .ro, 0x0, 0x0, 0x0⟩,
   ⟨0xFC, .ro, 0x0, 0x0, 0x0⟩]
/-- The registers of page FLS beside the common words (R784). -/
def pageRegsFLS : List RegDesc :=
  [⟨0x4, .lk, 0x0, 0x3, 0x0⟩,
   ⟨0x8, .ro, 0x0, 0x0, 0x0⟩,
   ⟨0xC, .w1c, 0x7, 0x0, 0x0⟩,
   ⟨0x18, .w1c, 0x1, 0x0, 0x0⟩,
   ⟨0x20, .rw, 0xFFFFFFFF, 0x0, 0x8000000⟩,
   ⟨0x24, .rw, 0xFFFFFFFF, 0x0, 0x0⟩,
   ⟨0x28, .rw, 0xFFFFFFFF, 0x0, 0x0⟩,
   ⟨0x2C, .rw, 0xFFFFFFFF, 0x0, 0x0⟩,
   ⟨0x30, .rw, 0xFFFFFFFF, 0x0, 0x0⟩,
   ⟨0x34, .rw, 0xFFFFFFFF, 0x0, 0x0⟩,
   ⟨0x38, .rw, 0xFFFFFFFF, 0x0, 0x0⟩,
   ⟨0x3C, .rw, 0xFFFFFFFF, 0x0, 0x0⟩,
   ⟨0x40, .rw, 0xFFFFFFFF, 0x0, 0x0⟩,
   ⟨0x44, .rw, 0xFFFF, 0x0, 0x0⟩]

/-- The register table of a page; `none` where Table 3-3 lists no such page (R122). -/
def pageRegs (p : Nat) : Option (List RegDesc) :=
  match p with
  | 0x0 => some pageRegsSYS
  | 0x1 => some pageRegsCLK
  | 0x2 => some pageRegsTCK
  | 0x3 => some pageRegsPWR
  | 0x4 => some pageRegsSUP
  | 0x8 => some pageRegsLNK
  | 0x9 => some pageRegsLNS
  | 0xA => some pageRegsISN
  | 0xB => some pageRegsISC
  | 0xC => some pageRegsCDG
  | 0x10 => some pageRegsCYC
  | 0x11 => some pageRegsQUE
  | 0x18 => some pageRegsCPU
  | 0x19 => some pageRegsMPU
  | 0x1A => some pageRegsGTE
  | 0x20 => some pageRegsPST
  | 0x21 => some pageRegsGDR
  | 0x24 => some pageRegsFM
  | 0x25 => some pageRegsFM
  | 0x26 => some pageRegsADC
  | 0x27 => some pageRegsCAL
  | 0x28 => some pageRegsSEQ
  | 0x30 => some pageRegsCTL
  | 0x31 => some pageRegsLP
  | 0x32 => some pageRegsLP
  | 0x33 => some pageRegsLP
  | 0x34 => some pageRegsLP
  | 0x35 => some pageRegsLP
  | 0x36 => some pageRegsLP
  | 0x37 => some pageRegsLP
  | 0x38 => some pageRegsLP
  | 0x39 => some pageRegsPRF
  | 0x3A => some pageRegsRPT
  | 0x3B => some pageRegsINJ
  | 0x3C => some pageRegsVEC
  | 0x40 => some pageRegsTRC
  | 0x48 => some pageRegsTWN
  | 0x50 => some pageRegsSLF
  | 0x51 => some pageRegsLCS
  | 0x52 => some pageRegsLOG
  | 0x58 => some pageRegsMON
  | 0x59 => some pageRegsHSP
  | 0x5A => some pageRegsFLS
  | _ => none

/-- Block code and instance of a page (Table 3-3). -/
def blockOf (p : Nat) : Nat × Nat :=
  if 0x31 ≤ p ∧ p ≤ 0x38 then (0x31, p - 0x31) else if p = 0x25 then (0x24, 1) else (p, 0)

/-- The ID word of a page (Table 3-2). -/
def idWord (p : Nat) : Word :=
  wd (p + (blockOf p).1 * 0x100 + (blockOf p).2 * 0x10000 + 0x01000000)

/-- The descriptor of the common word at offset `o`, where the page's own table does not give one (Table 3-1). -/
def commonDesc (o : Nat) : Option RegDesc :=
  match o with
  | 0x00 => some ⟨0x00, .ro, 0, 0, 0⟩
  | 0x04 => some ⟨0x04, .ro, 0, 0, 0⟩
  | 0x08 => some ⟨0x08, .ro, 0, 0, 0⟩
  | 0x0C => some ⟨0x0C, .w1c, 0xFFFF, 0, 0⟩
  | 0x10 => some ⟨0x10, .rw, 0xFFFF, 0, 0⟩
  | 0x14 => some ⟨0x14, .lk, 0xFFFFFFFF, 0, 0⟩
  | 0x18 => some ⟨0x18, .w1c, 0xFFFFFFFF, 0, 0⟩
  | 0x1C => some ⟨0x1C, .rw, 0x03000000, 0xFFFF, 0⟩
  | _ => none

/-- The descriptor of a register by its offset in the window, `none` where no table names it (R124). -/
def regDesc (a : Nat) : Option RegDesc :=
  match pageRegs (a / 256) with
  | none => none
  | some l =>
    match l.find? (fun d => d.off == a % 256) with
    | some d => some d
    | none => commonDesc (a % 256)

/-- Whether the window holds a populated page at this offset (R122, R123). -/
def populated (a : Nat) : Bool := (pageRegs (a / 256)).isSome

/-- The reset value of a register (R3). -/
def resetVal (a : Nat) : Word :=
  if a % 256 = 0 then (if populated a then idWord (a / 256) else 0#32)
  else match regDesc a with
    | some d => wd d.reset
    | none => 0#32

end Sys2Proof.Machine
end

