-- ==== Sys2Proof/Machine/Sparse.lean ====
section
/-! DEFINITION. Sparse data by key in one canonical form: keys strictly rising, no entry equal to its default. -/

namespace Sys2Proof.Machine.Sparse

/-- What the list holds at a key. -/
def find {α : Type} (l : List (Nat × α)) (k : Nat) : Option α :=
  match l with
  | [] => none
  | (k', v) :: t => if k' = k then some v else find t k

/-- Put a value at a key, keeping keys in rising order. -/
def insert {α : Type} (l : List (Nat × α)) (k : Nat) (v : α) : List (Nat × α) :=
  match l with
  | [] => [(k, v)]
  | (k', v') :: t =>
    if k < k' then (k, v) :: (k', v') :: t
    else if k = k' then (k, v) :: t
    else (k', v') :: insert t k v

/-- Remove every entry of a key. -/
def erase {α : Type} (l : List (Nat × α)) (k : Nat) : List (Nat × α) :=
  match l with
  | [] => []
  | (k', v') :: t => if k' = k then erase t k else (k', v') :: erase t k

/-- The value at a key, `d` where nothing is listed. -/
def get {α : Type} (d : Nat → α) (l : List (Nat × α)) (k : Nat) : α := (find l k).getD (d k)

/-- Write a value at a key; writing the default removes the entry. -/
def put {α : Type} [DecidableEq α] (d : Nat → α) (l : List (Nat × α)) (k : Nat) (v : α) : List (Nat × α) :=
  if v = d k then erase l k else insert l k v

/-- Whether every key of the list is above `k`. -/
def above {α : Type} (k : Nat) : List (Nat × α) → Bool
  | [] => true
  | (k', _) :: t => decide (k < k') && above k t

/-- The canonical form. -/
def wf {α : Type} [DecidableEq α] (d : Nat → α) : List (Nat × α) → Bool
  | [] => true
  | (k, v) :: t => above k t && decide (v ≠ d k) && wf d t

end Sys2Proof.Machine.Sparse
end

