-- ==== Sys2Proof/Machine/State.lean ====
section
/-! DEFINITION. The state of the block, all of it plain data, the reasons a step can stop, and the state after reset. -/

namespace Sys2Proof.Machine

/-- The reasons a step can stop with a fault. No command of the table stops the block: its faults are effects on State. -/
inductive Fault where
  /-- Raised by nothing in this model; it stands for a stop the spec gives no effect for. Safe. -/
  | noEffect
  deriving DecidableEq, Repr

/-- The reasons a step can be refused. -/
inductive Refusal where
  /-- Raised by an arm of `exec` whose command has no meaning yet. Safe. -/
  | notModelled (mnemonic : String)
  deriving DecidableEq, Repr

/-- The state of the block. -/
structure State where
  /-- The commands that are waiting, first in, first out. -/
  pending : List Instr
  /-- Every register whose value is not its reset value, by offset in the window (R122). -/
  regs : List (Nat × Word)
  /-- Standing shadows of TS registers (R8 to R10). -/
  shadow : List (Nat × Word)
  /-- Standing action bits of TS registers, ORed (R9). -/
  acts : List (Nat × Word)
  /-- The values core reads return for hardware-changed registers (R69). -/
  snap : List (Nat × Word)
  /-- The bytes of list RAM and bin RAM that hardware has overwritten since phase 63, as they stood then (R69). -/
  snapB : List (Nat × Byte)
  /-- The last writer of each register in this tick (R148). -/
  landed : List (Nat × Path)
  /-- Events of live pages whose routes wait for phase 0: page, event, level (R136). -/
  deferred : List (Nat × Nat × Nat)
  /-- Memory beside the register window, by byte address. -/
  mem : List Host.Cell
  /-- Words and flash lines that read uncorrectable, by address; 1 a word, 2 a line (R718, R759). -/
  bad : List (Nat × Nat)
  /-- List-RAM words whose parity bit has been found wrong (R528, R557). -/
  parBad : List (Nat × Unit)
  /-- List-RAM words written since the RAM's content was last lost: only their parity is known to be right (R528). -/
  parSet : List (Nat × Unit)
  /-- Fused values. -/
  fuses : Fuses
  /-- The line-time counter (R39). -/
  lt : LineTime
  /-- The AON counter (R118). -/
  aon : Word
  /-- How many free values have been drawn (the model's own). -/
  free : Nat
  /-- How often the contents of list RAM, bin RAM and carrier table, and of trace RAM, have been lost (the model's own). -/
  auxGen : Nat
  trcGen : Nat
  clk : ClkSt
  tck : TckSt
  pin : PinSt
  pwr : PwrSt
  slf : SlfSt
  lcs : LcsSt
  log : LogSt
  cyc : CycSt
  pst : PstSt
  trc : TrcSt
  lnk : LnkSt
  isn : IsnSt
  cpu : CpuSt
  fmA : FmSt
  fmB : FmSt
  adc : AdcSt
  seq : SeqSt
  ctl : CtlSt
  vec : VecSt
  gens : List GenSt
  rpts : List RptSt
  injs : List InjSt
  twn : TwnSt
  mon : MonSt
  hsp : HspSt
  fls : FlsSt
  deriving DecidableEq, Repr

/-! ## Reset values

Every field is at the value the spec gives for reset; where the spec gives none the value is zero, none or empty, a design choice (log entries 2 to 8). -/

/-- CLK after reset (Table 1-3, R75). -/
def resetClk : ClkSt := ⟨.osc, false, false, 0, 0, [], false, none, false, false, false, 0#48, none⟩

/-- TCK after reset (R49, Table 1-11). -/
def resetTck : TckSt := ⟨.idle, false, none, 0#32, 0#48, false, 0, 0xFFFFFFFF#32, 0#48, false, 0, false, [], 0#48, false, 0, 0, 0⟩

/-- Levels and samples after reset; what the environment drives is a design choice (log entry 6). -/
def resetPin : PinSt :=
  ⟨false, false, false, false, false, false, false, false, false, [none, none, none, none, none, none], 0, false, false, false, false, false, true⟩

/-- PWR after reset: RUN is the mode the release of reset finds. -/
def resetPwr : PwrSt := ⟨.run, true, 0, false, false, 0, 1, 0#32⟩

/-- An empty self-test lane. -/
def resetLane : Lane := ⟨none, 0, none, 0, false, false⟩

/-- SLF after reset. -/
def resetSlf : SlfSt := ⟨resetLane, resetLane, resetLane, false, 0, 0, [], 0, 0, 0, none, none⟩

/-- Fuses as delivered: every fuse unblown (log entry 4). -/
def resetFuses : Fuses := ⟨0#64, 0#32, 0#8, []⟩

/-- LCS after reset, in BLANK by the fuses (R727). -/
def resetLcs : LcsSt := ⟨0, false, false, false, false, 0⟩

/-- LOG after reset. -/
def resetLog : LogSt := ⟨[], [], 0, false, 0, [], false, []⟩

/-- CYC and QUE after reset. -/
def resetCyc : CycSt := ⟨false, false, none, [], false, [], [], [], none, none, false, false, 0, []⟩

/-- PST after reset. -/
def resetPst : PstSt := ⟨false, .off, false, false, false, 0, false, 0, 0, false, false, 0, false, 0, 0, [], [0, 0, 0, 0], 0, 0, false, false, none⟩

/-- TRC after reset. -/
def resetTrc : TrcSt := ⟨.idle, false, false, false, false, [], [], 0, 0, 0, 0, 0, 0, false, [], [], none, 0⟩

/-- LNK after reset (Table 4-8). -/
def resetLnk : LnkSt :=
  ⟨.down, 0, .off, false, true, 0, false, false, 0, 0, false, false, [], 0x022008FF#32, 0x8000#32, 0xA#32, 0x3704#32, [], [], false, 0, .none, false, 0, 0,
   7, 0, false, false, 0, 0#48, 0#48, 0, false⟩

/-- ISN after reset (Table 5-12). -/
def resetIsn : IsnSt where
  negd := none
  stage := 7
  left := 0
  done := false
  locked := false
  cands := []
  expect := 0
  miss := 0
  txSfn := 0
  rxSfn := 0
  seed := 0
  seedSeq := none
  seedAck := false
  rxSeedNext := none
  seedDone := none
  ltTx := false
  ltRx := false
  cd := 0
  cdSlot := false
  cdSeq := none
  xSent := 0
  prop := none
  msgSeq := 0
  msgq := []
  lpiTx := false
  lpiRx := false
  lpiFirst := false
  rcvTx := false
  rcvRx := false
  rcvPend := false
  rcvAge := 256
  echoHigh := 0
  echoBase := 0
  units := []
  cut := none
  rxBuf := []
  rxStamp := 0#48
  rxStart := 0#48
  skip := true
  rxHdr := 0
  lqiLow := true
  coarse := 0
  fine := 0
  freeze := 0
  snrAcc := []
  eqSet := false
  ecGen := 0
  tcGen := 0
  ecTaps := []
  tcTaps := []
  taps := []
  tapFrag := (0, 0, [])
  tapOn := false
  tapBuf := []
  tapTx := []
  negPage := 0#32
  negOut := []
  negAcks := 0
  txHdr := 0
  txPay := []
  txLevels := []
  txWas := []

/-- The core after reset (R341). -/
def resetCpu : CpuSt :=
  ⟨[], ⟨true, false, false, false, false, false, false⟩, 0#32, 0#32, 0#32, 0#32, 0x100#32, 0#32, 0#32, 0x2001F000#32, 0x2001FFE0#32, 0#32,
   0, 1, false, 0, false, false, true, [], none, false, 0, [], none, 0#32, 0#32⟩

/-- A force channel after reset (Table 10-11). -/
def resetFm : FmSt := ⟨0, false, false, 5, 2, 0, 0, 0, 0, 0, 0, 0, [], [], false⟩

/-- The converters after reset. -/
def resetAdc : AdcSt :=
  ⟨[(0, 0), (0, 0), (0, 0), (0, 0), (0, 0), (0, 0)], 0, false, false, false, false, 0, 0, false, [(0, 0), (0, 0), (0, 0), (0, 0)], [(0, 0), (0, 0), (0, 0), (0, 0)], false, false⟩

/-- The sequencer after reset. -/
def resetSeq : SeqSt :=
  ⟨0, 0, 0, 0, 0#32, 0#32, none, none, false, false, false, false, false, 0, 0, 0, [], 0#32, 0#32, 0, false, 0, 0, 0, 0, false, false, false, false,
   false, none, none, none⟩

/-- A loop after reset. -/
def resetLoop : LoopSt := ⟨0, 0, 0, 0, 0, 0, 0, 0, true, 0, false, false, false, 0⟩

/-- A generator after reset. -/
def resetGen : GenSt := ⟨0, 0, 0, 0, 0, false, false, false, 0, 0⟩

/-- The engine after reset. -/
def resetCtl : CtlSt := ⟨[], List.replicate 8 resetLoop, [0, 0, 0], [false, false, false], 0, false, false, [none, none, none], []⟩

/-- The vector unit after reset. -/
def resetVec : VecSt := ⟨0, 0, 0, 0, none, 0, 0, 0, 0, 0, false, 0, 0⟩

/-- The twin block after reset (Table 14-12). -/
def resetTwn : TwnSt :=
  ⟨0, false, false, false, false, 0, 0, 0, 0, 0, 0, [], [], none, none, false, 0, false, false, none, 0, 0, [], 0, 0, none, false, 0, 0, 0, false, none, [], [],
   [], [], 0, [], [], false⟩

/-- The state right after power-on reset, the reset still in force; RESET_RELEASE starts the part (R89, Table 2-4). -/
def State.reset : State where
  pending := []
  regs := []
  shadow := []
  acts := []
  snap := []
  snapB := []
  landed := []
  deferred := []
  mem := []
  bad := []
  parBad := []
  parSet := []
  fuses := resetFuses
  lt := 0#48
  aon := 0#32
  free := 0
  auxGen := 0
  trcGen := 0
  clk := resetClk
  tck := resetTck
  pin := resetPin
  pwr := resetPwr
  slf := resetSlf
  lcs := resetLcs
  log := resetLog
  cyc := resetCyc
  pst := resetPst
  trc := resetTrc
  lnk := resetLnk
  isn := resetIsn
  cpu := resetCpu
  fmA := resetFm
  fmB := resetFm
  adc := resetAdc
  seq := resetSeq
  ctl := resetCtl
  vec := resetVec
  gens := List.replicate 4 resetGen
  rpts := List.replicate 2 ⟨0, none, false⟩
  injs := List.replicate 2 ⟨false, 0, 0, 0, 0, 0, false⟩
  twn := resetTwn
  mon := ⟨false, none, none, none, false, []⟩
  hsp := ⟨[], 0, none, false, []⟩
  fls := ⟨none, false, 0⟩

end Sys2Proof.Machine
end

