-- ==== Sys2Proof/Machine/Raise.lean ====
section
/-! DEFINITION. The shared operations every block uses: reading and writing a register word, counters, the tick's lengths, events and their routes, sticky faults, the log queue, trace records, and the power stage's output state. -/

namespace Sys2Proof.Machine

/-! ## Registers -/

/-- The stored value of a register. -/
def State.rd (s : State) (a : Nat) : Word := Sparse.get resetVal s.regs a

/-- Store a register value. -/
def State.wr (s : State) (a : Nat) (v : Word) : State :=
  { s with regs := Sparse.put resetVal s.regs a v }

/-- A field of a register. -/
def State.fd (s : State) (a lo w : Nat) : Nat := fld (s.rd a) lo w

/-- Store a field of a register. -/
def State.setF (s : State) (a lo w n : Nat) : State := s.wr a (setFld (s.rd a) lo w n)

/-- One bit of a register. -/
def State.bit (s : State) (a n : Nat) : Bool := bitOf (s.rd a) n

/-- A saturating counter register plus one (R198, R333). -/
def State.inc (s : State) (a : Nat) : State := s.wr a (incSat (s.rd a))

/-! ## The tick's lengths (Table 1-2) -/

/-- Tick period in µs. -/
def State.periodUs (s : State) : Nat := s.fd R.TCK_PERIOD 0 11

/-- Slots in a tick. -/
def State.slots (s : State) : Nat := 2 ^ s.fd R.TCK_SLOTS 0 2

/-- Tick length L in core cycles (R19). -/
def State.tickLen (s : State) : Nat := 160 * s.periodUs

/-- First phase of the guard window. -/
def State.guardG (s : State) : Nat := s.tickLen - 512

/-- TCK is in RUN or HOLDOVER. -/
def State.ticking (s : State) : Bool := s.tck.state = .run || s.tck.state = .holdover

/-- TCK is in IDLE or SAFE, the states in which writes take effect as they land (R10, R52). -/
def State.direct (s : State) : Bool := s.tck.state = .idle || s.tck.state = .safe

/-- The tick source is BENCH (R67). -/
def State.bench (s : State) : Bool := s.fd (rCTRL P.TCK) 0 2 = 2

/-- The phase as event and log entries carry it: divided by 8, or 0xFFFF outside a tick (Table 6-4). -/
def State.phase8 (s : State) : Nat :=
  if s.ticking && s.tck.inTick then s.tck.phase / 8 % 65536 else 0xFFFF

/-- A page whose registers are live (R70). -/
def livePage (p : Nat) : Bool :=
  p = P.CLK || p = P.LNK || p = P.LNS || p = P.ISN || p = P.ISC || p = P.CDG

/-! ## The power stage's output state (Table 9-3) -/

/-- The output state the conditions of Table 9-3 give; PST.STAT.OUT reads it without the twin's hold (R656). -/
def State.outState (s : State) : OutState :=
  if s.pwr.inReset || s.pwr.mode ≠ .run then .off
  else if s.pst.rel && s.ticking && (!s.bench || s.tck.inTick) then .drive
  else .safe

/-- Clear the release (R446). -/
def State.clearRel (s : State) : State := { s with pst := { s.pst with rel := false } }

/-- Ask TCK to enter SAFE at the end of the tick in progress, with a cause (R82). -/
def State.askSafe (s : State) (cause : Nat) : State :=
  if s.ticking then
    { s with tck := { s.tck with safeReq := if cause ∈ s.tck.safeReq then s.tck.safeReq else s.tck.safeReq ++ [cause] } }
  else s

/-! ## Log queue and trace queue -/

/-- Put an entry into the log queue; the flag tells that it was lost (R738). -/
def State.logTry (s : State) (kind page : Nat) (d0 d1 : Word) : State × Bool :=
  if s.log.queue.length ≥ 8 then (s.inc R.LOG_LOSTCT, true)
  else ({ s with log := { s.log with queue := s.log.queue ++ [⟨kind, page, d0, d1⟩] } }, false)

/-- Trace is capturing (R640). -/
def State.tracing (s : State) : Bool :=
  s.trc.state = .run || s.trc.state = .armed || s.trc.state = .post

/-- The place of a record among those of its cycle: POWER, TRIGGER, TICK, STAMP, SAMPLE by channel, EVENT by page and number, USER (R641). -/
def trcRank (r : BitVec 64) : Nat :=
  match (r >>> 60).toNat with
  | 5 => 0
  | 6 => 1
  | 2 => 2
  | 4 => 3
  | 1 => 0x1000 + (r >>> 40).toNat % 8
  | 3 => 0x2000 + r.toNat % 256 * 16 + (r >>> 8).toNat % 16
  | _ => 0x4000

/-- The tick and phase of the cycle, in a tick. -/
def State.cycleMark (s : State) : Option (Word × Nat) := if s.ticking && s.tck.inTick then some (s.tck.now, s.tck.phase) else none

/-- The records at the end of the trace queue that this core cycle of a tick produced. -/
def State.trcSame (s : State) : Nat := if s.cycleMark.isSome && s.trc.mark == s.cycleMark then min s.trc.same s.trc.queue.length else 0

/-- Where in the trace queue a record goes: behind those of earlier cycles, and by rank among those of its own (R641). -/
def State.trcPos (s : State) (r : BitVec 64) : Nat :=
  let k := s.trc.queue.length - s.trcSame
  k + ((s.trc.queue.drop k).takeWhile fun x => decide (trcRank x ≤ trcRank r)).length

/-- What is left to write up to the end of POST where the TRIGGER record goes to place `n` of the queue, or is lost (R638, R643). -/
def State.postFrom (s : State) (n : Nat) : Nat := n + (decide (s.trc.queue.length < 16)).toNat + s.fd R.TRC_POST 0 14

/-- Put a record into the trace queue; the flag tells that a loss is to be reported (R642). -/
def State.trcTry (s : State) (r : BitVec 64) : State × Bool :=
  if !s.tracing then (s, false)
  else if s.trc.queue.length ≥ 16 then
    let s1 := s.inc R.TRC_LOST
    ({ s1 with trc := { s1.trc with lossTick := satAdd 12 s1.trc.lossTick 1, lostRaised := true } }, !s.trc.lostRaised)
  else
    let n := s.trcPos r
    ({ s with trc := { s.trc with queue := s.trc.queue.take n ++ r :: s.trc.queue.drop n, mark := s.cycleMark, same := s.trcSame + 1 } }, false)

/-- A trace record: type, bits 31:0, bits 59:32 (Table 13-3). -/
def trcRec (ty : Nat) (lo : Word) (hi : Nat) : BitVec 64 :=
  BitVec.ofNat 64 (lo.toNat + (hi % 2 ^ 28) * 2 ^ 32 + ty * 2 ^ 60)

/-- An EVENT record. -/
def State.evRecord (s : State) (p n lvl : Nat) : BitVec 64 :=
  trcRec 3 (wd (p + n * 2 ^ 8 + lvl * 2 ^ 12 + s.phase8 * 2 ^ 16)) (s.tck.now.toNat % 2 ^ 28)

/-! ## Events -/

/-- The routing level of an event (Table 3-4). -/
def State.level (s : State) (p n : Nat) : Nat := s.fd (rEVRT p) (2 * n) 2

/-- How an event of an event's own routes is raised: state, page, number. -/
abbrev Up := State → Nat → Nat → State

/-- The REPORT route: an entry in the event queue, or EVLOST (R325). -/
def State.queueRoute (up : Up) (s : State) (p n lvl : Nat) : State :=
  if lvl = 0 then s
  else if s.cyc.evq.length ≥ 64 then
    let s := s.inc R.QUE_EVLOSTCT
    up { s with cyc := { s.cyc with evlost := true } } P.QUE 0
  else { s with cyc := { s.cyc with evq := s.cyc.evq ++ [⟨p, n, lvl, s.phase8, s.tck.now⟩] } }

/-- The RECORD route: an entry in the log (R738). -/
def State.logRoute (up : Up) (s : State) (p n lvl : Nat) : State :=
  if lvl < 2 then s
  else
    let r := s.logTry 1 p (wd (n + lvl * 16 + s.phase8 * 65536)) 0#32
    if r.2 then up r.1 P.LOG 0 else r.1

/-- An EVENT record, where trace takes them (R640, R642). -/
def State.traceRoute (up : Up) (s : State) (p n lvl : Nat) : State :=
  if lvl ≥ 1 && s.bit R.TRC_CFG 4 then
    let r := s.trcTry (s.evRecord p n lvl)
    if r.2 then up r.1 P.TRC 2 else r.1
  else s

/-- The event is the one trace waits for (R644). -/
def State.trigHit (s : State) (p n : Nat) : Bool :=
  s.trc.state = .armed && s.fd R.TRC_TRIG 0 3 == 2 && s.fd R.TRC_TRIG 16 8 == p && s.fd R.TRC_TRIG 24 4 == n && decide (s.trc.armCount ≥ s.fd R.TRC_PRE 0 14)

/-- The trigger of trace by an event: the TRIGGER record, POST, and TRC.EVT.TRIGGER (R644). -/
def State.trigRoute (up : Up) (s : State) (p n : Nat) : State :=
  if s.trigHit p n then
    let n := s.trcPos (trcRec 6 s.tck.now 2)
    let left := s.postFrom n
    let r := s.trcTry (trcRec 6 s.tck.now 2)
    let s := if r.2 then up r.1 P.TRC 2 else r.1
    up { s with trc := { s.trc with state := .post, trigv := true, trigidx := (s.trc.wptr + n) % 16384, postCount := left } } P.TRC 0
  else s

/-- The SAFETY route: the stage enters its safe state and TCK is asked for SAFE (R135, R469). -/
def State.safetyRoute (up : Up) (s : State) (lvl : Nat) : State :=
  if lvl = 3 then
    let was := s.pst.out
    let s := s.clearRel.askSafe 4
    let s := { s with pst := { s.pst with out := s.outState } }
    if was = .drive then up s P.PST 2 else s
  else s

/-- The queue, log and trace routes of an event (R134). -/
def State.routes (up : Up) (s : State) (p n lvl : Nat) : State :=
  ((s.queueRoute up p n lvl).logRoute up p n lvl).traceRoute up p n lvl

/-- Raise event `n` of page `p`: set EVT, and on a change from 0 to 1 trigger trace and take the routes (R132 to R136, R325, R640, R644, R738).
`fuel` bounds the chain of events that an event's own routes raise. -/
def State.raiseN (fuel : Nat) (s : State) (p n : Nat) : State :=
  match fuel with
  | 0 => s.wr (rEVT p) (setBit (s.rd (rEVT p)) n true)
  | k + 1 =>
    if s.bit (rEVT p) n then s
    else
      let s := (s.wr (rEVT p) (setBit (s.rd (rEVT p)) n true)).trigRoute (State.raiseN k) p n
      if !s.bit (rEVEN p) n then s
      else
        let lvl := s.level p n
        let s := if livePage p && s.ticking then { s with deferred := s.deferred ++ [(p, n, lvl)] } else s.routes (State.raiseN k) p n lvl
        s.safetyRoute (State.raiseN k) lvl

/-- Raise an event. -/
def State.raise (s : State) (p n : Nat) : State := s.raiseN 8 p n

/-- Raise an event when a condition holds. -/
def State.raiseIf (s : State) (c : Bool) (p n : Nat) : State := if c then s.raise p n else s

/-- Write a log entry through the queue, raising LOST when it is lost (R738). -/
def State.logPush (s : State) (kind page : Nat) (d0 d1 : Word) : State :=
  let r := s.logTry kind page d0 d1
  if r.2 then r.1.raise P.LOG 0 else r.1

/-- Produce a trace record, raising LOST when a loss is first met in a tick (R642). -/
def State.trcPush (s : State) (r0 : BitVec 64) : State :=
  let r := s.trcTry r0
  if r.2 then r.1.raise P.TRC 2 else r.1

/-- Present the routes of one deferred event (R136). -/
def State.present (s : State) (e : Nat × Nat × Nat) : State := s.routes State.raise e.1 e.2.1 e.2.2

/-- A deferred event takes its place by page and event number (R641). -/
def inOrder (e : Nat × Nat × Nat) : List (Nat × Nat × Nat) → List (Nat × Nat × Nat)
  | [] => [e]
  | x :: t => if 16 * e.1 + e.2.1 < 16 * x.1 + x.2.1 then e :: x :: t else x :: inOrder e t

/-- Present every deferred event, by page and event number (R136, R641). -/
def State.presentAll (s : State) : State :=
  let l := s.deferred.foldl (fun l e => inOrder e l) []
  l.foldl State.present { s with deferred := [] }

/-- Set a sticky fault bit; a change from 0 to 1 writes a FAULT entry (R139). -/
def State.setFlt (s : State) (p n : Nat) : State :=
  if s.bit (rFLT p) n then s
  else
    let v := setBit (s.rd (rFLT p)) n true
    (s.wr (rFLT p) v).logPush 2 p (wd n) v

/-- The safety condition of event `n` of page `p` holds (R134). -/
def State.safetyOf (s : State) (p n : Nat) : Bool :=
  s.bit (rEVT p) n && s.bit (rEVEN p) n && s.level p n == 3

/-- The populated pages. -/
def allPages : List Nat :=
  [0x00, 0x01, 0x02, 0x03, 0x04, 0x08, 0x09, 0x0A, 0x0B, 0x0C, 0x10, 0x11, 0x18, 0x19, 0x1A, 0x20, 0x21, 0x24, 0x25, 0x26,
   0x27, 0x28] ++
  [0x30, 0x31, 0x32, 0x33, 0x34, 0x35, 0x36, 0x37, 0x38, 0x39, 0x3A, 0x3B, 0x3C, 0x40, 0x48, 0x50, 0x51, 0x52, 0x58, 0x59, 0x5A]

/-- Some safety route is true on some page. -/
def State.safetyAny (s : State) : Bool :=
  allPages.any fun p => (List.range 16).any fun n => s.safetyOf p n

/-! ## Entering the safe state -/

/-- Follow Table 9-3; an entry to SAFE from DRIVE raises SAFE_ENTER (R469), an entry to OFF clears the release (R446). -/
def State.syncOut (s : State) : State :=
  let was := s.pst.out
  let s := if s.outState = .off then s.clearRel else s
  let s := { s with pst := { s.pst with out := s.outState } }
  if was = .drive && s.pst.out = .safe then s.raise P.PST 2 else s

/-- A request of Table 9-7 or a monitor latch places the stage in SAFE (R446, R468). -/
def State.stageSafe (s : State) : State := s.clearRel.syncOut

/-- The reaction to a safety condition becoming true (R135). -/
def State.safetyAct (s : State) : State := (s.askSafe 4).stageSafe

end Sys2Proof.Machine
end

