-- ==== Sys2Proof/Machine/Ops.lean ====
section
/-! DEFINITION. Memory and the writes the hardware itself makes: bytes and words, what an unlisted byte reads as, words that read uncorrectable, and the twin's record of writes to tracked state. -/

namespace Sys2Proof.Machine

/-! ## Regions -/

/-- Addresses of SRAM (Table 7-3). -/
def inSram (a : Nat) : Bool := decide (0x20000000 ≤ a) && decide (a ≤ 0x2001FFFF)

/-- Addresses of program flash (R757). -/
def inPflash (a : Nat) : Bool := decide (0x08000000 ≤ a) && decide (a ≤ 0x0807FFFF)

/-- Addresses of data flash (R757). -/
def inDflash (a : Nat) : Bool := decide (0x0C000000 ≤ a) && decide (a ≤ 0x0C003FFF)

/-- Addresses of list RAM (R527). -/
def inList (a : Nat) : Bool := decide (0x30000000 ≤ a) && decide (a ≤ 0x3001FFFF)

/-- Addresses of bin RAM (chapter 13). -/
def inBin (a : Nat) : Bool := decide (0x32000000 ≤ a) && decide (a ≤ 0x320007FF)

/-- Addresses of the carrier table (R287). -/
def inCarr (a : Nat) : Bool := decide (0x33000000 ≤ a) && decide (a ≤ 0x330003FF)

/-! ## Bytes and words -/

/-- What an address that is not listed reads as: boot ROM's content, an erased flash byte (R757), zero in SRAM, which every reset fills with zeros (R811), zero in the carrier table (Table 5-15), a byte of
another RAM at power-on (zero, log entry 7), or, once that RAM's content has been lost, a free value. -/
def ramByte (auxGen a : Nat) : Byte :=
  if a ≤ 0x7FFF then Config.bootRom a
  else if inPflash a || inDflash a then 0xFF#8
  else if inSram a || inCarr a || auxGen == 0 then 0#8
  else Config.lostRam auxGen a

/-- The byte at an address. -/
def State.rdB (s : State) (a : Nat) : Byte := Sparse.get (ramByte s.auxGen) s.mem a

/-- Write one byte. -/
def State.wrB (s : State) (a : Nat) (v : Byte) : State :=
  { s with mem := Sparse.put (ramByte s.auxGen) s.mem a v }

/-- The form memory keeps: rising addresses, no entry equal to what an unlisted address reads as. -/
def State.memWf (s : State) : Bool := Sparse.wf (ramByte s.auxGen) s.mem

/-- A little-endian value of `w` bytes (R11). -/
def State.rdN (s : State) (a : Nat) : Nat → Nat
  | 0 => 0
  | w + 1 => (s.rdB a).toNat + 256 * s.rdN (a + 1) w

/-- A word. -/
def State.rdW (s : State) (a : Nat) : Word := wd (s.rdN a 4)

/-- Write the low `w` bytes of a number, little-endian (R11). -/
def State.wrN (s : State) (a v : Nat) : Nat → State
  | 0 => s
  | w + 1 => (s.wrB a (BitVec.ofNat 8 v)).wrN (a + 1) (v / 256) w

/-- Write a word. -/
def State.wrW (s : State) (a : Nat) (v : Word) : State := s.wrN a v.toNat 4

/-- A word or flash line that reads uncorrectable (R718, R743). -/
def State.badWord (s : State) (a : Nat) : Bool :=
  (Sparse.find s.bad (a - a % 4)).isSome || (Sparse.find s.bad (a - a % 16) == some 2)

/-- A write of a whole word gives it sound check bits (R718). -/
def State.soundWord (s : State) (a : Nat) : State := { s with bad := Sparse.erase s.bad (a - a % 4) }

/-- A list-RAM word reads with wrong parity: it was found so, or its content is undefined and its parity with it (R528). -/
def State.parWrong (s : State) (w : Nat) : Bool :=
  (Sparse.find s.parBad w).isSome || (s.auxGen != 0 && (Sparse.find s.parSet w).isNone && Config.lostParity s.auxGen w)

/-! ## Tracked state (Table 14-4) -/

/-- The tracked register pages, in the table's order. -/
def trackedPages : List Nat :=
  [P.TCK, P.SUP, P.MPU, P.GTE, P.PST, P.GDR, 0x24, 0x25, P.ADC, P.SEQ, P.CTL, 0x31, 0x32, 0x33, 0x34, 0x35, 0x36, 0x37, 0x38,
   P.PRF, P.RPT, P.INJ, P.VEC]

/-- The transfer page of an address: mirrored region 0 to 255, register pages from 256, bin RAM from 279, segment table from 287, list RAM from 295
(numbers DEDUCED from the counts of Tables 14-4 and 14-10). -/
def State.twinPage (s : State) (a : Nat) : Option Nat :=
  let mb := (s.rd R.TWN_MBASE).toNat
  if inSram a then
    if mb ≤ a ∧ a < mb + 256 * s.fd R.TWN_MSIZE 0 9 then some ((a - mb) / 256) else none
  else if 0x40000000 ≤ a ∧ a ≤ 0x4000FFFF then
    (trackedPages.findIdx? (· == (a - 0x40000000) / 256)).map (· + 256)
  else if inBin a then some (279 + (a - 0x32000000) / 256)
  else if inList a ∧ s.bit R.TWN_CFG 1 then some (295 + (a - 0x30000000) / 256)
  else none

/-- The phase moves on to `p`, where it has not passed it. -/
def State.atPhase (s : State) (p : Nat) : State :=
  if s.ticking && s.tck.inTick then { s with tck := { s.tck with phase := max s.tck.phase p } } else s

/-- A packet between its K27.7 and K29.7: TYPE, body and CRC (R663). -/
def twinPkt (l : List Byte) : List Byte := l ++ beOctets 2 (crc16 l)

/-- A CTRL packet with a message code; the codes are the model's own, the messages being the spec's. With its framing it has at least 8 octets (Table 14-5), so that a shorter body
ends in octets of zero (DESIGN CHOICE, log entry 58). -/
def ctrlPkt (code : Nat) (body : List Byte) : List Byte := [0x05#8, BitVec.ofNat 8 code] ++ body ++ List.replicate (2 - body.length) 0#8

/-- The tracked state of a shadow in TRACK changes by the transfer alone (R700). -/
def State.frozen (s : State) : Bool := s.twn.pstate == 2 && !s.twn.role

/-- A local page: no tracked one, nor the CPU page, which the join image carries (Table 14-4). -/
def localPage (p : Nat) : Bool := !trackedPages.contains p && p != P.CPU

/-- A local register: one of a local page, or the raw codes and the die temperature of ADC (Table 14-4). -/
def localWord (a : Nat) : Bool := localPage (a / 256) || (decide (R.ADC_RAW0 ≤ a) && decide (a ≤ R.ADC_RAW0 + 20)) || a == R.ADC_PRAW || a == R.ADC_TDIE

/-- A packet leaves, given its TYPE and body. -/
def State.sendTwin (s : State) (l : List Byte) : State := { s with twn := { s.twn with sent := [twinPkt l], image := [] } }

/-- The device belongs to a joined pair (R658). -/
def State.paired (s : State) : Bool :=
  (decide (2 ≤ s.twn.pstate) && decide (s.twn.pstate ≤ 5)) || (s.twn.pstate == 6 && !s.twn.role)

/-- Mark a transfer page dirty at the lead (R699). -/
def State.markDirty (s : State) (p : Nat) : State :=
  if s.twn.pstate = 2 ∧ s.twn.role then
    { s with twn := { s.twn with dirty := if p ∈ s.twn.dirty then s.twn.dirty else s.twn.dirty ++ [p] } }
  else s

/-- The keys of the entries at the end of the digest stream that landed in this core cycle of a tick (R685). -/
def State.digNow (s : State) : List Nat := if s.cycleMark.isSome && s.twn.digMark == s.cycleMark then s.twn.digKeys else []

/-- An entry of the digest stream: behind those of earlier cycles, and among those of its own cycle by key, which is the address for a write of the engine, Owl or the sequencer,
and above every address for the writes that follow those (R685). -/
def State.digPut (s : State) (key : Nat) (e : Nat × Nat × Word) : State :=
  let ks := s.digNow
  let lo := ks.takeWhile fun k => decide (k ≤ key)
  let n := s.twn.digq.length - ks.length + lo.length
  { s with twn := { s.twn with digq := s.twn.digq.take n ++ e :: s.twn.digq.drop n, digKeys := lo ++ key :: ks.drop lo.length, digMark := s.cycleMark } }

/-- The key of a write to address `a` of class 0 (the engine, Owl and the sequencer), 1 (an access path's register write) or 2 (a memory write). -/
def digKey (cls a : Nat) : Nat := if cls = 0 then a else 2 ^ 32 * cls

/-- Record a write that landed on tracked state: the digest stream, which covers list RAM whatever XLIST says, and the dirty page (R685, R699, Table 14-4). `cls` is as in
`digKey`. -/
def State.note (s : State) (w a : Nat) (d : Word) (cls : Nat := 1) : State :=
  if 2 ≤ s.twn.pstate ∧ s.twn.pstate ≤ 5 then
    let t (s : State) : State := s.digPut (digKey cls a) (w, a, d)
    match s.twinPage a with
    | some p => (t s).markDirty p
    | none => if inList a then t s else s
  else s

/-- The value of phase 63 stands for core reads: the tick is past it (R69). -/
def State.snapping (s : State) : Bool := s.ticking && s.tck.inTick && decide (63 ≤ s.tck.phase)

/-- Core reads keep the value a register holds now, where hardware is about to change it (R69). -/
def State.keepReg (s : State) (off : Nat) : State :=
  if s.snapping && (Sparse.find s.snap off).isNone then { s with snap := Sparse.insert s.snap off (s.rd off) } else s

/-- A write by the engine, Owl or the sequencer to a register (R69, R685). -/
def State.hw (s : State) (off : Nat) (v : Word) : State := ((s.keepReg off).wr off v).note 4 (0x40000000 + off) v 0

/-- A field written by the hardware. -/
def State.hwF (s : State) (off lo w n : Nat) : State := s.hw off (setFld (s.rd off) lo w n)

/-- A store of `w` bytes to memory: bytes, check bits or parity, and the twin's record; `cls` is 0 where the engine or the sequencer stores (R685). -/
def State.putMem (s : State) (a w : Nat) (v : Word) (cls : Nat := 2) : State :=
  let s := s.wrN a v.toNat w
  let s := if w = 4 then s.soundWord a else s
  let s :=
    if inList a then
      { s with parBad := Sparse.erase s.parBad ((a - 0x30000000) / 4), parSet := Sparse.insert s.parSet ((a - 0x30000000) / 4) () }
    else s
  s.note w a (wd (v.toNat % 2 ^ (8 * w))) cls

/-- The carrier table (R287). -/
def inCarrier (a : Nat) : Bool := decide (0x33000000 ≤ a) && decide (a < 0x33000400)

/-- What a store by an access path leaves in a word of the carrier table: MASK alone is RW, in entries 3 to 60 (R287, Table 5-15). -/
def State.carrierWord (s : State) (a : Nat) (v : Word) : Word :=
  let k := (a - 0x33000000) / 16
  if a % 16 = 8 ∧ 3 ≤ k ∧ k ≤ 60 then setFld (s.rdW a) 31 1 (fld v 31 1) else s.rdW a

/-- A store by an access path: a core read of these bytes finds what was stored. -/
def State.memStore (s : State) (a w : Nat) (v : Word) : State :=
  let v := if inCarrier a then s.carrierWord a v else v
  ({ s with snapB := (List.range w).foldl (fun l i => Sparse.erase l (a + i)) s.snapB } : State).putMem a w v

/-- A store of a word by the hardware: core reads keep the bytes of phase 63 (R69). -/
def State.hwStore (s : State) (a : Nat) (v : Word) : State :=
  let keep (l : List (Nat × Byte)) (i : Nat) : List (Nat × Byte) :=
    if (Sparse.find l (a + i)).isNone then Sparse.insert l (a + i) (s.rdB (a + i)) else l
  let s := if s.snapping then { s with snapB := (List.range 4).foldl keep s.snapB } else s
  s.putMem a 4 v 0

/-- Draw a fresh free value of 128 bits. -/
def State.draw (s : State) : State × BitVec 128 := ({ s with free := s.free + 1 }, Config.noise s.free)

end Sys2Proof.Machine
end

