-- ==== Sys2Proof/Machine/Slf.lean ====
section
/-! DEFINITION. Self-test and the event log: reports, lanes, verdicts, spare rows, patrol, log entries and the persistent area (chapter 15). -/

namespace Sys2Proof.Machine

/-! ## Tests and lanes (Tables 15-1 and 15-2) -/

/-- The test of a source. -/
def testOf (src : Nat) : Nat :=
  match src with
  | 1 | 2 => 1
  | 3 | 4 => 2
  | 5 => 3
  | 6 | 0xE => 4
  | 7 | 8 => 6
  | 9 => 7
  | 0xA => 8
  | 0xB => 9
  | 0xC => 10
  | 0xD => 5
  | _ => 0

/-- The lane of a test: 0 MEM, 1 ANA, 2 SYS. -/
def laneOf (test : Nat) : Nat := if test ≤ 3 then 0 else if test ≤ 5 then 1 else 2

/-- How a unit names what its test works on: a row, a line, a point or the unit itself (R714 and its corner case). -/
def unitKey (test : Nat) (u : Word) : Nat :=
  if test = 1 then u.toNat / 128 else if test = 2 then u.toNat / 16 else u.toNat

/-- A lane of State. -/
def State.lane (s : State) (l : Nat) : Lane := if l = 0 then s.slf.mem else if l = 1 then s.slf.ana else s.slf.sys

/-- Store a lane. -/
def State.setLane (s : State) (l : Nat) (x : Lane) : State :=
  if l = 0 then { s with slf := { s.slf with mem := x } }
  else if l = 1 then { s with slf := { s.slf with ana := x } }
  else { s with slf := { s.slf with sys := x } }

/-- The bucket of a test (R709). -/
def State.bucket (s : State) (test : Nat) : Nat := s.fd (R.SLF_BKT0 + 4 * ((test - 1) / 4)) (8 * ((test - 1) % 4)) 8

/-- Store a bucket. -/
def State.setBucket (s : State) (test n : Nat) : State :=
  s.setF (R.SLF_BKT0 + 4 * ((test - 1) / 4)) (8 * ((test - 1) % 4)) 8 n

/-- Add 1 to a bucket with saturation. -/
def State.incBucket (s : State) (test : Nat) : State :=
  let b := s.bucket test
  s.setBucket test (if b ≥ 255 then 255 else b + 1)

/-! ## Verdicts (R708, R709, R720) -/

/-- The data word of a DETECT entry. -/
def detWord (src test : Nat) : Word := wd (src + test * 256)

/-- The data word of a VERDICT entry, as SLF.LASTV holds it. -/
def verdictWord (j : Job) (res bucket : Nat) (lasting : Bool) : Word :=
  wd (j.src + j.test * 256 + res * 4096 + lasting.toNat * 16384 + bucket * 65536)

/-- SLF's registers of the last verdict, and its event. -/
def State.noteLast (s : State) (j : Job) (d0 : Word) : State :=
  (((s.wr R.SLF_LASTV d0).wr R.SLF_LASTU j.unit).wr R.SLF_LASTTICK s.tck.now).raise P.SLF 1

/-- A test that has not run. -/
def State.noteNoTest (s : State) : State := (s.raise P.SLF 3).inc R.SLF_NOTESTCT

/-- A row that a spare has replaced. -/
def State.noteRepair (s : State) (unit : Word) (spare : Nat) : State :=
  let a := unit.toNat - 0x20000000
  (s.raise P.SLF 4).logPush 5 P.SLF (wd (a / 8192 + (a % 8192 / 128) * 16 + spare * 4096)) (wd (0x20000000 + a / 128 * 128))

/-- A lasting verdict. -/
def State.noteLasting (s : State) : State :=
  (({ s with slf := { s.slf with lastLasting := some 0 } } : State).raise P.SLF 2).setFlt P.SLF 0

/-- The verdict of a disagreement goes to the twin. -/
def State.tellTwin (s : State) (v : Nat) : State :=
  ({ s with twn := { s.twn with
    verdL := if s.twn.role then v else s.twn.verdL
    verdS := if s.twn.role then s.twn.verdS else v } } : State).sendTwin (ctrlPkt 3 [BitVec.ofNat 8 v])

/-- An ECAN test runs or waits (R722). -/
def State.ecanWaits (s : State) : Bool :=
  let is9 (o : Option Job) : Bool := match o with
    | some j => j.test == 9
    | none => false
  is9 s.slf.sys.run || is9 s.slf.sys.pend

/-- Write a verdict, the ECAN's ending the silence of R722: RESULT `res` is 0 PASS, 1 FAIL, 2 REPAIRED, 3 NOTEST; `spare` is the spare a REPAIRED row went to. -/
def State.verdict (s : State) (j : Job) (res spare : Nat) : State :=
  let b := s.bucket j.test
  let lasting := res == 1 || decide (b ≥ s.fd R.SLF_CLS 0 8)
  let d0 := verdictWord j res b lasting
  let s := (s.noteLast j d0).inc (if lasting then R.SLF_LASTCT else R.SLF_TRANCT)
  let s := if res = 3 then s.noteNoTest else s
  let s := if res = 2 then s.noteRepair j.unit spare else s
  let s := s.logPush 4 P.SLF d0 j.unit
  let s := if lasting then s.noteLasting else s
  let s := if j.test = 9 then { s with lnk := { s.lnk with hush := false } } else s
  if j.src = 0xD ∨ j.src = 0xE ∨ (j.test = 4 ∧ j.unit = 0#32 ∧ s.twn.told) then
    ({ s with twn := { s.twn with told := false } } : State).tellTwin (if lasting then 2 else 1)
  else s

/-- A test of a lane ends: its verdict is written and the pending test becomes the running one (R714). -/
def State.laneEnd (s : State) (l : Nat) (j : Job) (res spare : Nat) : State :=
  let ln := s.lane l
  (s.setLane l ⟨ln.pend, 0, none, 0, false, false⟩).verdict j res spare

/-! ## Reports (R713, R714, R715) -/

/-- A detected error is reported. -/
def State.detect (s : State) (src page : Nat) (unit : Word) : State :=
  let test := testOf src
  let j : Job := ⟨src, test, unit, page, s.tck.now⟩
  let s := (s.raise P.SLF 0).inc R.SLF_DETCT
  let s := s.logPush 3 page (detWord src test) unit
  let s := s.incBucket test
  if s.lcs.state = 4 then s.verdict j 3 0
  else if test = 10 then { s with slf := { s.slf with regf := some j } }
  else
    let ln := s.lane (laneOf test)
    let same (o : Option Job) : Bool :=
      match o with
      | some k => k.test == test && unitKey test k.unit == unitKey test unit
      | none => false
    if same ln.run || same ln.pend then
      (if src = 0xE then { s with twn := { s.twn with told := true } } else s)
    else if ln.run.isNone then s.setLane (laneOf test) { ln with run := some j, step := 0 }
    else if ln.pend.isNone then s.setLane (laneOf test) { ln with pend := some j }
    else s.verdict j 3 0

/-- The regions of Table 7-3. -/
inductive Region where
  | boot | pflash | dflash | sram | list | trace | bin | carrier | regs
  deriving DecidableEq, Repr

/-- Only SRAM and flash carry check bits. -/
def hasEcc (g : Region) : Bool := g == .sram || g == .pflash || g == .dflash

/-- What a read of memory with check bits meets: what State holds of bad words and lines, else what the environment gives. -/
def State.eccAt (s : State) (g : Region) (a : Nat) (ecc : Ecc) : Ecc := if !hasEcc g then .ok else if s.badWord a then .uncorrectable else ecc

/-- The report of an error a read met, with the page of its master; an uncorrectable one stays (Table 15-1). -/
def State.memReport (s : State) (g : Region) (a page : Nat) (e : Ecc) : State :=
  let sram := g == .sram
  let unit := if sram then a - a % 4 else a
  let pg := if sram || page == P.MON then page else P.FLS
  match e with
  | .ok => s
  | .corrected => s.detect (if sram then 1 else 3) pg (wd unit)
  | .uncorrectable =>
    let s := { s with bad := if sram then Sparse.insert s.bad (a - a % 4) 1 else Sparse.insert s.bad (a - a % 16) 2 }
    s.detect (if sram then 2 else 4) pg (wd unit)

/-! ## Spare rows (R711, R712) -/

/-- The bank and row of an SRAM address. -/
def bankRow (a : Nat) : Nat × Nat := ((a - 0x20000000) / 8192, (a - 0x20000000) % 8192 / 128)

/-- The lowest free spare of a bank. -/
def State.freeSpare (s : State) (bank : Nat) : Option Nat :=
  [0, 1].find? fun k => (Sparse.find s.slf.spares (bank + 16 * k)).isNone

/-- Map or unmap a spare. -/
def State.setSpare (s : State) (bank k : Nat) (v : Option Spare) : State :=
  let l := match v with
    | some x => Sparse.insert s.slf.spares (bank + 16 * k) x
    | none => Sparse.erase s.slf.spares (bank + 16 * k)
  { s with slf := { s.slf with spares := l } }

/-- The other spare of a bank serves a row no longer. -/
def State.dropOther (s : State) (bank k row : Nat) : State :=
  match Sparse.find s.slf.spares (bank + 16 * (1 - k)) with
  | some x => if x.row = row then s.setSpare bank (1 - k) none else s
  | none => s

/-- Some word of the 128 bytes of a row reads uncorrectable. -/
def State.rowBad (s : State) (a : Nat) : Bool :=
  (List.range 32).any fun i => s.badWord (a - a % 128 + 4 * i)

/-! ## One step of a lane (R717, R718) -/

/-- The MEM lane runs a step; `ok` tells whether the accesses of the step were correct, `copyBad` whether the copy met an uncorrectable word: one State knows of, else the word the report
names, which stays uncorrectable until it is written (R718). -/
def State.memStep (s : State) (ok copyBad : Bool) (copyAt : List (Fin 32)) : State :=
  let ln := s.slf.mem
  match ln.run with
  | none => s
  | some j =>
    let br := bankRow j.unit.toNat
    let base := j.unit.toNat - j.unit.toNat % 128
    match j.test, ln.step with
    | 1, 0 =>
      match s.freeSpare br.1 with
      | none => ((s.raise P.SLF 5).setFlt P.SLF 1).laneEnd 0 j 3 0
      | some k =>
        let a := j.unit.toNat
        let met := if copyAt = [] then (if copyBad && !s.rowBad a then [a - a % 4] else []) else copyAt.map fun i => base + 4 * i.val
        let t := { s with bad := met.foldl (fun l w => Sparse.insert l w 1) s.bad }
        (t.setSpare br.1 k (some ⟨br.2, false⟩)).setLane 0
          { ln with step := 1, spare := k, copyBad := copyBad || !copyAt.isEmpty || s.rowBad j.unit.toNat, failed := !ok }
    | 1, _ =>
      if ok && !ln.failed then (s.setSpare br.1 ln.spare none).laneEnd 0 j 0 0
      else (s.dropOther br.1 ln.spare br.2).laneEnd 0 j (if ln.copyBad then 1 else 2) ln.spare
    | 3, _ =>
      let a := 0x30000000 + 8 * (j.unit.toNat % 16384)
      let s := (s.memStore a 4 0#32).memStore (a + 4) 4 0#32
      s.laneEnd 0 j (if ok then 0 else 1) 0
    | 2, _ => s.laneEnd 0 j (if ok && !s.badWord j.unit.toNat then 0 else 1) 0
    | _, _ => s.laneEnd 0 j (if ok then 0 else 1) 0

/-- The ANA lane runs a step (AREF, PAIR). -/
def State.anaStep (s : State) (ok : Bool) : State :=
  match s.slf.ana.run with
  | none => s
  | some j =>
    let seen := match s.slf.lastLasting with
      | some t => decide (t ≤ 8 + (s.tck.now - j.tick).toNat)
      | none => false
    s.laneEnd 1 j (if ok && !(j.test == 5 && seen) then 0 else 1) 0

/-- The SYS lane runs a step (GDRV in two, LDRV, ECAN); CLK runs untimed. -/
def State.sysStep (s : State) (ok : Bool) : State :=
  let ln := s.slf.sys
  match ln.run with
  | none => s
  | some j =>
    if j.test = 7 then s
    else if j.test = 6 ∧ ln.step = 0 then s.setLane 2 { ln with step := 1, failed := !ok }
    else s.laneEnd 2 j (if ok && !ln.failed then 0 else 1) 0

/-! ## Patrol (R723) -/

/-- The byte address of a 64-byte flash block by its number in a patrol pass: program flash, then data flash. -/
def patrolBlock (n : Nat) : Nat := if n < 8192 then 0x08000000 + 64 * n else 0x0C000000 + 64 * (n - 8192)

/-- One patrol step of each enabled memory: what State holds as bad and what the environment's reads found, as source and unit; for list RAM the number of the word, reported by its
point. -/
def State.patrol (s : State) (found : List (Nat × Word)) : State :=
  let sOn := s.bit (rCTRL P.SLF) 0
  let fOn := s.bit (rCTRL P.SLF) 1
  let lOn := s.bit (rCTRL P.SLF) 2
  let row := 0x20000000 + 128 * s.slf.sRow
  let blk := patrolBlock s.slf.fBlk
  let pt := s.slf.lPos
  let known :=
    (if sOn then ((List.range 32).filter fun i => s.badWord (row + 4 * i)).map (fun i => (2, wd (row + 4 * i))) else []) ++
    (if fOn then ((List.range 4).filter fun i => s.badWord (blk + 16 * i)).map (fun i => (4, wd (blk + 16 * i))) else []) ++
    (if lOn then ((List.range 16).filter fun i => s.parWrong (2 * pt + i)).map (fun i => (5, wd (2 * pt + i))) else [])
  let inStep (e : Nat × Word) : Bool :=
    (e.1 == 1 && sOn && e.2.toNat / 128 == row / 128) || (e.1 == 2 && sOn && e.2.toNat / 128 == row / 128) ||
    (e.1 == 3 && fOn && e.2.toNat / 64 == blk / 64) || (e.1 == 4 && fOn && e.2.toNat / 64 == blk / 64) ||
    (e.1 == 5 && lOn && e.2.toNat / 16 == pt / 8)
  let keep (s : State) (e : Nat × Word) : State :=
    if e.1 = 2 then { s with bad := Sparse.insert s.bad (e.2.toNat - e.2.toNat % 4) 1 }
    else if e.1 = 4 then { s with bad := Sparse.insert s.bad (e.2.toNat - e.2.toNat % 16) 2 }
    else if e.1 = 5 then { s with parBad := Sparse.insert s.parBad e.2.toNat () }
    else s
  let found := found.filter fun e => inStep e && !known.contains e
  let s := found.foldl keep s
  let s := (known ++ found).foldl
    (fun (s : State) e =>
      let s := s.detect e.1 (if e.1 = 5 then P.SEQ else if e.1 ≤ 2 then P.SLF else P.FLS) (if e.1 = 5 then wd (e.2.toNat / 2) else e.2)
      if e.1 = 5 then s.setFlt P.SEQ 0 else s) s
  { s with slf := { s.slf with
      sRow := if sOn then (s.slf.sRow + 1) % 1024 else s.slf.sRow
      fBlk := if fOn then (s.slf.fBlk + 1) % 8448 else s.slf.fBlk
      lPos := if lOn then (s.slf.lPos + 8) % 16384 else s.slf.lPos } }

/-! ## The event log (R736 to R741) -/

/-- Whether an entry is queued for data flash (R741). -/
def State.persists (s : State) (e : LogReq) : Bool :=
  if e.kind = 8 then true
  else if e.kind = 4 && !bitOf e.data0 14 then false
  else if e.kind = 1 && fld e.data0 4 2 != 3 then false
  else s.bit R.LOG_PCFG (e.kind % 32)

/-- The code of the tick state (Table 1-5). -/
def tckCode : TckState → Nat
  | .idle => 0
  | .armed => 1
  | .run => 2
  | .holdover => 3
  | .safe => 4

/-- Write the entry at the front of the log queue (R736, R738, R740, R741). -/
def State.logWrite (s : State) : State :=
  match s.log.queue with
  | [] => s
  | e :: rest =>
    let want := s.persists e
    let fits := decide (s.log.pbuf.length < 8)
    let i := s.log.wptr
    let ent : LogEntry :=
      ⟨s.tck.now, wd (e.kind + e.page * 256 + s.tck.synth.toNat * 65536 + (want && fits).toNat * 131072 + tckCode s.tck.state * 262144 + i * 16777216),
       e.data0, e.data1⟩
    let s := if s.log.held ≥ 256 then s.inc R.LOG_OVWRCT else s
    let s := { s with log := { s.log with
      queue := rest
      ring := Sparse.insert s.log.ring i ent
      ringS := if s.snapping && (Sparse.find s.log.ringS i).isNone then
          Sparse.insert s.log.ringS i ((Sparse.find s.log.ring i).getD ⟨0#32, 0#32, 0#32, 0#32⟩) else s.log.ringS
      wptr := (i + 1) % 256
      wrapped := s.log.wrapped || i == 255
      held := min 256 (s.log.held + 1)
      pbuf := if want && fits then s.log.pbuf ++ [ent] else s.log.pbuf } }
    if want && !fits then (s.inc R.LOG_PLOSTCT).raise P.LOG 1 else s

/-- Write every entry of the queue, `n` at most. -/
def State.logFlush : Nat → State → State
  | 0, s => s
  | n + 1, s => s.logWrite.logFlush n

/-! ## The persistent area (R743) -/

/-- Base of a half of the persistent area. -/
def halfBase (h : Nat) : Nat := 0x0C003000 + 0x400 * h

/-- The generation of a half with a valid header. -/
def State.halfGen (s : State) (h : Nat) : Option Nat :=
  if s.rdW (halfBase h) = 0x10C60001#32 ∧ !s.badWord (halfBase h) then some (s.rdW (halfBase h + 4)).toNat else none

/-- The active half: the valid one with the larger generation. -/
def State.activeHalf (s : State) : Option Nat :=
  match s.halfGen 0, s.halfGen 1 with
  | some a, some b => some (if b > a then 1 else 0)
  | some _, none => some 0
  | none, some _ => some 1
  | none, none => none

/-- A flash line is erased: every byte reads 0xFF (R757). -/
def State.lineErased (s : State) (a : Nat) : Bool :=
  !s.badWord a && (List.range 16).all fun i => s.rdB (a + i) == 0xFF#8

/-- Erase `n` bytes of flash from an address, and the errors of their lines (R757, R810). -/
def State.eraseFlash (s : State) (a n : Nat) : State :=
  { s with
    mem := s.mem.filter (fun c => c.1 < a || c.1 ≥ a + n)
    bad := s.bad.filter (fun c => c.1 < a || c.1 ≥ a + n) }

/-- Program a line of four words. -/
def State.programLine (s : State) (a : Nat) (l : List Word) : State :=
  (l.foldl (fun (p : State × Nat) w => (p.1.wrW p.2 w, p.2 + 4)) (s, a)).1

/-- The first erased slot of a half after every used one. -/
def State.freeSlot (s : State) (h : Nat) : Option Nat :=
  match ((List.range 64).filter fun i => !s.lineErased (halfBase h + 16 * i)).getLast? with
  | some i => if i < 63 then some (i + 1) else none
  | none => some 1

/-- Write one pending entry; a half that is full makes the other one active (R743). -/
def State.persistOne (s : State) (e : LogEntry) : State :=
  let put (s : State) (h i : Nat) : State := s.programLine (halfBase h + 16 * i) [e.w0, e.w1, e.w2, e.w3]
  let fresh (s : State) (h gen : Nat) : State :=
    put ((s.eraseFlash (halfBase h) 0x400).programLine (halfBase h) [0x10C60001#32, wd gen, 0#32, 0#32]) h 1
  match s.activeHalf with
  | none => fresh s 0 1
  | some h =>
    match s.freeSlot h with
    | some i => put s h i
    | none => fresh s (1 - h) ((s.halfGen h).getD 0 + 1)

/-- A flash operation or a persistent write is in progress. -/
def State.flashBusy (s : State) : Bool := s.fls.op.isSome || s.log.pbusy

/-- The next entry needs the other half erased and its header programmed (R743). -/
def State.needsHalf (s : State) : Bool :=
  match s.activeHalf with
  | none => true
  | some h => (s.freeSlot h).isNone

/-- Write entries in order, up to the first that needs an erase and a header program which do not verify: the state, and the entries that stay pending. -/
def State.persistRun (verify : Bool) : List LogEntry → State → State × List LogEntry
  | [], s => (s, [])
  | e :: l, s => if s.needsHalf && !verify then (s, e :: l) else (s.persistOne e).persistRun verify l

/-- Write the pending entries to data flash; `verify` tells that a header program and an erase verify where they are needed (R742, R743). -/
def State.persistAll (s : State) (verify : Bool) : State :=
  let n := s.log.pbuf.length
  let r := s.persistRun verify s.log.pbuf
  let s := { r.1 with log := { r.1.log with pbuf := r.2, pbusy := false } }
  let s := s.raiseIf (decide (r.2.length < n)) P.LOG 2
  if r.2.isEmpty then s else (s.raise P.LOG 3).setFlt P.LOG 0

/-- The readable persistent entries, the newest first. -/
def State.persisted (s : State) : List (Word × Word × Word × Word) :=
  let half (h : Nat) : List (Word × Word × Word × Word) :=
    ((List.range 63).reverse.filter fun i => let a := halfBase h + 16 * (i + 1); !s.badWord a && !s.lineErased a).map fun i =>
      let a := halfBase h + 16 * (i + 1)
      (s.rdW a, s.rdW (a + 4), s.rdW (a + 8), s.rdW (a + 12))
  match s.activeHalf with
  | none => []
  | some h => half h ++ (if (s.halfGen (1 - h)).isSome then half (1 - h) else [])

end Sys2Proof.Machine
end

