-- ==== Sys2Proof/Machine/Owl.lean ====
section
/-! DEFINITION. Force and measure: ranges, calibration, samples and flags, precision windows, force modes, ranging, compliance and ownership (chapter 10). -/

namespace Sys2Proof.Machine

/-! ## Channels and ranges -/

/-- Channel 0 is A, 1 is B. -/
def State.fm (s : State) (c : Nat) : FmSt := if c = 0 then s.fmA else s.fmB

/-- Store a channel. -/
def State.setFm (s : State) (c : Nat) (x : FmSt) : State := if c = 0 then { s with fmA := x } else { s with fmB := x }

/-- Full scale of a current range in µA (Table 10-2). -/
def fsI (r : Nat) : Nat :=
  match r with
  | 0 => 25000
  | 1 => 100000
  | 2 => 400000
  | 3 => 4000000
  | 4 => 16000000
  | _ => 64000000

/-- Full scale of a voltage range in µV (Table 10-3). -/
def fsV (r : Nat) : Nat :=
  match r with
  | 0 => 6000000
  | 1 => 24000000
  | _ => 64000000

/-- Clip level of a current range in µA: the converter's 2.5 V span (Table 10-2). -/
def clipI (r : Nat) : Int :=
  match r with
  | 0 => 122070
  | 1 => 488281
  | 2 => 1953125
  | 3 => 4882813
  | 4 => 19531250
  | _ => 78125000

/-- Clip level of a voltage range in µV (Table 10-3). -/
def clipV (r : Nat) : Int :=
  match r with
  | 0 => 7324219
  | 1 => 29296875
  | _ => 78125000

/-- SCALE × 2^20 of a current range (R512). -/
def scaleI (r : Nat) : Int :=
  match r with
  | 0 => 3906260
  | 1 => 15625041
  | 2 => 62499953
  | 3 => 156249987
  | 4 => 624999950
  | _ => 2500000009

/-- SCALE × 2^20 of a voltage range. -/
def scaleV (r : Nat) : Int :=
  match r with
  | 0 => 234374981
  | 1 => 937500030
  | _ => 2500000009

/-- SCALE × 2^20 of a PMI range (Table 10-5). -/
def scaleP (r : Nat) : Int :=
  match r with
  | 0 => 40000000046
  | 1 => 10000000038
  | 2 => 2500000009
  | _ => 624999950

/-! ## Calibration (R512 to R514) -/

/-- The entry number of a chain and range: current is `v = false`. -/
def entryOf (c : Nat) (v : Bool) (r : Nat) : Nat := 9 * c + (if v then 6 else 0) + r

/-- Offset, temperature coefficient, gain correction and VALID of a calibration entry; an entry with VALID 0 is all zero (R514). -/
def State.calEntry (s : State) (e : Nat) : Int × Int × Int × Bool :=
  let w0 := s.rd (R.CAL_E0W0 + 8 * e)
  let w1 := s.rd (R.CAL_E0W0 + 8 * e + 4)
  if bitOf w0 31 then (sgn 16 (fld w0 0 16), sgn 15 (fld w0 16 15), w1.toInt, true) else (0, 0, 0, false)

/-- The gain correction of an entry at the temperature in use (R512). -/
def State.calGain (s : State) (e : Int × Int × Int × Bool) : Int :=
  let src := s.fd (rCTRL P.CAL) 4 2
  if src = 2 then e.2.2.1
  else e.2.2.1 + e.2.1 * ((if src = 1 then (s.rd R.CAL_TREF).toInt else (s.rd R.ADC_TDIE).toInt) - 400)

/-- The calibrated value of a raw code in 1/256 of a 16-bit code (R512). -/
def State.calValue (s : State) (raw256 : Int) (e : Nat) (scale : Int) : Int :=
  let en := s.calEntry e
  satS 32 (rshr ((raw256 - en.1) * scale * ((2 ^ 30 : Nat) + s.calGain en)) 58)

/-! ## Samples (R486 to R492) -/

/-- VALID, RANGING, OVER, STALE, UNCAL and UNAGREED of Table 10-6. -/
def flgValid : Nat := 1
/-- RANGING. -/
def flgRanging : Nat := 2
/-- OVER. -/
def flgOver : Nat := 4
/-- STALE. -/
def flgStale : Nat := 8
/-- UNCAL. -/
def flgUncal : Nat := 16
/-- UNAGREED. -/
def flgUnagreed : Nat := 32

/-- A flag is set. -/
def hasFlg (f m : Nat) : Bool := f &&& m != 0

/-- The input code of SAR position `i`, 0 to 5: SAR0 positions 0 to 2, then SAR1 (R486). -/
def State.sarCode (s : State) (i : Nat) : Nat := s.fd R.ADC_SEQ (if i < 3 then 4 * i else 16 + 4 * (i - 3)) 4

/-- The position that gives a chain its value: the lowest, SAR0 before SAR1 (R487). -/
def State.chainPos (s : State) (code : Nat) : Option Nat := [0, 3, 1, 4, 2, 5].find? fun i => s.sarCode i == code

/-- The range in force of the chain of a code 1 to 4. -/
def State.chainRange (s : State) (code : Nat) : Nat :=
  match code with
  | 1 => s.fmA.irng
  | 2 => s.fmB.irng
  | 3 => s.fmA.vrng
  | _ => s.fmB.vrng

/-- Value and flags of a chain sample from its raw code (R492); `blank` is that the sample falls in the blanking of a shunt change. -/
def State.chainSample (s : State) (code : Nat) (raw good : Int) (blank : Bool) : Int × Nat :=
  let c := (code + 1) % 2
  let v := decide (code ≥ 3)
  let r := s.chainRange code
  let e := entryOf c v r
  let un := if (s.calEntry e).2.2.2 then 0 else flgUncal
  if blank then (good, flgRanging + flgStale + un + 256 * r)
  else if raw ≥ 32767 ∨ raw ≤ -32768 then
    let k := if v then clipV r else clipI r
    (if raw < 0 then -k else k, flgOver + un + 256 * r)
  else (s.calValue (256 * raw) e (if v then scaleV r else scaleI r), flgValid + un + 256 * r)

/-- Value of a fixed-scale input (Table 10-4). -/
def fixedValue (code : Nat) (raw : Int) : Int :=
  satS 32 (rshr (256 * raw * (if code ≤ 9 then 2500000009 else 79999952)) 28)

/-- Value and flags of one SAR position. -/
def State.posSample (s : State) (i : Nat) (raw : Int) : Int × Nat :=
  let code := s.sarCode i
  if code = 0 ∨ code > 12 then (0, 0)
  else if code ≤ 4 then
    let c := s.fm ((code + 1) % 2)
    s.chainSample code raw (if code ≥ 3 then c.goodV else c.goodI) (code ≤ 2 && decide (c.blank > 0))
  else (fixedValue code raw, flgValid)

/-- The position whose code gives position `i` its value: a chain at several positions has the value of the lowest (R487, Table 12-1). -/
def State.valuePos (s : State) (i : Nat) : Nat := if 1 ≤ s.sarCode i ∧ s.sarCode i ≤ 4 then (s.chainPos (s.sarCode i)).getD i else i

/-- A converter check fails (R489). -/
def State.refFails (s : State) (i : Nat) (raw : Int) : Bool :=
  (s.sarCode i == 11 && decide ((raw - 16384).natAbs * 100 > 16384)) || (s.sarCode i == 12 && decide (raw.natAbs * 1000 > 327680))

/-- The value and flags of a chain in the latest slot; an unassigned chain is 0 with flags 0 (R487). -/
def State.chain (s : State) (code : Nat) : Int × Nat :=
  match s.chainPos code with
  | some i => s.adc.vals.getD i (0, 0)
  | none => (0, 0)

/-- The level of SEL_A or SEL_B: high in the current ranges 3 to 5, low in reset and in SLEEP (R483, Table 2-2). -/
def State.selLevel (s : State) (c : Nat) : Bool := !s.pwr.inReset && s.pwr.mode != .sleep && decide ((s.fm c).irng ≥ 3)

/-- The sums and counts of a window with the VALID samples of this strobe (R509). -/
def State.windowAdd (s : State) (sums : List (Int × Nat)) : List (Int × Nat) :=
  let add (k code : Nat) : Int × Nat :=
    let a := sums.getD k (0, 0)
    let v := s.chain code
    if hasFlg v.2 flgValid then (a.1 + v.1, a.2 + 1) else a
  [add 0 1, add 1 3, add 2 2, add 3 4]

/-- Publish the committed samples of the slot: I, V and their flags, last good values, OVER, averages (R491, R492, R509). The strobe after the last of a window ends it (R508). -/
def State.publish (s : State) : State :=
  let one (s : State) (c : Nat) : State :=
    let i := s.chain (1 + c)
    let v := s.chain (3 + c)
    let x := s.fm c
    let s := s.setFm c { x with
      goodI := if hasFlg i.2 flgValid then i.1 else x.goodI
      goodV := if hasFlg v.2 flgValid then v.1 else x.goodV }
    let s := ((((s.wr (R.FM_I c) (wdI i.1)).wr (R.FM_V c) (wdI v.1)).wr (R.FM_IFLG c) (wd i.2)).wr (R.FM_VFLG c) (wd v.2))
    s.raiseIf (hasFlg i.2 flgOver || hasFlg v.2 flgOver) (P.FM c) 5
  let s := one (one s 0) 1
  if s.adc.pbusy && !s.adc.pstart && decide (s.adc.strobes ≤ s.adc.left) then
    let last := s.adc.strobes == s.adc.left
    { s with adc := { s.adc with
      strobes := s.adc.strobes + 1
      sums := if last then s.adc.sums else s.windowAdd s.adc.sums
      nexts := if last then s.windowAdd [] else s.adc.nexts } }
  else s

/-- The device is the shadow of a pair whose samples are committed at the agreement deadline (R681, R682). -/
def State.agrees (s : State) : Bool := (s.twn.pstate == 3 || s.twn.pstate == 4) && !s.twn.role

/-- The samples of a slot: raw codes of the six positions (R486 to R489, R492), and the start of a precision window (R508). -/
def State.sample (s : State) (raws : List Int) : State :=
  let raw (i : Nat) : Int := raws.getD i 0
  let s :=
    if s.adc.pready && s.adc.slot == 0 then
      { s with adc := { s.adc with
        pstart := false, pready := false, left := if s.seq.pwin then s.adc.left else s.fd R.ADC_PCFG 16 13, strobes := 0, ranging := false, sums := [(0, 0), (0, 0), (0, 0), (0, 0)] } }
    else s
  let vals := (List.range 6).map fun i => s.posSample i (raw (s.valuePos i))
  let s := (List.range 6).foldl (fun (s : State) i => s.wr (R.ADC_RAW0 + 4 * i) (wdI (raw i))) s
  let bad := (List.range 6).filter fun i => s.refFails i (raw i)
  let dec (x : FmSt) : FmSt := { x with blank := x.blank - 1 }
  let s := { s with adc := { s.adc with vals := vals, slot := s.adc.slot + 1 }, fmA := dec s.fmA, fmB := dec s.fmB }
  let s := bad.foldl (fun (s : State) i => ((s.setFlt P.ADC 0).raise P.ADC 1).detect 0x06 P.ADC (wd (i / 3))) s
  if s.agrees then s else s.publish

/-! ## Precision windows (R508 to R513) -/

/-- Round half up of a quotient by a count. -/
def meanOf (a : Int × Nat) : Int := if a.2 = 0 then 0 else (2 * a.1 + a.2) / (2 * a.2)

/-- The calibrated result of a precision code, and whether an entry used had VALID 0 (R512, R513). -/
def State.precValue (s : State) (raw : Int) : Int × Bool :=
  let src := s.fd R.ADC_PCFG 0 3
  if src = 0 then
    let r := s.fd R.ADC_PCFG 4 2
    let e := s.calEntry (18 + r)
    (s.calValue raw (18 + r) (scaleP r), !e.2.2.2)
  else
    let c := (src + 1) % 2
    let v := decide (src ≥ 3)
    let r := s.chainRange src
    let ep := s.calEntry (21 + src)
    let ec := s.calEntry (entryOf c v r)
    let x := (raw - ep.1) * (if v then scaleV r else scaleI r) * ((2 ^ 30 : Nat) + s.calGain ec) * ((2 ^ 30 : Nat) + ep.2.2.1)
    (satS 32 (rshr x 88), !(ep.2.2.2 && ec.2.2.2))

/-- A window ends with a raw 24-bit code (R509, R510); with PCONT, or where the sequencer has asked for one, the next begins at the same strobe (R508, R548). -/
def State.precEnd (s : State) (raw : Int) (ovl : Bool) : State :=
  let r := s.precValue raw
  let valid := !ovl && !s.adc.ranging
  let s := (s.wr R.ADC_PRES (wdI r.1)).wr R.ADC_PRAW (wdI raw)
  let s := s.wr R.ADC_PFLG (wd (valid.toNat + 2 * s.adc.ranging.toNat + 4 * ovl.toNat + 8 * r.2.toNat))
  let s := s.wr R.ADC_PEND s.tck.now
  let avg (s : State) (c : Nat) : State :=
    let i := s.adc.sums.getD (2 * c) (0, 0)
    let v := s.adc.sums.getD (2 * c + 1) (0, 0)
    let s := ((s.wr (R.FM_AVGI c) (wdI (meanOf i))).wr (R.FM_AVGV c) (wdI (meanOf v))).wr (R.FM_AVGN c) (wd (i.2 + v.2 * 65536))
    s.raise (P.FM c) 10
  let s := avg (avg s 0) 1
  let next := s.seq.pnext
  let cont := next.isSome || (s.bit (rCTRL P.ADC) 2 && !s.seq.pwin)
  let s := { s with
    seq := { s.seq with pwin := next.isSome, pnext := none, pres := if s.seq.pwin then some (valid, wdI r.1) else s.seq.pres }
    adc := { s.adc with
      pbusy := cont, pstart := false, pready := false, pdone := true, strobes := cont.toNat, ranging := false
      left := (match next with | some n => n | none => if cont then s.fd R.ADC_PCFG 16 13 else s.adc.left)
      sums := if cont then s.adc.nexts else [(0, 0), (0, 0), (0, 0), (0, 0)] } }
  s.raise P.ADC 0

/-- End the window in progress without a result (R508). -/
def State.precStop (s : State) : State :=
  if s.adc.pbusy then
    let s := s.wr R.ADC_PFLG 0x10#32
    { s with adc := { s.adc with pbusy := false, pstart := false, pready := false }, seq := { s.seq with pwin := false, pnext := none } }
  else s

/-- Ask for a window of `n` slots from the first strobe of slot 0 of the next tick (R508). -/
def State.precStart (s : State) (n : Nat) : State :=
  if s.adc.pbusy then s
  else { s with adc := { s.adc with pbusy := true, pstart := true, pready := false, pdone := false, left := n } }

/-! ## Force modes (R493 to R499) -/

/-- FMx.CTRL.MODE in force. -/
def State.fmMode (s : State) (c : Nat) : Nat := s.fd (rCTRL (P.FM c)) 0 2

/-- The force level. -/
def State.fmLevel (s : State) (c : Nat) : Int := (s.rd (R.FM_LEVEL c)).toInt

/-- σ of R494. -/
def State.sigma (s : State) (c : Nat) : Int := if s.fmLevel c < 0 then -1 else 1

/-- The legs of R495: 3 and 12 under TOPO 1, any two legs under TOPO 0. -/
def State.legsOk (s : State) (c : Nat) : Bool :=
  let l := s.fd (R.FM_BIND c) 0 4
  if s.bit R.PST_CFG 0 then l == 3 || l == 12 else l == 3 || l == 5 || l == 6 || l == 9 || l == 10 || l == 12

/-- The SRC bit that governs a leg's source: BDUTYA and BDUTYB by bits 16 and 18 under TOPO 1 (R452). -/
def State.srcReg (s : State) (leg : Nat) : Bool :=
  if s.bit R.PST_CFG 0 then s.bit R.PST_CFG (if leg ≤ 2 then 16 else 18) else s.bit R.PST_CFG (15 + leg)

/-- The conditions for leaving OFF (R496). -/
def State.forceOk (s : State) (c : Nat) : Bool :=
  s.legsOk c &&
  ((List.range 4).all fun i => !s.bit (R.FM_BIND c) i || !s.srcReg (i + 1)) &&
  (s.chainPos (1 + c)).isSome && (s.chainPos (3 + c)).isSome &&
  s.fd (R.FM_BIND c) 12 3 != s.fd (R.FM_BIND c) 16 3

/-- The highest range available to a quantity (R498). -/
def State.topRange (s : State) (c : Nat) (v : Bool) : Nat :=
  if v then (if s.bit (rCTRL (P.FM c)) 6 then s.fd (R.FM_RANGE c) 20 2 else s.fd (R.FM_RANGE c) 4 2)
  else (if s.bit (rCTRL (P.FM c)) 5 then s.fd (R.FM_RANGE c) 12 3 else s.fd (R.FM_RANGE c) 0 3)

/-- A level is within the forced quantity's full scale under a mode (R498). -/
def State.levelOk (s : State) (c mode : Nat) (v : Word) : Bool :=
  if mode = 1 then decide (v.toInt.natAbs ≤ fsV (s.topRange c true))
  else if mode = 2 then decide (v.toInt.natAbs ≤ fsI (s.topRange c false))
  else true

/-- A limit is within the unforced quantity's full scale under a mode (R498). -/
def State.limitOk (s : State) (c mode : Nat) (v : Word) : Bool :=
  if mode = 1 then decide (fld v 0 31 ≤ fsI (s.topRange c false))
  else if mode = 2 then decide (fld v 0 31 ≤ fsV (s.topRange c true))
  else true

/-- Restart of a loop (R573): the integrator, the derivative and the region; the scheduling node is given. -/
def State.loopRestart (s : State) (n : Nat) : State :=
  let sch := Sparse.get (fun _ => (0 : Int)) s.ctl.nodes (s.fd (R.LP_SCHSEL n) 0 8)
  let g := if s.bit (R.LP_CFG n) 22 then
      ([R.LP_B1 n, R.LP_B2 n, R.LP_B3 n].filter fun a => decide (sch ≥ (s.rd a).toInt)).length else 0
  let f (x : LoopSt) : LoopSt := { x with acc := (s.rd (R.LP_ACCINIT n)).toInt, dst := 0, first := true, region := g }
  { s with ctl := { s.ctl with loops := s.ctl.loops.modify n f } }

/-- The two loops of a force channel restart (R499). -/
def State.fmRestart (s : State) (c : Nat) : State :=
  (s.loopRestart (s.fd (R.FM_BIND c) 12 3)).loopRestart (s.fd (R.FM_BIND c) 16 3)

/-- A new level takes effect; a change of σ restarts the loops of a channel that forces (R499). -/
def State.setLevel (s : State) (c : Nat) (v : Word) : State :=
  let old := s.sigma c
  let s := s.hw (R.FM_LEVEL c) v
  let s := s.setFm c { s.fm c with neg := decide (v.toInt < 0) }
  if s.fmMode c ≠ 0 ∧ s.sigma c ≠ old then s.fmRestart c else s

/-- MODE becomes OFF. -/
def State.fmOff (s : State) (c : Nat) : State := s.hwF (rCTRL (P.FM c)) 0 2 0

/-! ## Ranging (R504 to R507) -/

/-- A range change takes effect: the counter, the event, SEL and blanking, HANDOFF. -/
def State.setRange (s : State) (c : Nat) (v : Bool) (r : Nat) : State :=
  let x := s.fm c
  let old := if v then x.vrng else x.irng
  if r = old then s
  else
    let sel := !v && (decide (old ≥ 3) != decide (r ≥ 3))
    let x := if v then { x with vrng := r, dwV := 0 } else { x with irng := r, dwI := 0, blank := if sel then 2 else x.blank }
    let s := s.setFm c x
    let s := s.inc (R.FM_RNGCT c)
    let src := s.fd R.ADC_PCFG 0 3
    let s := if src = (if v then 3 else 1) + c then { s with adc := { s.adc with ranging := s.adc.ranging || (s.adc.pbusy && !s.adc.pstart) } } else s
    let s :=
      if sel && s.bit (R.FM_SHUNT c) 16 then
        s.hwF R.PST_OCCFG (8 * c) 6 (s.fd (R.FM_SHUNT c) (if r ≥ 3 then 8 else 0) 6)
      else s
    s.raise (P.FM c) (if r > old then 3 else 4)

/-- The range a chain's sample asks for, and the dwell count after it (R505). -/
def rangeDecide (fs : Nat → Nat) (r lo hi dwell dw : Nat) (v : Int) (f : Nat) : Option Nat × Nat :=
  if hasFlg f flgRanging then (none, dw)
  else if hasFlg f flgOver then (some hi, 0)
  else if hasFlg f flgValid then
    if v.natAbs > fs r then
      (some (((List.range (hi + 1)).find? fun q => decide (q > r) && decide (4 * fs q ≥ 5 * v.natAbs)).getD hi), 0)
    else if 100 * v.natAbs < 8 * fs r then
      if dw + 1 ≥ dwell ∧ r > lo then (some (r - 1), 0) else (none, min (dw + 1) 255)
    else (none, 0)
  else (none, 0)

/-- The range decisions of one channel take effect at the output write (R504 to R506); the samples Down counts are those of autoranging alone (R505). -/
def State.rangeStep (s : State) (c : Nat) : State :=
  let x := s.fm c
  let ra := s.rd (R.FM_RANGE c)
  let dwell := fld ra 24 8
  let blanked := hasFlg (s.rd (R.FM_IFLG c)).toNat flgRanging || decide (x.blank > 0)
  let s :=
    if s.bit (rCTRL (P.FM c)) 5 then
      if blanked then s
      else
        let d := rangeDecide fsI x.irng (fld ra 8 3) (fld ra 12 3) dwell x.dwI (s.rd (R.FM_I c)).toInt (s.rd (R.FM_IFLG c)).toNat
        let s := s.setFm c { s.fm c with dwI := d.2 }
        match d.1 with
        | some r => s.setRange c false r
        | none => s
    else (s.setFm c { s.fm c with dwI := 0 }).setRange c false (fld ra 0 3)
  if s.bit (rCTRL (P.FM c)) 6 then
    if blanked then s
    else
      let d := rangeDecide fsV x.vrng (fld ra 16 2) (fld ra 20 2) dwell x.dwV (s.rd (R.FM_V c)).toInt (s.rd (R.FM_VFLG c)).toNat
      let s := s.setFm c { s.fm c with dwV := d.2 }
      match d.1 with
      | some r => s.setRange c true r
      | none => s
  else (s.setFm c { s.fm c with dwV := 0 }).setRange c true (fld ra 4 2)

/-- Outside ticks, where no output write comes, a manual range is in force once it commits (DEDUCED from the worked case of chapter 10: log entry 32). -/
def State.rangeManual (s : State) (c : Nat) : State :=
  let ra := s.rd (R.FM_RANGE c)
  let s := if s.bit (rCTRL (P.FM c)) 5 then s else s.setRange c false (fld ra 0 3)
  if s.bit (rCTRL (P.FM c)) 6 then s else s.setRange c true (fld ra 4 2)

/-! ## Compliance (R500 to R503) -/

/-- SAFETY is a standing requester of both channels from now on (Table 10-9). -/
def State.safetyOwn (s : State) : State :=
  { s with fmA := { s.fmA with safety := true }, fmB := { s.fmB with safety := true } }

/-- A channel trips with FLT bit `n` (R502, R503). -/
def State.fmTrip (s : State) (c n : Nat) : State :=
  (((s.setFlt (P.FM c) n).raise (P.FM c) 2).stageSafe).safetyOwn

/-- The unforced quantity of a channel in FV or FI. -/
def State.unforced (s : State) (c : Nat) : Int :=
  if s.fmMode c = 1 then (s.rd (R.FM_I c)).toInt else (s.rd (R.FM_V c)).toInt

/-- The forced quantity. -/
def State.forced (s : State) (c : Nat) : Int :=
  if s.fmMode c = 1 then (s.rd (R.FM_V c)).toInt else (s.rd (R.FM_I c)).toInt

/-- Compliance of one channel in a slot, `inc` telling that the compliance loop won its group (R500 to R503). A run of slots with a reverse excess that has tripped stands as 256. -/
def State.compliance (s : State) (c : Nat) (inc : Bool) : State :=
  let x := s.fm c
  let force := s.fmMode c == 1 || s.fmMode c == 2
  let inc := inc && force
  let run := if inc then min 255 (x.comprun + 1) else 0
  let rev := force && decide (s.sigma c * s.unforced c < - (fld (s.rd (R.FM_LIMIT c)) 0 31 : Int))
  let rrun := if rev then (if x.revrun = 256 then 256 else min 255 (x.revrun + 1)) else 0
  let tripn := s.fd (R.FM_COMPCFG c) 0 8
  let s := s.setFm c { x with incomp := inc, comprun := run, revrun := rrun }
  let s := s.raiseIf (inc && !x.incomp) (P.FM c) 0
  let s := s.raiseIf (!inc && x.incomp) (P.FM c) 1
  let s := if s.bit (rCTRL (P.FM c)) 4 && decide (run ≥ tripn) && decide (x.comprun < tripn) then s.fmTrip c 0 else s
  if decide (rrun ≥ tripn) && rrun != 256 then (s.setFm c { s.fm c with revrun := 256 }).fmTrip c 1 else s

/-! ## Ownership (R517 to R521) -/

/-- The owner code of an access path (Table 10-9). -/
def ownCode : Path → Nat
  | .network | .spi => 6
  | .coreSup | .coreUser => 5
  | .monitor => 7

/-- The sequencer owns its channels: ARMED, RUN or PAUSED (Table 11-5). -/
def State.seqOwns (s : State) (c : Nat) : Bool :=
  (s.seq.state == 1 || s.seq.state == 2 || s.seq.state == 3) && s.seq.chused / 2 ^ c % 2 == 1

/-- The standing requesters of a channel; `arm` adds the sequencer's arm request for the channel (R518, R535). -/
def State.standing (s : State) (c : Nat) (arm : Bool) : List Nat :=
  (if (s.fm c).safety then [1] else []) ++ (if s.twn.twinOwn || s.twn.pstate == 5 then [2] else []) ++
  (if s.seqOwns c || arm then [3] else []) ++ (if s.bit (R.FM_OWN c) 4 then [4] else [])

/-- The owner's condition still stands. -/
def State.ownStands (s : State) (c : Nat) (arm : Bool) : Bool :=
  let o := (s.fm c).owner
  if o = 0 then false else if o ≥ 5 then true else o ∈ s.standing c arm

/-- The code that wins a channel's arbitration (R518): the highest priority among owner, standing and one-shot requests; 0 for none. -/
def State.winner (s : State) (c : Nat) (arm : Bool) : Nat :=
  let all := s.standing c arm ++ (s.fm c).reqs ++ (if s.ownStands c arm then [(s.fm c).owner] else [])
  all.foldl (fun a b => if a = 0 then b else min a b) 0

/-- Arbitrate one channel at phase 48 (R518, R520); the first flag tells that the arm request takes part, the second that its loss is silent (R535). -/
def State.arbitrate (s : State) (c : Nat) (arm : Bool) : State :=
  let x := s.fm c
  let w := s.winner c arm
  let st := s.standing c false
  let lostOne := x.reqs.filter fun r => r != w
  let lostStand := st.filter fun r => r != w
  let s := lostOne.foldl (fun (s : State) r => (s.setF (R.FM_OWN c) 8 3 r).raise (P.FM c) 6) s
  let s := s.raiseIf (lostStand.any fun r => !(r ∈ x.losing)) (P.FM c) 6
  let displaced := x.owner ≠ 0 ∧ w ≠ x.owner ∧ s.ownStands c arm
  let s := if displaced then (s.setF (R.FM_OWN c) 12 3 x.owner).raise (P.FM c) 7 else s
  let s := s.setFm c { s.fm c with owner := w, reqs := [], losing := lostStand }
  if w = 1 ∧ x.owner ≠ 1 then s.fmOff c else s

/-- TCK leaves RUN and HOLDOVER: MODE OFF, owner NONE, requests dropped (R517, R520); a precision window in progress, which no further tick carries on, ends without a result
(DEDUCED, log entry 57). -/
def State.fmLeave (s : State) : State :=
  let one (s : State) (c : Nat) : State :=
    (s.fmOff c).setFm c { (s.fmOff c).fm c with owner := 0, reqs := [], losing := [] }
  let s := one (one s 0) 1
  if s.adc.pstart then s else s.precStop

/-- A path releases a channel it owns (R518). -/
def State.ownRel (s : State) (c : Nat) (p : Path) : State :=
  if (s.fm c).owner = ownCode p then s.setFm c { s.fm c with owner := 0 } else s

/-- A one-shot request (R518). -/
def State.ownReq (s : State) (c : Nat) (p : Path) : State :=
  if s.ticking || s.tck.state = .armed then
    s.setFm c { s.fm c with reqs := if ownCode p ∈ (s.fm c).reqs then (s.fm c).reqs else (s.fm c).reqs ++ [ownCode p] }
  else s

/-! ## Calibration images (R515, R516) -/

/-- CRC-32 in the convention of Table 10-8 over words in memory. -/
def State.crcWords (s : State) (a n : Nat) : Word :=
  wd (crc32 ((List.range n).flatMap fun i => wordBytes (s.rdW (a + 4 * i))))

/-- The 52 entry words of a good image (R516). -/
def State.calImage (s : State) (a : Nat) : Option (List Word) :=
  if inDflash a && inDflash (a + 219) && s.rdW a == 0xCA1B0001#32 && s.rdW (a + 4) == 26#32 &&
      !((List.range 55).any fun i => s.badWord (a + 4 * i)) && s.rdW (a + 216) == s.crcWords a 54 then
    some ((List.range 52).map fun i => s.rdW (a + 8 + 4 * i))
  else none

/-- Put an image into force. -/
def State.calApply (s : State) (l : List Word) (fact : Bool) : State :=
  let s := (l.foldl (fun (p : State × Nat) w => (p.1.wr p.2 w, p.2 + 4)) (s, R.CAL_E0W0)).1
  { s with adc := { s.adc with fact := fact } }

/-- Load the image at an address (R515, R516, R526). -/
def State.calLoad (s : State) (a : Nat) (boot : Bool) : State :=
  match s.calImage a with
  | none => ({ s with adc := { s.adc with loadErr := true } } : State).raise P.CAL 1
  | some l =>
    let s := { s with adc := { s.adc with loadErr := false } }
    (s.calApply l (boot || a == 0x0C003F00)).raise P.CAL 0

end Sys2Proof.Machine
end

