-- ==== Sys2Proof/Machine/Pst.lean ====
section
/-! DEFINITION. The power stage: PWM compares and gates, monitors and latches, safe state, release, FAULT_N, and the settling of the output state (chapter 9). -/

namespace Sys2Proof.Machine

/-! ## Legs and PWM (R442 to R454) -/

/-- The mode of leg `n`, 1 to 4 (Table 9-2). -/
def State.legMode (s : State) (n : Nat) : Nat := s.fd R.PST_CFG (2 * n + 6) 2

/-- Slot length in core cycles. -/
def State.slotLen (s : State) : Nat := s.tickLen / s.slots

/-- The signed bridge duty of bridge A (0) or B (1). -/
def State.bduty (s : State) (b : Nat) : Int := sgn 18 (s.rd (if b = 0 then R.PST_BDUTYA else R.PST_BDUTYB)).toNat

/-- The duty of a leg, limited to 0 to 65,536 (R448, R450). -/
def State.legDuty (s : State) (n : Nat) : Nat :=
  let d : Int :=
    if !s.bit R.PST_CFG 0 then (s.fd (R.PST_DUTY1 + 4 * (n - 1)) 0 17 : Int)
    else
      let b := (n - 1) / 2
      let sa := n % 2 == 1
      let v := s.bduty b
      if s.bit R.PST_CFG (1 + b) then asr (if sa then 65536 + v else 65536 - v) 1
      else if sa then (if v ≥ 0 then v else 0) else (if v ≥ 0 then 0 else -v)
  (clampI 0 65536 d).toNat

/-- The compare of a duty (R448). -/
def compareOf (d h : Nat) : Nat := (d * h + 32768) / 65536

/-- The overcurrent channel, A (0) or B (1), that guards leg `n` (Table 9-1). -/
def State.guardedBy (s : State) (n : Nat) : Nat := if n ≤ (if s.bit R.PST_CFG 0 then 2 else 3) then 0 else 1

/-- The high sides a channel's cycle-by-cycle trip holds off (Table 9-1). -/
def State.cbcOff (s : State) (n : Nat) : Bool :=
  if s.guardedBy n = 0 then s.pst.tripA else s.pst.tripB

/-- The twin's hold puts every gate driver at high impedance: the SHARED binding (R656). -/
def State.holdHiZ (s : State) : Bool := s.twn.hold && !s.bit R.TWN_CFG 0

/-- The compare of leg `n` in the half-slot in force. -/
def State.cmpNow (s : State) (n : Nat) : Nat := s.fd (R.PST_CMP1 + 4 * (n - 1)) 0 17

/-- A cycle count longer ago, or further on, than any stretch the rules ask of. -/
def longAgo : Int := 1000000

/-- How leg `n` stood at the end of the slot before: no FET on where nothing is kept of it. -/
def State.legPast (s : State) (n : Nat) : LegPast := s.pst.past.getD (n - 1) ⟨none, 0, -longAgo⟩

/-- The stretch of cycles around cycle `k` of a slot of two half-slots of `h` cycles over which a leg's high side is commanded as it is in `k`, and how (R449): the slot before left the
leg as `q` says, the slot's halves run with `a` and `b`, and what follows is taken to go on with `b`. Where no FET was on before, the stretch counts from `dt` cycles before the slot:
no FET turns off, so none waits (R453). -/
def stretch (h : Nat) (q : LegPast) (dt : Int) (a b k : Nat) : Bool × Int × Int :=
  let before (on : Bool) : Int :=
    match q.lvl with
    | none => -dt
    | some l => if l = on then q.since else 0
  if k < h then
    if k < a then (true, before true, if a < h then a else if b ≥ h then longAgo else h)
    else (false, if a = 0 then before false else a, if b = 0 then longAgo else if b ≥ h then h else 2 * h - b)
  else if 2 * h ≤ k + b then (true, if b < h then 2 * h - b else if a ≥ h then before true else h, if b ≥ h then longAgo else 2 * h + b)
  else (false, if a ≥ h then h else if a = 0 then before false else a, if b = 0 then longAgo else 2 * h - b)

/-- The dead time of leg `n` as its PWM meets it: only a COMP leg changes from one FET to the other (R444, R453). -/
def State.legDead (s : State) (n : Nat) : Int := if s.legMode n = 1 then (s.fd R.GDR_DT 0 8 : Int) else 0

/-- The cycle of the slot at which the cycle-by-cycle trip of leg `n`'s channel came (Table 9-1). -/
def State.tripAt (s : State) (n : Nat) : Nat :=
  if s.guardedBy n = 0 then s.pst.tripKA else s.pst.tripKB

/-- The stretch around cycle `k` of a leg in COMP or HSONLY: after a cycle-by-cycle trip the high side counts as commanded off to the end of the slot, and a low side that was commanded
on stays so (R449, R462). -/
def State.legRun (s : State) (n k : Nat) : Bool × Int × Int :=
  let h := s.slotLen / 2
  let b := s.cmpNow n
  let r := stretch h (s.legPast n) (s.legDead n) (s.pst.cmpF.getD (n - 1) 0) b
  let k0 := s.tripAt n
  if s.cbcOff n && decide (k0 ≤ k) then (false, if (r k0).1 then (k0 : Int) else (r k0).2.1, if b = 0 then longAgo else 2 * h) else r k

/-- The cycle from which the FET of leg `n`'s stretch `r` is on: the dead time after the stretch began. A high-side leg waits where BRAKE had its low side on (R453). -/
def State.turnAt (s : State) (n : Nat) (r : Bool × Int × Int) : Int :=
  r.2.1 + if s.legMode n = 2 && r.1 && r.2.1 == 0 && (s.legPast n).lvl == some false then (s.fd R.GDR_DT 0 8 : Int) else s.legDead n

/-- The gates of a leg in DRIVE in cycle `k` of the slot: the FET that turns on after the other waits for the dead time, and an interval shorter than the minimum on-time is left out
(R444, R449, R453, R454, R462). -/
def State.driveGates (s : State) (n k : Nat) : Bool × Bool :=
  let m := s.legMode n
  if m = 0 then (false, false)
  else if m = 3 then (false, true)
  else
    let r := s.legRun n k
    let on := decide (s.turnAt n r ≤ k) && decide (r.2.2 - s.turnAt n r ≥ (s.fd R.GDR_MINON 0 8 : Int))
    (r.1 && on, m == 1 && !r.1 && on)

/-- The cycle in which a FET of leg `n` last turned on, seen from cycle `k` of the slot in DRIVE; the first argument bounds the stretches looked back over. -/
def State.lastOn (s : State) (n : Nat) : Nat → Nat → Int
  | 0, _ => (s.legPast n).turn
  | f + 1, k =>
    if s.legMode n = 0 then (s.legPast n).turn
    else if s.legMode n = 3 then (if (s.legPast n).lvl == some false then (s.legPast n).turn else 0)
    else
      let r := s.legRun n k
      let g := s.driveGates n k
      if g.1 || g.2 then (if r.2.1 = (s.legPast n).since && (s.legPast n).lvl == some r.1 then (s.legPast n).turn else s.turnAt n r)
      else if 1 ≤ r.2.1 then s.lastOn n f (r.2.1 - 1).toNat
      else (s.legPast n).turn

/-- Line-time as the phase of the tick in progress tells it: a core cycle is 5/8 of its unit. -/
def State.stageTime (s : State) : LineTime :=
  let d := s.tck.phase * 5 / 8
  if s.ticking && s.tck.inTick && decide ((s.lt - s.tck.edge).toNat < d) then s.tck.edge + BitVec.ofNat 48 d else s.lt

/-- Core cycles since BRAKE began; long ago where the count of line-time was set back since. -/
def State.brakeAge (s : State) : Int :=
  match s.pst.brakeIn with
  | none => longAgo
  | some (t, _) =>
    let d := sgn 48 (s.stageTime - t).toNat
    if d < 0 ∨ d > longAgo then longAgo else d * 8 / 5

/-- The low side of leg `n` was on as BRAKE began. -/
def State.lowBefore (s : State) (n : Nat) : Bool :=
  match s.pst.brakeIn with
  | none => true
  | some (_, l) => l.getD (n - 1) false

/-- The low side of leg `n` has come on in BRAKE: it was on at the entry, or the dead time has passed since (R466). -/
def State.brakeLow (s : State) (n : Nat) : Bool := s.lowBefore n || decide ((s.fd R.GDR_DT 0 8 : Int) ≤ s.brakeAge)

/-- Core cycles since a low side that BRAKE turned on came on: less than 0 before. -/
def State.brakeOn (s : State) (n : Nat) : Int := if s.lowBefore n then longAgo else s.brakeAge - (s.fd R.GDR_DT 0 8 : Int)

/-- The stage drives its legs: DRIVE, and no hold of a twin (R656). -/
def State.driving (s : State) : Bool := s.pst.out == .drive && !s.twn.hold

/-- The gates of a leg, high side and low side, in cycle `k` of a slot (R444, R445, R465, R656). -/
def State.gates (s : State) (n k : Nat) : Bool × Bool :=
  if s.pst.out = .off || s.legMode n = 0 || s.holdHiZ then (false, false)
  else if !s.driving then (false, s.pst.brake && s.brakeLow n)
  else s.driveGates n k

/-- The cycle of the slot in progress. -/
def State.slotCyc (s : State) : Nat := s.tck.phase % max 1 s.slotLen

/-- Core cycles since a FET of leg `n` last turned on. -/
def State.turnAge (s : State) (n : Nat) : Int :=
  if s.driving then (s.slotCyc : Int) - s.lastOn n 4 s.slotCyc
  else if s.pst.brake && s.legMode n != 0 && decide (0 ≤ s.brakeOn n) then s.brakeOn n
  else longAgo

/-- GDR.GSTAT: the gates as they stand. -/
def State.gstat (s : State) : Word :=
  let k := s.slotCyc
  wd ((List.range 4).foldl (fun a i =>
    let g := s.gates (i + 1) k
    a + g.1.toNat * 2 ^ i + g.2.toNat * 2 ^ (i + 4)) 0)

/-- How leg `n` stands at the end of a slot, as the slot that follows finds it: as DRIVE had it, or BRAKE before the stage was released (R453, R466). -/
def State.legLeaves (s : State) (n : Nat) : LegPast :=
  if s.legMode n = 0 || s.holdHiZ then ⟨none, 0, -longAgo⟩
  else if s.pst.drove then
    let e := s.slotLen
    let r := s.legRun n (e - 1)
    let lvl := if s.legMode n = 3 then some false else if s.legMode n = 1 || r.1 then some r.1 else none
    ⟨lvl, max (-longAgo) (r.2.1 - e), max (-longAgo) (s.lastOn n 4 (e - 1) - e)⟩
  else if s.pst.braked && s.brakeLow n then ⟨some false, -longAgo, -s.brakeOn n⟩
  else ⟨none, 0, -longAgo⟩

/-- At a slot boundary a run of cycle-by-cycle trips ends where the slot had none, the high sides come back, and how the legs stood is kept (R454, R462). -/
def State.slotStart (s : State) : State :=
  { s with pst := { s.pst with
    past := [1, 2, 3, 4].map s.legLeaves
    cbcA := if s.pst.tripA then s.pst.cbcA else 0
    cbcB := if s.pst.tripB then s.pst.cbcB else 0
    tripA := false
    tripB := false } }

/-- Every leg's compare is computed anew (R448, R451). -/
def State.loadCompares (s : State) : State :=
  (List.range 4).foldl (fun s i => s.wr (R.PST_CMP1 + 4 * i) (wd (compareOf (s.legDuty (i + 1)) (s.slotLen / 2)))) s

/-- The start of a slot as update point (R451). -/
def State.slotUpdate (s : State) : State :=
  let s := s.slotStart.loadCompares
  { s with pst := { s.pst with cmpF := [1, 2, 3, 4].map s.cmpNow } }

/-- The half-slot the next update point begins: a slot's start, or its middle (R451). -/
def State.pointNext (s : State) (start : Bool) : Nat := s.pst.point + (s.pst.point + if start then 0 else 1) % 2

/-- An update point of the tick in progress after phase 0: the start of the next slot, its predecessor evaluated, or the middle of a slot, which loads while UPD is 1 (R50, R451). -/
def State.pwmUpdate (s : State) (start : Bool) : State :=
  let j := s.pointNext start
  if !(s.ticking && s.tck.inTick && decide (j < 2 * s.slots) && (!start || decide (j / 2 ≤ s.tck.evals))) then s
  else
    let s := { s with pst := { s.pst with point := j + 1 }, tck := { s.tck with phase := max s.tck.phase (j * (s.slotLen / 2)) } }
    if start then s.slotUpdate else if s.bit R.PST_CFG 3 then s.loadCompares else s

/-! ## FAULT_N (R98 to R101, R824) -/

/-- The LN7440 drives FAULT_N low: in reset, and in RUN and DOZE under R98; in SLEEP it releases it (Table 2-2). -/
def State.faultDriven (s : State) : Bool :=
  s.pin.vioOk && (s.pwr.inReset || (s.pwr.mode != .sleep &&
    (anyBit (s.rd (rFLT P.PST)) 0xBFF || (s.bit R.SYS_FCFG 0 && s.tck.state == .safe) || (s.bit R.SYS_FCFG 1 && s.safetyAny))))

/-- FAULT_N is pulled low from outside as R101 takes it: SYS.STAT.FEXT. -/
def State.extLow (s : State) : Bool := s.bit R.SYS_FCFG 4 && s.pin.faultExt && s.pin.vioOk && s.pwr.mode != .sleep && !s.faultDriven

/-- SYS.STAT.FAULTPIN. -/
def State.faultPin (s : State) : Bool := s.pin.vioOk && !(s.faultDriven || s.pin.faultExt)

/-! ## Monitors and latches (R458 to R464) -/

/-- The latch of a PST.FLT bit (R461). GATE, VCP_UV and DRV_UV are reported to self-test (R464). -/
def State.latch (s : State) (n : Nat) : State :=
  if s.bit (rFLT P.PST) n then s
  else
    let s := s.setFlt P.PST n
    let s := ((s.inc R.PST_TRIPCT).wr R.PST_LAST (setBit 0#32 n true)).wr R.PST_LASTTICK s.tck.now
    let s := s.stageSafe.raise P.PST 0
    let s := s.safetyOwn
    if n = 4 ∨ n = 7 ∨ n = 8 then s.detect 7 P.PST (wd n) else s

/-- A condition of a monitor begins to hold or ends. -/
def State.setCond (s : State) (n : Nat) (on : Bool) : State :=
  { s with pst := { s.pst with cond := (setBit (wd s.pst.cond) n on).toNat } }

/-- The condition of a monitor's bit holds. -/
def State.condOn (s : State) (n : Nat) : Bool := s.pst.cond.testBit n

/-- Whether a monitor is armed: an overcurrent channel in cycle mode does not latch, a VDS monitor watches the gates commanded on, the charge pump is watched after CPRDY, and the VDS and
gate-readback monitors are inactive under the twin's hold of a SHARED bridge (R656). -/
def State.monArmed (s : State) (n : Nat) : Bool :=
  if n = 0 then !s.bit R.PST_OCCFG 16
  else if n = 1 then !s.bit R.PST_OCCFG 17
  else if n = 7 then s.bit (rCTRL P.PST) 0 && s.pst.cprdy
  else if n = 2 then [1, 2, 3, 4].any fun j => (s.gates j s.slotCyc).1
  else if n = 3 then [1, 2, 3, 4].any fun j => (s.gates j s.slotCyc).2
  else if n = 4 then !s.holdHiZ
  else decide (n ≤ 9)

/-- VDS threshold codes in 10 mV (Table 9-6). -/
def vdsLevel (code : Nat) : Nat := [6, 8, 10, 12, 14, 17, 20, 25, 30, 40, 50, 60, 75, 100, 150, 200].getD code 200

/-- A blanking code in ns. -/
def blankNs (code : Nat) : Nat := 250 * 2 ^ code

/-- A deglitch code in ns. -/
def dglNs (code : Nat) : Nat := [0, 125, 250, 500].getD code 500

/-- What a monitor measures, in mV, meets its condition (Table 9-5); the thresholds of the charge pump, the drivers, the gate readback and the temperature are the part's own, and
a command that names one of these says that its condition holds. -/
def State.monMet (s : State) (n mv : Nat) : Bool :=
  if n = 0 then decide (mv > s.fd R.PST_OCCFG 0 6 + 1)
  else if n = 1 then decide (mv > s.fd R.PST_OCCFG 8 6 + 1)
  else if n = 2 then decide (mv > 10 * vdsLevel (s.fd R.GDR_VDS 0 4))
  else if n = 3 then decide (mv > 10 * vdsLevel (s.fd R.GDR_VDS 4 4))
  else if n = 5 then decide (mv < 4500 + 500 * s.fd R.SUP_VDTHR 0 5)
  else if n = 6 then decide (mv > 16000 + 2000 * s.fd R.SUP_VDTHR 8 5)
  else true

/-- The deglitch time of a monitor in ns (Table 9-5). -/
def State.monDgl (s : State) (n : Nat) : Nat :=
  if n ≤ 1 then dglNs (s.fd R.GDR_OCT 8 2)
  else if n ≤ 3 then dglNs (s.fd R.GDR_VDS 10 2)
  else if n = 5 ∨ n = 6 then dglNs (s.fd R.SUP_VDDGL 0 2)
  else if n = 4 then blankNs (s.fd R.GDR_VDS 8 2) + 1000
  else if n = 7 ∨ n = 8 then 250
  else if n = 9 then 4000
  else 0

/-- `age` core cycles of 6.25 ns are at least `ns` ns. -/
def aged (age : Int) (ns : Nat) : Bool := decide (25 * age ≥ 4 * (ns : Int))

/-- The blanking of an overcurrent or VDS monitor and after it its deglitch time have passed: since the last turn-on of a FET in the legs the channel guards, or since some leg's FET that
is on was turned on. A gate has its time counted from the command that it does not follow, and the other monitors have no blanking (Table 9-5). -/
def State.monClear (s : State) (n : Nat) : Bool :=
  if n ≤ 1 then [1, 2, 3, 4].all fun j => s.guardedBy j != n || aged (s.turnAge j) (blankNs (s.fd R.GDR_OCT 0 2) + s.monDgl n)
  else if n ≤ 3 then [1, 2, 3, 4].any fun j =>
    (if n = 2 then (s.gates j s.slotCyc).1 else (s.gates j s.slotCyc).2) && aged (s.turnAge j) (blankNs (s.fd R.GDR_VDS 8 2) + s.monDgl n)
  else true

/-- A monitor has found `mv` mV for `ns` ns: its condition holds, and it latches where that has lasted, outside its blanking, for its deglitch time (R458). -/
def State.trip (s : State) (n mv ns : Nat) : State :=
  if !(s.monArmed n && s.monMet n mv) then s
  else
    let s := s.setCond n true
    if s.monClear n && decide (s.monDgl n ≤ ns) then s.latch n else s

/-- Channel A (false) or B (true) has tripped in this slot. -/
def State.tripped (s : State) (b : Bool) : Bool := if b then s.pst.tripB else s.pst.tripA

/-- The run of slots with a trip of a channel. -/
def State.cbcRun (s : State) (b : Bool) : Nat := if b then s.pst.cbcB else s.pst.cbcA

/-- The first trip of a channel in a slot. -/
def State.cbcFirst (s : State) (b : Bool) : State :=
  let k := s.slotCyc
  if b then { s with pst := { s.pst with tripB := true, tripKB := k, cbcB := satAdd 8 s.pst.cbcB 1 } }
  else { s with pst := { s.pst with tripA := true, tripKA := k, cbcA := satAdd 8 s.pst.cbcA 1 } }

/-- A cycle-by-cycle trip of channel A (false) or B (true), `mv` mV for `ns` ns (R458, R462). -/
def State.cbcTrip (s : State) (b : Bool) (mv ns : Nat) : State :=
  if !(s.bit R.PST_OCCFG (if b then 17 else 16) && s.monMet b.toNat mv) then s
  else
    let s := s.setCond b.toNat true
    if !s.monClear b.toNat || decide (ns < s.monDgl b.toNat) then s
    else
      let s := (s.inc R.PST_CBCCT).raise P.PST 1
      if s.tripped b then s
      else
        let s := s.cbcFirst b
        if s.fd R.PST_OCCFG 24 8 ≤ s.cbcRun b then s.latch 11 else s

/-- The overcurrent condition of a channel in cycle mode holds: CBCLIM is not cleared (R463). -/
def State.cycleOver (s : State) : Bool := (s.condOn 0 && s.bit R.PST_OCCFG 16) || (s.condOn 1 && s.bit R.PST_OCCFG 17)

/-! ## Safe state and settling (R465 to R470) -/

/-- COAST is applied in place of BRAKE (R467). -/
def State.coastForced (s : State) : Bool := anyBit (s.rd (rFLT P.PST)) 0x718 || decide (s.lcs.state ≥ 3)

/-- The external pull of FAULT_N as R101 takes it, and the latch of its beginning. -/
def State.pullLatch (s : State) : State :=
  let fx := s.extLow
  let t := { s with pin := { s.pin with fext := fx } }.setCond 10 fx
  if fx && !s.pin.fext then (t.raise P.SYS 0).latch 10 else t

/-- The safe state that is applied: BRAKE, or COAST in its place with the event of the substitution (R467); BRAKE begins with the low sides that are on (R466). -/
def State.applySafe (s : State) : State :=
  let sub := s.bit R.PST_SAFE 0 && s.coastForced && s.pst.out == .safe
  let s := s.raiseIf (sub && !s.pst.subst) P.PST 5
  let brake := s.bit R.PST_SAFE 0 && !s.coastForced
  let drive := s.outState == .drive && !s.twn.hold
  let braked := brake && s.outState != .off && !drive
  let lows := [1, 2, 3, 4].map fun n => s.pst.drove && (s.driveGates n s.slotCyc).2
  { s with pst := { s.pst with
    out := s.outState, subst := sub, brake := brake, drove := drive, braked := braked
    brakeIn := if !braked then none else if s.pst.braked then s.pst.brakeIn else some (s.stageTime, lows) } }

/-- Outside a tick state no release stands (R446). -/
def State.relTick (s : State) : State := if s.ticking then s else s.clearRel

/-- The stage follows its conditions: the external pull and its latch, the release, Table 9-3, and the safe state applied. -/
def State.settleOut (s : State) : State := s.pullLatch.relTick.syncOut.applySafe

/-! ## Release (R471 to R474) -/

/-- A leg needs the charge pump. -/
def State.needsPump (s : State) : Bool := [1, 2, 3, 4].any fun n => s.legMode n == 1 || s.legMode n == 2

/-- The first failing release condition of Table 9-8, or 0. -/
def State.relWhy (s : State) (authorised : Bool) : Nat :=
  if !(authorised && s.tck.state == .run) then 1
  else if s.rd (rFLT P.PST) != 0#32 then 2
  else if s.pst.cond != 0 then 3
  else if s.safetyAny then 4
  else if !(s.pst.cprdy || !s.needsPump) then 5
  else if !(s.lcs.state == 1 || s.lcs.state == 2) then 6
  else 0

/-- A request is refused. -/
def State.relRefuse (s : State) (why : Nat) : State :=
  ({ s with pst := { s.pst with relWhy := why, relReq := false } }).raise P.PST 4

/-- A write of 1 to RELEASE: refused at once in IDLE and SAFE, else held for the next edge. -/
def State.relAsk (s : State) : State :=
  if s.direct then s.relRefuse 1 else { s with pst := { s.pst with relReq := true } }

/-- The request is evaluated at phase 0. -/
def State.relEval (s : State) (authorised : Bool) : State :=
  if !s.pst.relReq then s
  else
    let w := s.relWhy authorised
    if w ≠ 0 then s.relRefuse w
    else
      let s := { s with pst := { s.pst with rel := true, relReq := false } }
      let s := { s with pst := { s.pst with out := s.outState }, fmA := { s.fmA with safety := false }, fmB := { s.fmB with safety := false } }
      s.raise P.PST 3

/-! ## Register values and configuration writes (R443, R452, R479, R481) -/

/-- The charge pump stops with CPEN: CPRDY falls, and its undervoltage is no condition until CPRDY has risen again (R456, Table 9-5). -/
def State.pumpStop (s : State) : State := { s.setCond 7 false with pst := { (s.setCond 7 false).pst with cprdy := false } }

/-- PST.STAT. -/
def State.pstStat (s : State) : Word :=
  let o := match s.pst.out with
    | .off => 0
    | .safe => 1
    | .drive => 2
  wd (o + s.pst.brake.toNat * 4 + s.pst.rel.toNat * 8 + s.pst.cprdy.toNat * 16 + s.pst.relWhy % 16 * 256 + (max s.pst.cbcA s.pst.cbcB) % 256 * 65536)

/-- SUP.STAT. -/
def State.supStat (s : State) : Word :=
  wd ((s.condOn 5).toNat + (s.condOn 6).toNat * 2 + (s.condOn 7).toNat * 4 + (s.condOn 8).toNat * 8 + s.pst.otw.toNat * 16 + (s.condOn 9).toNat * 32)

/-- What a write makes of a PST, GDR or SUP register: its value and the event of a refusal, page and number. -/
def State.pstAccept (s : State) (a : Nat) (old new : Word) : Word × Option (Nat × Nat) :=
  if a = R.PST_CFG then if !s.direct then (old, some (P.PST, 6)) else (new, none)
  else if a = R.PST_OCCFG then (keepFld old 24 8 (· == 0) new, none)
  else if R.PST_DUTY1 ≤ a ∧ a ≤ R.PST_DUTY4 then if s.bit R.PST_CFG 0 || s.bit R.PST_CFG (16 + (a - R.PST_DUTY1) / 4) then (new, none) else (old, none)
  else if a = R.PST_BDUTYA then if s.bit R.PST_CFG 16 then (new, none) else (old, none)
  else if a = R.PST_BDUTYB then if s.bit R.PST_CFG 18 then (new, none) else (old, none)
  else if a = R.GDR_DT then if !s.direct || decide (fld new 0 8 < 8) then (old, some (P.PST, 6)) else (new, none)
  else if a = R.GDR_HSDRV ∨ a = R.GDR_LSDRV ∨ a = R.GDR_MINON then if !s.direct then (old, some (P.PST, 6)) else (new, none)
  else if a = R.SUP_VDTHR then if fld new 8 5 > 24 then (setFld new 8 5 (fld old 8 5), some (P.SUP, 2)) else (new, none)
  else (new, none)

end Sys2Proof.Machine
end

