-- ==== Sys2Proof/Machine/Trig.lean ====
section
/-! DEFINITION. Sine, cosine and arctangent on angles in 2^-32 turn (R589, R593), by integer series carried to 2^-96. -/

namespace Sys2Proof.Machine

/-- A quarter turn in radians × 2^96. -/
def quarterRad : Int := 124451306656115542615260972311

/-- Terms of the sine or cosine series from term `t`, with the square of the angle and the next divisor. -/
def seriesFrom : Nat → Int → Int → Int → Int
  | 0, _, _, _ => 0
  | n + 1, t, x2, k => t + seriesFrom n (-(t * x2 / (2 ^ 96 : Nat)) / (k * (k + 1))) x2 (k + 2)

/-- Sine of `r` quarter turns ÷ 2^30, r from 0 to 2^30, × 2^96. -/
def sinQ (r : Nat) : Int :=
  let x := (r : Int) * quarterRad / (2 ^ 30 : Nat)
  seriesFrom 20 x (x * x / (2 ^ 96 : Nat)) 2

/-- Cosine of the same × 2^96. -/
def cosQ (r : Nat) : Int :=
  let x := (r : Int) * quarterRad / (2 ^ 30 : Nat)
  seriesFrom 20 (2 ^ 96 : Nat) (x * x / (2 ^ 96 : Nat)) 1

/-- Sine of an angle in 2^-32 turn, × 2^96. -/
def sinFull (a : Nat) : Int :=
  let q := a / 2 ^ 30 % 4
  let r := a % 2 ^ 30
  if q = 0 then sinQ r else if q = 1 then cosQ r else if q = 2 then - sinQ r else - cosQ r

/-- The sine as an integer from −32,768 to 32,768, round half up (R589). -/
def sin15 (a : Nat) : Int := rshr (sinFull a) 81

/-- The cosine, formed likewise. -/
def cos15 (a : Nat) : Int := sin15 (a + 2 ^ 30)

/-- Bisection of the first quadrant: the largest angle, built bit by bit, whose tangent is at most y ÷ x. -/
def atanBits : Nat → Nat → Nat → Nat → Nat
  | 0, _, _, r => r
  | n + 1, y, x, r =>
    let r' := r + 2 ^ n
    if (y : Int) * cosQ r' ≥ (x : Int) * sinQ r' then atanBits n y x r' else atanBits n y x r

/-- The angle of (x, y) in 2^-32 turn, the spec's inaccuracy of at most 2^16 being a free value (R593). -/
def atan2 (y x : Int) : Int :=
  let q := (atanBits 30 y.natAbs x.natAbs 0 : Int)
  let base :=
    if x ≥ 0 then (if y ≥ 0 then q else -q)
    else (if y ≥ 0 then (2 ^ 31 : Nat) - q else q - (2 ^ 31 : Nat))
  base + clampI (-65536) 65536 (Config.atanError y x)

end Sys2Proof.Machine
end

