-- ==== Sys2Proof/Machine/Gen.lean ====
section
/-! DEFINITION. Profile generators, repetitive controllers and injectors (chapter 13), and the engine's number format and node reads they share (R561 to R566). -/

namespace Sys2Proof.Machine

/-! ## Number format (R566) -/

/-- M(k, x, s) and whether it saturated. -/
def mulS (k x : Int) (s : Nat) : Int × Bool :=
  let p := rshr (k * x) s
  (satS 32 p, decide (satS 32 p ≠ p))

/-- M(k, x, s). -/
def mulM (k x : Int) (s : Nat) : Int := (mulS k x s).1

/-- A signed 32-bit value of any integer, modulo 2^32. -/
def wrap32 (x : Int) : Int := (wdI x).toInt

/-- The residue of an integer as an angle in 2^-32 turn. -/
def ang (x : Int) : Nat := (wdI x).toNat

/-- Sign of an integer. -/
def sgnI (x : Int) : Int := if x > 0 then 1 else if x < 0 then -1 else 0

/-! ## Nodes (Table 12-1) -/

/-- The value of a node. -/
def State.node (s : State) (n : Nat) : Int := Sparse.get (fun _ => (0 : Int)) s.ctl.nodes n

/-- Store a node. -/
def State.setNode (s : State) (n : Nat) (v : Int) : State :=
  { s with ctl := { s.ctl with nodes := Sparse.put (fun _ => (0 : Int)) s.ctl.nodes n v } }

/-- What the injectors add to a node together (R635). -/
def State.injSum (s : State) (n : Nat) : Int :=
  let one (k : Nat) : Int := if n ≠ 0 && s.fd (R.INJ_CFG0 + 0x20 * k) 8 8 == n then (s.injs.getD k ⟨false, 0, 0, 0, 0, 0, false⟩).out else 0
  one 0 + one 1

/-- A node's value with what the injectors add: the sum is exact before it saturates (R566, R635). -/
def State.injAdd (s : State) (n : Nat) (v : Int) : Int := if s.injSum n = 0 then v else satS 32 (v + s.injSum n)

/-- Store a node with what is injected there. -/
def State.putNode (s : State) (n : Nat) (v : Int) : State := s.setNode n (s.injAdd n v)

/-- Whether a node address is one of Table 12-1. -/
def nodeExists (n : Nat) : Bool :=
  n ≤ 6 || (decide (8 ≤ n) && decide (n ≤ 0x15)) || (decide (0x18 ≤ n) && decide (n ≤ 0x42)) || (decide (0x48 ≤ n) && decide (n ≤ 0x52)) ||
  (decide (0x58 ≤ n) && decide (n ≤ 0x63)) || (decide (0x68 ≤ n) && decide (n ≤ 0x6B))

/-- The flags a node carries, none for a node without flags (R562). -/
def State.nodeFlg (s : State) (n : Nat) : Option Nat :=
  let f (c : Nat) (v : Bool) : Nat := (s.chain (1 + c + (if v then 2 else 0))).2
  let fv (c : Nat) : Bool := s.fmMode c == 1
  match n with
  | 8 => some (f 0 false)
  | 9 => some (f 0 true)
  | 10 => some (f 1 false)
  | 11 => some (f 1 true)
  | 12 | 13 | 16 | 17 => some flgValid
  | 14 => some (f 0 (fv 0))
  | 15 => some (f 0 (!fv 0))
  | 18 => some (f 1 (fv 1))
  | 19 => some (f 1 (!fv 1))
  | _ => if 1 ≤ n ∧ n ≤ 6 then some (s.adc.vals.getD (n - 1) (0, 0)).2 else none

/-! ## The velocity step (R616, R617) -/

/-- The settling velocity S(c). -/
def settleV (v c j : Int) : Int :=
  let m := (c.natAbs : Int) / j
  v + c + sgnI c * (m * c.natAbs - j * m * (m + 1) / 2)

/-- The largest element of a list that meets a test, else a default. -/
def largest (d : Int) (p : Int → Bool) (l : List Int) : Int :=
  match l.filter p with
  | [] => d
  | x :: t => t.foldl max x

/-- The smallest. -/
def smallest (d : Int) (p : Int → Bool) (l : List Int) : Int :=
  match l.filter p with
  | [] => d
  | x :: t => t.foldl min x

/-- The next acceleration (R616). -/
def vstep (v a vc j am : Int) : Int :=
  let lo0 := max (-am) (a - j)
  let hi0 := min am (a + j)
  let lo := if lo0 > hi0 then a - sgnI a * j else lo0
  let hi := if lo0 > hi0 then lo else hi0
  let ah := clampI lo hi a
  let d := vc - v
  let c := [lo, ah, hi] ++ (if lo ≤ d ∧ d ≤ hi then [d] else [])
  if settleV v ah j ≤ vc then largest lo (fun x => decide (settleV v x j ≤ vc)) c
  else smallest hi (fun x => decide (settleV v x j ≥ vc)) c

/-- The distance covered while stopping (R617); `fuel` bounds the slots. -/
def stopDist : Nat → Int → Int → Int → Int → Int
  | 0, _, _, _, _ => 0
  | n + 1, v, a, j, am =>
    if v = 0 ∧ a = 0 then 0
    else
      let a' := vstep v a 0 j am
      (v + a') + stopDist n (v + a') a' j am

/-- Dstop(V, A, J). -/
def dstop (v a j am : Int) : Int := stopDist (v.natAbs + a.natAbs * (a.natAbs + 2) + 8) v a j am

/-! ## Generators (R604 to R625) -/

/-- A generator. -/
def State.gen (s : State) (j : Nat) : GenSt := s.gens.getD j resetGen

/-- Store a generator. -/
def State.setGen (s : State) (j : Nat) (g : GenSt) : State := { s with gens := s.gens.set j g }

/-- One evaluation in POS (R618); the flag tells that OVERSHOOT arises. -/
def posStep (g : GenSt) (vmax amax jmax : Int) : GenSt × Bool :=
  let e := g.t - g.p
  let rest := g.v = 0 ∧ g.a = 0
  if rest ∧ e = 0 then ({ g with arrived := true }, false)
  else
    let near := decide ((e.natAbs : Int) < 2 * jmax)
    let jc := if rest then (if near then (e.natAbs : Int) / 2 else 0) else g.jc
    if rest ∧ jc = 0 ∧ near then ({ g with jc := jc, p := g.t }, false)
    else
      let j := if jc > 0 then jc else jmax
      let ax := vstep g.v g.a (sgnI e * vmax) j amax
      let vx := g.v + ax
      let px := g.p + vx
      if sgnI e * (g.t - (px + dstop vx ax j amax)) ≥ 0 then
        ({ g with jc := jc, arrived := false, a := ax, v := vx, p := px }, false)
      else
        let a := vstep g.v g.a 0 j amax
        let v := g.v + a
        let p := g.p + v
        let ov := decide (sgnI e * (g.t - (p + dstop v a j amax)) < 0)
        ({ g with jc := jc, arrived := false, a := a, v := v, p := p }, ov)

/-- One evaluation in VEL (R623, R624). -/
def velStep (g : GenSt) (vmax amax jmax : Int) (frac : Nat) : GenSt × Bool :=
  let vc := clampI (-vmax) vmax g.t
  let a := vstep g.v g.a vc jmax amax
  let st := settleV g.v a jmax
  let ov := decide (g.v < vc ∧ st > vc) || decide (g.v > vc ∧ st < vc)
  let v := g.v + a
  ({ g with a := a, v := v, p := (g.p + v) % (2 ^ (32 + frac) : Nat), arrived := false }, ov)

/-- Configuration of generator `j`: mode, FRAC, VMAX, AMAX, JMAX. -/
def State.genCfg (s : State) (j : Nat) : Nat × Nat × Int × Int × Int :=
  let b := R.PRF_CFG0 + 0x20 * j
  (s.fd b 0 2, s.fd b 8 5, (s.fd (b + 4) 0 31 : Int), (s.fd (b + 8) 0 31 : Int), (s.fd (b + 12) 0 31 : Int))

/-- One evaluation of a generator, its events and nodes (R605, R614, R615, R618 to R624): in OFF they keep their values, with what is injected (R604, R635). OVERSHOOT is raised once for
each passing of a target. -/
def State.genEval (s : State) (j : Nat) : State :=
  let c := s.genCfg j
  let g := s.gen j
  if c.1 = 0 then (s.putNode (0x58 + j) g.pos).putNode (0x5C + j) g.vel
  else
    let r : GenSt × Bool :=
      if c.1 = 1 then ({ g with p := g.t, v := 0, a := 0, arrived := true }, false)
      else if c.1 = 2 then posStep g c.2.2.1 c.2.2.2.1 c.2.2.2.2
      else velStep g c.2.2.1 c.2.2.2.1 c.2.2.2.2 c.2.1
    let pos := rshr r.1.p c.2.1
    let g' := { r.1 with
      ovr := g.ovr || r.2, pass := r.2, arrived := if c.1 = 3 then decide (r.1.v = 0 ∧ r.1.a = 0 ∧ r.1.p = g.t) else r.1.arrived
      pos := if c.1 = 3 then wrap32 pos else satS 32 pos
      vel := satS 32 (rshr (if c.1 = 1 then r.1.p else r.1.v) c.2.1) }
    let s := s.setGen j g'
    let s := s.raiseIf (g'.arrived && !g.arrived) P.PRF j
    let s := s.raiseIf (g'.pass && !g.pass) P.PRF (4 + j)
    ((s.putNode (0x58 + j) g'.pos).putNode (0x5C + j) g'.vel).putNode (0x60 + j) (satS 32 (rshr g'.a c.2.1))

/-- The loops bound to generator `j` (R600). -/
def State.bound (s : State) (j n : Nat) : Bool :=
  s.bit (rCTRL (P.LP n)) 0 && (s.fd (R.LP_SRC n) 0 8 == 0x58 + j || s.fd (R.LP_SRC n) 0 8 == 0x5C + j)

/-- The coast policy of loop `n` (R64). -/
def State.coast (s : State) (n : Nat) : Nat := s.fd R.TCK_COAST (2 * n) 2

/-- A node as it stands between evaluations: a constant or a set-point as it is committed, with what is injected; any other node as last computed (R565, Table 12-1). -/
def State.nodeNow (s : State) (n : Nat) : Int :=
  if 0x18 ≤ n ∧ n ≤ 0x1F then s.injAdd n (s.rd (R.CTL_CONST0 + 4 * (n - 0x18))).toInt
  else if 0x20 ≤ n ∧ n ≤ 0x2F then s.injAdd n (s.rd (R.CTL_SP0 + 4 * (n - 0x20))).toInt
  else s.node n

/-- A generator takes a target: it stays arrived where it stands at it (R622). -/
def State.setTarget (s : State) (j : Nat) (t : Int) : State :=
  s.setGen j { s.gen j with t := t, arrived := (s.gen j).arrived && decide ((s.gen j).p = t) }

/-- The targets latch at phases 48 to 55, from the set-points that committed in this tick (R613). -/
def State.latchTargets (s : State) : State :=
  let one (s : State) (j : Nat) : State :=
    let c := s.genCfg j
    if c.1 = 0 then s
    else if s.tck.synth then
      if (List.range 8).any fun n => s.bound j n && s.coast n == 1 then s.setTarget j 0 else s
    else s.setTarget j (s.nodeNow (s.fd (R.PRF_CFG0 + 0x20 * j) 16 8) * (2 ^ c.2.1 : Nat))
  (List.range 4).foldl one s

/-- A load of generator `j` (R625): at rest, it has arrived where the loaded position is its target (R622). -/
def State.genLoad (s : State) (j : Nat) : State :=
  let p := (s.rd (R.PRF_PRE0 + 0x20 * j)).toInt * (2 ^ (s.genCfg j).2.1 : Nat)
  let g := s.gen j
  (s.setGen j { g with p := p, v := 0, a := 0, jc := 0, arrived := decide (p = g.t) }).raiseIf (decide (p = g.t) && !g.arrived) P.PRF j

/-- A generator's mode changes: from STEP to POS or VEL it starts from P with V = 0 and A = 0 (R625). -/
def State.genMode (s : State) (j was : Nat) : State :=
  if was = 1 ∧ 2 ≤ (s.genCfg j).1 then s.setGen j { s.gen j with v := 0, a := 0 } else s

/-! ## Injectors (R609, R610, R632 to R636) -/

/-- An injector. -/
def State.inj (s : State) (k : Nat) : InjSt := s.injs.getD k ⟨false, 0, 0, 0, 0, 0, false⟩

/-- Store an injector. -/
def State.setInj (s : State) (k : Nat) (x : InjSt) : State := { s with injs := s.injs.set k x }

/-- A run starts (R632); until its first evaluation the nodes of stages 1 and 2 have the last value (R636). -/
def State.injStart (s : State) (k : Nat) : State :=
  s.setInj k ⟨true, 0, (s.rd (R.INJ_FREQ0 + 0x20 * k)).toNat, 0x7FFF, 0, (s.inj k).out, true⟩

/-- A run ends; `done` raises its event (R633). -/
def State.injStop (s : State) (k : Nat) (done : Bool) : State :=
  let x := s.inj k
  if x.run then (s.setInj k { x with run := false }).raiseIf done P.INJ (2 + k) else s

/-- The output of a waveform in evaluation `k` (Table 13-2). -/
def State.injWave (s : State) (k : Nat) (x : InjSt) : Int :=
  let b := R.INJ_CFG0 + 0x20 * k
  let amp := (s.rd (b + 4)).toInt
  let neg := satS 32 (0 - amp)
  match s.fd b 0 2 with
  | 0 => mulM amp (sin15 x.phi) 15
  | 1 => if x.s / 2 ^ 14 % 2 = 1 then amp else neg
  | 2 => mulM amp (sin15 x.phi) 15
  | _ => if x.k / (s.fd b 16 12) % 2 = 0 then amp else neg

/-- One evaluation of an injector (R609, R610, R632, R634): START in the first of a run, the output, then phase, frequency, register and count move on. -/
def State.injEval (s : State) (k : Nat) : State :=
  let x := s.inj k
  let b := R.INJ_CFG0 + 0x20 * k
  let s := s.raiseIf (x.run && x.fresh) P.INJ k
  let x := { x with fresh := false }
  if !x.run || s.tck.synth then ((s.setInj k { x with out := 0 }).setNode (0x6A + k) 0).wr (b + 0x1C) 0#32
  else
    let w := s.injWave k x
    let wave := s.fd b 0 2
    let f := if wave = 0 then ((s.rd (b + 8)).toNat : Int) else x.f
    let hold := s.fd b 16 12
    let fb := (x.s / 2 ^ 14 + x.s / 2 ^ 13) % 2
    let x' : InjSt := { x with
      out := w
      phi := if wave = 0 ∨ wave = 2 then ang (x.phi + f) else x.phi
      f := if wave = 2 then clampI 0 ((2 ^ 31 : Nat) - 1) (x.f + (s.rd (b + 12)).toInt) else x.f
      s := if wave = 1 ∧ hold ≠ 0 ∧ (x.k + 1) % hold = 0 then (x.s * 2 + fb) % 2 ^ 15 else x.s
      k := x.k + 1 }
    let s := (s.setInj k x').setNode (0x6A + k) w
    let s := (s.wr (b + 0x14) (wd x'.phi)).wr (b + 0x18) (wd (min x'.k 0xFFFFFFFF))
    s.wr (b + 0x1C) (wdI w)

/-- The end of the runs whose length has passed: they produce 0 from the next evaluation (R633). -/
def State.injEnds (s : State) : State :=
  let one (s : State) (k : Nat) : State :=
    let len := (s.rd (R.INJ_LEN0 + 0x20 * k)).toNat
    let x := s.inj k
    if x.run ∧ len ≠ 0 ∧ x.k ≥ len then s.injStop k true else s
  one (one s 0) 1

/-! ## Repetitive controllers (R607, R608, R626 to R629) -/

/-- A controller. -/
def State.rpt (s : State) (c : Nat) : RptSt := s.rpts.getD c ⟨0, none, false⟩

/-- Store a controller. -/
def State.setRpt (s : State) (c : Nat) (x : RptSt) : State := { s with rpts := s.rpts.set c x }

/-- A controller is enabled: its next evaluation is the first (R607, R626). -/
def State.rptEnable (s : State) (c : Nat) : State := s.setRpt c { s.rpt c with prev := none }

/-- Address of a bin. -/
def binAddr (c b : Nat) : Nat := 0x32000000 + 0x400 * c + 4 * b

/-- A bin's value. -/
def State.bin (s : State) (c b : Nat) : Int := (s.rdW (binAddr c b)).toInt

/-- The number of bins N (R607). -/
def State.rptN (s : State) (c : Nat) : Nat :=
  if s.bit (R.RPT_CFG0 + 0x20 * c) 1 then s.fd (R.RPT_CFG0 + 0x20 * c) 8 9 else 256

/-- Stage 3 of a controller: the bin index and the node (R607, R608, R628). -/
def State.rptEval (s : State) (c : Nat) : State :=
  let b := R.RPT_CFG0 + 0x20 * c
  let x := s.rpt c
  if !s.bit b 0 then ((s.setRpt c { x with prev := none, learned := false }).setNode (0x68 + c) 0).wr (b + 0x18) 0#32
  else
    let n := s.rptN c
    let i :=
      if s.bit b 1 then (match x.prev with | some p => (p + 1) % n | none => 0)
      else ang (s.node (s.fd b 24 8) + (s.rd (b + 0x10)).toInt) / 2 ^ 24
    let o := (i + s.fd (b + 4) 8 8) % n
    let skip := match x.prev with
      | some p => !s.bit b 1 && i != p && i != (p + 1) % 256 && i != (p + 255) % 256
      | none => false
    let s := if skip then (s.raise P.RPT (2 + c)).inc (b + 0x1C) else s
    let w := s.bin c o
    let s := s.setRpt c { s.rpt c with b := i }
    ((s.wr (b + 0x14) (wd (i + 256 * o))).wr (b + 0x18) (wdI w)).setNode (0x68 + c) w

/-- Clamp a bin to ±WLIM, raising SAT when that changes it (R627); what the core wrote in this evaluation stands (R152, R629). -/
def State.binPut (s : State) (c b : Nat) (v : Int) : State :=
  let lim := (s.fd (R.RPT_WLIM0 + 0x20 * c) 0 31 : Int)
  let w := clampI (-lim) lim v
  let s := if s.ctl.binW.any fun e => e.1 == binAddr c b then s else s.hwStore (binAddr c b) (wdI w)
  s.raiseIf (decide (w ≠ v)) P.RPT c

/-- Stage 7 of a controller: learning (R626, R627). -/
def State.rptLearn (s : State) (c : Nat) : State :=
  let b := R.RPT_CFG0 + 0x20 * c
  let x := s.rpt c
  if !s.bit b 0 then s
  else
    let n := s.rptN c
    let esel := s.fd (b + 4) 0 8
    let flagsOk := match s.nodeFlg esel with
      | some f => hasFlg f flgValid || hasFlg f flgStale
      | none => true
    let moved := match x.prev with
      | some p => s.bit b 1 || x.b == (p + 1) % 256 || x.b == (p + 255) % 256
      | none => false
    let go := s.bit b 2 && x.prev.isSome && !s.tck.synth && (!s.bit b 4 || s.pst.out == .drive) && flagsOk && moved
    let s := s.setRpt c { x with prev := some x.b, learned := go }
    if !go then s
    else
      let i := x.b
      let fsh := s.fd (b + 4) 16 5
      let w := s.bin c i
      let w := if fsh > 0 then w - asr w fsh else w
      let dl := mulM (s.rd (b + 8)).toInt (s.node esel) (s.fd (b + 4) 24 5)
      if !s.bit b 3 then s.binPut c i (w + dl)
      else
        let s := s.binPut c i (w + asr dl 1)
        let side (s : State) (k : Nat) : State := s.binPut c k (s.bin c k + asr dl 2)
        let lo := (i + n - 1) % n
        let hi := (i + 1) % n
        if lo = hi then side s lo else side (side s lo) hi

/-- Every bin of a controller becomes 0 (R629). -/
def State.rptClear (s : State) (c : Nat) : State :=
  (List.range 256).foldl (fun (s : State) b => s.memStore (binAddr c b) 4 0#32) s

end Sys2Proof.Machine
end

