-- ==== Sys2Proof/Machine/Engine.lean ====
section
/-! DEFINITION. The control engine: samples to nodes, the vector unit, loops, groups, sinks, force channels and trace samples, in the stages of Table 12-2 (chapter 12, R494, R495, R640, R644). -/

namespace Sys2Proof.Machine

/-! ## Triggers (R643, R644) -/

/-- A trigger of a source: accepted in ARMED once PRE records have been written. -/
def State.trgFire (s : State) (src : Nat) : State :=
  if s.trc.state = .armed ∧ s.trc.armCount ≥ s.fd R.TRC_PRE 0 14 then
    let r := trcRec 6 s.tck.now src
    let n := s.trcPos r
    let left := s.postFrom n
    let s := s.trcPush r
    let s := { s with trc := { s.trc with state := .post, trigv := true, trigidx := (s.trc.wptr + n) % 16384, postCount := left } }
    s.raise P.TRC 0
  else s

/-! ## Slot numbers (R567) -/

/-- The number of the slot in its tick. -/
def State.slotJ (s : State) : Nat := s.adc.slot - 1

/-- n_s of R567. -/
def State.slotNs (s : State) : Nat := (s.tck.now.toNat * s.slots + s.slotJ) % 2 ^ 32

/-! ## Stage 1 -/

/-- Samples, Hall and encoder states, constants and set-points become nodes 0x01 to 0x2F. -/
def State.stage1 (s : State) : State :=
  let s := (List.range 6).foldl (fun (s : State) i => s.setNode (1 + i) (s.adc.vals.getD i (0, 0)).1) s
  let ch (s : State) (c : Nat) : State :=
    let s := (s.putNode (8 + 2 * c) (s.chain (1 + c)).1).putNode (9 + 2 * c) (s.chain (3 + c)).1
    let b := 0xC + 4 * c
    let s := (s.setNode b (satS 32 (s.fmLevel c).natAbs)).setNode (b + 1) (s.fd (R.FM_LIMIT c) 0 31 : Int)
    (s.setNode (b + 2) (satS 32 (s.sigma c * s.forced c))).setNode (b + 3) (satS 32 (s.sigma c * s.unforced c))
  let s := ch (ch s 0) 1
  let s := (s.setNode 0x14 s.vec.hallL).setNode 0x15 s.vec.encL
  let s := (List.range 8).foldl (fun (s : State) i => s.putNode (0x18 + i) (s.rd (R.CTL_CONST0 + 4 * i)).toInt) s
  (List.range 16).foldl (fun (s : State) i => s.putNode (0x20 + i) (s.rd (R.CTL_SP0 + 4 * i)).toInt) s

/-! ## Stage 2: the vector unit's input (R589 to R594) -/

/-- A sixth of a turn. -/
def sect : Int := 715827883

/-- Hall interpolation for one evaluation (R591). -/
def State.hallStep (s : State) : State :=
  let v := s.vec
  let hofs := (s.rd R.VEC_HOFS).toInt
  let m := s.fd R.VEC_HALLMAP (3 * v.hallL) 3
  if m ≥ 6 then ({ s with vec := { v with slots := v.slots + 1 } } : State).raise P.VEC 0
  else
    match v.sector with
    | none => { s with vec := { v with sector := some m, slots := 0, omega := 0, theta := wrap32 (hofs + m * sect + sect / 2) } }
    | some k =>
      if m = k then
        let base := hofs + k * sect
        let rel := wrap32 (v.theta - base)
        let nxt := rel + v.omega
        let rel' := if v.omega > 0 then min nxt sect else if v.omega < 0 then max nxt 0 else nxt
        { s with vec := { v with slots := v.slots + 1, theta := wrap32 (base + rel') } }
      else
        let w := sect / ((v.slots + 1 : Nat) : Int)
        if m = (k + 1) % 6 then { s with vec := { v with sector := some m, slots := 0, omega := w, theta := wrap32 (hofs + (k + 1) * sect) } }
        else if m = (k + 5) % 6 then { s with vec := { v with sector := some m, slots := 0, omega := -w, theta := wrap32 (hofs + k * sect) } }
        else ({ s with vec := { v with sector := some m, slots := v.slots + 1 } } : State).raise P.VEC 0

/-- HTIMEOUT slots without an edge (R591). -/
def State.hallTimeout (s : State) : State :=
  match s.vec.sector with
  | some k =>
    ({ s with vec := { s.vec with omega := 0, theta := wrap32 ((s.rd R.VEC_HOFS).toInt + k * sect + sect / 2) } } : State).raise P.VEC 1
  | none => s.raise P.VEC 1

/-- The encoder's angle (R592). -/
def State.encAngle (s : State) : Int :=
  let cpr := (s.fd R.VEC_ENC 0 16 : Int)
  wrap32 ((s.rd R.VEC_EOFS).toInt + (s.vec.encL % cpr) * (s.fd R.VEC_ENC 16 4 : Int) * (2 ^ 32 : Nat) / cpr)

/-- The back-EMF observer (R593, R594). -/
def State.observer (s : State) : State :=
  let ia := s.node 0x4A
  let ib := s.node 0x4B
  let r := (s.rd R.VEC_OBSR).toInt
  let l := (s.rd R.VEC_OBSLT).toInt
  let ea := satS 32 (s.node 0x4E - mulM r ia 16 - mulM l (satS 32 (ia - s.vec.iaP)) 16)
  let eb := satS 32 (s.node 0x4F - mulM r ib 16 - mulM l (satS 32 (ib - s.vec.ibP)) 16)
  let ot := s.node 0x51
  let oo := s.node 0x52
  let err := if ea = 0 ∧ eb = 0 then 0 else wrap32 (atan2 eb ea - (2 ^ 30 : Nat) - ot - oo)
  let oo' := satS 32 (oo + mulM (s.rd R.VEC_PLLKI).toInt err (s.fd R.VEC_PLLSH 8 5))
  let ot' := wrap32 (ot + oo' + mulM (s.rd R.VEC_PLLKP).toInt err (s.fd R.VEC_PLLSH 0 5))
  let s := (s.setNode 0x51 ot').setNode 0x52 oo'
  let ok := decide (err.natAbs ≤ (s.rd R.VEC_OBSTHR).toNat)
  let v := s.vec
  let okRun := if ok then min 64 (v.okRun + 1) else 0
  let badRun := if ok then 0 else min 16 (v.badRun + 1)
  let lock := if v.lock then decide (badRun < 16) else decide (okRun ≥ 64)
  let s := { s with vec := { v with okRun := okRun, badRun := badRun, lock := lock } }
  let s := s.raiseIf (lock && !v.lock) P.VEC 3
  s.raiseIf (!lock && v.lock) P.VEC 4

/-- Angle source, observer, Clarke and Park. -/
def State.vecIn (s : State) : State :=
  let en := s.bit (rCTRL P.VEC) 0
  let iaP := s.node 0x4A
  let ibP := s.node 0x4B
  let s := { s with vec := { s.vec with iaP := iaP, ibP := ibP } }
  let s :=
    if en then
      let ia := s.node (s.fd R.VEC_SEL 0 8)
      let ib := s.node (s.fd R.VEC_SEL 8 8)
      (s.setNode 0x4A ia).setNode 0x4B (mulM 18919 (satS 32 (ia + 2 * ib)) 15)
    else s
  let s := if s.bit (rCTRL P.VEC) 6 then s.observer else s
  if !en then s
  else
    let s := s.hallStep
    let old := s.node 0x48
    let src := s.fd (rCTRL P.VEC) 4 2
    let th :=
      if src = 0 then s.vec.theta else if src = 1 then s.encAngle else if src = 2 then s.node 0x51
      else s.node (s.fd R.VEC_SEL2 8 8)
    let om := if src = 0 then s.vec.omega else if src = 2 then s.node 0x52 else wrap32 (th - old)
    let s := (s.setNode 0x48 th).setNode 0x49 om
    let c := cos15 (ang th)
    let sn := sin15 (ang th)
    let s := s.setNode 0x4C (satS 32 (mulM c (s.node 0x4A) 15 + mulM sn (s.node 0x4B) 15))
    let s := s.setNode 0x4D (satS 32 (mulM c (s.node 0x4B) 15 - mulM sn (s.node 0x4A) 15))
    s

/-- Stage 2: the vector unit's input, and THETA − OTHETA of every evaluation (Table 12-9). -/
def State.stage2 (s : State) : State := s.vecIn.wr R.VEC_OBSERR (wdI (s.vecIn.node 0x48 - s.vecIn.node 0x51))

/-! ## Stage 4: loops (R567 to R578) -/

/-- A loop. -/
def State.loop (s : State) (n : Nat) : LoopSt := s.ctl.loops.getD n resetLoop

/-- Store a loop. -/
def State.setLoop (s : State) (n : Nat) (x : LoopSt) : State := { s with ctl := { s.ctl with loops := s.ctl.loops.set n x } }

/-- A coefficient of a region: 0 KP, 1 KI, 2 KD, 3 KFA, 4 KFB. -/
def State.coef (s : State) (n g k : Nat) : Int := (s.rd (R.LP_KP0 n + 0x18 * g + 4 * k)).toInt

/-- Its shift. -/
def State.coefSh (s : State) (n g k : Nat) : Nat := s.fd (R.LP_SH0 n + 0x18 * g) (5 * k) 5

/-- The force channel that feeds a loop, and whether it is the force loop (R585). -/
def State.forceOf (s : State) (n : Nat) : Option (Nat × Bool) :=
  ([(0, true), (0, false), (1, true), (1, false)] : List (Nat × Bool)).find? fun e =>
    (s.fmMode e.1 == 1 || s.fmMode e.1 == 2) && s.fd (R.FM_BIND e.1) (if e.2 then 12 else 16) 3 == n

/-- Set-point and feedback nodes of a loop (R585). -/
def State.loopNodes (s : State) (n : Nat) : Nat × Nat :=
  match s.forceOf n with
  | some e => (0xC + 4 * e.1 + (if e.2 then 0 else 1), 0xE + 4 * e.1 + (if e.2 then 0 else 1))
  | none => (s.fd (R.LP_SRC n) 0 8, s.fd (R.LP_SRC n) 8 8)

/-- The region of R577. -/
def State.regionOf (s : State) (n g : Nat) : Nat :=
  if !s.bit (R.LP_CFG n) 22 then 0
  else
    let v := s.node (s.fd (R.LP_SCHSEL n) 0 8)
    let hy := (s.fd (R.LP_HYST n) 0 31 : Int)
    let bs := [(s.rd (R.LP_B1 n)).toInt, (s.rd (R.LP_B2 n)).toInt, (s.rd (R.LP_B3 n)).toInt]
    let up := (bs.filter fun b => decide (v ≥ b + hy)).length
    let dn := (bs.filter fun b => decide (v ≥ b - hy)).length
    if up > g then up else if dn < g then dn else g

/-- The feed-forward sum of a region and whether it saturated. -/
def State.ffwd (s : State) (n g : Nat) : Int × Bool :=
  let a := mulS (s.coef n g 3) (s.node (s.fd (R.LP_SRC n) 16 8)) (s.coefSh n g 3)
  let b := mulS (s.coef n g 4) (s.node (s.fd (R.LP_SRC n) 24 8)) (s.coefSh n g 4)
  let f := satS 32 (a.1 + b.1)
  (f, a.2 || b.2 || decide (f ≠ a.1 + b.1))

/-- Integration is blocked (Table 12-3). -/
def State.blocked (s : State) (n : Nat) (inhib : Bool) (e : Int) : Bool :=
  let cfg := s.rd (R.LP_CFG n)
  let k := fld cfg 16 3
  let lo := (s.loop k).out
  s.bit (rCTRL (P.LP n)) 2 || (inhib && !bitOf cfg 15) ||
  (bitOf cfg 19 && ((lo == (s.rd (R.LP_OUTMAX k)).toInt && decide (e > 0)) || (lo == (s.rd (R.LP_OUTMIN k)).toInt && decide (e < 0)))) ||
  (bitOf cfg 20 && s.node 0x50 == 1 && (decide (e > 0 ∧ (s.loop n).out > 0) || decide (e < 0 ∧ (s.loop n).out < 0)))

/-- One run of a loop (R568 to R570, R576, R578, R635); the first after a restart keeps the region the restart gave it (R573). -/
def State.loopRun (s : State) (n : Nat) (inhib : Bool) : State :=
  let x := s.loop n
  let cfg := s.rd (R.LP_CFG n)
  let nn := s.loopNodes n
  let acc := if inhib && bitOf cfg 15 then (s.rd (R.LP_ACCINIT n)).toInt else x.acc
  let g := x.region
  let y0 := s.node nn.2
  let y := if bitOf cfg 12 then satS 32 (0 - y0) else y0
  let e := satS 32 (s.node nn.1 - y)
  let d := if x.first then 0 else if bitOf cfg 8 then satS 32 (x.yp - y) else satS 32 (e - x.ep)
  let p := mulS (s.coef n g 0) e (s.coefSh n g 0)
  let f := s.ffwd n g
  let dm := mulS (s.coef n g 2) d (s.coefSh n g 2)
  let dst := x.dst + asr (dm.1 - x.dst) (fld cfg 9 3)
  let inc := mulS (s.coef n g 1) e (s.coefSh n g 1)
  let imin := (s.rd (R.LP_IMIN n)).toInt
  let imax := (s.rd (R.LP_IMAX n)).toInt
  let omin := (s.rd (R.LP_OUTMIN n)).toInt
  let omax := (s.rd (R.LP_OUTMAX n)).toInt
  let a1 := clampI imin imax (acc + inc.1)
  let v := satS 32 (p.1 + a1 + dst + f.1)
  let hold := decide (v > omax ∧ inc.1 > 0) || decide (v < omin ∧ inc.1 < 0) || s.blocked n inhib e
  let a2 := if hold then acc else a1
  let satA1 := !hold && decide (a1 ≠ acc + inc.1)
  let h := if x.first then g else s.regionOf n g
  let p2 := mulS (s.coef n h 0) e (s.coefSh n h 0)
  let dm2 := mulS (s.coef n h 2) d (s.coefSh n h 2)
  let f2 := s.ffwd n h
  let u := satS 32 (p.1 + a2 + dst + f.1)
  let moved := h != g
  let pF := if moved then p2.1 else p.1
  let dF := if moved then dm2.1 else dst
  let fF := if moved then f2.1 else f.1
  let a3 := if moved then clampI imin imax (u - p2.1 - dm2.1 - f2.1) else a2
  let satA := satA1 || (moved && decide (a3 ≠ u - p2.1 - dm2.1 - f2.1))
  let satP := p.2 || dm.2 || f.2 || (moved && (p2.2 || dm2.2 || f2.2))
  let sum := pF + a3 + dF + fF + s.injSum (0x30 + n)
  let out := clampI omin omax (satS 32 sum)
  let satO := decide (out ≠ sum)
  let x' : LoopSt := { x with
    acc := a3, dst := dF, ep := e, yp := y, out := out, err := e, pT := pF, fT := fF, first := false, region := h, ran := true,
    inhib := inhib, sat := satP.toNat + 2 * inc.2.toNat + 4 * satO.toNat + 8 * satA.toNat }
  let s := (s.setLoop n x').inc (R.LP_RUNCT n)
  let s := s.raiseIf satP (P.LP n) 0
  let s := s.raiseIf inc.2 (P.LP n) 1
  let s := s.raiseIf satO (P.LP n) 2
  let s := s.raiseIf satA (P.LP n) 3
  let s := s.raiseIf moved (P.LP n) 4
  (s.setNode (0x30 + n) out).setNode (0x38 + n) e

/-- One loop in an evaluation: whether it runs, and its nodes when it is off (R567, R571, R572, R575). -/
def State.loopEval (s : State) (n : Nat) : State :=
  let x := s.loop n
  let cfg := s.rd (R.LP_CFG n)
  let inhib := bitOf cfg 14 && !s.ctl.wasDrive
  if !s.bit (rCTRL (P.LP n)) 0 then
    (((s.setLoop n { x with out := 0, err := 0, ran := false, inhib := inhib }).setNode (0x30 + n) 0).setNode (0x38 + n) 0)
  else
    let q := 2 ^ fld cfg 0 3
    let due := (s.slotNs + q - fld cfg 4 4 % q) % q == 0
    if !due then s.setLoop n { x with ran := false, inhib := inhib }
    else
      let bad := match s.nodeFlg (s.loopNodes n).2 with
        | some f => !(hasFlg f flgValid || hasFlg f flgStale)
        | none => false
      let s := s.raiseIf bad (P.LP n) 5
      if bad && bitOf cfg 13 then s.setLoop n { x with ran := false, inhib := inhib }
      else s.loopRun n inhib

/-! ## Stage 5: groups (R580 to R583) -/

/-- The member slots of every group in order, each with its loop (R580). -/
def State.memberSlots (s : State) : List (Nat × Nat × Nat) :=
  ([0, 1, 2] : List Nat).flatMap fun m =>
    ([0, 1, 2, 3] : List Nat).filterMap fun k =>
      if s.bit (R.CTL_GRP0 + 4 * m) (4 * k + 3) then some (m, k, s.fd (R.CTL_GRP0 + 4 * m) (4 * k) 3) else none

/-- The members of a group: slot and loop; a loop belongs through its first slot alone (R580, R584). -/
def State.members (s : State) (m : Nat) : List (Nat × Nat) :=
  let all := s.memberSlots
  (all.filter fun e =>
    e.1 == m && s.bit (rCTRL (P.LP e.2.2)) 0 &&
    ((all.find? fun f => f.2.2 == e.2.2) == some e)).map fun e => (e.2.1, e.2.2)

/-- A group without members: GOUT and GV are 0 (R581). -/
def State.groupNone (s : State) (m : Nat) : State :=
  if (s.members m).isEmpty then ({ s with ctl := { s.ctl with gv := s.ctl.gv.set m false } } : State).setNode (0x40 + m) 0 else s

/-- STAT.WIN falls of a loop that is no member of any group (R582). -/
def State.winFall (s : State) : State :=
  let inAny (n : Nat) : Bool := ([0, 1, 2] : List Nat).any fun m => (s.members m).any fun e => e.2 == n
  { s with ctl := { s.ctl with loops := s.ctl.loops.mapIdx fun n x => { x with win := x.win && inAny n } } }

/-- One group in an evaluation; of members that share the smallest output the loop that won last wins again (R582). -/
def State.groupEval (s : State) (m : Nat) : State :=
  let ms := s.members m
  if ms.isEmpty then s.groupNone m
  else if !(ms.any fun e => (s.loop e.2).ran) then s
  else
    let lo := (ms.map fun e => (s.loop e.2).out).foldl min ((s.loop (ms.headD (0, 0)).2).out)
    let best := ms.filter fun e => (s.loop e.2).out == lo
    let prev := s.ctl.win.getD m 0
    let w := ((best.find? fun e => s.ctl.winL.getD m none == some e.2).getD (best.headD (0, 0)))
    let gout := s.injAdd (0x40 + m) lo
    let s := s.setNode (0x40 + m) gout
    let s := { s with ctl := { s.ctl with win := s.ctl.win.set m w.1, winL := s.ctl.winL.set m (some w.2), gv := s.ctl.gv.set m true } }
    let s := s.raiseIf (w.1 != prev) P.CTL m
    let track (s : State) (e : Nat × Nat) : State :=
      let n := e.2
      let x := s.loop n
      let x := { x with win := e == w }
      if e == w || !x.ran || !s.bit (R.LP_CFG n) 21 || s.bit (rCTRL (P.LP n)) 2 then s.setLoop n x
      else
        let t := gout - (x.pT + x.dst + x.fT)
        let a := clampI (s.rd (R.LP_IMIN n)).toInt (s.rd (R.LP_IMAX n)).toInt t
        let sat := decide (a ≠ t)
        let s := s.setLoop n { x with acc := a, sat := if sat && x.sat < 8 then x.sat + 8 else x.sat }
        s.raiseIf sat (P.LP n) 3
    ms.foldl track s

/-- The groups in order. -/
def State.groupsEval (s : State) : State := (((s.groupEval 0).groupEval 1).groupEval 2).winFall

/-! ## Stage 6: the vector unit's output (R595 to R597) -/

/-- Duties of legs 1 to 3, with the nodes VALPHA, VBETA and VLIM; the stage works while EN or SVEN is 1 (DEDUCED, log entry 57), and else limits nothing. -/
def State.stage6 (s : State) : State × List Int :=
  if !(s.bit (rCTRL P.VEC) 0 || s.bit (rCTRL P.VEC) 1) then (s.setNode 0x50 0, [])
  else
    let vd := s.node (s.fd R.VEC_SEL 16 8)
    let vq := s.node (s.fd R.VEC_SEL 24 8)
    let vdc := s.node (s.fd R.VEC_SEL2 0 8)
    let th := ang (s.node 0x48 + s.node 0x49 * sgn 16 (s.fd R.VEC_ADV 0 16) / 256)
    let c := cos15 th
    let sn := sin15 th
    let va := satS 32 (mulM c vd 15 - mulM sn vq 15)
    let vb := satS 32 (mulM sn vd 15 + mulM c vq 15)
    let h := asr va 1
    let t := mulM 28378 vb 15
    let l := [va, t - h, -h - t]
    let mx := l.foldl max va
    let mn := l.foldl min va
    let o := - asr (mx + mn) 1
    let lim := decide (mx - mn > vdc)
    let f (x : Int) : Int := if lim then x * vdc / (mx - mn) else x
    if vdc < 1000000 then
      let s := ((s.setNode 0x4E (f va)).setNode 0x4F (f vb)).setNode 0x50 1
      (s.raise P.VEC 2, [32768, 32768, 32768])
    else
      let s := ((s.setNode 0x4E (f va)).setNode 0x4F (f vb)).setNode 0x50 (if lim then 1 else 0)
      let s := s.raiseIf lim P.VEC 2
      (s, l.map fun x => clampI 0 65536 (32768 + (f (x + o) * 65536 + asr vdc 1) / vdc))

/-! ## The output write (R452, R494, R495, R586 to R588) -/

/-- PST.CFG.SRC leaves a duty source to the engine (R452). -/
def State.engineSrc (s : State) (k : Nat) : Bool := !(if k < 4 then s.bit R.PST_CFG (16 + k) else s.bit R.PST_CFG (if k = 4 then 16 else 18))

/-- The engine writes a duty source, 0 to 3 DUTY1 to DUTY4, 4 and 5 BDUTYA and BDUTYB, under PST.CFG.SRC (R452). -/
def State.putDuty (s : State) (k : Nat) (v : Int) : State :=
  let topo := s.bit R.PST_CFG 0
  if (k < 4 && topo) || (k ≥ 4 && !topo) then s
  else if !s.engineSrc k then s
  else if k < 4 then s.hw (R.PST_DUTY1 + 4 * k) (wdI (clampI 0 65536 v))
  else s.hw (R.PST_BDUTYA + 4 * (k - 4)) (wd ((clampI (-65536) 65536 v) % (2 ^ 18 : Nat)).toNat)

/-- The duty sources a force channel writes, with their values (R494, R495). -/
def State.forceDuties (s : State) (c : Nat) : List (Nat × Int) :=
  if s.fmMode c ≠ 1 ∧ s.fmMode c ≠ 2 then []
  else
    let y := s.node (0x40 + s.fd (R.FM_BIND c) 20 2)
    let u := clampI (-65536) 65536 (s.sigma c * y)
    let l := s.fd (R.FM_BIND c) 0 4
    if s.bit R.PST_CFG 0 then (if l = 3 then [(4, u)] else if l = 12 then [(5, u)] else [])
    else
      let legs := ([0, 1, 2, 3] : List Nat).filter fun k => l / 2 ^ k % 2 == 1
      match legs with
      | [p, q] => [(p, asr (65536 + u) 1), (q, asr (65536 - u) 1)]
      | _ => []

/-- The duty writes of an output write, by ascending address, a source written once, by the first of force channel, vector unit and sink (R588, R685). A sink is displaced where the engine
may write its source (R452). -/
def State.dutyWrites (s : State) (sv : List Int) : State :=
  let force := s.forceDuties 0 ++ s.forceDuties 1
  let vec : List (Nat × Int) :=
    if s.bit (rCTRL P.VEC) 1 then [(0, sv.getD 0 32768), (1, sv.getD 1 32768), (2, sv.getD 2 32768)] else []
  let vec := vec.filter fun e => !(force.any fun f => f.1 == e.1)
  let topo := s.bit R.PST_CFG 0
  let sinks := ([0, 1, 2, 3, 4, 5] : List Nat).filter fun k => s.bit (R.CTL_SINK0 + 4 * k) 8 && (decide (k < 4) != topo)
  let disp := sinks.filter fun k => s.engineSrc k && (force ++ vec).any fun f => f.1 == k
  let free := (sinks.filter fun k => !((force ++ vec).any fun f => f.1 == k)).map fun k => (k, s.node (s.fd (R.CTL_SINK0 + 4 * k) 0 8))
  let all := force ++ vec ++ free
  let s := ([0, 1, 2, 3, 4, 5] : List Nat).foldl (fun (s : State) k => match all.find? (fun e => e.1 == k) with
    | some e => s.putDuty k e.2
    | none => s) s
  let mask := disp.foldl (fun a k => a + 2 ^ k) 0
  let s := { s with ctl := { s.ctl with sinkovr := mask } }
  s.raiseIf (!disp.isEmpty) P.CTL 3

/-- The engine writes FMx.LEVEL from the node LEVSEL names while ENGINE owns the channel (R498, R586). -/
def State.levelWrite (s : State) (c : Nat) : State :=
  if (s.fm c).owner = 4 ∧ s.bit R.CTL_LEVSEL (8 + 16 * c) then
    let v := wdI (s.node (s.fd R.CTL_LEVSEL (16 * c) 8))
    if s.levelOk c (s.fmMode c) v then s.setLevel c v else s.raise (P.FM c) 9
  else s

/-- The compliance loop of a channel won its group in this evaluation (R500). -/
def State.inComp (s : State) (c : Nat) : Bool :=
  let m := s.fd (R.FM_BIND c) 20 2
  let cl := s.fd (R.FM_BIND c) 16 3
  s.ctl.gv.getD m false && ((s.members m).any fun e => e.1 == s.ctl.win.getD m 0 && e.2 == cl)

/-! ## Trace samples (R640, R644) -/

/-- The channels that sample in this slot: channel, node, value, flags. -/
def State.trcSamples (s : State) : List (Nat × Nat × Int × Nat) :=
  let cfg := s.rd R.TRC_CFG
  let d := 2 ^ fld cfg 5 3
  if !s.tracing || (s.slotNs + 256 * d - fld cfg 8 8) % d != 0 then []
  else (List.range (min 8 (fld cfg 16 4))).map fun n =>
    let nd := s.fd (R.TRC_CH0 + 4 * n) 0 8
    (n, nd, s.node nd, (s.nodeFlg nd).getD 0 % 16)

/-- The NODE trigger's condition on a sample. -/
def State.trcCond (s : State) (n : Nat) (v : Int) : Bool :=
  let lev := (s.rd R.TRC_TLEV).toInt
  let prev := Sparse.find s.trc.prev n
  match s.fd R.TRC_TRIG 4 2 with
  | 0 => decide (v ≥ lev)
  | 1 => decide (v < lev)
  | 2 => match prev with | some p => decide (p < lev ∧ v ≥ lev) | none => false
  | _ => match prev with | some p => decide (p ≥ lev ∧ v < lev) | none => false

/-- Trigger and SAMPLE records of an evaluation, the trigger first (R641). -/
def State.trcEval (s : State) : State :=
  let l := s.trcSamples
  let fire := s.fd R.TRC_TRIG 0 3 == 1 && (l.any fun e => e.1 == s.fd R.TRC_TRIG 8 3 && s.trcCond e.1 e.2.2.1)
  let j := s.slotJ
  let s := if fire then s.trgFire 1 else s
  l.foldl (fun (s : State) e =>
    let s := { s with trc := { s.trc with prev := Sparse.insert s.trc.prev e.1 e.2.2.1 } }
    s.trcPush (trcRec 1 (wdI e.2.2.1) (e.2.1 + e.1 * 256 + e.2.2.2 * 2048 + j % 8 * 65536 + s.tck.now.toNat % 512 * 524288))) s

/-! ## One evaluation -/

/-- Stage 3: the injectors, the generators in order, the repetitive controllers (R614). -/
def State.stage3 (s : State) : State :=
  let s := s.injEnds
  let s := (s.injEval 0).injEval 1
  let s := (((s.genEval 0).genEval 1).genEval 2).genEval 3
  (s.rptEval 0).rptEval 1

/-- The engine evaluates and its output write follows (R55, R563 to R565); compliance judges the slot by the levels that governed it, a LEVEL written here governs the next (R519). -/
def State.evaluate (s : State) : State :=
  let s := (s.stage1.stage2).stage3
  let s := (List.range 8).foldl State.loopEval s
  let s := s.groupsEval
  let r := s.stage6
  let s := (r.1.rptLearn 0).rptLearn 1
  let s := s.trcEval
  let s := s.dutyWrites r.2
  let s := (s.compliance 0 (s.inComp 0)).compliance 1 (s.inComp 1)
  let s := (s.levelWrite 0).levelWrite 1
  let s := s.wr R.CTL_PVAL (wdI (s.node (s.fd R.CTL_PROBE 0 8)))
  let s := (s.rangeStep 0).rangeStep 1
  { s with ctl := { s.ctl with wasDrive := s.pst.out == .drive, binW := [] } }

end Sys2Proof.Machine
end

