-- ==== Sys2Proof/Machine/Seq.lean ====
section
/-! DEFINITION. The sweep sequencer: points, segments, conditions, capture, arming, the step, and its aborts (chapter 11). -/

namespace Sys2Proof.Machine

/-! ## Segments and points (Tables 11-1 and 11-2) -/

/-- The two words of a segment descriptor. -/
def State.segW (s : State) (k : Nat) : Word × Word := Sparse.get (fun _ => (0#32, 0#32)) s.seq.segs k

/-- VALID. -/
def State.segValid (s : State) (k : Nat) : Bool := bitOf (s.segW k).1 31

/-- FIRST. -/
def State.segFirst (s : State) (k : Nat) : Nat := fld (s.segW k).1 0 14

/-- LASTP. -/
def State.segLast (s : State) (k : Nat) : Nat := fld (s.segW k).1 16 14

/-- A field of word 1. -/
def State.segF (s : State) (k lo w : Nat) : Nat := fld (s.segW k).2 lo w

/-- The channels that VALID segments name, bit 0 A and bit 1 B. -/
def State.segChans (s : State) : Nat :=
  let vs := (List.range 256).filter s.segValid
  (vs.any fun k => s.segF k 24 1 == 0).toNat + 2 * (vs.any fun k => s.segF k 24 1 == 1).toNat

/-- The words of a descriptor as they are kept: reserved bits read zero (R4), and a reserved MODE, ENDACT or COND leaves its field as it was (R6, Tables 11-2 and 11-3). -/
def segKept (old : Word × Word) (w0 w1 : Word) : Word × Word :=
  (w0 &&& 0xBFFF3FFF#32,
   keepFld old.2 16 4 (decide <| 10 ≤ ·) (keepFld old.2 25 2 (· == 3) (keepFld old.2 28 2 (· == 3) (w1 &&& 0x3FFFFFFF#32))))

/-- Write a segment descriptor. -/
def State.setSeg (s : State) (k : Nat) (w0 w1 : Word) : State :=
  let s := { s with seq := { s.seq with segs := Sparse.put (fun _ => (0#32, 0#32)) s.seq.segs k (segKept (s.segW k) w0 w1) } }
  { s with seq := { s.seq with chused := s.segChans } }

/-- Address of a point. -/
def pointAddr (i : Nat) : Nat := 0x30000000 + 8 * (i % 16384)

/-- The word of list RAM a register of the point window shows. -/
def State.pointWord (s : State) (a : Nat) : Option Nat :=
  if a = R.SEQ_PLO then some (pointAddr (s.fd R.SEQ_PIDX 0 14)) else if a = R.SEQ_PHI then some (pointAddr (s.fd R.SEQ_PIDX 0 14) + 4) else none

/-- The channel of the running segment. -/
def State.segCh (s : State) : Nat := s.segF s.seq.seg 24 1

/-- Whether a channel is named. -/
def State.named (s : State) (c : Nat) : Bool := s.seq.chused / 2 ^ c % 2 == 1

/-- SETTLE, CAP and DWELL of the running point. -/
def State.settle (s : State) : Nat := fld s.seq.hi 20 4
/-- CAP. -/
def State.cap (s : State) : Nat := fld s.seq.hi 16 2
/-- DWELL. -/
def State.dwell (s : State) : Nat := fld s.seq.hi 0 16

/-! ## Leaving (R552 to R556) -/

/-- MODE OFF on every named channel. -/
def State.seqOff (s : State) : State :=
  let one (s : State) (c : Nat) : State := if s.named c then s.fmOff c else s
  one (one s 0) 1

/-- End a sequencer precision window without a result. -/
def State.seqPrecStop (s : State) : State := if s.seq.pwin then s.precStop else s

/-- Enter ABORTED with a cause (R555, R556); the record of a point that has ended still waits for its window (R549). -/
def State.seqAbort (s : State) (why : Nat) : State :=
  let s := if s.seq.prec.isSome then s else s.seqPrecStop
  ({ s with seq := { s.seq with state := 5, abwhy := why, bound := none } } : State).raise P.SEQ 3

/-- The sequencer is armed, running or paused. -/
def State.seqActive (s : State) : Bool := s.seq.state == 1 || s.seq.state == 2 || s.seq.state == 3

/-! ## Conditions (Table 11-3) -/

/-- The condition of the running segment is true. -/
def State.seqCond (s : State) : Bool :=
  let k := s.seq.seg
  let c := s.segCh
  let t := s.rd (R.SEQ_THR0 + 4 * s.segF k 20 2)
  let i := (s.rd (R.FM_I c)).toInt
  let v := (s.rd (R.FM_V c)).toInt
  let iOk := s.bit (R.FM_IFLG c) 0
  let vOk := s.bit (R.FM_VFLG c) 0
  let gp := s.pin.gpioS / 2 ^ fld t 0 3 % 2
  match s.segF k 16 4 with
  | 1 => (s.fm c).incomp
  | 2 => iOk && decide ((i.natAbs : Int) ≥ t.toInt)
  | 3 => iOk && decide ((i.natAbs : Int) < t.toInt)
  | 4 => vOk && decide ((v.natAbs : Int) ≥ t.toInt)
  | 5 => vOk && decide ((v.natAbs : Int) < t.toInt)
  | 6 => gp == 1
  | 7 => gp == 0
  | 8 => s.bit (rEVT (fld t 8 8)) (fld t 0 4)
  | 9 => s.bit (R.FM_IFLG c) 2 || s.bit (R.FM_VFLG c) 2
  | _ => false

/-! ## Capture (R531, R545 to R551) -/

/-- Samples of a slot enter the accumulators of the running point. -/
def State.seqSample (s : State) : State :=
  if s.seq.state ≠ 2 ∨ s.tck.synth then s
  else
    let c := s.segCh
    let i := s.chain (1 + c)
    let v := s.chain (3 + c)
    let q := s.seq
    { s with seq := { q with
      sumI := if hasFlg i.2 flgValid then q.sumI + i.1 else q.sumI
      cntI := if hasFlg i.2 flgValid then q.cntI + 1 else q.cntI
      sumV := if hasFlg v.2 flgValid then q.sumV + v.1 else q.sumV
      cntV := if hasFlg v.2 flgValid then q.cntV + 1 else q.cntV
      ovr := q.ovr || hasFlg i.2 flgOver || hasFlg v.2 flgOver
      ranging := q.ranging || hasFlg i.2 flgRanging || hasFlg v.2 flgRanging } }

/-- Compliance in force in a slot of the running point. -/
def State.seqComp (s : State) : State :=
  if s.seq.state = 2 ∧ !s.tck.synth ∧ (s.fm s.segCh).incomp then { s with seq := { s.seq with incomp := true } } else s

/-- Clear the accumulators. -/
def State.seqClear (s : State) : State :=
  { s with seq := { s.seq with sumI := 0, cntI := 0, sumV := 0, cntV := 0, ovr := false, ranging := false, incomp := false } }

/-- Write a record at CAPPTR (R549, R550). -/
def State.capWrite (s : State) (i v : Word) (w2 : Nat) : State :=
  let len := s.fd R.SEQ_CAPLEN 0 14
  let wrap := s.bit (rCTRL P.SEQ) 13
  if s.seq.capptr ≥ len ∧ !wrap then
    let first := !s.seq.dropped
    let s := s.inc R.SEQ_CAPLOST
    let s := { s with seq := { s.seq with dropped := true } }
    s.raiseIf first P.SEQ 10
  else
    let full := decide (s.seq.capptr ≥ len)
    let s := s.raiseIf full P.SEQ 10
    let r := if full then 0 else s.seq.capptr
    let a := pointAddr (s.fd R.SEQ_CAPBASE 0 14 + 2 * r)
    let s := (((s.hwStore a i).hwStore (a + 4) v).hwStore (a + 8) (wd w2)).hwStore (a + 12) s.tck.now
    { s with seq := { s.seq with capptr := r + 1 } }

/-- The capture record of the running point at its boundary (R545 to R547); a PREC record whose window ends in this tick waits for it, and one whose window has ended before, as it does
where synthetic ticks fall within the point, has its result. -/
def State.capture (s : State) (natural : Bool) : State :=
  let q := s.seq
  let c := s.segCh
  if s.cap = 0 then s
  else
    let base := q.point + s.cap * 2 ^ 14 + q.seg * 2 ^ 16 + q.syn.toNat * 2 ^ 29
    if s.cap = 1 then
      let fi := (s.rd (R.FM_IFLG c)).toNat
      let fv := (s.rd (R.FM_VFLG c)).toNat
      let some? := decide (q.n ≥ 1)
      s.capWrite (s.rd (R.FM_I c)) (s.rd (R.FM_V c))
        (base + (some? && hasFlg fi flgValid).toNat * 2 ^ 24 + (some? && hasFlg fv flgValid).toNat * 2 ^ 25 +
          (hasFlg fi flgOver || hasFlg fv flgOver).toNat * 2 ^ 26 + (s.fm c).incomp.toNat * 2 ^ 27 +
          (hasFlg fi flgRanging || hasFlg fv flgRanging).toNat * 2 ^ 28)
    else
      let i := wdI (meanOf (q.sumI, q.cntI))
      let v := wdI (meanOf (q.sumV, q.cntV))
      let w := base + (decide (q.cntI > 0)).toNat * 2 ^ 24 + (decide (q.cntV > 0)).toNat * 2 ^ 25 + q.ovr.toNat * 2 ^ 26 +
        q.incomp.toNat * 2 ^ 27 + q.ranging.toNat * 2 ^ 28
      if s.cap = 2 then s.capWrite i v w
      else if let some r := q.pres then
        ({ s with seq := { q with pres := none } } : State).capWrite i (if r.1 then r.2 else v) (w + r.1.toNat * 2 ^ 30)
      else if natural && q.pwin then { s with seq := { q with prec := some (i, v, w) } }
      else (s.capWrite i v w).seqPrecStop.raise P.SEQ 11

/-- The precision window of a PREC point has ended: its record is written where the point has ended, else the result is kept for it (R547, R549). -/
def State.seqPrecDone (s : State) : State :=
  match s.seq.prec, s.seq.pres with
  | some e, some r =>
    let s := { s with seq := { s.seq with prec := none, pres := none } }
    s.capWrite e.1 (if r.1 then r.2 else e.2.1) (e.2.2 + r.1.toNat * 2 ^ 30)
  | _, _ => s

/-- The window of a PREC point is asked for in its first counted tick (R546). -/
def State.seqWindow (s : State) : State :=
  let len := (s.dwell - s.settle) * s.slots
  if s.cap = 3 ∧ s.seq.n = s.settle ∧ 1 ≤ len ∧ len ≤ 4096 then
    if s.seq.pwin then { s with seq := { s.seq with pnext := some len } }
    else
      let s := s.precStop
      let s := s.precStart len
      { s with seq := { s.seq with pwin := true }, adc := { s.adc with pready := true } }
  else s

/-! ## Starting a point (R538, R540, R557) -/

/-- Read a point and write the force registers of its segment. -/
def State.seqPoint (s : State) (k p : Nat) : State :=
  let a := pointAddr p
  let s := { s with seq := { s.seq with seg := k, point := p, n := 0, bound := none, syn := false, pres := none } }
  if s.parWrong (2 * (p % 16384)) || s.parWrong (2 * (p % 16384) + 1) then
    ((s.setFlt P.SEQ 0).detect 0x05 P.SEQ (wd p)).seqAbort 5
  else
    let lo := s.rdW a
    let hi := s.rdW (a + 4)
    let s := ({ s with seq := { s.seq with lo := lo, hi := hi } } : State).seqClear
    let c := s.segCh
    let mode := s.segF k 25 2
    let s :=
      if mode = 0 then s.fmOff c
      else if s.fmMode c = 0 ∧ !s.forceOk c then s.raise (P.FM c) 9
      else s.hwF (rCTRL (P.FM c)) 0 2 mode
    let s := s.hwF (rCTRL (P.FM c)) 4 1 (s.segF k 27 1)
    let lim := s.rd (R.SEQ_LIM0 + 4 * s.segF k 22 2)
    if !s.limitOk c mode lim then (s.raise (P.FM c) 9).seqAbort 4
    else
      let s := s.hw (R.FM_LIMIT c) lim
      if mode ≠ 0 ∧ !s.levelOk c mode lo then (s.raise (P.FM c) 9).seqAbort 4
      else
        let s := if mode ≠ 0 then s.setLevel c lo else s
        let s := s.raiseIf (bitOf hi 24) P.SEQ 4
        s.seqWindow

/-! ## Arming (R533 to R536) -/

/-- A write of 1 to ARM. -/
def State.seqArm (s : State) : State :=
  let rej (why : Nat) : State := ({ s with seq := { s.seq with armwhy := why } } : State).raise P.SEQ 9
  if s.direct then rej 1 else if s.seqActive then rej 2 else { s with seq := { s.seq with arm := true } }

/-- Check 0x4 on one VALID segment. -/
def State.segOk (s : State) (k : Nat) : Bool :=
  let e := s.segF k 28 2
  decide (s.segFirst k ≤ s.segLast k) && s.segF k 25 2 != 3 && decide (s.segF k 16 4 ≤ 9) && e != 3 &&
  (e != 1 || s.segValid (s.segF k 0 8)) && (s.segF k 16 4 == 0 || s.segValid (s.segF k 8 8)) &&
  (e != 0 || k == 255 || s.segValid (k + 1))

/-- The first failing check of 0x3 to 0x6, 0 for none (Table 11-6). -/
def State.armWhy (s : State) : Nat :=
  let vs := (List.range 256).filter s.segValid
  let base := s.fd R.SEQ_CAPBASE 0 14
  let fin := base + 2 * s.fd R.SEQ_CAPLEN 0 14
  if !s.segValid (s.fd R.SEQ_START 0 8) then 3
  else if !(vs.all s.segOk) then 4
  else if fin > 16384 ∨ (vs.any fun k => decide (s.segFirst k < fin) && decide (base ≤ s.segLast k)) then 5
  else if vs.any fun k => decide (s.segF k 25 2 ≠ 0) && !s.forceOk (s.segF k 24 1) then 6
  else 0

/-- Both channels are arbitrated, and a sequencer that lost a named channel aborts (R518, R556). -/
def State.arbitrateAll (s : State) : State :=
  let s := (s.arbitrate 0 false).arbitrate 1 false
  if s.seqActive && ([0, 1] : List Nat).any fun c => s.named c && (s.fm c).owner != 3 then s.seqAbort 3 else s

/-- Arbitration of both channels at phase 48, with the arm request if one is held, and the abort of a sequencer that lost a channel (R518, R534 to R536, R556). -/
def State.phase48 (s : State) : State :=
  let rej (s : State) (why : Nat) : State := ({ s with seq := { s.seq with armwhy := why } } : State).raise P.SEQ 9
  let s :=
    if s.seq.arm then
      let s := { s with seq := { s.seq with arm := false } }
      let why := s.armWhy
      if why ≠ 0 then rej s why
      else if ([0, 1] : List Nat).any fun c => s.named c && s.winner c true != 3 then rej s 7
      else
        ({ s with seq := { s.seq with state := 1, armwhy := 0, capptr := 0, dropped := false, bound := none } } : State).raise P.SEQ 0
    else s
  s.arbitrateAll

/-! ## The step (R538 to R544) -/

/-- The running point ends and its successor begins, or the sequence finishes. -/
def State.seqAdvance (s : State) (natural cond : Bool) : State :=
  let k := s.seq.seg
  let p := s.seq.point
  let e := s.segF k 28 2
  let conf := natural && decide (p ≥ s.segLast k) && e == 1
  let req := s.seq.bound
  let s := s.capture natural
  let go (s : State) (t q kind disp : Nat) : State :=
    let jl := wd (k + t * 256 + kind * 65536 + disp * 262144)
    let s := (s.wr R.SEQ_JLOG jl).wr R.SEQ_JTICK s.tck.now
    let s := s.raiseIf (kind == 1) P.SEQ 5
    let s := s.raiseIf (kind == 2) P.SEQ 6
    let s := if disp ≠ 0 then (s.raise P.SEQ 7).logPush 6 P.SEQ jl (wd p) else s
    let s := if s.segF t 24 1 ≠ s.segF k 24 1 then s.fmOff (s.segF k 24 1) else s
    s.seqPoint t q
  match req with
  | some t => go s t (s.segFirst t) 1 (if cond then 2 else if conf then 3 else 0)
  | none =>
    if cond then go s (s.segF k 8 8) (s.segFirst (s.segF k 8 8)) 2 (if conf then 3 else 0)
    else if p < s.segLast k then go s k (p + 1) 0 0
    else if e = 1 then go s (s.segF k 0 8) (s.segFirst (s.segF k 0 8)) 3 0
    else if e = 0 ∧ k < 255 then go s (k + 1) (s.segFirst (k + 1)) 0 0
    else
      let s := ({ s with seq := { s.seq with state := 4, bound := none } } : State).raise P.SEQ 2
      if s.bit (rCTRL P.SEQ) 12 then s.seqOff else s

/-- The latches of a step: jump requests (R542 to R544). -/
def State.seqLatchJump (s : State) : State :=
  match s.seq.jreq with
  | none => s
  | some r =>
    let s := { s with seq := { s.seq with jreq := none } }
    if s.seq.state ≠ 2 ∧ s.seq.state ≠ 3 then
      (match r with | .jump _ => s.raise P.SEQ 8 | .clear => s)
    else match r with
      | .clear => { s with seq := { s.seq with bound := none } }
      | .jump t => if s.segValid t then { s with seq := { s.seq with bound := some t } } else s.raise P.SEQ 8

/-- The start trigger holds (R536). -/
def State.seqTrig (s : State) (go : Bool) : Bool :=
  match s.fd (rCTRL P.SEQ) 8 2 with
  | 0 => true
  | 1 => go
  | 2 => s.pin.gpioS / 2 ^ s.fd (rCTRL P.SEQ) 16 3 % 2 == 1
  | _ => false

/-- A running step: the count, the boundary conditions, the accumulators of the tick that begins (R538, R545). -/
def State.seqRun (s : State) : State :=
  let n := s.seq.n
  let natural := s.dwell ≠ 0 ∧ n ≥ s.dwell
  let cond := s.segF s.seq.seg 16 4 ≠ 0 ∧ n ≥ max s.settle 1 ∧ s.seqCond
  let held := s.dwell = 0 ∧ s.seq.bound.isSome
  if natural ∨ cond ∨ held then s.seqAdvance (decide natural) (decide cond)
  else
    let s := if n ≤ s.settle then s.seqClear else s
    s.seqWindow

/-- The sequencer's step in an authorised tick (phases 48 to 55). -/
def State.seqStep (s : State) : State :=
  let q := s.seq
  let s := if q.state = 2 then { s with seq := { s.seq with n := s.seq.n + 1 } } else s
  let s := if q.state = 3 then { s with seq := { s.seq with syn := true } } else s
  let s := s.seqLatchJump
  let s := { s with seq := { s.seq with go := false, pause := false, resume := false, abort := false } }
  if q.abort && s.seqActive then s.seqOff.seqAbort 1
  else if q.state = 1 then
    if s.seqTrig q.go then
      let s := ({ s with seq := { s.seq with state := 2 } } : State).raise P.SEQ 1
      let k := s.fd R.SEQ_START 0 8
      s.seqPoint k (s.segFirst k)
    else s
  else if q.state = 2 then
    if q.pause then { s.seqPrecStop with seq := { s.seqPrecStop.seq with state := 3 } } else s.seqRun
  else if q.state = 3 ∧ q.resume then ({ s with seq := { s.seq with state := 2 } } : State).seqRun
  else s

/-- The window of a PREC point that has ended is cut off: the record has V as for MEAN (R547). -/
def State.precLost (s : State) : State :=
  match s.seq.prec with
  | none => s
  | some e => ((({ s with seq := { s.seq with prec := none } } : State).capWrite e.1 e.2.1 e.2.2).seqPrecStop).raise P.SEQ 11

/-- TCK entered SAFE or IDLE: the sequencer aborts (R556); an arm request stays held for the next authorised tick (R533). -/
def State.seqTckLeave (s : State) : State := if s.precLost.seqActive then s.precLost.seqAbort 2 else s.precLost

end Sys2Proof.Machine
end

