-- ==== Sys2Proof/Machine/Commit.lean ====
section
/-! DEFINITION. The commit of tick-shadowed values and of the action bits that stand with them (R8 to R10, R496 to R499, R573, R574, R579, R584, R597, R599, R606, R620, R621, R625, R629, R632, R633, R637). -/

namespace Sys2Proof.Machine

/-- The value a register holds after a commit that carries `l`. -/
def State.next (s : State) (l : List (Nat × Word)) (a : Nat) : Word := (Sparse.find l a).getD (s.rd a)

/-- A field of a word names a node of Table 12-1. -/
def nodeFld (v : Word) (lo : Nat) : Bool := nodeExists (fld v lo 8)

/-! ## Refusals -/

/-- A loop page refuses a value (R579, R599). -/
def State.lpBad (s : State) (l : List (Nat × Word)) (n o : Nat) (v : Word) : Bool :=
  let nv (a : Nat) : Int := (s.next l a).toInt
  if o = 0x20 then !(nodeFld v 0 && nodeFld v 8 && nodeFld v 16 && nodeFld v 24)
  else if o = 0x24 then decide (5 ≤ fld v 0 3)
  else if o = 0x28 then !nodeFld v 0
  else if o = 0x2C ∨ o = 0x30 ∨ o = 0x34 then decide (nv (R.LP_B1 n) > nv (R.LP_B2 n)) || decide (nv (R.LP_B2 n) > nv (R.LP_B3 n))
  else if o = 0x3C ∨ o = 0x40 then decide (nv (R.LP_OUTMIN n) > nv (R.LP_OUTMAX n))
  else if o = 0x44 ∨ o = 0x48 then decide (nv (R.LP_IMIN n) > nv (R.LP_IMAX n))
  else false

/-- CTL refuses a value (R599). -/
def ctlBad (o : Nat) (v : Word) : Bool :=
  if 0x80 ≤ o ∧ o ≤ 0x94 then !nodeFld v 0 else if o = 0x98 then !(nodeFld v 0 && nodeFld v 16) else false

/-- VEC refuses a value (R597, R599). -/
def State.vecBad (s : State) (o : Nat) (v : Word) : Bool :=
  if o = 0x04 then
    bitOf v 1 && (s.bit R.PST_CFG 0 || s.bit R.PST_CFG 16 || s.bit R.PST_CFG 17 || s.bit R.PST_CFG 18)
  else if o = 0x20 then !(nodeFld v 0 && nodeFld v 8 && nodeFld v 16 && nodeFld v 24)
  else if o = 0x24 then !(nodeFld v 0 && nodeFld v 8)
  else if o = 0x30 then fld v 0 16 == 0
  else if o = 0x34 then fld v 0 16 == 0 || fld v 16 4 == 0
  else false

/-- PRF refuses a value: the limits of a generator stand or fall together (R606), and a target must be a node (R599). -/
def State.prfBad (s : State) (l : List (Nat × Word)) (o : Nat) (v : Word) : Bool :=
  let j := (o - 0x20) / 0x20
  let k := o % 0x20
  let b := R.PRF_CFG0 + 0x20 * j
  if k ≤ 0x0C ∧ 0x20 ≤ o then
    let c := s.next l b
    let vm := (s.next l (b + 4)).toNat
    let am := (s.next l (b + 8)).toNat
    let jm := (s.next l (b + 12)).toNat
    !(decide (2 ≤ jm) && decide (jm ≤ am) && decide (am ≤ vm)) || decide (fld c 8 5 > 24) || (k == 0 && !nodeFld v 16)
  else false

/-- RPT refuses a value (Table 13-7). -/
def rptBad (o : Nat) (v : Word) : Bool :=
  if o = 0x20 ∨ o = 0x40 then (bitOf v 1 && (decide (fld v 8 9 < 2) || decide (fld v 8 9 > 256))) || !nodeFld v 24
  else if o = 0x24 ∨ o = 0x44 then !nodeFld v 0
  else false

/-- The injection points of R635. -/
def injPoint (n : Nat) : Bool :=
  n == 0 || (decide (0x08 ≤ n) && decide (n ≤ 0x0B)) || (decide (0x18 ≤ n) && decide (n ≤ 0x37)) || (decide (0x40 ≤ n) && decide (n ≤ 0x42)) ||
  (decide (0x58 ≤ n) && decide (n ≤ 0x5F))

/-- INJ refuses a value: CFG and LEN of an injector stand or fall together (R637). -/
def State.injBad (s : State) (l : List (Nat × Word)) (o : Nat) : Bool :=
  let k := (o - 0x20) / 0x20
  let b := R.INJ_CFG0 + 0x20 * k
  if o = 0x20 ∨ o = 0x40 ∨ o = 0x30 ∨ o = 0x50 then
    let c := s.next l b
    !injPoint (fld c 8 8) || fld c 16 12 == 0 || ((s.inj k).run && (c != s.rd b || s.next l (b + 0x10) != s.rd (b + 0x10)))
  else false

/-- A commit that carries `l` refuses the value of register `a`. -/
def State.commitBad (s : State) (l : List (Nat × Word)) (a : Nat) (v : Word) : Bool :=
  let p := a / 256
  let o := a % 256
  if 0x31 ≤ p ∧ p ≤ 0x38 then s.lpBad l (p - 0x31) o v
  else if p = P.CTL then ctlBad o v
  else if p = P.VEC then s.vecBad o v
  else if p = P.PRF then s.prfBad l o v
  else if p = P.RPT then rptBad o v
  else if p = P.INJ then s.injBad l o
  else false

/-- The number of CFG_REJECT on a page whose commits can be refused. -/
def rejectEv (p : Nat) : Nat := if p = P.PRF then 12 else if p = P.CTL ∨ p = P.RPT ∨ p = P.INJ then 4 else 6

/-! ## Force channels (R496, R498, R499) -/

/-- The force registers of a channel commit: range and trip count, mode, limit and level, each judged against what the commit has left. -/
def State.commitFm (s : State) (l : List (Nat × Word)) (c : Nat) : State :=
  let put (s : State) (a : Nat) : State := match Sparse.find l a with
    | some v => s.wr a v
    | none => s
  let s := put (put s (R.FM_RANGE c)) (R.FM_COMPCFG c)
  let s := match Sparse.find l (rCTRL (P.FM c)) with
    | none => s
    | some v =>
      let old := s.rd (rCTRL (P.FM c))
      let bad := fld old 0 2 == 0 && fld v 0 2 != 0 && !s.forceOk c
      let s := s.wr (rCTRL (P.FM c)) (if bad then setFld v 0 2 0 else v)
      s.raiseIf bad (P.FM c) 9
  let s := match Sparse.find l (R.FM_LIMIT c) with
    | none => s
    | some v => if s.limitOk c (s.fmMode c) v then s.wr (R.FM_LIMIT c) v else s.raise (P.FM c) 9
  match Sparse.find l (R.FM_LEVEL c) with
  | none => s
  | some v =>
    if !s.levelOk c (s.fmMode c) v then s.raise (P.FM c) 9
    else
      let old := s.sigma c
      let s := s.wr (R.FM_LEVEL c) v
      let s := s.setFm c { s.fm c with neg := decide (v.toInt < 0) }
      if s.fmMode c ≠ 0 ∧ s.sigma c ≠ old then s.fmRestart c else s

/-! ## What a commit does -/

/-- The enabled member slots whose loop an earlier one names (R584). -/
def State.dupSlots (s : State) : List (Nat × Nat × Nat) :=
  let all := s.memberSlots
  all.filter fun e => (all.find? fun f => f.2.2 == e.2.2) != some e

/-- Limits lowered under the state of a generator raise LIMIT (R621). -/
def State.prfLimit (s old : State) (j : Nat) : State :=
  let b := R.PRF_CFG0 + 0x20 * j
  let g := s.gen j
  let low (a : Nat) (x : Int) : Bool := decide (s.fd a 0 31 < old.fd a 0 31) && decide (s.fd a 0 31 < x.natAbs)
  s.raiseIf (low (b + 4) g.v || low (b + 8) g.a) P.PRF (8 + j)

/-- The action bits of one TS register act. -/
def State.commitAct (s : State) (a : Nat) (v : Word) : State :=
  let p := a / 256
  if p = P.CTL then (if bitOf v 0 then (List.range 8).foldl State.loopRestart s else s)
  else if 0x31 ≤ p ∧ p ≤ 0x38 then (if bitOf v 1 then s.loopRestart (p - 0x31) else s)
  else if p = P.PRF then
    (List.range 4).foldl (fun (s : State) j =>
      let s := if bitOf v j then s.genLoad j else s
      if bitOf v (8 + j) then s.setGen j { s.gen j with ovr := false } else s) s
  else if p = P.RPT then
    let s := if bitOf v 0 then s.rptClear 0 else s
    if bitOf v 1 then s.rptClear 1 else s
  else if p = P.INJ then
    let one (s : State) (k : Nat) : State :=
      let s := if bitOf v (4 + k) then s.injStop k true else s
      if bitOf v k then s.injStart k else s
    one (one s 0) 1
  else s

/-- A loop is disabled: LOUT and LERR read 0 (R575). -/
def State.loopOff (s : State) (n : Nat) : State :=
  let s := { s with ctl := { s.ctl with loops := s.ctl.loops.modify n fun x => { x with out := 0, err := 0 } } }
  (s.setNode (0x30 + n) 0).setNode (0x38 + n) 0

/-- TWIN owns a channel, whose force registers keep their values: what an earlier owner wrote does not commit (R694, Table 10-9). -/
def State.twinHolds (s : State) (c : Nat) : Bool := s.ticking && (s.fm c).owner == 2

/-- Register values `l` and action bits `acts` commit together; a calibration entry that changes is no longer that of the factory image (R516). -/
def State.commit (s : State) (l acts : List (Nat × Word)) : State :=
  let old := s
  let isFm (a : Nat) : Bool := a / 256 == 0x24 || a / 256 == 0x25
  let bad := l.filter fun e => s.commitBad l e.1 e.2
  let good := l.filter fun e => !s.commitBad l e.1 e.2 && !isFm e.1
  let s := if good.any (fun e => decide (R.CAL_E0W0 ≤ e.1) && e.1 / 256 == P.CAL && s.rd e.1 != e.2) then { s with adc := { s.adc with fact := false } } else s
  let s := good.foldl (fun (s : State) e => s.wr e.1 e.2) s
  let s := bad.foldl (fun (s : State) e => s.raise (e.1 / 256) (rejectEv (e.1 / 256))) s
  let s := ([0, 1] : List Nat).foldl (fun (s : State) c => if s.twinHolds c then s else s.commitFm l c) s
  let s := if l.any (fun e => isFm e.1) && !s.ticking then (s.rangeManual 0).rangeManual 1 else s
  let s := s.raiseIf (s.dupSlots.any fun e => !old.dupSlots.contains e) P.CTL 4
  let s := (List.range 4).foldl (fun (s : State) j => (s.genMode j (old.genCfg j).1).prfLimit old j) s
  let s := [0, 1].foldl (fun (s : State) c => if s.bit (R.RPT_CFG0 + 0x20 * c) 0 && !old.bit (R.RPT_CFG0 + 0x20 * c) 0 then s.rptEnable c else s) s
  let s := (List.range 8).foldl (fun (s : State) n =>
    if s.bit (rCTRL (P.LP n)) 0 && !old.bit (rCTRL (P.LP n)) 0 then s.loopRestart n
    else if !s.bit (rCTRL (P.LP n)) 0 && old.bit (rCTRL (P.LP n)) 0 then s.loopOff n else s) s
  let s := (([0, 1, 2] : List Nat).foldl State.groupNone s).winFall
  acts.foldl (fun (s : State) e => s.commitAct e.1 e.2) s

/-- Every shadow and every standing action bit commits (phases 1 to 7, or entry to IDLE or SAFE under R10). -/
def State.commitAll (s : State) : State :=
  let l := s.shadow
  let acts := s.acts
  ({ s with shadow := [], acts := [] } : State).commit l acts

/-- The tick-shadowed values commit; at the shadow of a pair in TRACK only local ones (R700). -/
def State.commitEdge (s : State) : State :=
  if s.frozen then
    let keep (e : Nat × Word) : Bool := localPage (e.1 / 256)
    ({ s with shadow := s.shadow.filter keep, acts := s.acts.filter keep } : State).commitAll
  else s.commitAll

end Sys2Proof.Machine
end

