-- ==== Sys2Proof/Machine/Lnk.lean ====
section
/-! DEFINITION. The line transceiver: link state, silence, counters, configuration in force, receive, transmit, PLCA and CSMA/CD (chapter 4). -/

namespace Sys2Proof.Machine

/-! ## Conditions -/

/-- The port runs: the part is out of reset and in RUN or DOZE. -/
def State.portOn (s : State) : Bool := !s.pwr.inReset && (s.pwr.mode == .run || s.pwr.mode == .doze)

/-- The profile in force is 10BASE-T1S (R154). -/
def State.t1s (s : State) : Bool := s.lnk.profact == 1 || s.lnk.profact == 2

/-- A bit of LNK.FLT that makes LSTATE FAULT is 1 (Table 4-4). -/
def State.lnkFault (s : State) : Bool := s.fd (rFLT P.LNK) 0 3 != 0

/-- LNK.STAT.LSTATE (Table 4-4). -/
def State.lstate (s : State) : LinkState := if s.lnkFault then .fault else s.lnk.link

/-- The device is SHADOW of a joined pair (R658). -/
def State.isShadow (s : State) : Bool := s.paired && !s.twn.role

/-- PLCA is enabled by the settings in force, in a profile that has it (R172). -/
def State.plcaOn (s : State) : Bool := s.t1s && bitOf s.lnk.plca 24

/-- The node is the PLCA coordinator (R175). -/
def State.coordinator (s : State) : Bool := s.plcaOn && fld s.lnk.plca 0 8 == 0

/-- PLCASTAT is active, as follower or as coordinator. -/
def State.plcaActive (s : State) : Bool := s.lnk.plcaStat == .follower || s.lnk.plcaStat == .coordinator

/-- LNK.STAT.TXSIL: the transmitter is held silent (R171, R722). -/
def State.txsil (s : State) : Bool :=
  s.bit (rCTRL P.LNK) 5 || s.bit (rCTRL P.LNK) 4 || s.isShadow || s.pwr.mode != .run || s.lnkFault || s.lnk.silent || s.lnk.hush || s.lnk.profact == 0 || s.twn.promote == 3 ||
  (s.coordinator && s.clk.state != .ref)

/-! ## Link state and counters -/

/-- The LNS counters that count in every profile (R200). -/
def everyProfile (a : Nat) : Bool :=
  a == R.LNS_RXOK || a == R.LNS_RXFCS || a == R.LNS_RXSHORT || a == R.LNS_RXJAB || a == R.LNS_TXOK || a == R.LNS_TXJAB

/-- Add to an LNS counter, saturating, with SAT when it reaches its top (R198). -/
def State.lnsAdd (s : State) (a n : Nat) : State :=
  let v := satAdd 32 (s.rd a).toNat n
  let top := s.rd a != 0xFFFFFFFF#32 && v == 0xFFFFFFFF
  (s.wr a (wd v)).raiseIf top P.LNS 0

/-- Count in an LNS counter; under FREEZE the count is held back (R199, R200). -/
def State.lns (s : State) (a n : Nat) : State :=
  if n = 0 then s
  else if !(everyProfile a || s.t1s) then s
  else if s.bit (rCTRL P.LNS) 1 then
    { s with lnk := { s.lnk with held := Sparse.put (fun _ => 0) s.lnk.held a (Sparse.get (fun _ => 0) s.lnk.held a + n) } }
  else s.lnsAdd a n

/-- Do `f` and raise what its change of LSTATE raises (R189). -/
def State.linkEv (s : State) (f : State → State) : State :=
  let was := s.lstate
  let s := f s
  if was = .up && s.lstate ≠ .up then (s.raise P.LNK 1).lns R.LNS_LINKDN 1
  else s.raiseIf (was ≠ .up && s.lstate = .up) P.LNK 0

/-- Set the link state that FAULT hides. -/
def State.setLink (s : State) (l : LinkState) : State := s.linkEv fun s => { s with lnk := { s.lnk with link := l } }

/-- FREEZE returns to 0: the counts held back are added (R199). -/
def State.lnsRelease (s : State) : State :=
  s.lnk.held.foldl (fun s c => s.lnsAdd c.1 c.2) { s with lnk := { s.lnk with held := [] } }

/-- The LNS counters, RXOK to LINKDN. -/
def lnsCounters : List Nat := (List.range 15).map fun i => R.LNS_RXOK + 4 * i

/-- Set every LNS counter to zero, held counts among them (R199). -/
def State.lnsClear (s : State) : State :=
  lnsCounters.foldl (fun s a => s.wr a 0#32) { s with lnk := { s.lnk with held := [] } }

/-! ## Configuration in force (R172, R195, R196) -/

/-- The PLCA state a port that starts is in. -/
def State.plcaStart (s : State) : State :=
  let on := s.plcaOn
  let halt := s.coordinator && s.clk.state != .ref
  { s with lnk := { s.lnk with
    plcaStat := if !on || halt then .off else .searching, coordHalt := halt, clash := 0, clashed := false, opp := 0, oppNo := 0 } }

/-- The port is neither transmitting nor receiving. -/
def State.portIdle (s : State) : Bool := !s.lnk.energy

/-- The threshold of the energy detector, in mV (R160). -/
def State.edThr (s : State) : Nat := 25 * fld s.lnk.rxcfg 0 4

/-- The energy detector follows the amplitude (R160): its report takes LSTATE from DOWN to ENERGY (Table 4-4), its end returns the gain to code 7 and lets a jabbered
receiver resume (R161, R187). -/
def State.energyNow (s : State) : State :=
  let on := decide (s.lnk.amp > s.edThr)
  let s := { s with lnk := { s.lnk with energy := on, jabRx := s.lnk.jabRx && on, gain := if on then s.lnk.gain else 7 } }
  if on && s.portOn && s.lnk.profact != 3 && s.lnk.link == .down then s.setLink .energy else s

/-- Put the written settings in force (R195). -/
def State.lnkApply (s : State) : State :=
  let old := s.lnk.plca
  let s := { s with lnk := { s.lnk with
    plca := s.rd R.LNK_PLCA, burst := s.rd R.LNK_BURST, txcfg := s.rd R.LNK_TXCFG, rxcfg := s.rd R.LNK_RXCFG } }
  let now := s.lnk.plca
  let s := if bitOf old 24 != bitOf now 24 || (fld old 0 8 == 0) != (fld now 0 8 == 0) then s.plcaStart else s
  s.energyNow

/-- An accepted write takes effect at once where the port is neither transmitting nor receiving, else at LNK_CONFIG_APPLY or the loss of energy (R195). -/
def State.lnkWritten (s : State) : State := if s.portIdle && s.portOn then s.lnkApply else s

/-- The port stops and starts again in the profile LNK.CTRL.PROF names; frames in transmission are lost (R196, R241); while an ECAN test runs or waits the transmitter stays silent (R722). LSTATE is evaluated again from DOWN. -/
def State.lnkRestart (s : State) : State :=
  let prof := s.fd (rCTRL P.LNK) 0 2
  let act := if s.lnk.cdg ≠ CdgStep.none ∨ prof = 3 then 0 else prof + 1
  let s := s.setLink .down
  let s := { s with
    lnk := { s.lnk with
      profact := act
      nego := prof == 3 && s.lnk.cdg == CdgStep.none
      silent := s.lnkFault
      hush := s.ecanWaits
      attempts := 0
      backoff := false
      jabRx := false
      plca := s.rd R.LNK_PLCA
      burst := s.rd R.LNK_BURST
      txcfg := s.rd R.LNK_TXCFG
      rxcfg := s.rd R.LNK_RXCFG }
    cyc := { s.cyc with seqv := false, txNow := none } }
  s.plcaStart.energyNow

/-- CLK leaves REF: a coordinator halts (R178). -/
def State.coordLost (s : State) : State :=
  if s.coordinator && !s.lnk.coordHalt then
    ({ s with lnk := { s.lnk with plcaStat := .off, coordHalt := true } }).raise P.LNK 9
  else s

/-! ## Receive (R160 to R168, R187, R192, R193) -/

/-- SQI of a mean square deviation in ps² (R192). -/
def sqiOf (m : Nat) : Nat :=
  if m < 1000 ^ 2 then 7 else if m < 2000 ^ 2 then 6 else if m < 3000 ^ 2 then 5 else if m < 4000 ^ 2 then 4
  else if m < 6000 ^ 2 then 3 else if m < 8000 ^ 2 then 2 else if m < 12000 ^ 2 then 1 else 0

/-- Take the deviation of a frame with valid FCS, in ps RMS, into SQI; SQI_LOW is raised when SQI falls below its threshold (R192, R193). -/
def State.sqi (s : State) (jit : Nat) : State :=
  let l := ((jit ^ 2) :: s.lnk.jit).take 16
  let q := sqiOf (l.foldl (· + ·) 0 / l.length)
  let thr := fld s.lnk.rxcfg 12 3
  let low := decide (q < thr) && (s.lnk.jit.isEmpty || decide (s.fd R.LNK_SQI 0 3 ≥ thr))
  (({ s with lnk := { s.lnk with jit := l } }).setF R.LNK_SQI 0 3 q).raiseIf low P.LNK 11

/-- The FCS of a frame is right: CRC-32, least significant octet first. -/
def fcsOk (l : List Byte) : Bool :=
  decide (4 ≤ l.length) && (l.drop (l.length - 4) == wordBytes (wd (crc32 (l.take (l.length - 4)))))

/-- Append the FCS. -/
def withFcs (l : List Byte) : List Byte := l ++ wordBytes (wd (crc32 l))

/-- A six-octet address from its two registers. -/
def macOf (hi lo : Word) : Nat := fld hi 0 16 * 2 ^ 32 + lo.toNat

/-- CYC.MAC. -/
def State.mac (s : State) : Nat := macOf (s.rd R.CYC_MAC_HI) (s.rd R.CYC_MAC_LO)

/-- A complete frame is checked, and passed on to the cycle engine or dropped and counted (R165, R166, R168). -/
def State.rxCheck (s : State) (oct : List Byte) (stamp done : LineTime) (rate : Int) : State :=
  let n := oct.length
  let ok := fcsOk oct
  if !(decide (64 ≤ n) && decide (n ≤ 1522)) then s.lns R.LNS_RXSHORT 1
  else if !ok then s.lns R.LNS_RXFCS 1
  else
    let s := s.lns R.LNS_RXOK 1
    let s := (s.wr R.LNK_STAMP_LO (stamp.setWidth 32)).wr R.LNK_STAMP_HI (wd (stamp.toNat / 2 ^ 32))
    { s with cyc := { s.cyc with handover := s.cyc.handover ++ [⟨oct, stamp, done, rate, s.mac, s.fd R.CYC_NODE 0 16, s.fd R.CYC_ETYPE 0 16⟩] } }

/-- The receive gain code: AGCVAL when fixed; else the code held since the SYNC code groups, or 7 without energy (R161). -/
def State.gainNow (s : State) : Nat :=
  if bitOf s.lnk.rxcfg 11 then fld s.lnk.rxcfg 8 3 else if s.lnk.energy then s.lnk.gain else 7

/-- The receiver takes frames from the line. -/
def State.rxOn (s : State) : Bool :=
  s.portOn && s.t1s && s.lnk.cdg == CdgStep.none && !s.lnk.jabRx && !s.bit (rCTRL P.LNK) 4

/-- A frame completes at the receiver, `back` line-time units after its stamp point, with a rate error in 1/16 ppm, a deviation in ps RMS and a count of
invalid code groups. STAT.AGC takes the frame's gain code, and its ESD returns the gain to code 7 (R161, R162). -/
def State.rxFrame (s : State) (oct : List Byte) (back : LineTime) (rate : Int) (jit sym : Nat) : State :=
  if !s.rxOn then s
  else
    let s := s.lns R.LNS_RXSYM sym
    let s := { s with lnk := { s.lnk with agc := s.gainNow, gain := 7 } }
    let s := if fcsOk oct then (s.setLink .up).sqi jit else s
    s.rxCheck oct (s.lt - back) s.lt rate

/-- The differential amplitude on the line becomes `mv` mV peak: the detector compares it with EDTHR × 25 mV; where energy begins, `gain` is the code the amplitude of the
SYNC groups sets, and without energy `noise` is the idle noise (R160, R161). `outS` tells of energy outside the S positions (R274). -/
def State.lineEnergy (s : State) (mv gain noise : Nat) (outS : Bool) : State :=
  let was := s.lnk.energy
  let s := ({ s with lnk := { s.lnk with amp := mv, outS := outS } } : State).energyNow
  let s := if !was && s.lnk.energy then { s with lnk := { s.lnk with gain := gain % 8 } } else s
  let s := if !s.lnk.energy && s.portOn then s.setF R.LNK_SQI 8 8 noise else s
  s.lnkWritten

/-- A received transmission lasts 20,000 bit times (R187). -/
def State.rxJabber (s : State) : State :=
  if s.portOn && s.lnk.profact != 0 then
    (({ s with lnk := { s.lnk with jabRx := true } }).lns R.LNS_RXJAB 1).raise P.LNK 3
  else s

/-! ## Transmit (R169 to R186) -/

/-- The frame that waits: one whose transmission has begun, else the transmit buffer. -/
def State.txFront (s : State) : Option (List Byte) := s.cyc.txNow.or s.cyc.txbuf

/-- The waiting frame leaves its place; one that leaves the transmit buffer has been handed to the line (Table 6-8). -/
def State.txTake (s : State) : State :=
  let s := if s.cyc.txNow.isSome then { s with cyc := { s.cyc with txNow := none } }
    else ({ s with cyc := { s.cyc with txbuf := none } } : State).inc R.CYC_TXRSP
  { s with lnk := { s.lnk with attempts := 0, backoff := false } }

/-- A RESPONSE frame with the send stamp in octets 14 to 19 of its payload, and its FCS (R815, Table 6-3). -/
def stamped (l : List Byte) (t : LineTime) : List Byte :=
  withFcs (l.take 28 ++ beOctets 6 t.toNat ++ l.drop 34)

/-- The waiting frame is transmitted complete (R170). Its end is 8 bit times of SFD and its octets after its stamp point, at 10 line-time units a bit time. -/
def State.txSend (s : State) : State :=
  match s.txFront with
  | some f =>
    let o := stamped f s.lt
    ({ s.txTake with lnk := { s.txTake.lnk with lastTx := o, txEnd := s.lt + BitVec.ofNat 48 (80 * (o.length + 1)) } }).lns R.LNS_TXOK 1
  | none => s

/-- PCS loopback: the waiting frame goes at once through the PCS to the receiver (R171). -/
def State.txLoop (s : State) : State :=
  match s.txFront with
  | some f =>
    let o := stamped f s.lt
    let s := s.txTake
    let s := { s with lnk := { s.lnk with lastTx := o } }
    let s := (s.setLink .up).sqi 0
    s.rxCheck o s.lt s.lt 0
  | none => s

/-- A transmit test mode of Clause 147 is chosen: the transmitter sends its signal and no frame (R155; DEDUCED, log entry 55). -/
def State.testing (s : State) : Bool := s.fd R.LNK_TEST 0 3 != 0

/-- The transmitter is free to begin under CSMA/CD: PLCA off, or searching with FALLBK (R177, R181). -/
def State.csmaOk (s : State) : Bool :=
  s.portOn && s.t1s && !s.txsil && !s.testing && !s.lnk.backoff && !s.lnk.energy &&
  (!s.plcaOn || (s.lnk.plcaStat == .searching && bitOf s.lnk.plca 25))

/-- The node transmits in its own opportunities. -/
def State.plcaTx (s : State) : Bool := s.portOn && s.plcaActive && !s.txsil && !s.testing

/-- A further frame of the burst may begin: within BTMR bit times of the end of the last one, its preamble of 56 bit times standing before its stamp point (R176). -/
def State.burstOk (s : State) : Bool :=
  s.plcaTx && decide (s.lnk.opp > 0) && decide ((s.lt - s.lnk.txEnd).toNat ≤ 10 * (fld s.lnk.burst 8 8 + 56))

/-- The transmitter sends a waiting frame, where medium access permits. -/
def State.txFrame (s : State) : State :=
  if s.portOn && s.t1s && s.bit (rCTRL P.LNK) 4 then s.txLoop
  else if s.csmaOk then s.txSend
  else if s.burstOk && s.txFront.isSome then (({ s with lnk := { s.lnk with opp := s.lnk.opp - 1 } }).txSend)
  else s

/-- The node's ID in force. -/
def State.plcaId (s : State) : Nat := fld s.lnk.plca 0 8

/-- Line-time units that `n` opportunities last at least: each ends after TOTMR bit times of silence, or carries a frame (R176). -/
def State.oppTime (s : State) (n : Nat) : Nat := 10 * fld s.lnk.plca 16 8 * n

/-- The own opportunity of this PLCA cycle is due: the count since the BEACON has not passed the node's ID, and the opportunities before it can have passed (R175, R176). -/
def State.ownDue (s : State) : Bool := decide (s.lnk.oppNo ≤ s.plcaId) && decide (s.oppTime s.plcaId ≤ (s.lt - s.lnk.bcnAt).toNat)

/-- The own transmit opportunity begins: the node transmits or yields, and the count of the cycle passes it (R106, R176, R180). A SHADOW only counts. -/
def State.plcaOpp (s : State) : State :=
  if !(s.portOn && s.plcaActive && s.ownDue) then s
  else
    let s := { s with lnk := { s.lnk with oppNo := s.plcaId + 1, opp := 0 } }
    if s.isShadow then s
    else if s.txFront.isSome && s.plcaTx then
      (({ s with lnk := { s.lnk with opp := fld s.lnk.burst 0 4 } }).lns R.LNS_TXOPP 1).txSend
    else s.lns R.LNS_TXYIELD 1

/-- A collision in the own opportunity (R179), which it opens or in whose burst it falls; three PLCA cycles running with one set IDCLASH. -/
def State.idClash (s : State) : State :=
  if s.plcaTx && s.txFront.isSome && (decide (s.lnk.opp > 0) || decide (s.lnk.oppNo ≤ s.plcaId)) then
    let s := if s.lnk.opp = 0 then s.lns R.LNS_TXOPP 1 else s
    let s := (s.txTake.lns R.LNS_TXCOLL 1).raise P.LNK 10
    let k := if s.lnk.clashed then s.lnk.clash else s.lnk.clash + 1
    let s := { s with lnk := { s.lnk with clash := k % 3, clashed := true, opp := 0, oppNo := s.plcaId + 1 } }
    if k ≥ 3 then
      s.linkEv fun s => ({ s with lnk := { s.lnk with silent := true } }).setFlt P.LNK 2
    else s
  else s

/-- A collision under CSMA/CD, `bits` bit times after the start (R181, R182). The back-off interval is drawn from the noise source. -/
def State.collision (s : State) (bits : Nat) : State :=
  if s.csmaOk && s.txFront.isSome then
    if bits > 512 then (s.txTake.lns R.LNS_TXLATE 1).raise P.LNK 7
    else
      let s := s.lns R.LNS_TXCOLL 1
      if s.lnk.attempts + 1 ≥ 16 then (s.txTake.lns R.LNS_TXEXC 1).raise P.LNK 6
      else
        let f := s.txFront
        let s := if s.cyc.txNow.isSome then s else s.inc R.CYC_TXRSP
        let s := s.draw.1
        { s with
          lnk := { s.lnk with attempts := s.lnk.attempts + 1, backoff := true }
          cyc := { s.cyc with txNow := f, txbuf := if s.cyc.txNow.isSome then s.cyc.txbuf else none } }
  else s

/-- The back-off interval expires (R181). -/
def State.backoffEnd (s : State) : State := { s with lnk := { s.lnk with backoff := false } }

/-- A transmission ends in a fault of the transmitter: bit 0 jabber, bit 1 driver (R183, R184, R186). -/
def State.txFault (s : State) (n : Nat) : State :=
  if s.portOn && !s.txsil then
    let s := if s.txFront.isSome && s.t1s then s.txTake else s
    let s := s.linkEv fun s => ({ s with lnk := { s.lnk with silent := true } }).setFlt P.LNK n
    let s := s.raiseIf (n == 0) P.LNK 2
    (s.lns R.LNS_TXJAB 1).detect 0xA P.LNK (wd n)
  else s

/-! ## PLCA BEACON (R174, R175, R178) -/

/-- A BEACON starts a PLCA cycle: the count of opportunities begins at 0, and a cycle without a collision ends the run of R179. -/
def State.plcaCycle (s : State) : State :=
  { s with lnk := { s.lnk with opp := 0, oppNo := 0, bcnAt := s.lt, clash := if s.lnk.clashed then s.lnk.clash else 0, clashed := false } }

/-- A valid BEACON is received. -/
def State.beaconRx (s : State) : State :=
  if s.rxOn then
    let s := ((s.lns R.LNS_BCNRX 1).setLink .up).plcaCycle
    if s.plcaOn && s.lnk.plcaStat == .searching && !s.coordinator then
      ({ s with lnk := { s.lnk with plcaStat := .follower } }).raise P.LNK 4
    else s
  else s

/-- No BEACON for 4,000 bit times. -/
def State.plcaLoss (s : State) : State :=
  if s.lnk.plcaStat == .follower then
    (({ s with lnk := { s.lnk with plcaStat := .searching, opp := 0, clash := 0, clashed := false } }).lns R.LNS_BCNMISS 1).raise P.LNK 5
  else s

/-- The coordinator's PLCA cycle starts: it sends no BEACON yet, or NCOUNT opportunities can have passed since the last (R175). -/
def State.cycleDue (s : State) : Bool :=
  s.lnk.plcaStat != .coordinator || decide (s.oppTime (fld s.lnk.plca 8 8) ≤ (s.lt - s.lnk.bcnAt).toNat)

/-- The coordinator sends a BEACON. -/
def State.beaconTx (s : State) : State :=
  if s.portOn && s.coordinator && !s.txsil && !s.testing && s.cycleDue then
    let up := s.lnk.plcaStat != .coordinator
    (({ s with lnk := { s.lnk with plcaStat := .coordinator, coordHalt := false } } : State).plcaCycle).raiseIf up P.LNK 4
  else s

/-- The window of LINKCFG passes without a frame, and `quiet` tells without energy too (R188). -/
def State.linkWindow (s : State) (quiet : Bool) : State :=
  if s.lnk.profact != 3 then
    let q := quiet && !s.lnk.energy
    match s.lnk.link with
    | .up => s.setLink (if q then .down else .energy)
    | .energy => if q then s.setLink .down else s
    | _ => s
  else s

/-! ## Configuration writes (R173, R194, R197, R210) -/

/-- What a write makes of a LNK register: the value it takes, and whether CFG_REJECT is raised. -/
def State.lnkAccept (s : State) (a : Nat) (old new : Word) : Word × Bool :=
  let rng (v : Word × Bool) (lo w mn mx : Nat) : Word × Bool :=
    let x := fld v.1 lo w
    if mn ≤ x ∧ x ≤ mx then v else (setFld v.1 lo w (fld old lo w), true)
  if a = rCTRL P.LNK then
    let change := fld new 0 2 != fld old 0 2 || bitOf new 4 != bitOf old 4
    if change && !s.direct then (setFld (setFld new 0 2 (fld old 0 2)) 4 1 (fld old 4 1), true) else (new, false)
  else if a = R.LNK_PLCA then
    let bad := fld new 8 8 == 0 || fld new 16 8 == 0 || (bitOf new 24 && fld new 0 8 == 255) || (fld new 0 8 == 0 && s.clk.state != .ref)
    if new = old then (old, false) else if !s.direct || bad then (old, true) else (new, false)
  else if a = R.LNK_BURST then
    if new = old then (old, false) else if !s.direct then (old, true) else rng (new, false) 8 8 1 255
  else if a = R.LNK_TEST then
    if new = old then (old, false) else if !s.direct then (old, true) else (new, false)
  else if a = R.LNK_TXCFG then rng (new, false) 0 5 1 31
  else if a = R.LNK_RXCFG then rng (new, false) 0 4 1 15
  else if a = R.LNK_LINKCFG then rng (new, false) 0 16 100 65535
  else (new, false)

end Sys2Proof.Machine
end

