-- ==== Sys2Proof/Machine/Isn.lean ====
section
/-! DEFINITION. The Isinasia profile: header, scrambler, payload units, aligner, training, loading swap, reconvergence, low-power idle, and superframes in each direction (chapter 5). -/

namespace Sys2Proof.Machine

/-! ## Carriers, tables and rates (Tables 5-2, 5-9a, 5-15) -/

/-- The usable carriers, ascending. -/
def usable : List Nat := (List.range 58).map (· + 3)

/-- A sync carrier. -/
def isSync (k : Nat) : Bool :=
  (decide (9 ≤ k) && decide (k ≤ 23)) || (decide (25 ≤ k) && decide (k ≤ 39)) || k == 41 || k == 42

/-- The sync carriers, ascending. -/
def syncCarriers : List Nat := usable.filter isSync

/-- A word of the carrier table: entry `k`, word `j`. -/
def carrAddr (k j : Nat) : Nat := 0x33000000 + 16 * k + 4 * j

/-- Write a field of the carrier table. -/
def State.setCarr (s : State) (k j lo w n : Nat) : State :=
  s.wrW (carrAddr k j) (setFld (s.rdW (carrAddr k j)) lo w n)

/-- Transmit loading of a carrier in a slot, true for B. -/
def State.txLoad (s : State) (slot : Bool) (k : Nat) : Nat := fld (s.rdW (carrAddr k 0)) (if slot then 8 else 0) 4

/-- Receive loading of a carrier in a slot. -/
def State.rxLoad (s : State) (slot : Bool) (k : Nat) : Nat := fld (s.rdW (carrAddr k 1)) (if slot then 8 else 0) 4

/-- Write a whole table: `j` 0 transmit, 1 receive; the loads are of carriers 3 to 60. -/
def State.setLoads (s : State) (j : Nat) (slot : Bool) (l : List Nat) : State :=
  (l.zip usable).foldl (fun s e => s.setCarr e.2 j (if slot then 8 else 0) 4 e.1) s

/-- Payload size in bits of a loading (R223). -/
def payBits (f : Nat → Nat) : Nat :=
  (syncCarriers.map f).foldl (· + ·) 0 + 3 * (usable.map f).foldl (· + ·) 0

/-- Raw rate in 0.1 Mbit/s (R225). -/
def rawRate (f : Nat → Nat) : Nat := 2 * (usable.map f).foldl (· + ·) 0

/-- T(b) in 0.25 dB (Table 5-9a). -/
def loadThr (b : Nat) : Nat := [0, 39, 58, 73, 86, 99, 111, 123, 136, 148, 160].getD b 160

/-- SNR of a carrier in 0.25 dB. -/
def State.snr (s : State) (k : Nat) : Nat := fld (s.rdW (carrAddr k 2)) 0 8

/-- This end is the timing master: only while TMASTER is 1 (R231, R241), and where a negotiation has chosen this end (R239). -/
def State.tmaster (s : State) : Bool :=
  s.bit (rCTRL P.ISN) 0 && (match s.isn.negd with
    | some n => n.master
    | none => true)

/-- Tap mode (R279). -/
def State.tapMode (s : State) : Bool := s.lnk.profact == 3 && s.isShadow

/-- The link's largest loading: what the negotiation chose, else MAXB (R240, R241). -/
def State.isnBmax (s : State) : Nat :=
  match s.isn.negd with
  | some n => n.bmax
  | none => s.fd R.ISN_NEGCAP 0 4

/-- The link uses low-power idle: both ends negotiated it, else LPICAP (R240, R241). -/
def State.isnLpi (s : State) : Bool :=
  match s.isn.negd with
  | some n => n.lpi
  | none => s.bit R.ISN_NEGCAP 5

/-- The loading the receiver computes for a carrier (R263). -/
def State.calcLoad (s : State) (k : Nat) : Nat :=
  let bmax := min (s.fd R.ISN_LOADCFG 8 4) s.isnBmax
  if bitOf (s.rdW (carrAddr k 2)) 31 then 0
  else (((List.range (bmax + 1)).filter fun b => b == 0 || decide (s.snr k ≥ loadThr b + s.fd R.ISN_LOADCFG 0 7)).getLast?).getD 0

/-- The computed table. -/
def State.calcTable (s : State) : List Nat := usable.map s.calcLoad

/-- The receive table in force. -/
def State.rxTable (s : State) : List Nat := usable.map (s.rxLoad s.isn.ltRx)

/-! ## Header (Table 5-3, R222) -/

/-- A field of a header. -/
def hfld (h lo w : Nat) : Nat := h / 2 ^ lo % 2 ^ w

/-- HCRC of header bits 51 to 16. -/
def hcrc (h : Nat) : Nat :=
  (List.range 36).foldl (fun c i => crcBitL 16 0x1021 c (h.testBit (51 - i))) 0xFFFF

/-- A header has a valid HCRC. -/
def hcrcOk (h : Nat) : Bool := hfld h 0 16 == hcrc h

/-- A header passes CHECK: HCRC and version (Table 5-7). -/
def hdrOk (h : Nat) : Bool := hcrcOk h && hfld h 50 2 == 1

/-- A header with its HCRC. -/
def mkHdr (sfn : Nat) (lt : Bool) (swp : Nat) (lpi rcv : Bool) (rxst stage fptr : Nat) : Nat :=
  let h := 1 * 2 ^ 50 + sfn % 4096 * 2 ^ 38 + lt.toNat * 2 ^ 37 + swp % 4 * 2 ^ 35 + lpi.toNat * 2 ^ 34 + rcv.toNat * 2 ^ 33 +
    rxst % 4 * 2 ^ 31 + stage % 8 * 2 ^ 28 + fptr % 4096 * 2 ^ 16
  h + hcrc h

/-! ## Scrambler (R226) and constellations (R218) -/

/-- The scrambler's state at the first payload bit of a superframe. -/
def scrStart (seed sfn : Nat) : Nat :=
  let x := (seed ^^^ sfn) % 2 ^ 23
  if x = 0 then 0x7FFFFF else x

/-- Pass bits through the scrambler. -/
def scramble : Nat → List Bool → List Bool
  | _, [] => []
  | st, d :: t =>
    let f := st.testBit 22 != st.testBit 17
    (d != f) :: scramble ((st * 2 + f.toNat) % 2 ^ 23) t

/-- The bits of octets, most significant first. -/
def octBits (l : List Byte) : List Bool := l.flatMap fun b => [7, 6, 5, 4, 3, 2, 1, 0].map b.getLsbD

/-- The octets of bits, most significant first; `n` of them. -/
def bitOcts : Nat → List Bool → List Byte
  | 0, _ => []
  | n + 1, l => BitVec.ofNat 8 ((l.take 8).foldl (fun a b => a * 2 + b.toNat) 0) :: bitOcts n (l.drop 8)

/-- The level of an axis whose bits are the list (R218). -/
def axisLevel (l : List Bool) : Int :=
  if l.isEmpty then 0
  else
    let bin := (l.foldl (fun (a : Nat × Bool) b => let x := a.2 != b; (a.1 * 2 + x.toNat, x)) (0, false)).1
    ((2 ^ l.length : Nat) : Int) - 1 - 2 * (bin : Int)

/-- A carrier's value from its bits: the levels of both axes, and M_I² − 1 + M_Q² − 1, whose third is the square of the divisor (R218). -/
def carrierLevel (l : List Bool) : Carr :=
  let m := (l.length + 1) / 2
  ⟨axisLevel (l.take m), axisLevel (l.drop m), 4 ^ m - 1 + (4 ^ (l.length - m) - 1)⟩

/-- A BPSK carrier: a bit 0 gives +1. -/
def bpsk (b : Bool) : Carr := carrierLevel [b]

/-- A carrier that carries 0. -/
def carr0 : Carr := carrierLevel []

/-- REVERB on carriers 3 to 60: the scrambler from all ones over zeros, as BPSK. -/
def reverb : List Carr := (scramble 0x7FFFFF (List.replicate 58 false)).map bpsk

/-- The sync symbol S (R220). -/
def symbolS : List Carr :=
  (usable.foldl (fun (a : List Carr × Nat × Nat) k =>
    if isSync k then (a.1 ++ [bpsk ((0x5B1EC7A2 : Nat).testBit (31 - a.2.1))], a.2.1 + 1, a.2.2)
    else if k = 8 ∨ k = 24 ∨ k = 40 ∨ k = 56 then (a.1 ++ [bpsk false], a.2.1, a.2.2)
    else (a.1 ++ [bpsk ((0x1B4E9D : Nat).testBit (21 - a.2.2))], a.2.1, a.2.2 + 1)) ([], 0, 0)).1

/-- A silent symbol. -/
def symbol0 : List Carr := List.replicate 58 carr0

/-- The ACQ tone: BPSK +1 on carrier 16 alone (Table 5-6). -/
def symbolTone : List Carr := usable.map fun k => if k = 16 then bpsk false else carr0

/-- One data symbol: header bits on the header carriers where `hdr` is given, payload or REVERB elsewhere. Answers the symbol and the bits left. -/
def dataSymbol (f : Nat → Nat) (hdr : Option Nat) (rev : Bool) (bits : List Bool) : List Carr × List Bool :=
  let r := usable.foldl (fun (a : List Carr × Nat × List Bool) k =>
    if hdr.isSome && !isSync k then
      let h := hdr.getD 0
      (a.1 ++ [carrierLevel [h.testBit (51 - 2 * a.2.1), h.testBit (50 - 2 * a.2.1)]], a.2.1 + 1, a.2.2)
    else if rev then (a.1 ++ [reverb.getD (k - 3) carr0], a.2.1, a.2.2)
    else (a.1 ++ [carrierLevel (a.2.2.take (f k))], a.2.1, a.2.2.drop (f k))) ([], 0, bits)
  (r.1, r.2.2)

/-- A whole superframe with its header: D0 to D3 carry the payload bits, or REVERB. -/
def superframe (f : Nat → Nat) (h : Nat) (rev : Bool) (bits : List Bool) : List (List Carr) :=
  let d0 := dataSymbol f (some h) rev bits
  let d1 := dataSymbol f none rev d0.2
  let d2 := dataSymbol f none rev d1.2
  let d3 := dataSymbol f none rev d2.2
  [symbolS, d0.1, d1.1, d2.1, d3.1]

/-! ## Payload units (R228 to R230, R266) -/

/-- A unit with its descriptor; true for a management message. -/
def unitOct (msg : Bool) (l : List Byte) : List Byte := beOctets 2 ((if msg then 0xC000 else 0x8000) + l.length) ++ l

/-- The length a message type has (Table 5-9). -/
def msgLen (ty : Nat) : Option Nat :=
  match ty with
  | 1 => some 34
  | 2 => some 5
  | 3 => some 7
  | 4 => some 7
  | _ => none

/-- A message body has the right CRC. -/
def msgCrcOk (l : List Byte) : Bool := crc16 (l.take (l.length - 2)) == beNat (l.drop (l.length - 2))

/-- A message with its CRC. -/
def mkMsg (l : List Byte) : List Byte := l ++ beOctets 2 (crc16 l)

/-- Parse units from a buffer: the units found (true for a message), the rest, and whether the rest begins with an error. -/
def parseUnits : Nat → List Byte → List (Bool × List Byte) × List Byte × Bool
  | 0, l => ([], l, false)
  | _, [] => ([], [], false)
  | n + 1, b :: t =>
    if b = 0#8 then parseUnits n t
    else
      match t with
      | [] => ([], [b], b.toNat / 8 != 0x10 && b.toNat / 8 != 0x18)
      | c :: u =>
        let d := b.toNat * 256 + c.toNat
        let len := d % 2048
        let mac := decide (d / 2048 = 0x10) && decide (64 ≤ len) && decide (len ≤ 1522)
        let msg := decide (d / 2048 = 0x18) && decide (5 ≤ len) && decide (len ≤ 34)
        if !(mac || msg) then ([], b :: c :: u, true)
        else if u.length < len then ([], b :: c :: u, false)
        else if msg && !msgCrcOk (u.take len) then ([], b :: c :: u, true)
        else
          let r := parseUnits n (u.drop len)
          ((msg, u.take len) :: r.1, r.2)

/-- Deliver one unit: a frame to the checks of R165 with its stamp, a message to the queue of messages. -/
def State.deliver (s : State) (u : Bool × List Byte) (stamp : LineTime) : State :=
  if u.1 then
    if msgLen ((u.2.getD 0 0#8).toNat) = some u.2.length then { s with isn := { s.isn with msgq := s.isn.msgq ++ [u.2] } }
    else s.inc R.ISC_UNITERR
  else s.rxCheck u.2 stamp s.lt 0

/-- Take the payload octets of a superframe into the unit stream (R230, R235). `fptr` is none where the header's FPTR is no pointer. -/
def State.payload (s : State) (oct : List Byte) (fptr : Option Nat) (stamp : LineTime) : State :=
  let start (s : State) (l : List Byte) : State × List Byte × Bool :=
    let old := !s.isn.rxBuf.isEmpty
    let buf := s.isn.rxBuf ++ l
    let r := parseUnits (buf.length + 1) buf
    let s1 := (r.1.foldl (fun (a : State × LineTime) u => (a.1.deliver u a.2, stamp)) (s, if old then s.isn.rxStamp else stamp)).1
    let keep := old && r.1.isEmpty
    ({ s1 with isn := { s1.isn with rxBuf := r.2.1, rxStamp := if keep then s1.isn.rxStamp else stamp } }, r.2.1, r.2.2)
  let drop (s : State) : State := { s with isn := { s.isn with rxBuf := [], skip := true } }
  let resume (s : State) (p : Nat) : State :=
    let s := { s with isn := { s.isn with rxBuf := [], skip := false } }
    let r := start s (oct.drop p)
    if r.2.2 then drop (r.1.inc R.ISC_UNITERR) else r.1
  if s.isn.skip then
    match fptr with
    | some p => if p ≠ 0xFFF then resume s p else s
    | none => s
  else
    let r := start s oct
    if r.2.2 then
      let s := drop (r.1.inc R.ISC_UNITERR)
      match fptr with
      | some p => if p ≠ 0xFFF ∧ (r.2.1.length > oct.length ∨ p > oct.length - r.2.1.length) then resume s p else s
      | none => s
    else r.1

/-- Put a message into the units to be sent, ahead of the frames; a SHADOW sends none (R279). -/
def State.sendMsg (s : State) (body : List Byte) : State :=
  if s.isShadow then s else
  let ms := s.isn.units.filter (·.1)
  let fs := s.isn.units.filter fun u => !u.1
  { s with isn := { s.isn with units := ms ++ [(true, mkMsg body)] ++ fs } }

/-- Send an ACK. -/
def State.sendAck (s : State) (seq status : Nat) : State := s.sendMsg [2#8, BitVec.ofNat 8 seq, BitVec.ofNat 8 status]

/-- What a unit is to the countdown: 0 a frame, 1 a message, 2 the ACK 0x00 of the proposal with SEQ `seq` (R267). -/
def unitKind (seq : Option Nat) (u : Bool × List Byte) : Nat :=
  if !u.1 then 0 else if u.2.take 1 == [2#8] && seq == some (u.2.getD 1 0#8).toNat && u.2.getD 2 1#8 == 0#8 then 2 else 1

/-- How many ACKs 0x00 of that proposal are queued or cut short. -/
def acksLeft (seq : Option Nat) (cut : Option (Nat × List Byte)) (units : List (Bool × List Byte)) : Nat :=
  (match cut with
  | some c => (c.1 == 2).toNat
  | none => 0) + (units.filter fun u => unitKind seq u == 2).length

/-- Fill the payload of a superframe: `n` octets from the unit cut short, then the units, then IDLE; with `idle` IDLE alone (R272). Answers the octets, the rest of a unit
cut short, the units left, the offset of the first unit that begins, and how many frames were completed. -/
def fillUnits (seq : Option Nat) (fuel : Nat) (n off : Nat) (cut : Option (Nat × List Byte)) (units : List (Bool × List Byte)) (idle : Bool) (stamp : LineTime) :
    List Byte × Option (Nat × List Byte) × List (Bool × List Byte) × Option Nat × Nat :=
  match fuel with
  | 0 => ([], cut, units, none, 0)
  | k + 1 =>
    if n ≤ off then ([], cut, units, none, 0)
    else if idle then (List.replicate (n - off) 0#8, cut, units, some off, 0)
    else
      match cut with
      | some c =>
        let room := n - off
        if c.2.length ≤ room then
          let r := fillUnits seq k n (off + c.2.length) none units idle stamp
          (c.2 ++ r.1, r.2.1, r.2.2.1, r.2.2.2.1, r.2.2.2.2 + (c.1 == 0).toNat)
        else (c.2.take room, some (c.1, c.2.drop room), units, none, 0)
      | none =>
        match units with
        | [] => (List.replicate (n - off) 0#8, none, [], some off, 0)
        | u :: rest =>
          let r := fillUnits seq k n off (some (unitKind seq u, unitOct u.1 (if u.1 then u.2 else stamped u.2 stamp))) rest idle stamp
          (r.1, r.2.1, r.2.2.1, some off, r.2.2.2.2)

/-! ## Link state and training (R242 to R249, R278) -/

/-- STAGE of the last valid header received. -/
def State.rxStage (s : State) : Nat := hfld s.isn.rxHdr 28 3

/-- LNK's state follows the aligner and the training (R190, R278): UP while the transmitter is in showtime, received headers carry STAGE 0 and the aligner is LOCKED. -/
def State.isnLink (s : State) : State :=
  let l := if s.isn.done && s.isn.stage == 0 && s.rxStage == 0 && s.isn.locked then LinkState.up
    else if !s.isn.done && s.isn.stage != 7 then .energy
    else .down
  if s.lnk.link = l then s else s.setLink l

/-- A new non-zero LINKSEED from the noise source (R227). -/
def State.newSeed (s : State) : State :=
  let r := s.draw
  let v := r.2.toNat % 2 ^ 23
  { r.1 with isn := { r.1.isn with seed := if v = 0 then 1 else v } }

/-- What a training begins from and a failure leaves: no lock, no countdown, no proposal or seed outstanding, LT 0 and both seeds 0x7F_FFFF (R227, R245). -/
def State.isnClear (s : State) : State :=
  let s := { s with isn := { s.isn with
    done := false, locked := false, cands := [], miss := 0, cd := 0, cdSlot := false, prop := none, seedSeq := none, seedAck := false
    rxSeedNext := none, seedDone := none, cdSeq := none, xSent := 0, freeze := 0, ltTx := false, ltRx := false, lpiTx := false, lpiRx := false, lpiFirst := false, rcvTx := false
    rcvRx := false, rcvPend := false, rcvAge := 256, echoHigh := 0, rxBuf := [], skip := true, msgq := [], cut := none, rxHdr := 0, fine := 0
    eqSet := false, taps := [], tapOn := false, tapBuf := [], units := s.isn.units.filter fun u => !u.1 } }
  (s.wr R.ISN_TXSEED 0x7FFFFF#32).wr R.ISN_RXSEED 0x7FFFFF#32

/-- The Isinasia profile stops and is reset by a restart of the port (R196, R241). -/
def State.isnReset (s : State) : State :=
  let s := s.isnClear
  { s with isn := { s.isn with negd := none, stage := 7, left := 0, txLevels := [], txPay := [], txHdr := 0, tapTx := [] } }

/-- Restart the port under R196, in the profile LNK.CTRL.PROF names. -/
def State.portRestart (s : State) : State := s.lnkRestart.isnReset

/-- Training starts at QUIET: the master sends, the slave listens for the ACQ tone (R227, R242). -/
def State.trainStart (s : State) : State :=
  let s := s.isnClear.newSeed
  ({ s with isn := { s.isn with stage := 5, left := 10 } } : State).isnLink

/-- Training fails: the end falls silent; the master restarts after 50 superframes, a slave listens again (R249). -/
def State.trainFail (s : State) : State :=
  let s := s.isnClear
  let s := { s with isn := { s.isn with stage := if s.tmaster then 7 else 5, left := if s.tmaster then 50 else 0 } }
  (s.raise P.ISN 3).isnLink

/-- Superframes of a stage (Table 5-6, R253). -/
def State.stageLen (s : State) (stage : Nat) : Nat :=
  if stage = 5 then 10
  else if stage = 2 ∧ ((s.tmaster ∧ s.bit R.ISN_NEGRES 24) ∨ (!s.tmaster ∧ s.paired)) then 200
  else 100

/-- Enter a training stage. -/
def State.enterStage (s : State) (stage : Nat) : State :=
  let s := { s with isn := { s.isn with stage := stage, left := s.stageLen stage } }
  let s :=
    if stage = 4 then
      let l := usable.map fun k => if isSync k then 2 else 0
      let s := (s.setLoads 0 false l).setLoads 1 false l
      { s with isn := { s.isn with skip := false, rxBuf := [], tapBuf := [] } }
    else s
  s.isnLink

/-- The superframes of a training stage are over, with the residual echo in 0.25 dB below the launch level (R243, R249, R251). The master counts QUIET and ACQ and goes on to
P; a slave leaves QUIET and ACQ with the tone (R242), and leaves P only aligned. -/
def State.stageEnd (s : State) (echo : Nat) : State :=
  if s.lnk.profact ≠ 3 ∨ s.isn.left ≠ 0 then s
  else
    let m := s.tmaster
    let solo := (s.isn.stage == 1 && m) || (s.isn.stage == 2 && !m)
    let s := if solo then s.setF R.ISC_ECRES 0 8 echo else s
    if solo && decide (echo < 120) then (s.setFlt P.ISN 0).trainFail
    else
      match s.isn.stage with
      | 5 => if m then s.enterStage 6 else s
      | 6 => if m then s.enterStage 1 else s
      | 1 => if m || s.isn.locked then s.enterStage 2 else s
      | 2 => if m && !s.isn.locked then s.trainFail else s.enterStage 3
      | 3 => if s.isn.done then s else s.enterStage 4
      | 4 => s.trainFail
      | 0 => if s.isn.done then s else s.trainFail
      | _ => s

/-- The DCO is set from the receiver's rate estimate: the rate it runs at, less LINE's error against the host (Table 1-3, R164, R814). -/
def State.dcoSet (s : State) (rate : Int) : State :=
  let w := s.rd R.CLK_DCOW - wdI rate
  ({ s with clk := { s.clk with corr := [w.toInt] } } : State).wr R.CLK_DCOW w

/-- The DCO is corrected by at most `lim` steps of 1/16 ppm (R26, R236); the amount is a free value. The last 16 corrections are kept for HOLD (Table 1-3). -/
def State.dcoCorrect (s : State) (lim : Int) : State :=
  let r := s.draw
  let d := clampI (-lim) lim (sgn 32 r.2.toNat)
  let w := r.1.rd R.CLK_DCOW + wdI d
  ({ r.1 with clk := { r.1.clk with corr := (w.toInt :: r.1.clk.corr).take 16 } }).wr R.CLK_DCOW w

/-- A slave detects the ACQ tone, with its rate in DCO steps, or loses it (R237, R242). Its training begins with the tone: a new LINKSEED is drawn (R227). A slave that
was not aligned in P hears the next tone too. -/
def State.acqTone (s : State) (present : Bool) (rate : Int) : State :=
  if s.lnk.profact ≠ 3 || s.tmaster then s
  else if present then
    (if s.isn.stage = 5 ∨ (s.isn.stage = 1 ∧ !s.isn.locked) then s.isnClear.newSeed.enterStage 6 else s)
  else if s.isn.stage = 6 then
    let s := if s.clk.state = .ref ∨ s.clk.state = .osc then s else s.dcoSet rate
    s.enterStage 1
  else s

/-! ## The cancellers (R250, R279, R281) -/

/-- How a canceller adapts: not at all, at training step, at a step of 2^-n per sample. -/
inductive EcMode where
  | frozen | train | track (n : Nat)
  deriving DecidableEq, Repr

/-- The transmitter is in low-power idle past its last full superframe. -/
def State.lpiQuiet (s : State) : Bool := s.isn.lpiTx && !s.isn.lpiFirst

/-- In stage SE of a pair the lead sends in the first 100 superframes and the shadow in the last (R281). -/
def State.seLate (s : State) : Bool := s.paired && decide (s.isn.left ≤ 100)

/-- Something holds the transmitter silent in this profile (R171): a shadow sends only in its half of stage SE (R281), and a promotion under way waits for its boundary (R692). In DOZE a
link that has low-power idle rests in it, and any other is silent (R106). -/
def State.isnSilent (s : State) : Bool :=
  s.bit (rCTRL P.LNK) 5 || s.bit (rCTRL P.LNK) 4 || (s.isShadow && !(s.isn.stage == 2 && s.seLate)) || s.lnkFault || s.lnk.silent || s.lnk.hush || !s.portOn ||
    s.twn.promote == 3 || (s.pwr.mode == .doze && !(s.isn.done && s.isnLpi))

/-- How the echo canceller of an end that transmits adapts: it trains in the end's solo stage, adapts at training step in F and in reconvergence, tracks in showtime unless TRACK is 0, and
freezes in low-power idle (R250, R271). -/
def State.stageMode (s : State) : EcMode :=
  let solo := (s.isn.stage == 1 && s.tmaster) || (s.isn.stage == 2 && !s.tmaster && (!s.paired || s.seLate == s.isShadow))
  let track := s.fd R.ISN_ECCFG 0 4
  if solo || s.isn.stage == 3 then .train
  else if s.isn.stage == 0 && s.isn.done && !s.lpiQuiet && track != 0 then .track (track + 8)
  else .frozen

/-- The echo canceller, which has nothing to adapt to where the transmitter is silent. -/
def State.ecMode (s : State) : EcMode := if s.isnSilent then .frozen else s.stageMode

/-- The tap canceller of a shadow trains in the first half of SE and goes on as the lead's echo canceller does (R279, R281). -/
def State.tcMode (s : State) : EcMode :=
  if !s.isShadow then .frozen
  else if s.isn.stage = 2 then (if s.seLate then .frozen else .train)
  else s.stageMode

/-- Coefficient `i` of the 96 of the echo canceller, in 2^-31; free until it has first adapted. -/
def State.ecTap (s : State) (i : Nat) : BitVec 32 := (s.isn.ecTaps[i]?).getD (Config.canceller 0 i)

/-- Coefficient `i` of the 96 of the tap canceller. -/
def State.tcTap (s : State) (i : Nat) : BitVec 32 := (s.isn.tcTaps[i]?).getD (Config.canceller 0 (96 + i))

/-- A coefficient after a superframe's adaptation: a free value in training, and moved by 2^-n of one at the step 2^-n (R250). -/
def tapStep (m : EcMode) (old free : BitVec 32) : BitVec 32 :=
  match m with
  | .frozen => old
  | .train => free
  | .track n => wdI (clampI (-2147483648) 2147483647 (old.toInt + free.toInt / (2 ^ n : Nat)))

/-- A superframe's adaptation: each canceller that adapts takes new coefficients. -/
def State.adapt (s : State) : State :=
  let m := s.ecMode
  let k := s.tcMode
  { s with isn := { s.isn with
    ecGen := s.isn.ecGen + (decide (m ≠ .frozen)).toNat
    tcGen := s.isn.tcGen + (decide (k ≠ .frozen)).toNat
    ecTaps := if m = .frozen then s.isn.ecTaps else (List.range 96).map fun i => tapStep m (s.ecTap i) (Config.canceller (s.isn.ecGen + 1) i)
    tcTaps := if k = .frozen then s.isn.tcTaps else (List.range 96).map fun i => tapStep k (s.tcTap i) (Config.canceller (s.isn.tcGen + 1) (96 + i)) } }

/-! ## Receive gain (R255) -/

/-- Not LOCKED: the coarse gain steps by 6 dB at the symbol boundaries, from 0 to 42 dB, and the fine gain is 0. From the end of an S detected at a position of `found` on, the gain is frozen
to the end of that superframe. -/
def State.gainSearch (s : State) (start : Nat) (peak : List Int) (found : List Nat) : State :=
  let frozen (b : Nat) : Bool := decide (b < s.isn.freeze) || found.any fun p => decide (p + 160 ≤ b) && decide (b < p + 800)
  let steps := (peak.zipIdx.filter fun e => !frozen (start + 160 * e.2)).map (·.1)
  { s with isn := { s.isn with
    coarse := steps.foldl (fun c d => (clampI 0 7 (c + clampI (-1) 1 d)).toNat) s.isn.coarse
    fine := 0
    freeze := found.foldl (fun m p => max m (p + 800)) s.isn.freeze } }

/-- LOCKED: one fine step of 0.25 dB at most; past ±3 dB the coarse gain steps 6 dB and the fine gain 6 dB the other way. At the ends of the coarse gain the fine gain
stays (DESIGN CHOICE, log entry 48). -/
def State.gainTrack (s : State) (d : Int) : State :=
  let f := s.isn.fine + clampI (-1) 1 d
  let up := decide (f > 12)
  if up || decide (f < -12) then
    if (up && decide (s.isn.coarse ≥ 7)) || (!up && s.isn.coarse == 0) then s
    else { s with isn := { s.isn with coarse := if up then s.isn.coarse + 1 else s.isn.coarse - 1, fine := if up then f - 24 else f + 24 } }
  else { s with isn := { s.isn with fine := f } }

/-! ## Proposals and messages (R265 to R270) -/

/-- Octets of a table: 4 bits each, carrier 3 in the high nibble of the first (Table 5-9). -/
def loadOcts : List Nat → List Byte
  | a :: b :: t => BitVec.ofNat 8 (a * 16 + b) :: loadOcts t
  | _ => []

/-- The table octets carry. -/
def octLoads (l : List Byte) : List Nat := l.flatMap fun b => [b.toNat / 16, b.toNat % 16]

/-- Send a LOAD_PROPOSE. -/
def State.sendProp (s : State) (p : Prop5) : State :=
  s.sendMsg ([1#8, BitVec.ofNat 8 p.seq, BitVec.ofNat 8 p.slot.toNat] ++ loadOcts (usable.map (s.rxLoad p.slot)))

/-- Propose a table into the slot not in force (R265, R267). -/
def State.propose (s : State) (l : List Nat) : State :=
  if s.isn.prop.isSome || s.isShadow then s
  else
    let p : Prop5 := ⟨s.isn.msgSeq, !s.isn.ltRx, 0, 0⟩
    let s := s.setLoads 1 p.slot l
    ({ s with isn := { s.isn with prop := some p, msgSeq := (s.isn.msgSeq + 1) % 256 } }).sendProp p

/-- The link is in showtime. -/
def State.showtime (s : State) : Bool := s.lnk.profact == 3 && s.isn.done && s.isn.stage == 0

/-- LOADNOW: compute and propose (R265). -/
def State.loadNow (s : State) : State := if s.showtime then s.propose s.calcTable else s

/-- A loading period ends (R265). -/
def State.loadPeriod (s : State) : State :=
  if s.showtime && s.fd R.ISN_LOADCFG 16 16 != 0 && s.calcTable != s.rxTable then s.propose s.calcTable else s

/-- The first message of a type, and the queue without it. -/
def popMsg (ty : Nat) : List (List Byte) → Option (List Byte × List (List Byte))
  | [] => none
  | m :: t =>
    if (m.getD 0 0#8).toNat = ty then some (m, t)
    else match popMsg ty t with
      | some (x, r) => some (x, m :: r)
      | none => none

/-- Handle the first message of a type. -/
def State.withMsg (s : State) (ty : Nat) (f : State → List Byte → State) : State :=
  match popMsg ty s.isn.msgq with
  | some (m, r) => f { s with isn := { s.isn with msgq := r } } m
  | none => s

/-- Octet `i` of a message. -/
def msgOct (m : List Byte) (i : Nat) : Nat := (m.getD i 0#8).toNat

/-- A received LOAD_PROPOSE is answered (R267 step 2): 0x01 while counting down; a proposal accepted and not yet counting down is accepted again. A shadow takes the table
and answers nothing (R281). -/
def State.onPropose (s : State) (m : List Byte) : State :=
  let seq := msgOct m 1
  let slot := msgOct m 2
  let loads := octLoads ((m.drop 3).take 29)
  let counting := decide (1 ≤ s.isn.cd ∧ s.isn.cd ≤ 3) || s.isn.cd == 6
  if counting then s.sendAck seq 1
  else if slot > 1 || (slot == 1) == s.isn.ltTx || loads.any (· > s.isnBmax) then s.sendAck seq 2
  else
    let s := s.setLoads 0 (slot == 1) loads
    let s := { s with isn := { s.isn with cdSeq := some seq } }
    if s.isShadow then s
    else ({ s with isn := { s.isn with cd := if s.isn.cd = 4 then 4 else 5, cdSlot := slot == 1 } }).sendAck seq 0

/-- A received ACK ends, defers or fails what it answers (R268, R269). -/
def State.onAck (s : State) (m : List Byte) : State :=
  let seq := msgOct m 1
  let st := msgOct m 2
  match s.isn.prop with
  | some p =>
    if p.seq = seq ∧ p.ack = 0 then
      if st = 0 then { s with isn := { s.isn with prop := some { p with ack := 1 } } }
      else if st = 1 then { s with isn := { s.isn with prop := some { p with ack := 2 } } }
      else ({ s with isn := { s.isn with prop := none } }).raise P.ISN 5
    else if s.isn.seedSeq = some seq then (if st = 0 then { s with isn := { s.isn with seedAck := true } } else s.trainFail)
    else s
  | none =>
    if s.isn.seedSeq = some seq then (if st = 0 then { s with isn := { s.isn with seedAck := true } } else s.trainFail)
    else s

/-- Stage X, which runs until both directions have swapped (R249). -/
def State.inX (s : State) : Bool := s.isn.stage == 4 || (s.isn.stage == 0 && !s.isn.done)

/-- A received SEED is stored and acknowledged (R269); a repeated one is acknowledged again with the same STATUS. -/
def State.onSeed (s : State) (m : List Byte) : State :=
  let seq := msgOct m 1
  let v := beNat ((m.drop 2).take 3) % 2 ^ 23
  let fresh :=
    if s.inX && v != 0 then ({ s with isn := { s.isn with rxSeedNext := some v, seedDone := some (seq, 0) } }).sendAck seq 0
    else ({ s with isn := { s.isn with seedDone := some (seq, 2) } }).sendAck seq 2
  match s.isn.seedDone with
  | some (q, st) => if q = seq then s.sendAck seq st else fresh
  | none => fresh

/-- A received LQI_REPORT is stored (R270). -/
def State.onLqi (s : State) (m : List Byte) : State :=
  s.wr R.ISC_FARLQI (wd (msgOct m 1 + beNat ((m.drop 2).take 2) * 256 + msgOct m 4 % 64 * 2 ^ 24))

/-- Send an LQI_REPORT (R270). -/
def State.sendLqi (s : State) : State :=
  if s.showtime then
    let v := s.rd R.ISC_LQI
    s.sendMsg ([4#8, BitVec.ofNat 8 (fld v 0 8)] ++ beOctets 2 (fld v 8 16) ++ [BitVec.ofNat 8 (fld v 24 6)])
  else s

/-- 64 superframes without an ACK or a countdown: resend up to three times, then fail (R268). -/
def State.propTimeout (s : State) : State :=
  match s.isn.prop with
  | some p =>
    if p.ack ≠ 0 then s
    else if p.tries < 3 then
      let p := { p with tries := p.tries + 1 }
      ({ s with isn := { s.isn with prop := some p } }).sendProp p
    else ({ s with isn := { s.isn with prop := none } }).raise P.ISN 5
  | none => s

/-- A due flip: LT names the new slot; in stage X the new seed comes into force and the transmitter is in showtime (R247, R267). -/
def State.swapFlip (s : State) : State :=
  if s.isn.cd ≠ 6 then s
  else
    let x := s.isn.stage = 4
    let s := if x then s.wr R.ISN_TXSEED (wd s.isn.seed) else s
    ({ s with isn := { s.isn with cd := 0, ltTx := s.isn.cdSlot, stage := if x then 0 else s.isn.stage } }).isnLink

/-! ## Reconvergence and low-power idle (R252, R253, R271 to R273) -/

/-- A trigger of reconvergence. -/
def State.rcvTrigger (s : State) : State :=
  if s.showtime then { s with isn := { s.isn with rcvPend := true } } else s

/-- Reconvergence begins once RCV has been sent and received. -/
def State.reconvStart (s : State) : State :=
  if s.showtime && s.isn.rcvTx && s.isn.rcvRx && s.isn.cd == 0 then
    { s with isn := { s.isn with stage := 3, left := 50, rcvTx := false, rcvRx := false, rcvPend := false } }
  else s

/-- Reconvergence ends after its 50 superframes and showtime resumes. -/
def State.reconvEnd (s : State) : State :=
  if s.lnk.profact == 3 && s.isn.done && s.isn.stage == 3 && s.isn.left == 0 then
    let s := { s with isn := { s.isn with stage := 0, echoBase := s.fd R.ISC_ECRES 0 8, echoHigh := 0 } }
    ((s.inc R.ISC_RECONVS).raise P.ISN 6).isnLink
  else s

/-- The condition for transmit low-power idle that the device sets (R271). -/
def State.lpiWanted (s : State) : Bool := s.pwr.mode == .doze || s.bit (rCTRL P.ISN) 1

/-- The countdown after a superframe: SWP follows the superframe that carried the ACK 0x00, and in stage X waits for the SEED's (R247, R267). -/
def cdNext (cd : Nat) (acked go : Bool) : Nat :=
  match cd with
  | 5 => if acked then (if go then 3 else 4) else 5
  | 4 => if go then 3 else 4
  | 3 => 2
  | 2 => 1
  | 1 => 6
  | n => n

/-- A superframe's time passes by the pair's count: its tap record leaves the queue, with any that came too late for it. -/
def State.tapDrop (s : State) : State :=
  let n := s.isn.txSfn
  { s with isn := { s.isn with taps := s.isn.taps.filter fun r => r.sfn != n && decide ((r.sfn + 4096 - n) % 4096 < 2048), txSfn := (n + 1) % 4096 } }

/-- The entry condition of transmit low-power idle: negotiated, no swap or reconvergence pending, and wanted (R271). -/
def State.lpiReady (s : State) : Bool :=
  s.showtime && s.isnLpi && s.isn.cd == 0 && s.isn.prop.isNone && !s.isn.rcvPend && s.lpiWanted

/-- The transmitter enters low-power idle; its next superframe is the last full one. -/
def State.lpiEnter (s : State) : State :=
  if s.lpiReady && !s.isn.lpiTx then ({ s with isn := { s.isn with lpiTx := true, lpiFirst := true } }).raise P.ISN 9 else s

/-- The transmitter leaves low-power idle when its entry condition ends; its next superframe carries IDLE only (R272). -/
def State.lpiExit (s : State) : State :=
  if s.isn.lpiTx && !s.lpiReady then ({ s with isn := { s.isn with lpiTx := false, lpiFirst := true } }).raise P.ISN 10
  else s

/-! ## Transmit (R223, R226, R229, R233, R242, R280) -/

/-- LQI is below its threshold (R277). -/
def State.lqiBelow (s : State) : Bool := decide (s.fd R.ISC_LQI 0 8 < s.fd R.ISN_LQCFG 8 8)

/-- LQI or its threshold has changed: LQI_LOW is raised on a fall below it (R277). -/
def State.lqiEval (s : State) : State :=
  let fell := s.lqiBelow && !s.isn.lqiLow
  ({ s with isn := { s.isn with lqiLow := s.lqiBelow } } : State).raiseIf fell P.ISN 7

/-- RXST of the next header. -/
def State.rxst (s : State) : Nat := if !s.isn.locked then 0 else if s.lqiBelow then 2 else 1

/-- This end sends headers in the stage (Table 5-6, R281). -/
def State.headed (s : State) : Bool :=
  s.isn.stage == 0 || s.isn.stage == 3 || s.isn.stage == 4 || (s.isn.stage == 1 && s.tmaster) ||
  (s.isn.stage == 2 && !s.tmaster && (!s.paired || s.seLate == s.isShadow))

/-- In stage X the SEED and the proposal are sent, and repeated in every fourth superframe this end sends (R246, R249). -/
def State.stageX (s : State) : State :=
  if s.inX ∧ s.isn.xSent % 4 = 0 then
    let s :=
      if s.isn.seedAck then s
      else
        let q := s.isn.seedSeq.getD s.isn.msgSeq
        let s := if s.isn.seedSeq.isNone then { s with isn := { s.isn with seedSeq := some q, msgSeq := (s.isn.msgSeq + 1) % 256 } } else s
        s.sendMsg ([3#8, BitVec.ofNat 8 q] ++ beOctets 3 s.isn.seed)
    match s.isn.prop with
    | some p => if p.ack = 0 then s.sendProp p else s
    | none => if s.isn.ltRx then s else s.propose s.calcTable
  else s

/-- A frame handed over becomes a payload unit, whole (R229). -/
def State.isnTake (s : State) : State :=
  if s.lnk.profact == 3 && s.isn.done && !s.isnSilent && s.pwr.mode == .run then
    match s.txFront with
    | some f => { s.txTake with isn := { s.txTake.isn with units := s.txTake.isn.units ++ [(false, f)] } }
    | none => s
  else s

/-- The transmitter takes a handed-over frame: into the payload stream in Isinasia, else onto the line (R170, R229). -/
def State.txHand (s : State) : State := if s.lnk.profact = 3 then s.isnTake else s.txFrame

/-- A superframe may begin now: the master's at a line-time that is a multiple of 2,000, the slave's where a received superframe begins (R233). -/
def State.sfDue (s : State) : Bool :=
  if s.tmaster then s.lt.toNat % 2000 == 0 else s.isn.locked && (s.lt - s.isn.rxStart).toNat % 2000 == 0

/-- The end whose headers a stage carries, the master in F and X, counts it; an end that has no lock counts its own time (R243). -/
def State.ownCount (s : State) : Bool :=
  s.tmaster && s.isn.stage != 2 || !s.isn.locked || s.isn.done || (!s.tmaster && s.isn.stage == 2) || s.rxStage == 0

/-- The count of the stage after a superframe. -/
def State.leftNext (s : State) : Nat := if s.ownCount then s.isn.left - 1 else s.isn.left

/-- The octets of a tap record, in fragments of at most 264 behind SFN and index (R280, Table 14-5). The layout of the record is private to the pair. -/
def tapFrags (r : TapRec) : List (List Byte) :=
  let o := beOctets 7 r.hdr ++ beOctets 1 r.lt.toNat ++ r.pay
  let frag (i : Nat) : List Byte := beOctets 2 r.sfn ++ beOctets 1 i ++ (o.drop (264 * i)).take 264
  if o.length ≤ 264 then [frag 0] else [frag 0, frag 1]

/-- A lead sends its shadow the tap record of a superframe it transmits (R280). -/
def State.tapSend (s : State) (r : TapRec) : State :=
  if s.paired && s.twn.role then { s with isn := { s.isn with tapTx := (tapFrags r).map fun b => twinPkt (0x06#8 :: b) } } else s

/-- A training stage's superframes are all sent. -/
def State.stageOver (s : State) : Bool := !s.isn.done && s.isn.left == 0

/-- A headed superframe is transmitted (R233, R242, R267, R271); in DOZE it carries messages only, and frames wait (R106). -/
def State.sfHeaded (s : State) : State :=
  let s := s.isnTake.swapFlip.stageX
  let x := s.isn.stage == 0 || s.isn.stage == 4
  let swp := if 1 ≤ s.isn.cd ∧ s.isn.cd ≤ 3 then s.isn.cd else 0
  let rcv := s.isn.rcvPend && s.isn.cd == 0 && s.isn.stage == 0
  let lpi := s.isn.lpiTx && s.isn.lpiFirst
  let idle := !s.isn.lpiTx && s.isn.lpiFirst
  let load := s.txLoad s.isn.ltTx
  let p := payBits load
  let n := p / 8
  let held := s.isn.units.filter fun u => s.pwr.mode == .doze && !u.1
  let sent := s.isn.units.filter fun u => !(s.pwr.mode == .doze && !u.1)
  let f := fillUnits s.isn.cdSeq (n + 2 * sent.length + 3) n 0 s.isn.cut sent idle s.lt
  let fptr := if s.isn.stage = 0 then f.2.2.2.1.getD 0xFFF else s.isn.left - 1
  let h := mkHdr s.isn.txSfn s.isn.ltTx swp lpi rcv s.rxst s.isn.stage fptr
  let bits := scramble (scrStart (s.rd R.ISN_TXSEED).toNat s.isn.txSfn) (octBits f.1 ++ List.replicate (p - 8 * n) false)
  let pay := if x then bitOcts ((p + 7) / 8) bits else []
  let acked := x && decide (acksLeft s.isn.cdSeq f.2.1 f.2.2.1 < acksLeft s.isn.cdSeq s.isn.cut sent)
  let s := s.tapSend ⟨s.isn.txSfn, h, s.isn.ltTx, pay⟩
  let s := { s with isn := { s.isn with
    txHdr := h
    txLevels := superframe load h (!x) (if x then bits else [])
    txWas := s.isn.txLevels
    txPay := pay
    txSfn := (s.isn.txSfn + 1) % 4096
    cut := if x then f.2.1 else s.isn.cut
    units := if x then f.2.2.1 ++ held else s.isn.units
    cd := cdNext s.isn.cd acked (s.isn.stage != 4 || s.isn.seedAck)
    rcvTx := s.isn.rcvTx || rcv
    lpiFirst := false
    xSent := if s.inX then s.isn.xSent + 1 else 0
    left := s.leftNext } }
  let s := if x then s.lns R.LNS_TXOK f.2.2.2.2 else s
  s.adapt.isnLink

/-- A superframe's time of a transmitter that sends no headed superframe: the ACQ tone of a master, or silence. A device of a pair counts SFN in stage SE also where it is silent (the spec
does not say: DESIGN CHOICE, log entry 61). -/
def State.sfPlain (s : State) : State :=
  let s := ((if s.isn.stage = 2 ∧ !s.tmaster ∧ s.paired then s.tapDrop else s).adapt)
  let s := { s with isn := { s.isn with txWas := s.isn.txLevels } }
  if s.isn.stage = 6 ∧ s.tmaster ∧ !s.isnSilent then
    if s.sfDue then { s with isn := { s.isn with txLevels := List.replicate 5 symbolTone, txHdr := 0, txPay := [], left := s.leftNext } } else s
  else { s with isn := { s.isn with txLevels := [], txHdr := 0, txPay := [], left := s.leftNext } }

/-- A superframe of low-power idle: S alone (R271). -/
def State.sfIdle (s : State) : State :=
  let s := s.tapSend ⟨s.isn.txSfn, 0, s.isn.ltTx, []⟩
  { s with isn := { s.isn with
    txWas := s.isn.txLevels, txLevels := [symbolS, symbol0, symbol0, symbol0, symbol0], txHdr := 0, txPay := [], txSfn := (s.isn.txSfn + 1) % 4096 } }

/-- A superframe's time of the transmitter begins (R233): reconvergence, its end and the exit of low-power idle come first where they are due (R252, R253, R272). -/
def State.sfTx (s : State) : State :=
  if s.lnk.profact ≠ 3 then s
  else
    let s := s.reconvEnd.reconvStart.lpiExit
    if s.isnSilent || !s.headed then s.sfPlain
    else if s.stageOver || !s.sfDue then s
    else if s.lpiQuiet then s.sfIdle
    else s.sfHeaded

/-! ## Measurement (R256, R263, R264, R275 to R277) -/

/-- The largest step of 0.25 dB, up to 63.75 dB, that the ratio of two powers reaches: 10^(n/40) ≤ known ÷ err. -/
def snrSteps (m : Meas) : Nat :=
  if m.known = 0 then 0
  else [128, 64, 32, 16, 8, 4, 2, 1].foldl (fun n b => if 10 ^ (n + b) * m.err ^ 40 ≤ m.known ^ 40 then n + b else n) 0

/-- The averaged SNR of carrier `k` takes one more symbol: the exponential average over 2^AVG (R264), in 1/65,536 of a step and from the first symbol on. -/
def State.snrTake (s : State) (k : Nat) (m : Meas) : State :=
  let i := k - 3
  let x : Int := 65536 * (snrSteps m : Int)
  let acc := match s.isn.snrAcc[i]? with
    | some a => if a < 0 then x else a + (x - a) / (2 ^ s.fd R.ISN_LQCFG 0 4 : Nat)
    | none => x
  let l := s.isn.snrAcc ++ List.replicate (58 - s.isn.snrAcc.length) (-1)
  let s := { s with isn := { s.isn with snrAcc := l.set i acc } }
  s.setCarr k 2 0 8 (clampI 0 255 ((acc + 32768) / 65536)).toNat

/-- One axis of an equaliser coefficient: EQ + (H − EQ) × 2^-n, rounded down (R256). -/
def eqAxis (eq h : Nat) (n : Nat) : Nat :=
  let e := sgn 16 eq
  (wdI (e + (sgn 16 h - e) / (2 ^ n : Nat))).toNat % 65536

/-- The equaliser coefficient of a carrier is updated from the estimate H, by EQAVG, or set to it where `first` (R244, R256). -/
def State.eqTake (s : State) (first : Bool) (k : Nat) (m : Meas) : State :=
  let w := s.rdW (carrAddr k 3)
  let n := if first then 0 else s.fd R.ISN_RXCFG 4 3
  s.wrW (carrAddr k 3) (wd (eqAxis (fld w 0 16) (fld m.h 0 16) n + eqAxis (fld w 16 16) (fld m.h 16 16) n * 65536))

/-- The margin of a loaded carrier, in 0.25 dB (R275). -/
def State.carrMargin (s : State) (k : Nat) : Int := (s.snr k : Int) - (loadThr (s.rxLoad s.isn.ltRx k) : Int)

/-- Margins, LQI and WORST from the SNR held and the table in force (R275 to R277). -/
def State.lqiWrite (s : State) : State :=
  let loaded := usable.filter fun k => decide (s.rxLoad s.isn.ltRx k ≥ 1)
  let s1 := loaded.foldl (fun (t : State) k => t.setCarr k 2 16 8 ((wdI (s.carrMargin k)).toNat % 256)) s
  let best := loaded.foldl (fun (b : Option (Int × Nat)) k =>
    match b with
    | some x => if s.carrMargin k < x.1 then some (s.carrMargin k, k) else some x
    | none => some (s.carrMargin k, k)) none
  let q : Nat × Int × Nat :=
    match best with
    | some b => ((clampI 0 255 (128 + 2 * b.1)).toNat, b.1, b.2)
    | none => (0, 0, 0)
  (s1.wr R.ISC_LQI (wd (q.1 + (wdI q.2.1).toNat % 65536 * 256 + q.2.2 % 64 * 2 ^ 24))).lqiEval

/-- A received S updates SNR, equaliser, margins and LQI. -/
def State.measure (s : State) (rx : SfRx) : State :=
  ((usable.zip rx.meas).foldl (fun (s : State) e => (s.snrTake e.1 e.2).eqTake false e.1 e.2) s).lqiWrite

/-- REVERB symbols of a training: the first estimate of the equaliser on each carrier and its updates, and in stage F the SNR (R244, R256, R264). -/
def State.measureRev (s : State) (rx : SfRx) : State :=
  if s.isn.done || rx.revs.isEmpty || s.isn.stage == 0 || s.isn.stage ≥ 4 then s
  else
    let first := !s.isn.eqSet
    let f := s.isn.stage == 3
    let l := rx.revs.filter fun e => decide (3 ≤ e.1) && decide (e.1 ≤ 60)
    let s := (l.foldl (fun (a : State × List Nat) e =>
      ((if f then a.1.snrTake e.1 e.2 else a.1).eqTake (first && !a.2.contains e.1) e.1 e.2, e.1 :: a.2)) (s, [])).1
    { s with isn := { s.isn with eqSet := true } }

/-! ## Echo (R252, R254) -/

/-- Residual echo: divergence, and the trigger of reconvergence (R252, R254, R285). Answers whether the port was restarted. -/
def State.echoCheck (s : State) (rx : SfRx) : State × Bool :=
  let s := s.wr R.ISC_ECRES (wd (rx.echo % 256 + rx.tap % 256 * 256))
  let s :=
    if s.isShadow && s.isn.done && decide (rx.tap < 40) && !s.bit (rFLT P.ISN) 1 then
      (s.setFlt P.ISN 1).detect 0xB P.ISN 1#32
    else s
  if s.showtime && !s.isShadow && decide (rx.echo < 40) then
    (((s.setFlt P.ISN 0).detect 0xB P.ISN 0#32).portRestart, true)
  else
    let high := decide (rx.echo + 4 * s.fd R.ISN_ECCFG 8 4 ≤ s.isn.echoBase) && s.showtime
    let run := if high then s.isn.echoHigh + 1 else 0
    let age := min 256 (s.isn.rcvAge + 1)
    let fire := decide (run ≥ 16) && decide (age ≥ 256)
    let s := { s with isn := { s.isn with echoHigh := run, rcvAge := if fire then 0 else age } }
    (if fire then s.rcvTrigger else s, false)

/-! ## Twin tap (R279 to R283) -/

/-- The octets of a tap record as tapFrags lays them out. -/
def tapRecord (sfn : Nat) (o : List Byte) : TapRec := ⟨sfn, beNat (o.take 7), o.getD 7 0#8 != 0#8, o.drop 8⟩

/-- A tap-record fragment arrives at the shadow; the last one completes the record of a superframe (R280). The first record tells the lead's SFN; one whose superframe has
passed comes too late (R282). -/
def State.tapRx (s : State) (sfn idx : Nat) (body : List Byte) (last : Bool) : State :=
  if !s.isShadow then s
  else
    let sfn := sfn % 4096
    let f := s.isn.tapFrag
    if idx ≠ 0 ∧ ¬ (f.1 = sfn ∧ f.2.1 = idx) then { s with isn := { s.isn with tapFrag := (0, 0, []) } }
    else
      let o := (if idx = 0 then [] else f.2.2) ++ body
      if !last then { s with isn := { s.isn with tapFrag := (sfn, idx + 1, o) } }
      else
        let s := { s with isn := { s.isn with tapFrag := (0, 0, []) } }
        if !s.isn.tapOn then { s with isn := { s.isn with tapOn := true, txSfn := sfn, taps := [tapRecord sfn o] } }
        else if (sfn + 4096 - s.isn.txSfn) % 4096 < 2048 then { s with isn := { s.isn with taps := s.isn.taps ++ [tapRecord sfn o] } }
        else s

/-- A message of the lead, as the shadow reads it in a tap record: a proposal gives the receive table of its slot, a SEED the lead's new seed, and the ACK 0x00 of the host's proposal begins the
countdown (R281, R283). -/
def State.tapMsg (s : State) (m : List Byte) : State :=
  if msgOct m 0 = 1 then s.setLoads 1 (msgOct m 2 == 1) (octLoads ((m.drop 3).take 29))
  else if msgOct m 0 = 2 ∧ msgOct m 2 = 0 ∧ s.isn.cdSeq = some (msgOct m 1) then
    { s with isn := { s.isn with cd := cdNext 5 true (s.isn.stage != 4 || s.isn.seedAck), cdSlot := !s.isn.ltTx } }
  else if msgOct m 0 = 3 then { s with isn := { s.isn with seed := beNat ((m.drop 2).take 3) % 2 ^ 23, seedSeq := some (msgOct m 1) } }
  else s

/-- The shadow follows the lead's transmitter by its tap record: stage and its count, LT with the new seed at the swap that ends training, countdown, low-power idle, and
the messages of the payload (R281, R283). -/
def State.tapFollow (s : State) (r : TapRec) : State :=
  if r.hdr = 0 then s
  else
    let st := hfld r.hdr 28 3
    let swp := hfld r.hdr 35 2
    let cd :=
      if swp ≠ 0 then (if swp = 1 then 6 else swp - 1)
      else if s.isn.cd = 4 ∧ r.lt = s.isn.ltTx then cdNext 4 false (st != 4 || s.isn.seedAck)
      else 0
    let s := if r.lt && !s.isn.ltTx && s.isn.stage == 4 && st == 0 then s.wr R.ISN_TXSEED (wd s.isn.seed) else s
    let s := { s with isn := { s.isn with
      ltTx := r.lt, stage := st, left := if st = 0 then s.isn.left else hfld r.hdr 16 12
      cd := cd, cdSlot := if swp = 0 then s.isn.cdSlot else !r.lt, lpiTx := hfld r.hdr 34 1 == 1, lpiFirst := false } }
    if st ≠ 0 ∧ st ≠ 4 then s
    else
      let n := payBits (s.txLoad r.lt) / 8
      let bits := scramble (scrStart (s.rd R.ISN_TXSEED).toNat r.sfn) (octBits (r.pay.take n))
      let buf := s.isn.tapBuf ++ bitOcts (r.pay.take n).length bits
      let u := parseUnits (buf.length + 1) buf
      let s := { s with isn := { s.isn with tapBuf := if u.2.2 then [] else u.2.1 } }
      (u.1.filter (·.1)).foldl (fun (s : State) m => s.tapMsg m.2) s

/-- The lead transmits in this stage and the host too, so that a received superframe has its tap record. -/
def State.tapDue (s : State) : Bool := s.tapMode && s.isn.tapOn && (s.isn.stage == 3 || s.inX || s.isn.done)

/-- A superframe's time of a shadow passes (`aligned` in LOCKED): its tap record is taken; where it is missing as reception begins, the payload is discarded (R282). -/
def State.tapTake (s : State) (aligned : Bool) : State :=
  if !s.tapDue then s
  else
    let r := s.isn.taps.find? fun r => r.sfn == s.isn.txSfn
    let s := s.tapDrop
    match r with
    | some r => s.tapFollow r
    | none => if !aligned then s else (({ s with isn := { s.isn with skip := true, rxBuf := [], tapBuf := [] } } : State).inc R.ISC_TAPMISS).raise P.ISN 11

/-- The tap record of the superframe whose reception begins is missing. -/
def State.tapLost (s : State) : Bool := s.tapDue && !s.isn.taps.any fun r => r.sfn == s.isn.txSfn

/-- The symbols of the lead's superframe as the shadow regenerates them from a tap record, to cancel them (R280). -/
def State.tapLevels (s : State) (r : TapRec) : List (List Carr) :=
  if r.hdr = 0 then [symbolS, symbol0, symbol0, symbol0, symbol0]
  else
    let st := hfld r.hdr 28 3
    superframe (s.txLoad r.lt) r.hdr (st != 0 && st != 4) ((octBits r.pay).take (payBits (s.txLoad r.lt)))

/-! ## Receive (R257 to R262) -/

/-- The set bits of a word. -/
def ones (w : Word) : Nat := ((List.range 32).filter w.getLsbD).length

/-- The Hamming distance of the decisions from the sync word (R257). -/
def Win.dist (w : Win) : Nat := ones (w.sync ^^^ 0x5B1EC7A2#32)

/-- A position is detected (R257, R262). -/
def State.detected (s : State) (w : Win) : Bool := decide (w.dist ≤ s.fd R.ISN_RXCFG 0 3)

/-- Detections within 16 samples of each other count as one: the least distance, the earliest of equals (R257). -/
def mergeWins : List Win → List Win → List Win
  | acc, [] => acc.reverse
  | [], w :: t => mergeWins [w] t
  | b :: acc, w :: t =>
    if w.pos - b.pos ≤ 16 then mergeWins ((if w.dist < b.dist then w else b) :: acc) t else mergeWins (w :: b :: acc) t

/-- What became of a candidate: it stays, or it is dropped, or it locks with a header. -/
inductive CandEnd where
  | keep (c : Cand)
  | drop
  | lock (pos hdr : Nat)
  deriving DecidableEq, Repr

/-- CHECK: the D0 after the second detection (Table 5-7). -/
def checkHdr (pos : Nat) (hdr : Option Nat) : CandEnd :=
  match hdr with
  | some h => if hdrOk h then .lock pos h else .drop
  | none => .keep ⟨pos, true⟩

/-- A candidate advances: VERIFY by a detection exactly 800 samples on, CHECK by the header; one whose position has passed is dropped (Table 5-7). `top` is the last
position tested. -/
def candStep (dets wins : List Win) (top : Nat) (c : Cand) : CandEnd :=
  if c.check then
    match wins.find? fun w => w.pos == c.pos && w.hdr.isSome with
    | some w => checkHdr c.pos w.hdr
    | none => if top ≥ c.pos + 320 then .drop else .keep c
  else
    match dets.find? fun w => w.pos == c.pos + 800 with
    | some w => checkHdr w.pos w.hdr
    | none => if top ≥ c.pos + 800 then .drop else .keep c

/-- The first candidate that locks. -/
def firstLock : List CandEnd → Option (Nat × Nat)
  | [] => none
  | .lock p h :: _ => some (p, h)
  | _ :: t => firstLock t

/-- The candidates that stay. -/
def kept : List CandEnd → List Cand
  | [] => []
  | .keep c :: t => c :: kept t
  | _ :: t => kept t

/-- A valid header: fields, ends of proposals, seeds, the stage's count, the end of training, payload (R243, R247, R248, R253, R261, R267 to R269). `lost` tells that the tap
record is missing. -/
def State.sfValid (s : State) (h : Nat) (rx : SfRx) (lost : Bool) : State :=
  let lt := hfld h 37 1 == 1
  let stage := hfld h 28 3
  let s := { s with isn := { s.isn with
    rxHdr := h, rxSfn := hfld h 38 12, ltRx := lt, lpiRx := hfld h 34 1 == 1, rcvRx := s.isn.rcvRx || (hfld h 33 1 == 1 && s.isn.done) } }
  let s := if !s.ownCount && (stage == s.isn.stage || (stage == 4 && s.inX)) then { s with isn := { s.isn with left := hfld h 16 12 } } else s
  let s := if hfld h 33 1 = 1 then s.rcvTrigger else s
  let s :=
    match s.isn.rxSeedNext with
    | some v => if lt then ({ s with isn := { s.isn with rxSeedNext := none } }).wr R.ISN_RXSEED (wd v) else s
    | none => s
  let s :=
    match s.isn.prop with
    | some p =>
      if p.ack = 2 then
        (if hfld h 35 2 = 0 then ({ s with isn := { s.isn with prop := none } } : State).propose (usable.map (s.rxLoad p.slot)) else s)
      else if p.slot = lt then (({ s with isn := { s.isn with prop := none } }).inc R.ISC_SWAPS).raise P.ISN 4
      else s
    | none => s
  let s :=
    if !s.isn.done && s.isn.stage == 0 && stage == 0 && s.isn.locked then
      ({ s with isn := { s.isn with done := true, left := 0, echoBase := s.fd R.ISC_ECRES 0 8, echoHigh := 0 } }).raise P.ISN 2
    else s
  let s := s.isnLink
  if (stage = 0 ∨ stage = 4) ∧ !lost then
    let n := payBits (s.rxLoad lt) / 8
    let bits := scramble (scrStart (s.rd R.ISN_RXSEED).toNat (hfld h 38 12)) (octBits (rx.oct.take n))
    s.payload (bitOcts (rx.oct.take n).length bits) (if stage = 0 then some (hfld h 16 12) else none) rx.stamp
  else s

/-- The aligner leaves LOCKED on the fourth miss in a row; in stages P to X training fails (R249, R260). -/
def State.unlock (s : State) : State :=
  let s := ({ s with isn := { s.isn with locked := false, cands := [], miss := 0, skip := true, rxBuf := [], fine := 0 } }).inc R.ISC_LOCKLOSS
  let s := s.raise P.ISN 1
  if !s.isn.done && decide (s.isn.stage ≤ 4) then s.trainFail else s.isnLink

/-- A carrier in force has lost its margin: a new table is proposed (R265). -/
def State.dropCheck (s : State) : State :=
  let m := s.fd R.ISN_LOADCFG 0 7
  let d := 4 * s.fd R.ISN_LOADCFG 12 4
  let bad := usable.any fun k => let b := s.rxLoad s.isn.ltRx k; decide (b ≥ 1) && decide (s.snr k + d < loadThr b + m)
  if s.showtime && s.isn.locked && bad then s.propose s.calcTable else s

/-- The aligner searches: candidates advance, the first to complete CHECK locks, and new detections become candidates, up to 8 (R258). The gain steps until something is
detected, and freezes for the rest of that superframe (R255). -/
def State.sfSearch (s : State) (rx : SfRx) : State :=
  let found := rx.wins.filter s.detected
  let dets := mergeWins [] found
  let top := rx.wins.foldl (fun m w => max m w.pos) 0
  let ends := s.isn.cands.map (candStep dets rx.wins top)
  let s := s.gainSearch rx.start rx.peak (found.map (·.pos))
  match firstLock ends with
  | some (p, h) =>
    let lost := s.tapLost
    let s := s.tapTake true
    let s := { s with isn := { s.isn with locked := true, cands := [], miss := 0, expect := (p + 800 + rx.slip).toNat, rxStart := rx.stamp } }
    ((((s.raise P.ISN 0).measure rx).measureRev rx).sfValid h rx lost).isnLink
  | none =>
    let fresh := dets.filter fun w => s.isn.cands.all fun c => w.pos != c.pos && w.pos != c.pos + 800
    let s := (s.tapTake false).measureRev rx
    { s with isn := { s.isn with cands := (kept ends ++ fresh.map fun w => (⟨w.pos, false⟩ : Cand)).take 8 } }

/-- A superframe at the expected position in LOCKED (R236, R255, R259 to R261, R273). -/
def State.sfLocked (s : State) (rx : SfRx) : State :=
  let w := rx.wins.find? fun w => w.pos == s.isn.expect
  let det := match w with
    | some w => s.detected w
    | none => false
  let hdr := (w.bind (·.hdr)).filter hcrcOk
  let lost := s.tapLost
  let s := s.tapTake true
  let s := { s with isn := { s.isn with expect := (s.isn.expect + 800 + rx.slip).toNat, rxStart := rx.stamp } }
  let s :=
    if s.tmaster then s
    else if s.clk.state = .locked then s.dcoCorrect 16
    else if s.clk.state = .pull || s.clk.state = .search then s.dcoCorrect 640000
    else s
  let s := if det then s else s.inc R.ISC_SYNCMISS
  let s := if hdr.isSome || s.isn.lpiRx then s else s.inc R.ISC_HDRERR
  let hit := det && (hdr.isSome || s.isn.lpiRx)
  let s := { s with isn := { s.isn with miss := if hit then 0 else s.isn.miss + 1 } }
  let s := (if det then (s.gainTrack rx.spow).measure rx else s).measureRev rx
  let s := if det then s.dropCheck else s
  let s : State :=
    match hdr with
    | some h => s.sfValid h rx lost
    | none =>
      if s.isn.lpiRx then s
      else
        let s := { s with isn := { s.isn with skip := true, rxBuf := [], left := if s.ownCount then s.isn.left else s.isn.left - 1 } }
        if s.rxStage = 0 ∨ s.rxStage = 4 then s.inc R.ISC_PAYDROP else s
  if s.isn.miss ≥ 4 then s.unlock else s

/-- A superframe's time of the receiver (R257 to R261): the residuals first (R252, R254), then the aligner. -/
def State.sfRx (s : State) (rx : SfRx) : State :=
  if s.lnk.profact ≠ 3 || s.isn.stage = 7 || !s.portOn then s
  else
    let e := s.echoCheck rx
    if e.2 then e.1
    else if e.1.isn.locked then e.1.sfLocked rx
    else e.1.sfSearch rx

/-! ## Negotiation (R238 to R240) -/

/-- The unformatted page this device sends (Table 5-5). -/
def State.ownPage (s : State) : Word :=
  wd (1 * 2 ^ 28 + 1 * 2 ^ 27 + (s.bit R.ISN_NEGCAP 4).toNat * 2 ^ 26 + (s.clk.state == .ref).toNat * 2 ^ 25 +
    (s.paired && s.twn.role).toNat * 2 ^ 24 + s.fd R.ISN_NEGCAP 0 4 * 2 ^ 20 + (s.bit R.ISN_NEGCAP 5).toNat * 2 ^ 19)

/-- The port runs the negotiation: base page, message page and unformatted page are composed and sent (R238). -/
def State.negotiate (s : State) : State :=
  if s.lnk.nego then
    { s with isn := { s.isn with
      negPage := s.ownPage, negOut := [.base true true, .message (BitVec.ofNat 24 (s.fd R.ISN_NEGID 0 24)), .unformatted s.ownPage], negAcks := 0 } }
  else s

/-- Exactly one end becomes master: whether that is this one (R239). -/
def masterOf (own peer : Word) : Option Bool :=
  let a := bitOf own 26 && bitOf own 25
  let b := bitOf peer 26 && bitOf peer 25
  if a != b then some a
  else if !a && bitOf own 25 != bitOf peer 25 then some (bitOf own 25)
  else none

/-- The partner sent the message page with the identifier this end sent (R239). -/
def State.sameId (s : State) (id : Option (BitVec 24)) : Bool :=
  match id with
  | some x => s.isn.negOut.contains (.message x)
  | none => false

/-- The negotiation completes with the partner's identifier and page (R239, R240); `more` further next pages were acknowledged and their content ignored (R238). Where
neither profile is chosen it starts again. -/
def State.negDone (s : State) (page : Word) (id : Option (BitVec 24)) (base10 : Bool) (more : Nat) : State :=
  if !s.lnk.nego || s.isn.negOut.isEmpty then s
  else
    let s := { s with isn := { s.isn with negAcks := s.isn.negAcks + more } }
    let own := s.isn.negPage
    let isi := s.sameId id && bitOf own 27 && bitOf page 27 && fld own 28 4 == fld page 28 4
    match (if isi then masterOf own page else none) with
    | some m =>
      let s := s.wr R.ISN_NEGRES page
      let s := { s with
        lnk := { s.lnk with profact := 3, nego := false }
        isn := { s.isn with negd := some ⟨m, min (fld own 20 4) (fld page 20 4), bitOf own 19 && bitOf page 19⟩, stage := 7, left := 0 } }
      (if s.lnk.link = .energy then s.setLink .down else s).raise P.ISN 8
    | none =>
      if base10 then
        let s := s.wr R.ISN_NEGRES page
        let s := { s with lnk := { s.lnk with profact := 2, nego := false } }
        s.plcaStart.energyNow.raise P.ISN 8
      else { s with isn := { s.isn with negOut := [], negPage := 0#32 } }

/-! ## Configuration writes and the end of counters (R197, R232, R284, R286) -/

/-- What a write makes of an ISN register: the value it takes, and whether CFG_REJECT is raised. -/
def State.isnAccept (s : State) (a : Nat) (old new : Word) : Word × Bool :=
  let rng (v : Word × Bool) (lo w mn mx : Nat) : Word × Bool :=
    let x := fld v.1 lo w
    if mn ≤ x ∧ x ≤ mx then v else (setFld v.1 lo w (fld old lo w), true)
  if a = rCTRL P.ISN then
    if bitOf new 0 != bitOf old 0 && (!s.direct || (bitOf new 0 && s.clk.state != .ref)) then (setFld new 0 1 (fld old 0 1), true) else (new, false)
  else if a = R.ISN_RXCFG then rng (new, false) 0 3 0 6
  else if a = R.ISN_LOADCFG then rng (rng (rng (new, false) 0 7 0 63) 8 4 1 10) 12 4 1 15
  else if a = R.ISN_ECCFG then rng (new, false) 8 4 1 15
  else if a = R.ISN_LQCFG then rng (new, false) 0 4 0 8
  else if a = R.ISN_NEGCAP then if !s.direct then (old, true) else rng (new, false) 0 4 1 10
  else if a = R.ISN_NEGID then if !s.direct then (old, true) else (new, false)
  else (new, false)

/-- Set every ISC counter to zero. -/
def State.iscClear (s : State) : State :=
  [R.ISC_HDRERR, R.ISC_SYNCMISS, R.ISC_LOCKLOSS, R.ISC_SWAPS, R.ISC_RECONVS, R.ISC_PAYDROP, R.ISC_UNITERR, R.ISC_TAPMISS].foldl
    (fun s a => s.wr a 0#32) s

/-! ## Reflectometry (R201 to R207, R214) -/

/-- A measurement is in progress. -/
def State.cdgBusy (s : State) : Bool := s.lnk.cdg != CdgStep.none

/-- No result entry is valid. -/
def State.cdgInvalid (s : State) : State :=
  [R.CDG_RES0, R.CDG_RES1, R.CDG_RES2, R.CDG_RES3].foldl (fun s a => s.setF a 31 1 0) s

/-- START (R201, R214): the first failing condition, or 0. -/
def State.cdgRefusal (s : State) : Nat :=
  if !s.direct then 1 else if s.cdgBusy then 2 else if s.isShadow then 3 else if s.pwr.mode ≠ .run then 4 else 0

/-- A START write: the port stops, PROFACT reads 0b00, and PLCA with it (R172, R202). Link state runs on under Table 4-4, but for Isinasia's, which follows the aligner (R190). -/
def State.cdgStart (s : State) : State :=
  let s := { s with lnk := { s.lnk with cdgDone := false, cdgRes := 0 } }.cdgInvalid
  let r := s.cdgRefusal
  if r ≠ 0 then ({ s with lnk := { s.lnk with cdgRefuse := r } }).raise P.CDG 1
  else
    let s := if s.lnk.profact = 3 then s.isnReset.setLink .down else s
    { s with
      lnk := { s.lnk with cdg := .quiet, profact := 0, plcaStat := .off, cdgRefuse := 0, opp := 0, pulses := 0, nego := false }
      cyc := { s.cyc with txNow := none } }

/-- QUIET µs have passed without energy: 2^AVG pulses are sent (R202). -/
def State.cdgPulses (s : State) : State :=
  if s.lnk.cdg = .quiet ∧ !s.lnk.energy then { s with lnk := { s.lnk with cdg := .pulses, pulses := 2 ^ s.fd R.CDG_CFG 24 4 } } else s

/-- Round a quotient half up. -/
def roundDiv (n d : Nat) : Nat := (2 * n + d) / (2 * d)

/-- DIST of a time of flight (R205). -/
def State.cdgDist (s : State) (tof : Nat) : Nat :=
  roundDiv (tof * 125 * s.fd R.CDG_CFG 0 8 * 299792458) (256 * 2 * 25 * 1000000000)

/-- The class of a reflection coefficient (Table 4-5). -/
def State.cdgClass (s : State) (rho : Int) : Nat :=
  if rho ≥ 64 then 1 else if rho ≤ -64 then 2 else if rho.natAbs ≥ s.fd R.CDG_CFG 8 7 then 3 else 0

/-- Put a reflection into a list in order of distance. -/
def insRefl (e : Nat × Int) : List (Nat × Int) → List (Nat × Int)
  | [] => [e]
  | x :: t => if e.1 < x.1 then e :: x :: t else x :: insRefl e t

/-- Processing ends: the peaks found, as TOF and RHO, are classed and written, and the port restarts (R202, R206, R207). -/
def State.cdgFinish (s : State) (peaks : List (Nat × Int)) : State :=
  if s.lnk.cdg ≠ .pulses then s
  else
    let ok := (peaks.map fun e => (e.1 % 4096, clampI (-128) 127 e.2)).filter fun e =>
      s.cdgClass e.2 != 0 && decide (s.cdgDist e.1 ≤ 160)
    let l := (ok.foldl (fun l e => insRefl e l) []).take 4
    let word (e : Nat × Int) : Word := wd (s.cdgClass e.2 + s.cdgDist e.1 * 256 + (wdI e.2).toNat % 256 * 65536 + 2 ^ 31)
    let s := (List.range 4).foldl (fun s i => s.wr (R.CDG_RES0 + 4 * i) ((l[i]?.map word).getD 0#32)) s
    let s := s.wr R.CDG_TOF0 (wd ((l[0]?.map (·.1)).getD 0))
    let s := { s with lnk := { s.lnk with cdg := CdgStep.none, cdgDone := true, cdgRes := (l[0]?.map fun (e : Nat × Int) => s.cdgClass e.2).getD 0 } }
    (s.raise P.CDG 0).portRestart

/-- Foreign energy or ABORT ends the measurement with no result (R203, R204). -/
def State.cdgStop (s : State) (ev : Bool) : State :=
  if !s.cdgBusy then s
  else
    let s := s.cdgInvalid
    let s := { s with lnk := { s.lnk with cdg := CdgStep.none, cdgDone := true, cdgRes := 0 } }
    (s.raiseIf ev P.CDG 2).portRestart

/-- What a write makes of CDG.CFG (R214). -/
def State.cdgAccept (s : State) (old new : Word) : Word × Bool :=
  let rng (v : Word × Bool) (lo w mn mx : Nat) : Word × Bool :=
    let x := fld v.1 lo w
    if mn ≤ x ∧ x ≤ mx then v else (setFld v.1 lo w (fld old lo w), true)
  if s.cdgBusy then (old, true) else rng (rng (rng (rng (new, false) 0 8 128 255) 8 7 1 63) 16 8 1 255) 24 4 0 10

end Sys2Proof.Machine
end

