-- ==== Sys2Proof/Machine/Tck.lean ====
section
/-! DEFINITION. The clock state machine, the tick state machine, arming, authorisations and the entries to SAFE and IDLE (chapter 1). -/

namespace Sys2Proof.Machine

/-! ## Line-time (R39, R40) -/

/-- The phase of the next strobe or output write of the tick in progress, its length where none is left (R54, R55). -/
def State.slotDue (s : State) : Nat :=
  let at0 (k : Nat) : Nat := k * s.slotLen + s.fd R.TCK_STROBE 0 18
  if s.tck.evals < s.adc.slot then at0 (s.adc.slot - 1) + (if s.tck.lat then 320 else 128)
  else if s.adc.slot < s.slots then at0 s.adc.slot
  else s.tickLen

/-- The last phase at which the next part of Table 1-2 after the commit phases can begin (R24). -/
def State.partDue (s : State) : Nat :=
  let g := s.guardG
  match s.tck.step with
  | 0 => 64
  | 1 => g
  | 2 => g + 64
  | 3 => g + 383
  | 4 => g + 447
  | _ => s.tickLen - 1

/-- The line-time counter moves on by a number of units, and the phase of a tick in progress with it, 8 core cycles in 5 units (R19), up to what is due next in the tick. -/
def State.elapse (s : State) (dt : LineTime) : State :=
  let lt := s.lt + dt
  if s.ticking && s.tck.inTick then
    { s with lt := lt, tck := { s.tck with phase := max s.tck.phase (min ((lt - s.tck.edge).toNat * 8 / 5) (min s.slotDue s.partDue)) } }
  else { s with lt := lt }

/-- `a` is ahead of `b`, and by how much (R39); 0 when it is not. -/
def ahead (a b : LineTime) : Nat :=
  let d := (a - b).toNat
  if d < 2 ^ 47 then d else 0

/-- Tick number `m` is ahead of tick number `k` (R39). -/
def tickAhead (m k : Word) : Bool :=
  let d := (m - k).toNat
  decide (1 ≤ d) && decide (d < 2 ^ 31)

/-- The counter is loaded, and the load is recorded as STEP (R27). -/
def State.loadLt (s : State) (v : LineTime) : State := ({ s with lt := v } : State).raise P.CLK 3

/-! ## Clock states (Table 1-3, R813) -/

/-- Mean of the last corrections, the frequency HOLD freezes at; its rounding is a design choice (log entry 12). -/
def meanCorr (l : List Int) (d : Int) : Int := if l.isEmpty then d else (2 * l.foldl (· + ·) 0 + l.length) / (2 * l.length)

/-- The DCO starts at the rate of the RC oscillator, an offset within its tuning range that the spec does not state (Table 1-3, R814): a free value. -/
def State.dcoStart (s : State) : State :=
  let r := s.draw
  r.1.wr R.CLK_DCOW (wdI ((r.2.toNat % 1280001 : Nat) - 640000 : Int))

/-- CLK moves to a state: LOSS and LOCK, the length of a HOLD, the frozen DCO, an invalid counter, CYC.STAT.SEQV (R305) and a coordinator that halts (R178). SEARCH starts
the DCO at the rate of the RC oscillator, or from REF at REFIN's. A step that R28 has put off is dropped on the way to OSC, SEARCH or REF, the counter being invalid or loaded
anew there (the spec does not say: DESIGN CHOICE, log entry 51). -/
def State.clkTo (s : State) (st : ClkState) : State :=
  let was := s.clk.state
  if was = st then s
  else
    let s := if was = .hold then s.wr R.CLK_HOLDT (wd ((s.lt - s.clk.holdAt).toNat / 100)) else s
    let s := { s with clk := { s.clk with state := st, good := 0, bad := 0, benchZero := false } }
    let s := if st = .osc ∨ st = .search then { s with clk := { s.clk with stepDue := false, stepLoad := none } } else s
    let s :=
      if st = .hold then
        ({ s with clk := { s.clk with holdAt := s.lt } } : State).wr R.CLK_DCOW (wdI (meanCorr s.clk.corr (s.rd R.CLK_DCOW).toInt))
      else s
    let s := if st = .search then { s with cyc := { s.cyc with seqv := false } } else s
    let s := if st = .search then (if was = .ref then s.wr R.CLK_DCOW 0#32 else s.dcoStart) else s
    let s := if was = .locked ∧ (st = .hold ∨ st = .pull) then (s.inc R.CLK_LOSSCT).raise P.CLK 1 else s
    let s := s.raiseIf (st == .locked) P.CLK 0
    if was = .ref then s.coordLost else s

/-- CLK enters REF; with the local and bench sources the counter starts at zero, and with the network source it waits for the first host stamp (R33, R35, R38). The source of
ticks decides at the entry: a change of TCK.CTRL.SRC while CLK stays in REF loads nothing more (the spec does not say: DESIGN CHOICE, log entry 51). -/
def State.enterRef (s : State) : State :=
  let s := s.clkTo .ref
  let s := { s with clk := { s.clk with afterLoss := false, stepDue := false, stepLoad := none } }
  if s.fd (rCTRL P.TCK) 0 2 = 0 then { s with clk := { s.clk with refLoaded := false } }
  else ({ s with clk := { s.clk with refLoaded := true } } : State).loadLt 0#48

/-- CLK leaves OSC, or enters REF, when what Table 1-3, R37, R38 and R817 ask for holds. R37 binds the way from OSC: where SRC has been 0 since the loss and CLK has locked to the
host, R38's 'as soon as REFOK becomes 1' applies in every tick state (DESIGN CHOICE, log entry 51). -/
def State.clkEval (s : State) : State :=
  let src := s.bit (rCTRL P.CLK) 0
  match s.clk.state with
  | .osc =>
    if !s.clk.pllok || s.pwr.inReset then s
    else if !src then s.clkTo .search
    else if s.clk.refok && (!s.clk.afterLoss || s.direct) then s.enterRef
    else s
  | .ref => s
  | _ => if src && s.clk.refok then s.enterRef else s

/-- CLK.CTRL.SRC has changed to the value it now holds (R38). REFIN is taken as exactly 25 MHz, so that the rate the DCO starts at is 100 MHz and CLK.DCOW shows 0 (R814; DESIGN
CHOICE, log entry 51). -/
def State.clkSrc (s : State) : State :=
  if !s.bit (rCTRL P.CLK) 0 && s.clk.state == .ref then s.clkTo .search else s.clkEval

/-! ## Tick states (Table 1-5) -/

/-- Every open page closes (R129). -/
def State.closePages (s : State) : State :=
  allPages.foldl (fun (s : State) p => if s.fd (rLOCK p) 16 4 = 0 then s else s.setF (rLOCK p) 16 4 0) s

/-- The staged set-point block is discarded (R312). -/
def State.dropStaged (s : State) : State :=
  match s.cyc.staged with
  | none => s
  | some _ => (({ s with cyc := { s.cyc with staged := none } } : State).inc R.CYC_SPDROP).raise P.CYC 2

/-- What every entry to SAFE or IDLE does once the state has changed: the shadows commit (R10), routes of live pages are presented (R136), the staged block
and the pending authorisation go, the sequencer aborts (R556), the force channels and injectors stop (R520, R633), the core runs free (R49). -/
def State.tckLeave (s : State) (was : TckState) : State :=
  let s := { s with tck := { s.tck with pend := none, synth := false, inTick := false, stopReq := false, safeReq := [], phase := 0 } }
  let s := s.commitEdge.presentAll.dropStaged
  let s := if s.frozen then s else s.seqTckLeave
  let s := if !s.frozen && (was == .run || was == .holdover) then ((s.fmLeave).injStop 0 false).injStop 1 false else s
  { s with cpu := { s.cpu with parked := s.frozen }, landed := [], mon := { s.mon with stepping := false } }

/-- The FLT bit of a cause, and the order in which a cause is chosen (R82). -/
def safeFlt (c : Nat) : Nat := if c = 1 then 0 else if c = 3 then 1 else if c = 2 then 2 else 3

/-- TCK enters SAFE with the causes that fall due (R51, R82), and the step of R28 follows. -/
def State.enterSafe (s : State) (causes : List Nat) : State :=
  if s.tck.state = .safe ∨ s.tck.state = .idle then s
  else
    let was := s.tck.state
    let cause := ([3, 2, 4, 1].find? (· ∈ causes)).getD 4
    let s := { s with tck := { s.tck with state := .safe, cause := cause } }
    let s := (s.tckLeave was).closePages.stageSafe
    let s := causes.foldl (fun (s : State) c => s.setFlt P.TCK (safeFlt c)) s
    let s := s.raise P.TCK 5
    let s := match s.clk.stepLoad with
      | some d => ({ s with clk := { s.clk with stepDue := false, stepLoad := none } } : State).loadLt (s.lt + d)
      | none => s
    s.clkEval

/-- TCK enters IDLE. -/
def State.enterIdle (s : State) : State :=
  let was := s.tck.state
  let s := { s with tck := { s.tck with state := .idle, cause := 0 } }
  ((s.tckLeave was).stageSafe).clkEval

/-- The end of a tick: a SAFE request is taken before a STOP (Table 1-5). A STOP asked for in the tick whose end is the line-time at which holdover is exhausted enters IDLE: R61
asks that TCK is still in HOLDOVER at that line-time (DESIGN CHOICE, log entry 51). -/
def State.tickOver (s : State) : State :=
  let s := { s with tck := { s.tck with synth := false, inTick := false } }
  if s.tck.safeReq ≠ [] then s.enterSafe s.tck.safeReq
  else if s.tck.stopReq then s.enterIdle
  else s

/-- A SAFE request made between ticks, when no tick is in progress, takes effect at once. -/
def State.safeNow (s : State) : State :=
  if s.ticking && !s.tck.inTick && s.bench && s.tck.safeReq ≠ [] then s.enterSafe s.tck.safeReq else s

/-- The output latency the first tick of a run would use, in core cycles (R50, R659). -/
def State.firstLat (s : State) : Nat := if 2 ≤ s.twn.pstate ∧ s.twn.pstate ≤ 5 then 320 else 128

/-- The arming checks (R50, R759). -/
def State.armOk (s : State) : Bool :=
  let per := s.periodUs
  let ph := s.fd R.TCK_STROBE 0 18
  let src := s.fd (rCTRL P.TCK) 0 2
  s.direct && decide (10 * s.slots ≤ per) && decide (per ≤ 1000 * s.slots) && decide (64 ≤ ph) &&
  decide (ph + s.firstLat ≤ s.tickLen / s.slots - 1) && s.clk.pllok && src != 3 && (src != 1 || s.clk.state == .ref) &&
  (s.lnk.profact != 3 || per % 20 == 0) && s.fls.op.isNone

/-- The core stands parked at PC, and CPU.LASTUSE takes the cycles `use` (R380). -/
def State.parkWith (s : State) (use : Nat) : State :=
  let lp := s.cpu.psr.lp
  let s := (s.wr R.CPU_PARKPC s.cpu.pc).wr R.CPU_LASTUSE (wd (use % 2 ^ 19))
  { s with cpu := { s.cpu with parked := true, long := s.cpu.long || lp, longPc := if lp then s.cpu.pc else s.cpu.longPc } }

/-- The core parks on entry to ARMED, with no phase 64 to count from: CPU.LASTUSE takes a free value (R53, R380). -/
def State.parkArmed (s : State) : State :=
  let r := s.draw
  r.1.parkWith r.2.toNat

/-- Entry to ARMED: no request of an earlier run stands, the core parks, and the loops restart (R518, R573). -/
def State.armEntry (s : State) : State :=
  let s := { s with fmA := { s.fmA with reqs := [] }, fmB := { s.fmB with reqs := [] } }
  let s := ({ s with tck := { s.tck with state := .armed, cause := 0, pend := none, stopReq := false, safeReq := [], inTick := false } } : State).parkArmed
  (List.range 8).foldl (fun (s : State) n => if s.bit (rCTRL (P.LP n)) 0 then s.loopRestart n else s) s

/-- A write of 1 to TCK.CTRL.ARM (R50, R53, R574, R778). -/
def State.tckArm (s : State) : State :=
  if !s.armOk then s.raise P.TCK 9
  else
    let s := s.armEntry
    if s.bench && s.clk.state == .osc then
      ({ s with clk := { s.clk with benchZero := true } } : State).loadLt 0#48
    else s

/-- A write of 1 to TCK.CTRL.STOP (Table 1-5). -/
def State.tckStop (s : State) : State :=
  match s.tck.state with
  | .armed => s.enterIdle
  | .run | .holdover => if s.tck.inTick then { s with tck := { s.tck with stopReq := true } } else s.enterIdle
  | _ => s

/-- A write of 1 to TCK.CTRL.MCLR (R80). -/
def State.mclr (s : State) : State := s.setF R.TCK_MINMARG 0 20 0xFFFFF

/-! ## Authorisations (R41 to R45) -/

/-- A rejection (R43). -/
def State.authRej (s : State) (why : Nat) : State :=
  let r := s.rd R.TCK_REJ
  let n := fld r 0 24
  let s := s.wr R.TCK_REJ (setFld (setFld r 0 24 (if n ≥ 0xFFFFFF then 0xFFFFFF else n + 1)) 24 4 why)
  ({ s with cyc := { s.cyc with rejWhy := why } } : State).raise P.TCK 2

/-- A late (event 0) or duplicate (event 1) authorisation is discarded. -/
def State.authDrop (s : State) (ev : Nat) : State := (s.inc R.TCK_LATE).raise P.TCK ev

/-- Line-time units of a tick period. -/
def State.periodLt (s : State) : Nat := 100 * s.periodUs

/-- An authorisation is accepted as pending, with its margin (R45). -/
def State.authTake (s : State) (num : Word) (edge done : LineTime) : State :=
  let m := min (ahead edge done) 0xFFFFF
  let s := { s with tck := { s.tck with pend := some ⟨num, edge⟩, pnum := num, pedge := edge } }
  let s := s.wr R.TCK_MARGIN (wd m)
  if m < s.fd R.TCK_MINMARG 0 20 then s.wr R.TCK_MINMARG (wd m) else s

/-- Check 3: CLK is LOCKED or in REF; for a STEP also OSC held since ARMED (R778). -/
def State.authClk (s : State) (src : Nat) : Bool :=
  s.clk.state == .locked || s.clk.state == .ref || (src == 2 && s.clk.state == .osc && s.clk.benchZero)

/-- Check 8 (Table 1-4, R778). -/
def State.authSpacing (s : State) (src : Nat) (num : Word) (edge : LineTime) : Bool :=
  if s.tck.state = .armed ∨ src = 2 then
    let d := ahead edge s.lt
    decide (1 ≤ d) && decide (d ≤ 1000000)
  else edge == s.tck.edge + BitVec.ofNat 48 ((num - s.tck.now).toNat * s.periodLt)

/-- The reason of the first failing check among 5 (another authorisation pending) to 10 of Table 1-4, 0 when all pass. -/
def State.authWhy (s : State) (src : Nat) (num : Word) (edge done : LineTime) : Nat :=
  if s.tck.pend.isSome then 9
  else if s.tck.state = .run ∧ num ≠ s.tck.now + 1#32 then 4
  else if edge.toNat % 5 ≠ 0 then 5
  else if !s.authSpacing src num edge then 6
  else if ahead edge done < 400 then 7
  else if s.lnk.profact = 3 ∧ edge.toNat % 2000 ≠ 0 then 8
  else 0

/-- What Table 1-4 makes of an authorisation from source `src` (0 NET, 1 LOCAL, 2 BENCH) that completed at `done`: 0 accepted, a rejection code, 14 late or 15
duplicate. -/
def State.authCode (s : State) (src : Nat) (num : Word) (edge done : LineTime) : Nat :=
  if s.fd (rCTRL P.TCK) 0 2 ≠ src then 1
  else if !(s.tck.state == .armed || s.ticking) then 2
  else if !s.authClk src then 3
  else if !(tickAhead num s.tck.now) && !(s.tck.state == .armed && !s.tck.ran) then 14
  else if (match s.tck.pend with
    | some p => p.num == num
    | none => false) then 15
  else s.authWhy src num edge done

/-- An authorisation is checked and accepted, discarded or rejected; the flag tells that it is accepted. -/
def State.authorise (s : State) (src : Nat) (num : Word) (edge done : LineTime) : State × Bool :=
  let w := s.authCode src num edge done
  if w = 0 then (s.authTake num edge done, true)
  else if w = 14 then (s.authDrop 0, false)
  else if w = 15 then (s.authDrop 1, false)
  else (s.authRej w, false)

/-! ## Host frames (Table 1-3, R26 to R28, R33, R816) -/

/-- CLK enters PULL from a frame whose stamp gives the offset `d` of the counter: the counter is loaded and the frame writes 0 to PERR (R816), or, while ticks run, SAFE comes
first and the frame's error stands (R28). -/
def State.enterPull (s : State) (d : LineTime) : State :=
  let s := s.clkTo .pull
  if s.ticking then
    let s := { s with tck := { s.tck with pend := none }, clk := { s.clk with stepDue := true, stepLoad := some d } }
    (s.askSafe 2).safeNow
  else (s.loadLt (s.lt + d)).wr R.CLK_PERR 0#32

/-- A valid host frame with the counter's value at its delimiter, its send stamp and the receiver's estimate of its rate in 1/16 ppm. On entry to PULL from SEARCH the DCO is set from that
estimate (R814), or keeps the rate the timing loop of the Isinasia profile has reached (R237); in LOCKED the timing loop of an Isinasia slave corrects it in the frame's stead (R236).
The frame that enters PULL is no one of the CNT frames to LOCKED: the count starts with the next (Table 1-3 does not say:
DESIGN CHOICE, log entry 51). -/
def State.hostFrame (s : State) (stamp send : LineTime) (rate : Int) : State :=
  if s.clk.state = .osc then s
  else
    let want := send + BitVec.ofNat 48 (s.fd R.CLK_LTOFS 0 12)
    let d := want - stamp
    let err := sgn 48 (stamp - want).toNat
    let win := (s.fd R.CLK_LOCKCFG 8 8 : Int)
    let inWin := decide (-win ≤ err) && decide (err ≤ win)
    let s := if s.clk.stepDue then { s with clk := { s.clk with stepLoad := some d } } else s
    match s.clk.state with
    | .ref =>
      if !s.clk.refLoaded then
        (({ s with clk := { s.clk with refLoaded := true } } : State).loadLt (s.lt + d)).wr R.CLK_PERR 0#32
      else s.wr R.CLK_PERR (wdI (satS 32 err))
    | .search =>
      let s := (s.wr R.CLK_FERR (wdI rate)).wr R.CLK_PERR (wdI (satS 32 err))
      let s := if s.lnk.profact = 3 then s else s.dcoSet rate
      s.enterPull d
    | .pull =>
      let s := (s.wr R.CLK_FERR (wdI rate)).wr R.CLK_PERR (wdI (satS 32 err))
      let s := s.dcoCorrect 640000
      let good := if inWin then s.clk.good + 1 else 0
      let s := { s with clk := { s.clk with good := good } }
      if good ≥ s.fd R.CLK_LOCKCFG 0 8 then s.clkTo .locked else s
    | .locked =>
      let s := (s.wr R.CLK_FERR (wdI rate)).wr R.CLK_PERR (wdI (satS 32 err))
      let bad := if inWin then 0 else s.clk.bad + 1
      let out := decide (bad ≥ s.fd R.CLK_LOCKCFG 16 4)
      let s := if s.lnk.profact = 3 ∧ !s.tmaster ∧ !out then s else s.dcoCorrect 16
      let s := { s with clk := { s.clk with bad := bad } }
      if out then s.enterPull d else s
    | _ =>
      let s := (s.wr R.CLK_FERR (wdI rate)).wr R.CLK_PERR (wdI (satS 32 err))
      if inWin then s.clkTo .locked else (s.dcoCorrect 640000).enterPull d

/-! ## Clock events -/

/-- The CORE PLL locks (R817). -/
def State.pllLock (s : State) : State := ({ s with clk := { s.clk with pllok := true } } : State).clkEval

/-- The CORE PLL loses lock (R30, R31). The requests for SAFE that wait for the end of the tick this cuts short fall due with it, and R82 sets their bits of TCK.FLT too (DESIGN
CHOICE, log entry 51). -/
def State.pllUnlock (s : State) : State :=
  if !s.clk.pllok then s
  else
    let s := ({ s with clk := { s.clk with pllok := false } } : State).raise P.CLK 5
    let s := s.stageSafe
    let s := if s.tck.state = .armed ∨ s.ticking then s.enterSafe (s.tck.safeReq ++ [3]) else s
    s.detect 9 P.CLK 0#32

/-- The CORE PLL has held lock for 50 µs (R31). -/
def State.pllRelock (s : State) : State :=
  if s.clk.pllok then s else (({ s with clk := { s.clk with pllok := true } } : State).raise P.CLK 7).clkEval

/-- No valid host frame for CLK.LOSS.GAP µs (Table 1-3). -/
def State.lossGap (s : State) : State :=
  match s.clk.state with
  | .pull => s.clkTo .search
  | .locked => s.clkTo .hold
  | _ => s

/-- 20 ms in HOLD (Table 1-3, R81). -/
def State.holdTimeout (s : State) : State :=
  if s.clk.state = .hold then
    let s := (s.clkTo .search).wr R.CLK_HOLDT 20000#32
    ((s.raise P.CLK 2).askSafe 3).safeNow
  else s

/-- REFIN edges have arrived for 1 ms (R812). -/
def State.refokSet (s : State) : State := ({ s with clk := { s.clk with refok := true } } : State).clkEval

/-- No REFIN edge for 1 µs (R36, R812). -/
def State.refLoss (s : State) : State :=
  let s := { s with clk := { s.clk with refok := false } }
  if s.clk.state = .ref then
    let s := (({ s with clk := { s.clk with afterLoss := true } } : State).clkTo .osc).raise P.CLK 4
    (s.askSafe 3).safeNow
  else s

end Sys2Proof.Machine
end

