-- ==== Sys2Proof/Machine/Regs.lean ====
section
/-! DEFINITION. What a read of a register returns: the status words, index windows and live values each page composes from State (the register tables of each chapter). -/

namespace Sys2Proof.Machine

/-- Bits of a status word: each flag at its position. -/
def flags (l : List (Nat × Bool)) : Nat := l.foldl (fun a e => a + e.2.toNat * 2 ^ e.1) 0

/-- Low or high half of a line-time. -/
def ltLo (t : LineTime) : Word := t.extractLsb' 0 32
/-- Bits [47:32] of a line-time. -/
def ltHi (t : LineTime) : Word := (t.extractLsb' 32 16).zeroExtend 32

/-- Code of a clock state (Table 1-3). -/
def clkCode : ClkState → Nat
  | .osc => 0
  | .search => 1
  | .pull => 2
  | .locked => 3
  | .hold => 4
  | .ref => 5

/-! ## SYS, CLK, TCK, PWR -/

/-- The level of a GPIO (R822): as the last command told it, or `live` at a moment no command tells of, when an input that something drives is at a free level. An input nothing
drives and no pull holds reads a free value. -/
def State.gpioLevel (s : State) (live : Bool) (n : Nat) : Bool :=
  if !s.pin.vioOk then false
  else if n = 5 ∧ s.bit R.SYS_GPCFG 25 then s.ticking && s.tck.inTick && decide (s.tck.phase ≤ 63)
  else if s.bit R.SYS_GPCFG n then s.bit R.SYS_GPOUT n
  else match s.pin.gpioIn.getD n none with
    | some b => if live then (Config.noise s.free).getLsbD n else b
    | none => if s.bit R.SYS_GPCFG (8 + n) then s.bit R.SYS_GPCFG (16 + n) else (Config.noise s.free).getLsbD n

/-- The six input levels. -/
def State.gpioLevels (s : State) (live : Bool) : Nat := flags ((List.range 6).map fun n => (n, s.gpioLevel live n))

/-- SYS.GPIN (R822). -/
def State.gpin (s : State) : Nat := if !s.pin.vioOk then 0 else if s.ticking then s.pin.gpioS else s.gpioLevels true

/-- The SYS page. -/
def State.sysRead (s : State) (o : Nat) : Option Word :=
  if o = 0x08 then some (wd (flags [(0, s.faultPin), (1, s.extLow), (2, s.pin.twselS), (3, s.pin.bootS)]))
  else if o = 0x34 then some (wd s.gpin)
  else if o = 0x40 then some (s.fuses.uid.extractLsb' 0 32)
  else if o = 0x44 then some (s.fuses.uid.extractLsb' 32 32)
  else none

/-- The CLK page. -/
def State.clkRead (s : State) (o : Nat) : Option Word :=
  if o = 0x08 then some (wd (clkCode s.clk.state + flags [(4, s.clk.refok), (5, s.clk.pllok)]))
  else if o = 0x2C then some (ltLo s.lt)
  else if o = 0x30 then some (ltHi s.lt)
  else if o = 0x40 then some s.fuses.rctrim
  else if o = 0x48 ∧ s.clk.state = .hold then some (wd ((s.lt - s.clk.holdAt).toNat / 100))
  else none

/-- The TCK page. PNUM, PEDGE_LO and PEDGE_HI keep the values of the last pending authorisation while none is pending (Table 1-9 does not say: DESIGN CHOICE, log entry 51). -/
def State.tckRead (s : State) (o : Nat) : Option Word :=
  if o = 0x08 then some (wd (tckCode s.tck.state + flags [(3, s.tck.synth), (4, s.tck.pend.isSome), (5, s.tck.lat)] + s.tck.cause % 16 * 256))
  else if o = 0x38 then some s.tck.now
  else if o = 0x3C then some (ltLo s.tck.edge)
  else if o = 0x40 then some (ltHi s.tck.edge)
  else if o = 0x44 then some s.tck.pnum
  else if o = 0x48 then some (ltLo s.tck.pedge)
  else if o = 0x4C then some (ltHi s.tck.pedge)
  else none

/-- The PWR page. -/
def State.pwrRead (s : State) (o : Nat) : Option Word :=
  if o = 0x08 then
    some (wd (s.pwr.modeLast % 4 + flags [(4, s.pin.vioLvl5), (5, s.pin.vioOk), (6, s.pin.vbatOk), (8, s.pwr.sretd), (9, s.pwr.tretd)] +
      s.pwr.rejWhy % 16 * 4096))
  else if o = 0x30 then some s.aon
  else none

/-! ## LNK, LNS, ISN, ISC, CDG -/

/-- Code of a link state (Table 4-4). -/
def linkCode : LinkState → Nat
  | .down => 0
  | .energy => 1
  | .up => 2
  | .fault => 3

/-- Code of a PLCA state. -/
def plcaCode : PlcaState → Nat
  | .off => 0
  | .searching => 1
  | .follower => 2
  | .coordinator => 3

/-- The LNK page. -/
def State.lnkRead (s : State) (o : Nat) : Option Word :=
  if o = 0x08 then
    some (wd (linkCode s.lstate + s.lnk.profact % 4 * 4 + plcaCode s.lnk.plcaStat * 16 +
      flags [(6, s.txsil), (7, s.lnk.energy || s.lnk.settling)] + s.lnk.agc % 8 * 256))
  else none

/-- The aligner state (Table 5-7): the most advanced candidate. -/
def State.astate (s : State) : Nat := if s.isn.locked then 3 else if s.isn.cands.any (·.check) then 2 else if s.isn.cands.isEmpty then 0 else 1

/-- The ISN page. -/
def State.isnRead (s : State) (o : Nat) : Option Word :=
  if o = 0x08 then
    some (wd (s.astate + s.isn.stage % 8 * 16 +
      flags [(8, s.tmaster), (9, s.isn.lpiTx), (10, s.isn.lpiRx), (12, s.isn.ltTx), (13, s.isn.ltRx),
        (14, s.isn.prop.isSome || decide (s.isn.cd > 0)), (15, s.tapMode)]))
  else if o = 0x44 then some (wd (s.isn.txSfn % 4096 + s.isn.rxSfn % 4096 * 65536))
  else none

/-- The ISC page. -/
def State.iscRead (s : State) (o : Nat) : Option Word :=
  if o = 0x24 then some (wd (rawRate (s.rxLoad s.isn.ltRx) + rawRate (s.txLoad s.isn.ltTx) * 65536))
  else if o = 0x28 then some (wd (payBits (s.rxLoad s.isn.ltRx) / 8 + payBits (s.txLoad s.isn.ltTx) / 8 * 65536))
  else none

/-- The CDG page. -/
def State.cdgRead (s : State) (o : Nat) : Option Word :=
  if o = 0x08 then
    some (wd (flags [(0, s.cdgBusy), (1, s.lnk.cdgDone)] + s.lnk.cdgRes % 4 * 4 + s.lnk.cdgRefuse % 16 * 16))
  else none

/-! ## CYC, QUE (R316) -/

/-- Commands in sections held in the receive FIFO. -/
def State.fifoCmds (s : State) : Nat := (s.cyc.fifo.map List.length).foldl (· + ·) 0

/-- Commands of a path in the command queue. -/
def State.queued (s : State) (p : Path) : Nat := (s.cyc.cmdq.filter fun c => c.path == p).length

/-- POOL. -/
def State.pool (s : State) : Nat := 32 - s.fd (rCTRL P.QUE) 8 5

/-- CFREE. -/
def State.cfree (s : State) : Nat := s.pool - (s.fifoCmds + s.queued .network + s.cyc.rspq.length)

/-- The CYC page. -/
def State.cycRead (s : State) (o : Nat) : Option Word :=
  if o = 0x08 then some (wd (flags [(0, s.cyc.seqv), (1, s.cyc.staged.isSome), (2, s.cyc.hmacv)])) else none

/-- The QUE page. -/
def State.queRead (s : State) (o : Nat) : Option Word :=
  if o = 0x08 then
    some (wd (s.cyc.fifo.length % 16 + s.cyc.cmdq.length % 64 * 256 + s.cyc.rspq.length % 64 * 65536 + s.cyc.evq.length % 128 * 2 ^ 24))
  else if o = 0x20 then some (wd (s.cfree % 64 + s.pool * 256))
  else none

/-! ## CPU, MPU, PST, GDR, SUP -/

/-- The CPU page. -/
def State.cpuRead (s : State) (o : Nat) : Option Word :=
  let c := s.cpu
  if o = 0x08 then
    some (wd (c.ftop % 16 + c.res % 32 * 16 + flags [(9, c.psr.tb), (10, c.psr.eb), (11, c.psr.crit), (12, c.long), (13, c.psr.sup)] +
      c.ovrct % 256 * 65536))
  else none

/-- The MPU page. -/
def State.mpuRead (s : State) (o : Nat) : Option Word :=
  if o = 0x08 then some (wd (flags ((List.range 8).map fun r => (r, s.bit (R.MPU_RATTR0 + 4 * r) 7)))) else none

/-- The PST page. -/
def State.pstRead (s : State) (o : Nat) : Option Word := if o = 0x08 then some s.pstStat else none

/-- The GDR page. -/
def State.gdrRead (s : State) (o : Nat) : Option Word := if o = 0x34 then some s.gstat else none

/-- The SUP page. -/
def State.supRead (s : State) (o : Nat) : Option Word := if o = 0x08 then some s.supStat else none

/-! ## FM, ADC, CAL, SEQ -/

/-- The FMA and FMB pages. -/
def State.fmRead (s : State) (c o : Nat) : Option Word :=
  let x := s.fm c
  if o = 0x08 then
    some (wd (x.owner % 8 + flags [(4, x.incomp), (5, decide (x.blank > 0)), (6, x.neg)] + x.irng % 8 * 256 + x.vrng % 4 * 4096 +
      x.comprun % 256 * 65536))
  else none

/-- The ADC page. -/
def State.adcRead (s : State) (o : Nat) : Option Word :=
  if o = 0x08 then some (wd (flags [(0, s.adc.pbusy), (1, s.adc.pdone)])) else none

/-- The CAL page. -/
def State.calRead (s : State) (o : Nat) : Option Word :=
  if o = 0x08 then some (wd (flags [(0, s.adc.loadErr), (1, s.adc.fact)])) else none

/-- The SEQ page, with its point and segment windows (R559). -/
def State.seqRead (s : State) (o : Nat) : Option Word :=
  let q := s.seq
  if o = 0x08 then
    some (wd (q.state % 8 + q.chused % 4 * 16 + flags [(6, q.bound.isSome)] + q.armwhy % 16 * 256 + q.abwhy % 16 * 4096 + q.seg % 256 * 65536))
  else if o = 0x24 then some (wd (q.point % 16384 + min q.n 0xFFFF * 65536))
  else if o = 0x3C then some (wd (q.capptr % 8192))
  else if o = 0x68 then some (s.rdW (pointAddr (s.fd R.SEQ_PIDX 0 14)))
  else if o = 0x6C then some (s.rdW (pointAddr (s.fd R.SEQ_PIDX 0 14) + 4))
  else if o = 0x74 then some (s.segW (s.fd R.SEQ_SIDX 0 8)).1
  else if o = 0x78 then some (s.segW (s.fd R.SEQ_SIDX 0 8)).2
  else none

/-! ## CTL, LP, VEC, PRF, RPT, INJ, TRC -/

/-- The CTL page. -/
def State.ctlRead (s : State) (o : Nat) : Option Word :=
  if o = 0x08 then
    some (wd ((List.range 3).foldl (fun a m => a + (s.ctl.win.getD m 0 % 4 + (s.ctl.gv.getD m false).toNat * 4) * 2 ^ (4 * m)) 0 +
      s.ctl.sinkovr % 64 * 65536))
  else if 0xA8 ≤ o ∧ o ≤ 0xB0 then some (wdI (s.node (0x40 + (o - 0xA8) / 4)))
  else none

/-- An LPn page. -/
def State.lpRead (s : State) (n o : Nat) : Option Word :=
  let x := s.loop n
  if o = 0x08 then some (wd (x.region % 4 + flags [(2, x.ran), (3, x.win), (4, x.inhib)] + x.sat % 16 * 256))
  else if o = 0x50 then some (wdI x.acc)
  else if o = 0x54 then some (wdI x.out)
  else if o = 0x58 then some (wdI x.err)
  else none

/-- The VEC page. -/
def State.vecRead (s : State) (o : Nat) : Option Word :=
  if o = 0x08 then
    some (wd (flags [(0, s.node 0x50 == 1), (1, s.vec.lock)] + s.vec.hallL % 8 * 16 + (s.vec.sector.getD 0) % 8 * 256))
  else if o = 0x58 then some (wdI (s.node 0x48))
  else if o = 0x5C then some (wdI (s.node 0x49))
  else if o = 0x60 then some (wdI (s.node 0x51))
  else if o = 0x68 then some (wdI s.vec.encL)
  else none

/-- The PRF page. -/
def State.prfRead (s : State) (o : Nat) : Option Word :=
  if o = 0x08 then
    some (wd ((List.range 4).foldl (fun a j =>
      let g := s.gen j
      a + flags [(j, g.arrived), (4 + j, decide (g.v ≠ 0 ∨ g.a ≠ 0)), (8 + j, g.ovr), (12 + j, decide (g.jc > 0))]) 0))
  else if 0x20 ≤ o ∧ o < 0xA0 then
    let j := (o - 0x20) / 0x20
    if o % 0x20 = 0x14 then some (wdI (s.node (0x58 + j)))
    else if o % 0x20 = 0x18 then some (wdI (s.node (0x5C + j)))
    else if o % 0x20 = 0x1C then some (wdI (s.node (0x60 + j)))
    else none
  else none

/-- The RPT page. -/
def State.rptRead (s : State) (o : Nat) : Option Word :=
  if o = 0x08 then some (wd (flags [(0, (s.rpt 0).learned), (1, (s.rpt 1).learned)])) else none

/-- The INJ page. -/
def State.injRead (s : State) (o : Nat) : Option Word :=
  if o = 0x08 then some (wd (flags [(0, (s.inj 0).run), (1, (s.inj 1).run)])) else none

/-- Code of a trace state (Table 13-4). -/
def trcCode : TrcState → Nat
  | .idle => 0
  | .run => 1
  | .armed => 2
  | .post => 3
  | .done => 4

/-- The TRC page. -/
def State.trcRead (s : State) (o : Nat) : Option Word :=
  let t := s.trc
  if o = 0x08 then some (wd (trcCode t.state + flags [(4, t.wrapped), (5, t.trigv), (6, t.retd), (7, t.disarmed)]))
  else if o = 0x54 then some (wd (t.wptr % 16384))
  else if o = 0x58 then some (wd (t.start % 16384))
  else if o = 0x5C then some (wd (t.trigidx % 16384))
  else none

/-! ## TWN, SLF, LCS, LOG, MON, HSP, FLS -/

/-- The TWN page. -/
def State.twnRead (s : State) (o : Nat) : Option Word :=
  let t := s.twn
  if o = 0x08 then
    some (wd (t.pstate % 8 + flags [(3, t.role), (4, t.hold), (5, t.linkup), (6, t.unag)] + t.joinwhy % 16 * 256 + t.verdL % 4 * 4096 +
      t.verdS % 4 * 16384 + (t.skew % 256).toNat * 65536))
  else if o = 0x58 then some (wd (min t.dirty.length 1023 + t.round % 256 * 65536))
  else none

/-- The SLF page. -/
def State.slfRead (s : State) (o : Nat) : Option Word :=
  let f := s.slf
  if o = 0x08 then
    some (wd (flags [(0, f.mem.run.isSome), (1, f.mem.pend.isSome), (2, f.ana.run.isSome), (3, f.ana.pend.isSome), (4, f.sys.run.isSome),
      (5, f.sys.pend.isSome), (6, f.busy)] + f.refWhy % 16 * 256))
  else if o = 0x50 then
    match Sparse.find f.spares (s.fd R.SLF_RIDX 0 4 + 16 * s.fd R.SLF_RIDX 4 1) with
    | some x => some (wd (x.row % 64 + flags [(8, true), (9, x.fused)]))
    | none => some 0#32
  else if o = 0x5C then some (wd (f.sRow % 1024 + f.fBlk % 16384 * 65536))
  else none

/-- The LCS page. -/
def State.lcsRead (s : State) (o : Nat) : Option Word :=
  let l := s.lcs
  if o = 0x08 then
    some (wd (l.state % 8 + flags [(4, l.pend), (5, l.chalV), (6, l.lockout), (7, l.completed)] + l.cmdWhy % 16 * 256))
  else if o = 0x38 then some (s.fuses.lc.zeroExtend 32)
  else none

/-- One word of a log entry. -/
def LogEntry.word (e : LogEntry) (k : Nat) : Word := if k = 0 then e.w0 else if k = 1 then e.w1 else if k = 2 then e.w2 else e.w3

/-- The persistent entry LOG.PIDX names. -/
def State.persistAt (s : State) : Option (Word × Word × Word × Word) := s.persisted[s.fd R.LOG_PIDX 0 5]?

/-- The LOG page. -/
def State.logRead (s : State) (o : Nat) : Option Word :=
  let g := s.log
  if o = 0x08 then some (wd (g.held % 512 + g.pbuf.length % 16 * 65536 + flags [(20, g.pbusy)]))
  else if o = 0x20 then some (wd (g.wptr % 256 + flags [(8, g.wrapped)]))
  else if 0x2C ≤ o ∧ o ≤ 0x38 then
    match Sparse.find g.ring (s.fd R.LOG_RIDX 0 8) with
    | some e => some (e.word ((o - 0x2C) / 4))
    | none => some 0#32
  else if o = 0x3C then some (wd (s.fd R.LOG_PIDX 0 5 + flags [(8, s.persistAt.isSome)]))
  else if 0x40 ≤ o ∧ o ≤ 0x4C then
    match s.persistAt with
    | some e => some (if o = 0x40 then e.1 else if o = 0x44 then e.2.1 else if o = 0x48 then e.2.2.1 else e.2.2.2)
    | none => some 0#32
  else none

/-- The MON page. -/
def State.monRead (s : State) (o : Nat) : Option Word :=
  if o = 0x08 then some (wd (flags [(0, s.mon.synced), (1, s.mon.wait.isSome)])) else none

/-- The HSP page. -/
def State.hspRead (s : State) (o : Nat) : Option Word :=
  if o = 0x08 then some (wd (s.hsp.fifo.length % 32 + s.queued .spi % 32 * 256 + flags [(16, s.hsp.mode3)])) else none

/-- The FLS page. -/
def State.flsRead (s : State) (o : Nat) : Option Word :=
  if o = 0x08 then some (wd (flags [(0, s.fls.op.isSome), (1, s.fls.done), (2, s.log.pbusy)] + s.fls.refwhy % 16 * 16)) else none

/-! ## The read -/

/-- What a page composes for an offset; `none` where the stored word is the value. -/
def State.composed (s : State) (p o : Nat) : Option Word :=
  match p with
  | 0x00 => s.sysRead o
  | 0x01 => s.clkRead o
  | 0x02 => s.tckRead o
  | 0x03 => s.pwrRead o
  | 0x04 => s.supRead o
  | 0x08 => s.lnkRead o
  | 0x09 => if o = 0x08 then some (wd (s.fd (rCTRL P.LNS) 1 1)) else none
  | 0x0A => s.isnRead o
  | 0x0B => s.iscRead o
  | 0x0C => s.cdgRead o
  | 0x10 => s.cycRead o
  | 0x11 => s.queRead o
  | 0x18 => s.cpuRead o
  | 0x19 => s.mpuRead o
  | 0x20 => s.pstRead o
  | 0x21 => s.gdrRead o
  | 0x24 => s.fmRead 0 o
  | 0x25 => s.fmRead 1 o
  | 0x26 => s.adcRead o
  | 0x27 => s.calRead o
  | 0x28 => s.seqRead o
  | 0x30 => s.ctlRead o
  | 0x31 => s.lpRead 0 o
  | 0x32 => s.lpRead 1 o
  | 0x33 => s.lpRead 2 o
  | 0x34 => s.lpRead 3 o
  | 0x35 => s.lpRead 4 o
  | 0x36 => s.lpRead 5 o
  | 0x37 => s.lpRead 6 o
  | 0x38 => s.lpRead 7 o
  | 0x39 => s.prfRead o
  | 0x3A => s.rptRead o
  | 0x3B => s.injRead o
  | 0x3C => s.vecRead o
  | 0x40 => s.trcRead o
  | 0x48 => s.twnRead o
  | 0x50 => s.slfRead o
  | 0x51 => s.lcsRead o
  | 0x52 => s.logRead o
  | 0x58 => s.monRead o
  | 0x59 => s.hspRead o
  | 0x5A => s.flsRead o
  | _ => none

/-- The present value of a register, by its offset in the window (R146); an offset no table names reads zero (R124). -/
def State.readReg (s : State) (a : Nat) : Word :=
  match s.composed (a / 256) (a % 256) with
  | some v => v
  | none => if (regDesc a).isSome then s.rd a else 0#32

/-- A read of a list-RAM word whose parity is wrong is reported with the point as unit (R818). -/
def State.listCheck (s : State) (w : Nat) : State :=
  if s.parWrong w then (s.detect 5 P.SEQ (wd (w / 2))).setFlt P.SEQ 0 else s

/-- A read of a counter of time finds it as far on as time has run since a command last said how far: a free interval passes (R39, R115). A GPIO input that
nothing holds reads a fresh free level at each read (R822), and gates at high impedance read what the other device makes of them (R656). -/
def State.fetchReg (s : State) (a : Nat) : State × Word :=
  if a = R.CLK_LT_LO ∨ a = R.CLK_LT_HI ∨ (a = R.CLK_HOLDT ∧ s.clk.state = .hold) then
    let r := s.draw
    let s := { r.1 with lt := r.1.lt + r.2.extractLsb' 0 48 }
    (s, s.readReg a)
  else if a = R.PWR_AONCNT then
    let r := s.draw
    let s := { r.1 with aon := r.1.aon + r.2.extractLsb' 0 32 }
    (s, s.readReg a)
  else if a = 256 * P.GDR + 0x34 ∧ s.holdHiZ then
    let r := s.draw
    (r.1, wd (r.2.extractLsb' 0 8).toNat)
  else if a = 256 * P.GDR + 0x34 ∧ s.condOn 4 then
    let r := s.draw
    let v := wd (r.2.extractLsb' 0 8).toNat
    (r.1, if v = s.gstat then v ^^^ 1#32 else v)
  else if a = R.SEQ_PLO ∨ a = R.SEQ_PHI then (s.listCheck (2 * s.fd R.SEQ_PIDX 0 14 + (if a = R.SEQ_PHI then 1 else 0)), s.readReg a)
  else if a = R.SYS_GPIN then ({ s with free := s.free + 1 }, s.readReg a)
  else (s, s.readReg a)

/-- The values of a list of registers, read in order. -/
def State.fetchAll (s : State) (l : List Nat) : State × List Word :=
  l.foldl (fun (p : State × List Word) a => let r := p.1.fetchReg a; (r.1, p.2 ++ [r.2])) (s, [])

end Sys2Proof.Machine
end

