-- ==== Sys2Proof/Machine/Cyc.lean ====
section
/-! DEFINITION. The cycle engine: reception checks, acceptance, staging, the receive FIFO, credits, flush and RESPONSE assembly (chapter 6), and the DECISION packet of a lead (R672). -/

namespace Sys2Proof.Machine

/-! ## Octets of a frame -/

/-- A big-endian field of a frame. -/
def octs (l : List Byte) (at_ n : Nat) : Nat := beNat ((l.drop at_).take n)

/-- The EtherType (R288). -/
def frameType (f : List Byte) : Nat := octs f 12 2

/-- The Lanoth payload: from the octet after the EtherType to the FCS (R289). -/
def lanoth (f : List Byte) : List Byte := (f.take (f.length - 4)).drop 14

/-- The FCS of a frame, as sent. -/
def frameFcs (f : List Byte) : Word := wd (octs f (f.length - 4) 4)

/-- FLAGS of a CYCLE header (Table 6-1). -/
def hdrFlags (p : List Byte) : Nat := octs p 1 1
/-- AUTH. -/
def hdrAuth (p : List Byte) : Bool := (hdrFlags p).testBit 7
/-- WAKE. -/
def hdrWake (p : List Byte) : Bool := (hdrFlags p).testBit 6
/-- SEQRST. -/
def hdrSeqRst (p : List Byte) : Bool := (hdrFlags p).testBit 5
/-- LNID. -/
def hdrLnid (p : List Byte) : Nat := octs p 2 2
/-- TICK. -/
def hdrTick (p : List Byte) : Word := wd (octs p 4 4)
/-- EDGE. -/
def hdrEdge (p : List Byte) : LineTime := BitVec.ofNat 48 (octs p 8 6)
/-- STAMP. -/
def hdrStamp (p : List Byte) : LineTime := BitVec.ofNat 48 (octs p 14 6)
/-- FSEQ. -/
def hdrFseq (p : List Byte) : Nat := octs p 20 2
/-- NCMD. -/
def hdrNcmd (p : List Byte) : Nat := octs p 22 1
/-- SPLEN. -/
def hdrSplen (p : List Byte) : Nat := octs p 23 1

/-- The set-point block. -/
def setPoints (p : List Byte) : List Word := (List.range (hdrSplen p)).map fun i => wd (octs p (24 + 4 * i) 4)

/-- The command section (Table 6-2). -/
def cmdSection (p : List Byte) : List Cmd :=
  (List.range (hdrNcmd p)).map fun i =>
    let b := 24 + 4 * hdrSplen p + 12 * i
    ⟨.network, octs p b 1, octs p (b + 1) 1, octs p (b + 2) 2, wd (octs p (b + 4) 4), wd (octs p (b + 8) 4)⟩

/-! ## Reception (R291 to R306) -/

/-- The first failing check of Table 6-6, 0 when the frame passes; MAC, NODE and ETYPE are those of its completion (R333). -/
def State.cycCheck (s : State) (h : Handed) : Nat :=
  let f := h.oct
  let p := lanoth f
  let da := octs f 0 6
  let lnid := hdrLnid p
  let node := h.node
  if frameType f ≠ h.etype then 1
  else if !(da == h.mac || da == 0xFFFFFFFFFFFF || (s.bit (rCTRL P.CYC) 0 && da == macOf (s.rd R.CYC_GRP_HI) (s.rd R.CYC_GRP_LO))) then 2
  else if octs p 0 1 ≠ 0x11 then 3
  else if !(lnid == node || lnid == 0xFFFF || (da == h.mac && node == 0)) then 4
  else if !(decide (hdrNcmd p ≤ 8) && decide (hdrSplen p ≤ 16) && (lnid != 0xFFFF || (hdrSplen p == 0 && hdrNcmd p == 0)) &&
      hdrFlags p % 32 == 0 && decide (24 + 4 * hdrSplen p + 12 * hdrNcmd p ≤ p.length)) then 5
  else
    let d := (hdrFseq p + 65536 - s.fd R.CYC_FSEQ 0 16) % 65536
    if hdrSeqRst p || !s.cyc.seqv || (decide (1 ≤ d) && decide (d ≤ 32767)) then 0 else 6

/-- A frame that fails a check is counted and dropped. -/
def State.cycDrop (s : State) (k : Nat) : State :=
  if k = 1 then s.inc R.CYC_RXOTHER
  else if k = 2 ∨ k = 4 then s.inc R.CYC_RXADDR
  else if k = 3 ∨ k = 5 then (s.inc R.CYC_RXFMT).raise P.CYC 0
  else (s.inc R.CYC_RXSTALE).raise P.CYC 1

/-! ## Staging and the receive FIFO (R310, R311, R313, R318) -/

/-- A set-point block is counted as dropped. -/
def State.spDrop (s : State) : State := (s.inc R.CYC_SPDROP).raise P.CYC 2

/-- A set-point block enters staging or is discarded; the flag tells that it was staged. -/
def State.stage (s : State) (tick : Word) (sp : List Word) : State × Bool :=
  if sp.isEmpty then (s, false)
  else if !(tickAhead tick s.tck.now && (s.tck.state == .armed || s.ticking)) then (s.spDrop, false)
  else
    let other := match s.cyc.staged with
      | some b => b.1 != tick
      | none => false
    let s := { s with cyc := { s.cyc with staged := some (tick, sp) } }
    (if other then s.spDrop else s, true)

/-- Whether the section at the front of the FIFO may move (R318). -/
def State.mayAdmit (s : State) (n : Nat) : Bool := decide (s.queued .network + s.cyc.rspq.length + n ≤ s.pool)

/-- The section at the front of the receive FIFO moves to the command queue, or waits with CREDIT_VIOL raised once (R313, R318). -/
def State.admitNow (s : State) : State :=
  match s.cyc.fifo with
  | [] => s
  | sec :: rest =>
    if s.mayAdmit sec.length then { s with cyc := { s.cyc with fifo := rest, waited := false, cmdq := s.cyc.cmdq ++ sec } }
    else if s.cyc.waited then s
    else (({ s with cyc := { s.cyc with waited := true } } : State).inc R.QUE_CVIOLCT).raise P.CYC 3

/-- A command section enters the FIFO or is dropped; the flag tells that it entered. -/
def State.enqueue (s : State) (l : List Cmd) : State × Bool :=
  if l.isEmpty then (s, false)
  else if s.cyc.fifo.length ≥ 8 then ((({ s with cyc := { s.cyc with cdrop := true } } : State).inc R.QUE_CDROPCT).raise P.CYC 4, false)
  else ({ s with cyc := { s.cyc with fifo := s.cyc.fifo ++ [l] } }, true)

/-- Authorisation, staging and queueing of an accepted frame (R308, R309); the flags of a DECISION (R672). -/
def State.cycTake (s : State) (p : List Byte) (done : LineTime) : State × Nat :=
  let r := if hdrAuth p then s.authorise 0 (hdrTick p) (hdrEdge p) done else (s, false)
  if hdrAuth p && !r.2 then (r.1, 0)
  else
    let st := r.1.stage (hdrTick p) (setPoints p)
    let q := st.1.enqueue (cmdSection p)
    (q.1, r.2.toNat + 2 * st.2.toNat + 4 * q.2.toNat + 8 * (!q.2 && hdrNcmd p != 0).toNat)

/-- A lead sends the DECISION of an accepted frame (R672). -/
def State.sendDecision (s : State) (p : List Byte) (fcs : Word) (out : Nat) : State :=
  if 2 ≤ s.twn.pstate ∧ s.twn.pstate ≤ 4 ∧ s.twn.role then
    s.sendTwin ([0x04#8] ++ beOctets 2 (hdrFseq p) ++ beOctets 4 fcs.toNat ++ beOctets 1 out ++ beOctets 4 (hdrTick p).toNat ++ beOctets 6 (hdrEdge p).toNat ++
      beOctets 3 (s.rd R.TCK_MARGIN).toNat)
  else s

/-- The shadow's decisions are the lead's while PSTATE is TRACK, JOINED or VERDICT (R673). -/
def State.follows (s : State) : Bool := decide (2 ≤ s.twn.pstate) && decide (s.twn.pstate ≤ 4) && !s.twn.role

/-- The wake sources Table 2-8 makes available in the mode in force. -/
def State.wakeMask (s : State) : Nat := if s.pwr.mode = .doze then 0x7F else if s.pwr.mode = .sleep then 0x07 else 0

/-- AON cycles that are left until the standby interval of PWR.WTIMER ends (Table 2-8). -/
def State.timerLeft (s : State) : Nat := (s.rd R.PWR_WTIMER).toNat - (s.aon - s.pwr.entry).toNat

/-- The sources of `bits` and, where the standby interval ends in that very cycle, TIMER. -/
def State.withTimer (s : State) (bits dt : Nat) : Nat := bits ||| (if s.rd R.PWR_WTIMER ≠ 0#32 ∧ s.timerLeft = dt then 4 else 0)

/-- A POWER record of a kind, with the wake sources; the record of a wake from SLEEP tells whether trace RAM was retained (Table 13-3, R647). -/
def State.powerRec (s : State) (kind : Nat) : BitVec 64 :=
  trcRec 5 s.aon (kind + s.fd R.PWR_WAKESRC 0 7 * 16 + (kind == 3 && s.pwr.tretd).toNat * 2 ^ 11)

/-- Wake from DOZE by the sources whose bits `src` holds (R107, R645). -/
def State.dozeExit (s : State) (src : Nat) : State :=
  let s := { s with pwr := { s.pwr with mode := .run, modeLast := 1 } }
  let s := s.wr R.PWR_WAKESRC (wd src)
  (s.trcPush (s.powerRec 2)).raise P.PWR 5

/-- Steps 1 to 3 of R306. -/
def State.cycAccept (s : State) (f : List Byte) (stamp : LineTime) (rate : Int) : State :=
  let p := lanoth f
  let s := s.inc R.CYC_RXOK
  let s := s.setF R.CYC_FSEQ 0 16 (hdrFseq p)
  let s := (s.wr R.CYC_HMAC_HI (wd (octs f 6 2))).wr R.CYC_HMAC_LO (wd (octs f 8 4))
  let s := { s with cyc := { s.cyc with seqv := true, hmacv := true } }
  let fr := if s.lnk.profact = 3 then (s.draw.1, sgn 32 s.draw.2.toNat) else (s, rate)
  fr.1.hostFrame stamp (hdrStamp p) fr.2

/-- The frame at the front of the hand-over is checked, and what passes is taken (R303 to R309, R112); `dt` AON cycles have passed, and the sources of `also` meet their condition in the
same cycle (R114). At a shadow that follows, Table 6-6 decides nothing but the discipline of CLK, and the frame waits for the lead's DECISION (R673; DESIGN CHOICE, log entry 58). -/
def State.cycRx (s : State) (also dt : Nat) : State :=
  let src := s.withTimer (8 ||| also) dt &&& s.wakeMask &&& s.fd R.PWR_WAKEEN 0 7
  let s := { s with aon := s.aon + wd dt }
  match s.cyc.handover with
  | [] => s
  | h :: rest =>
    let f := h.oct
    let s := { s with cyc := { s.cyc with handover := rest } }
    let k := s.cycCheck h
    let p := lanoth f
    let keep (s : State) : State :=
      { s with twn := { s.twn with copies := (s.twn.copies ++ [(hdrFseq p, frameFcs f, p, h.stamp, h.done)]).drop ((s.twn.copies.length + 1) - 8) } }
    if k ≠ 0 then (if s.follows then keep s else s.cycDrop k)
    else
      let s := s.cycAccept f h.stamp h.rate
      let wakes := s.pwr.mode == .doze && hdrWake p && s.bit R.PWR_WAKEEN 3
      if s.pwr.mode = .doze ∧ !wakes then s
      else
        let s := if wakes then s.dozeExit src else s
        if s.follows then keep s
        else
          let r := s.cycTake p h.done
          keep (r.1.sendDecision p (frameFcs f) r.2)

/-! ## Responses and flush (R315, R322) -/

/-- A network response entry; one that finds the queue full has nowhere to go (R327 rules that out while the host keeps R317). -/
def State.respond (s : State) (c : Cmd) (status : Nat) (data : Word) : State :=
  let e : Resp := ⟨c.tag, status, c.addr, if status = 0 then data else 0#32, s.tck.now⟩
  match c.path with
  | .network => if s.cyc.rspq.length ≥ 32 then s else { s with cyc := { s.cyc with rspq := s.cyc.rspq ++ [e] } }
  | .spi => if s.hsp.fifo.length ≥ 16 then s else { s with hsp := { s.hsp with fifo := s.hsp.fifo ++ [e] } }
  | _ => s

/-- QUE.CTRL.FLUSH: every waiting command is answered FLUSHED, the command queue before the FIFO (R322). -/
def State.flush (s : State) : State :=
  let l := s.cyc.cmdq ++ s.cyc.fifo.flatten
  let s := { s with cyc := { s.cyc with cmdq := [], fifo := [], waited := false } }
  l.foldl (fun (s : State) c => s.respond c 6 0#32) s

/-! ## RESPONSE assembly (R300, R301, R321, R323) -/

/-- Octets of a response entry. -/
def Resp.octets (e : Resp) : List Byte :=
  beOctets 1 e.tag ++ beOctets 1 e.status ++ beOctets 2 e.addr ++ beOctets 4 e.data.toNat ++ beOctets 4 e.etick.toNat

/-- Octets of an event entry. -/
def EvEntry.octets (e : EvEntry) : List Byte :=
  beOctets 1 e.page ++ beOctets 1 (e.num % 16 + e.level % 4 * 16) ++ beOctets 2 e.phase ++ beOctets 4 e.etick.toNat

/-- The signed 16-bit field of a stamp error. -/
def perr16 (v : Word) : Nat := (BitVec.ofInt 16 (satS 16 v.toInt)).toNat

/-- The LN7440 is LEAD of a joined pair (R658), or the device a promotion has just made LEAD (R692). -/
def State.leadFlag (s : State) : Bool := s.paired && s.twn.role || s.twn.promote == 3

/-- Assemble one RESPONSE frame into the transmit buffer; before any CYCLE frame has been accepted the frame is assembled and goes nowhere (R294). -/
def State.assemble (s : State) : State :=
  let cfg := s.rd R.CYC_RPTCFG
  let mvn := fld cfg 0 5
  let flg := flags [(7, s.tck.synth && s.ticking && s.tck.inTick), (6, s.cyc.cdrop), (5, s.cyc.evlost), (4, s.leadFlag)]
  let tick := s.tck.now
  let edge := s.tck.edge
  let state := tckCode s.tck.state + clkCode s.clk.state * 8 + s.tck.lat.toNat * 64
  let perr := perr16 (s.rd R.CLK_PERR)
  let why := s.cyc.rejWhy
  let got := s.fetchAll ((List.range mvn).map fun k => s.fd (R.CYC_MVSEL0 + 4 * k) 0 16)
  let mv := got.2.flatMap fun v => beOctets 4 v.toNat
  let s := got.1
  let rs := s.cyc.rspq.take (fld cfg 8 6)
  let ev := s.cyc.evq.take (fld cfg 16 7)
  let s := { s with cyc := { s.cyc with rspq := s.cyc.rspq.drop rs.length, evq := s.cyc.evq.drop ev.length, cdrop := false, evlost := false, rejWhy := 0 } }
  let rseq := s.fd R.CYC_FSEQ 16 16
  let hdr := beOctets 1 0x12 ++ beOctets 1 flg ++ beOctets 2 (s.fd R.CYC_NODE 0 16) ++ beOctets 4 tick.toNat ++ beOctets 6 edge.toNat ++
    beOctets 6 0 ++ beOctets 2 (s.fd R.CYC_FSEQ 0 16) ++ beOctets 1 s.cfree ++ beOctets 1 state ++ beOctets 2 perr ++ beOctets 1 why ++
    beOctets 1 mvn ++ beOctets 1 rs.length ++ beOctets 1 ev.length ++ beOctets 2 rseq
  let pay := hdr ++ mv ++ rs.flatMap Resp.octets ++ ev.flatMap EvEntry.octets
  let eth := beOctets 6 (macOf (s.rd R.CYC_HMAC_HI) (s.rd R.CYC_HMAC_LO)) ++ beOctets 6 s.mac ++ beOctets 2 (s.fd R.CYC_ETYPE 0 16) ++ pay
  let eth := eth ++ List.replicate (60 - eth.length) 0#8
  let s := s.setF R.CYC_FSEQ 16 16 (rseq + 1)
  if !s.cyc.hmacv then s
  else
    let s := if s.cyc.txbuf.isSome then s.inc R.QUE_RLOSTCT else s
    { s with cyc := { s.cyc with txbuf := some eth } }

/-- The assembly of a tick: in the window from phase G + 448 (R321). -/
def State.tickAssemble (s : State) : State := if s.ticking && s.tck.inTick then s.assemble else s

/-- The assembly of the untimed states, every CYC.IDLERPT.US µs (R321). -/
def State.idleReport (s : State) : State := if s.direct || s.tck.state = .armed then s.assemble else s

end Sys2Proof.Machine
end

