-- ==== Sys2Proof/Machine/Trc.lean ====
section
/-! DEFINITION. Trace capture: arming, stopping, the write of a record, the tick's markers and the records of power modes (R638 to R648). -/

namespace Sys2Proof.Machine

/-- The path codes of LOCK.HOLDER, the SHADOW records, trace and log. -/
def pathCode : Path → Nat
  | .network => 1
  | .spi => 2
  | .coreSup => 3
  | .coreUser => 3
  | .monitor => 4

/-- Capture ends in DONE (R638, R643). -/
def State.trcDone (s : State) : State := ({ s with trc := { s.trc with state := .done, queue := [] } } : State).raise P.TRC 1

/-- A record of trace RAM: what it holds, or what is left of a content that was lost (R647). -/
def State.trcAt (s : State) (i : Nat) : BitVec 64 :=
  match Sparse.find s.trc.ram i with
  | some r => r
  | none =>
    if s.trcGen = 0 then 0#64
    else
      let b (k : Nat) : Byte := Config.lostRam s.trcGen (0x31000000 + 8 * i + k)
      b 7 ++ b 6 ++ b 5 ++ b 4 ++ b 3 ++ b 2 ++ b 1 ++ b 0

/-- Put a record at WPTR (R642); core reads of this tick keep the record that stood there at phase 63 (R69). -/
def State.trcPut (s : State) (r : BitVec 64) : State :=
  let w := (s.trc.wptr + 1) % 16384
  let back := s.trc.wrapped || w == s.trc.start
  { s with trc := { s.trc with
    ram := Sparse.insert s.trc.ram s.trc.wptr r
    ramS := if s.snapping && (Sparse.find s.trc.ramS s.trc.wptr).isNone then Sparse.insert s.trc.ramS s.trc.wptr (s.trcAt s.trc.wptr) else s.trc.ramS
    wptr := w
    wrapped := back
    start := if back then w else s.trc.start
    armCount := s.trc.armCount + 1 } }

/-- The record at the front of the queue is written, and capture ends when its counts are reached (R638, R642). -/
def State.trcWrite (s : State) : State :=
  match s.trc.queue with
  | [] => s
  | r :: rest =>
    let s := ({ s with trc := { s.trc with queue := rest } } : State).trcPut r
    match s.trc.state with
    | .run => if !s.bit R.TRC_CFG 1 && s.trc.armCount ≥ 16384 then s.trcDone else s
    | .post =>
      let n := s.trc.postCount - 1
      let s := { s with trc := { s.trc with postCount := n } }
      if n = 0 then s.trcDone else s
    | _ => s

/-- Write every record of the queue, `n` at most. -/
def State.trcDrain : Nat → State → State
  | 0, s => s
  | n + 1, s => s.trcWrite.trcDrain n

/-- A write of 1 to TRC.CTRL.ARM (R639). -/
def State.trcArm (s : State) : State :=
  let trig := s.bit R.TRC_CFG 0
  let ok := (s.trc.state == .idle || s.trc.state == .done) &&
    (!trig || decide (s.fd R.TRC_PRE 0 14 + s.fd R.TRC_POST 0 14 + 1 ≤ 16384))
  if !ok then s.raise P.TRC 3
  else
    { s with trc := { s.trc with
      state := if trig then .armed else .run
      wptr := 0, start := 0, trigidx := 0, wrapped := false, trigv := false, armCount := 0, postCount := 0, queue := [], prev := [] } }

/-- A write of 1 to TRC.CTRL.STOP (R638). -/
def State.trcStop (s : State) : State := if s.tracing then s.trcDone else s

/-- A write to TRC.USER (R640). -/
def State.trcUser (s : State) (p : Path) (v : Word) : State :=
  s.trcPush (trcRec 7 v (pathCode p + s.tck.now.toNat % 2 ^ 24 * 16))

/-- The markers of a tick at G + 384 (R640, R642). -/
def State.trcMarker (s : State) : State :=
  let s :=
    if s.bit R.TRC_CFG 2 then
      let lost := s.trc.lossTick
      let room := s.tracing && decide (s.trc.queue.length < 16)
      ({ s with trc := { s.trc with lossTick := if room then 0 else lost } } : State).trcPush
        (trcRec 2 s.tck.now (s.tck.synth.toNat + lost * 2 ^ 16))
    else s
  if s.bit R.TRC_CFG 2 && s.bit R.TRC_CFG 3 then
    s.trcPush (trcRec 4 (s.tck.edge.extractLsb' 0 32) ((s.tck.edge.extractLsb' 32 16).toNat + s.tck.now.toNat % 4096 * 2 ^ 16))
  else s

/-- An edge on GPIO4 of the polarity GEDGE, rising or falling, triggers while ALT4 is 1 (R644). -/
def State.gpio4 (s : State) (rising : Bool) : State :=
  if s.bit R.SYS_GPCFG 24 && s.fd R.TRC_TRIG 0 3 == 3 && s.bit R.TRC_TRIG (if rising then 28 else 29) then s.trgFire 3 else s

end Sys2Proof.Machine
end

