-- ==== Sys2Proof/Machine/Lcs.lean ====
section
/-! DEFINITION. System resets, fuses, the boot ROM's decision, power modes and wakes, the life cycle and the flash controller (chapters 2, 15 and 16). -/

namespace Sys2Proof.Machine

/-! ## Persistent writes -/

/-- Write the pending entries to data flash; whether an erase or a header program verifies is a free value (R742, R743). -/
def State.persistNow (s : State) : State :=
  if s.log.pbuf.isEmpty then { s with log := { s.log with pbusy := false } }
  else
    let r := s.draw
    r.1.persistAll (r.2.getLsbD 0)

/-! ## Fuses (R712, R727, R732) -/

/-- One pair of the life-cycle field. -/
def lcPair (lc : BitVec 8) (k : Nat) : Nat := lc.toNat / 4 ^ k % 4

/-- The life-cycle state of a field: its burned pairs, or END when one follows an unburned one. -/
def lcState (lc : BitVec 8) : Nat :=
  let b (k : Nat) : Bool := lcPair lc k != 0
  if (b 1 && !b 0) || (b 2 && !b 1) || (b 3 && !b 2) then 4
  else (b 0).toNat + (b 1).toNat + (b 2).toNat + (b 3).toNat

/-- A pair with one bit burned exists. -/
def lcHalf (lc : BitVec 8) : Bool := [0, 1, 2, 3].any fun k => lcPair lc k == 1 || lcPair lc k == 2

/-- The field with every begun pair completed. -/
def lcFull (lc : BitVec 8) : BitVec 8 :=
  BitVec.ofNat 8 ([0, 1, 2, 3].foldl (fun a k => a + (if lcPair lc k = 0 then 0 else 3) * 4 ^ k) 0)

/-- Step 5 of Table 2-4: trims, the life-cycle state and repair records load, and a half-burned pair is completed. The path code of the entry that records
it is a free value, no path having asked for it. -/
def State.fuseLoad (s : State) : State :=
  let lc := s.fuses.lc
  let st := lcState lc
  let soft := s.slf.spares.filter fun e => !e.2.fused
  let spares := s.fuses.repairs.foldl (fun l e => Sparse.insert l e.1 (⟨e.2, true⟩ : Spare)) soft
  let s := { s with
    slf := { s.slf with spares := spares }
    lcs := { s.lcs with state := st, pend := false, completed := lcHalf lc }
    fuses := { s.fuses with lc := lcFull lc } }
  let s := (s.wr R.CYC_MAC_LO (0x4E000000#32 + (s.fuses.uid.extractLsb' 0 24).zeroExtend 32))
  if lcHalf lc then
    let r := s.draw
    (r.1.raise P.LCS 2).logPush 8 P.LCS (wd (st - 1 + st * 16 + (r.2.extractLsb' 0 3).toNat * 256)) 0#32
  else s

/-! ## System resets (R92 to R96, R811, R823) -/

/-- Registers of AON scope (Table 2-12, R94). -/
def aonRegs : List Nat :=
  [R.SYS_RSTCAUSE, rCTRL P.PWR, R.PWR_WAKEEN, R.PWR_WAKECFG, R.PWR_WTIMER, R.PWR_SCRATCH0, R.PWR_SCRATCH1, R.PWR_SCRATCH2, R.PWR_SCRATCH3]

/-- Registers that only a power-on reset resets (R726, R735). -/
def porRegs : List Nat := [R.SLF_BISTRES, R.SLF_BISTADDR, R.LCS_AUTHFAIL]

/-- Counters held with the event log (R739). -/
def logRegs : List Nat := [R.LOG_LOSTCT, R.LOG_OVWRCT, R.LOG_PLOSTCT]

/-- A flash operation cut by a reset leaves what it worked on uncorrectable until the next erase (DEDUCED from what the chapter says of a slot write that power failure cuts). -/
def State.flashCut (s : State) : State :=
  match s.fls.op with
  | none => s
  | some (.program l _ _ _ _) => { s with bad := Sparse.insert s.bad l 2 }
  | some (.erase a) =>
    let n := if inPflash a then 256 else 64
    { s with bad := (List.range n).foldl (fun b i => Sparse.insert b (a + 16 * i) 2) s.bad }

/-- The step of Table 2-4 a system reset runs from (R823): by cause, and for a pin reset by whether it comes in SLEEP. -/
def startStep (cause : Nat) (asleep : Bool) : Nat :=
  if cause = 0 then 1 else if cause = 1 ∨ cause = 6 ∨ (cause = 3 ∧ asleep) then 2 else if cause = 2 then 3 else if cause = 5 then 4 else 5

/-- The event log as it stands after SLEEP or a wake: the content is lost, the pending buffer survives (R739, R742). -/
def LogSt.slept (l : LogSt) : LogSt := { resetLog with pbuf := l.pbuf }

/-- What SLEEP loses (R102, Table 2-7): list RAM, bin RAM and the carrier table, SRAM and trace RAM that are not retained, the event log. -/
def State.sleepLose (s : State) : State :=
  let sret := s.bit (rCTRL P.PWR) 4
  let tret := s.bit (rCTRL P.PWR) 5
  let keepMem (a : Nat) : Bool := inPflash a || inDflash a || (inSram a && sret)
  { s with
    mem := s.mem.filter fun c => keepMem c.1
    bad := s.bad.filter fun e => keepMem e.1
    parBad := []
    parSet := []
    regs := s.regs.filter fun e => !logRegs.contains e.1
    auxGen := s.auxGen + 1
    trcGen := s.trcGen + (!tret).toNat
    log := s.log.slept
    trc := if tret then s.trc else resetTrc }

/-- A system reset begins: cause bit `cause` of SYS.RSTCAUSE, on power-on or on a wake. A reset that runs from step 5 on leaves the CORE PLL running (R823); every one but a pin
reset drives NRES (Table 2-6).
 Every block is at its reset value but for what Table 2-15 and the three
scopes keep; fuses load and SRAM is filled with zeros unless a wake finds it retained. -/
def State.sysReset (s : State) (cause : Nat) (por wake : Bool) : State :=
  let s := s.flashCut
  let sret := wake && s.bit (rCTRL P.PWR) 4
  let tret := wake && s.bit (rCTRL P.PWR) 5
  let lose := por || wake
  let start := startStep cause (s.pwr.mode == .sleep)
  let keepReg (a : Nat) : Bool :=
    (!por && (aonRegs.contains a || porRegs.contains a)) || (!lose && logRegs.contains a)
  let keepMem (a : Nat) : Bool := inPflash a || inDflash a || (inSram a && sret) || ((inList a || inBin a) && !lose)
  let z := State.reset
  let t : State := { z with
    pending := s.pending
    regs := s.regs.filter fun e => keepReg e.1
    mem := s.mem.filter fun c => keepMem c.1
    bad := s.bad.filter fun e => keepMem e.1
    parBad := if lose then [] else s.parBad
    parSet := if lose then [] else s.parSet
    fuses := s.fuses
    aon := if por then 0#32 else s.aon
    free := s.free
    auxGen := s.auxGen + lose.toNat
    trcGen := s.trcGen + (por || (wake && !tret)).toNat
    clk := { z.clk with pllok := start == 5 && s.clk.pllok }
    pin := { s.pin with twselS := false, bootS := false, gpioS := 0, fext := false, nresOut := cause != 3 }
    pwr := { z.pwr with modeLast := if wake then 2 else 0, sretd := sret, tretd := tret, start := start }
    slf := { z.slf with spares := if por then [] else s.slf.spares }
    lcs := { z.lcs with lockout := !por && s.lcs.lockout }
    log := if por then z.log else if wake then s.log.slept else { s.log with pbusy := false }
    trc :=
      if por || (wake && !tret) then z.trc
      else { z.trc with
        ram := s.trc.ram, wptr := s.trc.wptr, start := s.trc.start, wrapped := s.trc.wrapped, trigidx := s.trc.trigidx, trigv := s.trc.trigv
        retd := wake, disarmed := wake && (s.trc.state == .armed || s.trc.state == .post) }
    lnk := { z.lnk with energy := decide (s.lnk.amp > 100), amp := s.lnk.amp, outS := s.lnk.outS }
    vec := { z.vec with hall := s.vec.hall }
    pst := { z.pst with cond := s.pst.cond &&& 0x360, otw := s.pst.otw } }
  let t := if por then t.wr R.SYS_RSTCAUSE 1#32 else t.wr R.SYS_RSTCAUSE (setBit (t.rd R.SYS_RSTCAUSE) cause true)
  t.fuseLoad

/-! ## The boot ROM (R749 to R756) -/

/-- Base of an image slot. -/
def slotBase (k : Nat) : Nat := if k = 0 then 0x08000000 else 0x08040000

/-- A slot is a candidate (R752). -/
def State.imageHead (s : State) (k : Nat) : Bool :=
  let b := slotBase k
  let len := (s.rdW (b + 8)).toNat
  let ent := (s.rdW (b + 12)).toNat
  s.rdW b == 0x4C374201#32 && len % 4 == 0 && decide (4 ≤ len) && decide (len ≤ 262112) && ent % 4 == 0 &&
    decide (b + 0x20 ≤ ent) && decide (ent < b + 0x20 + len)

/-- Words of a slot that verification reads: the header's, and the body's once the header makes it a candidate. -/
def State.imageWords (s : State) (k : Nat) : List Nat :=
  let b := slotBase k
  let head := (List.range 8).map fun i => b + 4 * i
  if s.imageHead k then head ++ (List.range ((s.rdW (b + 8)).toNat / 4)).map (fun i => b + 0x20 + 4 * i) else head

/-- The first word of a slot that verification finds uncorrectable (R753). -/
def State.imageErr (s : State) (k : Nat) : Option Nat := (s.imageWords k).find? fun a => s.badWord a

/-- The CRC of a candidate matches (R751). -/
def State.imageCrc (s : State) (k : Nat) : Bool :=
  let b := slotBase k
  let len := (s.rdW (b + 8)).toNat
  let bytes := (List.range 0x1C).map (fun i => s.rdB (b + i)) ++ (List.range len).map (fun i => s.rdB (b + 0x20 + i))
  s.rdW (b + 0x1C) == wd (crc32 bytes)

/-- The single-bit errors at the bytes of `soft` that reads of the words `l` meet are reported (Table 15-1, SRC 3). -/
def State.softReport (s : State) (l soft : List Nat) : State :=
  (soft.filter fun a => l.contains (a - a % 4)).foldl (fun (s : State) a => s.detect 3 P.FLS (wd a)) s

/-- Verify a slot: whether it holds a valid image, an uncorrectable word and corrected errors being reported (R706, R752, R753). -/
def State.imageVerify (s : State) (k : Nat) (soft : List Nat) : State × Bool :=
  let s := s.softReport ((s.imageWords k).takeWhile fun a => !s.badWord a) soft
  match s.imageErr k with
  | some a => (s.detect 4 P.FLS (wd a), false)
  | none => (s, s.imageHead k && s.imageCrc k)

/-- What the boot ROM decided: mode, slot, which images verified, and the row's code (Table 16-2). -/
structure BootPick where
  mode : Nat
  slot : Nat
  vala : Bool
  valb : Bool
  why : Nat
  pc : Nat
  deriving DecidableEq, Repr

/-- Rows 5 and 6 of Table 16-2: the candidates are verified in the order of their SEQ. -/
def State.bootImages (s : State) (soft : List Nat) : State × BootPick :=
  let sa := s.rdW (slotBase 0 + 4)
  let sb := s.rdW (slotBase 1 + 4)
  let bFirst := s.imageHead 0 && s.imageHead 1 && tickAhead sb sa
  let r1 := s.imageVerify (if bFirst then 1 else 0) soft
  let r2 := r1.1.imageVerify (if bFirst then 0 else 1) soft
  let va := if bFirst then r2.2 else r1.2
  let vb := if bFirst then r1.2 else r2.2
  let pick := if va && !(bFirst && vb) then 0 else 1
  if va || vb then (r2.1, ⟨0, pick, va, vb, 0, (r2.1.rdW (slotBase pick + 12)).toNat⟩)
  else (r2.1, ⟨1, 0, false, false, 3, 0⟩)

/-- The boot ROM runs: Table 16-2, MON.BOOT, and the jump or the wait (R754, R755). `core` tells a start by core reset, and `soft` the bytes of the images whose
single-bit errors are met. -/
def State.bootRom (s : State) (core : Bool) (soft : List Nat := []) : State :=
  let lc := s.lcs.state
  let ga := s.rd R.MON_GOADDR
  let r : State × BootPick :=
    if lc = 4 then (s, ⟨2, 0, false, false, 4, 0⟩)
    else if (lc = 0 ∨ lc = 1 ∨ lc = 3) ∧ core ∧ bitOf ga 0 then
      (s.wr R.MON_GOADDR (setBit ga 0 false), ⟨3, 0, false, false, 5, (setBit ga 0 false).toNat⟩)
    else if lc = 0 then (s, ⟨1, 0, false, false, 2, 0⟩)
    else if (lc = 1 ∨ lc = 3) ∧ s.pin.bootS then (s, ⟨1, 0, false, false, 1, 0⟩)
    else s.bootImages soft
  let p := r.2
  let s := r.1.wr R.MON_BOOT (wd (p.mode + p.slot * 16 + p.vala.toNat * 32 + p.valb.toNat * 64 + core.toNat * 128 + p.why * 256))
  let jump := p.mode = 0 ∨ p.mode = 3
  let s := { s with cpu := { s.cpu with pc := p.pc, held := false } }
  if s.cpu.parked ∧ jump then s.parkArmed else { s with cpu := { s.cpu with parked := s.cpu.parked || !decide jump } }

/-- The boot ROM waits: the core executes nothing until the next reset (R755). -/
def State.romWaits (s : State) : Bool := s.fd R.MON_BOOT 0 2 == 1 || s.fd R.MON_BOOT 0 2 == 2

/-! ## Release of a system reset (R96, R305, R515, R733, R737, R742) -/

/-- A new challenge is drawn (R733). -/
def State.newChallenge (s : State) : State :=
  let r := s.draw
  let s := r.1
  let s := (((s.wr R.LCS_CHAL0 (r.2.extractLsb' 96 32)).wr R.LCS_CHAL1 (r.2.extractLsb' 64 32)).wr R.LCS_CHAL2 (r.2.extractLsb' 32 32)).wr R.LCS_CHAL3
    (r.2.extractLsb' 0 32)
  { s with lcs := { s.lcs with chalV := true } }

/-- What the release of reset samples, and the ports that start with it (R90, R91, R96, R160). NRES has stayed low for 64 AON cycles (step 8), and where the reset ran step 4 the CORE
PLL has locked (R89). -/
def State.releaseLevels (s : State) (l : Levels) : State :=
  { s with
    aon := s.aon + wd (max 64 l.aon)
    clk := { s.clk with pllok := s.clk.pllok || decide (s.pwr.start ≤ 4) }
    pin := { s.pin with nresOut := false, vioOk := true, vioLvl5 := l.vio5, vbatOk := l.vbat, twsel := l.twsel, boot := l.boot, twselS := l.twsel, bootS := l.boot, gpioIn := l.gpio }
    pwr := { s.pwr with inReset := false, mode := .run }
    lnk := { s.lnk with settling := true } }

/-- At the end of a system reset the pending entries are written and the RESET entry is made (R737, R742). -/
def State.releaseLog (s : State) : State := s.persistNow.logPush 9 P.SYS (s.rd R.SYS_RSTCAUSE) s.aon

/-- The record of a wake from SLEEP is written at step 9 (R647). -/
def State.wakeRec (s : State) : State := if s.pwr.modeLast = 2 then s.trcPut (s.powerRec 3) else s

/-- Steps 7 to 9 of Table 2-4: reset ends, VIO being good and NRES high, and CLK leaves OSC where the CORE PLL is locked (R817). -/
def State.release (s : State) (l : Levels) : State :=
  if !s.pwr.inReset || s.pwr.mode == .por || s.pin.nresLow then s
  else (((((((s.releaseLevels l).newChallenge.calLoad 0x0C003F00 true).portRestart).releaseLog).wakeRec).bootRom false l.soft).clkEval).settleOut

/-! ## Supplies (R91, R824) -/

/-- The supply monitors' events are raised: out of reset, and not in SLEEP, where the AON domain alone runs (R91, Table 2-7). -/
def State.watches (s : State) : Bool := !s.pwr.inReset && s.pwr.mode != .sleep

/-- VBAT crosses the warning threshold. -/
def State.vbatTo (s : State) (ok : Bool) : State :=
  let was := s.pin.vbatOk
  let s := { s with pin := { s.pin with vbatOk := ok } }
  s.raiseIf (was != ok && s.watches) P.PWR (if ok then 1 else 0)

/-- VIO crosses its thresholds; its pins go and return with it. The monitor and the host SPI port fall silent while it is lost. -/
def State.vioTo (s : State) (ok : Bool) : State :=
  let was := s.pin.vioOk
  let s := { s with pin := { s.pin with vioOk := ok } }
  (s.raiseIf (was != ok && s.watches) P.PWR (if ok then 3 else 2)).settleOut

/-- VBAT falls below the POR threshold: the device is held in power-on reset. -/
def State.powerFail (s : State) : State :=
  let s := s.sysReset 0 true false
  ({ s with pwr := { s.pwr with mode := .por } } : State).settleOut

/-! ## Power modes (R102 to R114, R821) -/

/-- Line energy counts for the LINE wake source: in receive low-power idle only energy outside the S positions does (R274). -/
def State.lineCounts (s : State) (outS : Bool) : Bool := outS || !(s.lnk.profact == 3 && s.isn.lpiRx)

/-- An enabled wake source of the requested mode is active (R821). -/
def State.wakeActive (s : State) (doze : Bool) : Bool :=
  let en (n : Nat) : Bool := s.bit R.PWR_WAKEEN n
  let edge := s.fd R.PWR_WAKECFG 0 2
  let pin := (edge == 1 && s.pin.wake) || (edge == 2 && !s.pin.wake)
  (en 0 && pin) || (en 1 && s.lnk.energy && s.lineCounts s.lnk.outS) ||
  (doze && ((en 4 && s.pin.hspLow) || (en 5 && s.pin.monLow) || (en 6 && s.twn.linkup)))

/-- The first failing condition of R103, 0 when all hold. -/
def State.modeWhy (s : State) (doze : Bool) : Nat :=
  if !s.direct then 1
  else if s.flashBusy then 2
  else if fld s.lnk.plca 0 8 = 0 then 3
  else if s.paired then 4
  else if s.wakeActive doze then 5
  else 0

/-- Every lane's tests end in NOTEST on the way to SLEEP, and their entries are written. -/
def State.lanesEnd (s : State) : State :=
  let one (s : State) (l : Nat) : State :=
    let ln := s.lane l
    let s := s.setLane l resetLane
    let s := match ln.run with
      | some j => (s.verdict j 3 0).logFlush 8
      | none => s
    match ln.pend with
    | some j => (s.verdict j 3 0).logFlush 8
    | none => s
  one (one (one s 0) 1) 2

/-- Entry to DOZE (R104, R105, R645). -/
def State.dozeEnter (s : State) : State :=
  let s := ({ s with pwr := { s.pwr with entry := s.aon } } : State).wr R.PWR_WAKESRC 0#32
  let s := (s.trcPush (s.powerRec 1)).trcDrain 16
  let s := { s with pwr := { s.pwr with mode := .doze }, pst := { s.pst with cprdy := false } }
  s.settleOut

/-- Entry to SLEEP (R102, R104, R108, R646, R742): what is not retained is lost. -/
def State.sleepEnter (s : State) : State :=
  let s := ({ s with pwr := { s.pwr with entry := s.aon } } : State).wr R.PWR_WAKESRC 0#32
  let s := (s.trcPush (s.powerRec 4)).trcDrain 17
  let s := (((s.logFlush 8).lanesEnd).persistNow).sleepLose
  let s := { s with
    pwr := { s.pwr with mode := .sleep }
    pst := { s.pst with cprdy := false }
    cpu := { s.cpu with held := true }
    lnk := { s.lnk with link := .down }
    cyc := { s.cyc with txNow := none } }
  s.settleOut

/-- The levels of WAKE, HSP_CS and MON_RX at a mode request (R821): those its command tells, else free ones, the pins being the environment's. -/
def State.pinLevels (s : State) : State :=
  if s.pin.told then { s with pin := { s.pin with told := false } }
  else
    let r := s.draw
    { r.1 with pin := { r.1.pin with wake := r.2.getLsbD 0, hspLow := r.2.getLsbD 1, monLow := r.2.getLsbD 2 } }

/-- A mode request: 1 DOZE, 2 SLEEP; 0 and 3 request nothing (R103). -/
def State.modeReq (s0 : State) (m : Nat) : State :=
  if m = 0 ∨ m = 3 ∨ s0.pwr.mode ≠ .run then s0
  else
    let s := s0.pinLevels
    let w := s.modeWhy (m == 1)
    if w ≠ 0 then ({ s with pwr := { s.pwr with rejWhy := w } } : State).raise P.PWR 4
    else if m = 1 then s.dozeEnter
    else s.sleepEnter

/-- The sources of `bits` met their condition within one AON cycle, `dt` AON cycles after the last time known: the device wakes once (R107, R109, R111, R114). -/
def State.wake (s : State) (bits dt : Nat) : State :=
  let src := s.withTimer bits dt &&& s.wakeMask &&& s.fd R.PWR_WAKEEN 0 7
  if src = 0 then s
  else
    let s := { s with aon := s.aon + wd dt }
    if s.pwr.mode = .doze then (s.dozeExit src).settleOut
    else
      let s := s.sysReset 6 false true
      (s.wr R.PWR_WAKESRC (wd src)).settleOut

/-! ## Core reset (R391, R421, R750) -/

/-- The core, its banks, the special registers and the CPU page return to their reset values but for CPU.EVT, CPU.FLT and CPU.SHADOW; the core is held (R391). -/
def State.coreReset (s : State) : State :=
  let keep (a : Nat) : Bool := a / 256 != P.CPU || a == rEVT P.CPU || a == rFLT P.CPU || a == 256 * P.CPU + 0xFC
  { s with
    cpu := { resetCpu with parked := decide (s.tck.state = .armed) }
    regs := s.regs.filter fun e => keep e.1
    shadow := s.shadow.filter fun e => keep e.1
    acts := s.acts.filter fun e => keep e.1 }

/-- A core reset asked for through SYS.RSTREQ (R93, R94, R750): in RUN and HOLDOVER as steps 3 to 5 of R421. -/
def State.coreResetReq (s : State) : State :=
  let s := ((s.askSafe 4).coreReset).setF R.SYS_RSTCAUSE 7 1 1
  s.safeNow

/-- The hold of a core reset ends; `pass` is what REGF found, when a double fault made it run (R421, R715, R749). -/
def State.coreRelease (s : State) (pass : Bool) (soft : List Nat) : State :=
  if !s.cpu.held || s.pwr.inReset || s.pwr.mode != .run || s.ticking then s
  else
    let s := match s.slf.regf with
      | some j => ({ s with slf := { s.slf with regf := none } } : State).verdict j (if pass then 0 else 1) 0
      | none => s
    s.bootRom true soft

/-! ## Life cycle (R724, R729 to R735) -/

/-- Conditions 0x1 to 0x4 of Table 15-3, which fuse, BIST and life-cycle operations share. -/
def State.opWhy (s : State) : Nat :=
  if !s.direct then 1 else if !s.pin.vbatOk then 2 else if s.flashBusy then 3 else if s.paired then 4 else 0

/-- The state permits fuse repair and full BIST (Table 15-5). -/
def State.lcRepair (s : State) : Bool := s.lcs.state == 1 || s.lcs.state == 3

/-- The path may request the transition out of the present state (Table 15-6). -/
def State.lcPath (s : State) (p : Path) : Bool :=
  let core := p == .coreSup || p == .coreUser
  if s.lcs.state = 2 then p == .monitor else core || p == .monitor

/-- The transition's precondition (Table 15-6). -/
def State.lcPre (s : State) (resp : Bool) : Bool :=
  match s.lcs.state with
  | 0 => s.fuses.uid != 0#64
  | 1 => s.adc.fact && s.fd R.SLF_BISTRES 0 2 == 3
  | 2 => resp
  | _ => true

/-- The first failing condition of a transition to `target`, 0 when all hold. `resp` is none where the request carries no response, and otherwise tells
whether the response verifies. -/
def State.lcWhy (s : State) (p : Path) (target : Nat) (resp : Option Bool) : Nat :=
  let w := s.opWhy
  if w ≠ 0 then w
  else if target ≠ s.lcs.state + 1 ∨ s.lcs.state ≥ 4 then 5
  else if !s.lcPath p then 6
  else if !s.lcPre resp.isSome then 7
  else if s.lcs.state = 2 ∧ s.lcs.lockout then 9
  else if resp = some false then 8
  else 0

/-- A life-cycle operation is refused. -/
def State.lcRefuse (s : State) (w : Nat) : State := ({ s with lcs := { s.lcs with cmdWhy := w } } : State).raise P.LCS 0

/-- An accepted transition begins (steps 1 and 2 of R731); the persistent write completes it. -/
def State.lcBegin (s : State) (p : Path) : State :=
  let st := s.lcs.state
  let s := { s with lcs := { s.lcs with pend := true } }
  (s.logPush 8 P.LCS (wd (st + (st + 1) * 16 + pathCode p * 256)) 0#32).logFlush 8

/-- A write to LCS.CMD (R729). -/
def State.lcsCmd (s : State) (p : Path) (v : Word) : State :=
  if fld v 16 16 ≠ 0x4C43 ∨ s.lcs.pend then s
  else
    let w := s.lcWhy p (fld v 0 3) none
    if w ≠ 0 then s.lcRefuse w else s.lcBegin p

/-- Steps 3 to 5 of R731: the pending entries are in flash, the pair is burned and the system resets. -/
def State.lcEnd (s : State) : State :=
  let k := s.lcs.state
  let s := { s with fuses := { s.fuses with lc := s.fuses.lc ||| BitVec.ofNat 8 (3 * 4 ^ k) } }
  (s.sysReset 4 false false).settleOut

/-- A response is evaluated (R733 to R735). -/
def State.lcResponse (s : State) (resp : List Byte) : State × Bool :=
  let chal : BitVec 128 := s.rd R.LCS_CHAL0 ++ s.rd R.LCS_CHAL1 ++ s.rd R.LCS_CHAL2 ++ s.rd R.LCS_CHAL3
  let ok := Config.ecdsaOk resp chal s.fuses.uid
  let s := s.newChallenge
  if ok then (s, true)
  else
    let n := min 3 (s.fd R.LCS_AUTHFAIL 0 2 + 1)
    let s := (s.wr R.LCS_AUTHFAIL (wd n)).raise P.LCS 1
    ({ s with lcs := { s.lcs with lockout := s.lcs.lockout || n == 3 } }, false)

/-! ## Fuse repair and full BIST (R724 to R726) -/

/-- A fuse or BIST request is refused. -/
def State.slfRefuse (s : State) (w : Nat) : State := ({ s with slf := { s.slf with refWhy := w } } : State).raise P.SLF 8

/-- The first failing condition of a fuse or BIST request. -/
def State.slfWhy (s : State) : Nat :=
  let w := s.opWhy
  if w ≠ 0 then w else if !s.lcRepair then 5 else 0

/-- Burn a record for every soft repair; whether a burn verifies is a free value (R725). -/
def State.fuseBurn (s : State) : State :=
  let w := s.slfWhy
  if w ≠ 0 then s.slfRefuse w
  else
    let soft := s.slf.spares.filter fun e => !e.2.fused
    let s := soft.foldl (fun (s : State) e =>
      let r := s.draw
      let s := r.1
      let bank := e.1 % 16
      let k := e.1 / 16
      if r.2.getLsbD 0 then
        let s := s.setSpare bank k (some ⟨e.2.row, true⟩)
        let s := { s with fuses := { s.fuses with repairs := Sparse.insert s.fuses.repairs e.1 e.2.row } }
        (s.logFlush 8).logPush 5 P.SLF (wd (bank + e.2.row * 16 + k * 4096 + 8192)) (wd (0x20000000 + bank * 8192 + e.2.row * 128))
      else s.setFlt P.SLF 3) s
    s.raise P.SLF 7

/-- `n` rows of SRAM that fail, bank and row, drawn: which rows fail is the silicon's. -/
def State.drawRows : Nat → State → State × List (Nat × Nat)
  | 0, s => (s, [])
  | n + 1, s =>
    let r := s.draw
    let t := State.drawRows n r.1
    (t.1, (r.2.toNat % 16, r.2.toNat / 16 % 64) :: t.2)

/-- Full BIST (R726): `fails` has a bit for each element that fails, `addr` is the first failing address, `rows` the SRAM rows element 0 finds bad, as bank and row. -/
def State.bist (s : State) (fails : Nat) (addr : Word) (rows : List (Nat × Nat)) : State :=
  let w := s.slfWhy
  if w ≠ 0 then s.slfRefuse w
  else
    let fix (p : State × Bool) (r : Nat × Nat) : State × Bool :=
      let b := r.1 % 16
      match p.1.freeSpare b with
      | some k => (p.1.setSpare b k (some ⟨r.2 % 64, false⟩), p.2)
      | none => (p.1, true)
    let r := rows.foldl fix (s, false)
    let f := (setBit (wd (fails % 1024)) 0 (bitOf (wd fails) 0 || r.2)).toNat
    let s := (r.1.wr R.SLF_BISTRES (wd (1 + (f == 0).toNat * 2 + f * 4))).wr R.SLF_BISTADDR (if f = 0 then 0#32 else addr)
    let s := s.raise P.SLF 6
    let s := if f = 0 then s else s.setFlt P.SLF 2
    let s := (s.logPush 10 P.SLF (s.rd R.SLF_BISTRES) (s.rd R.SLF_BISTADDR)).logFlush 8
    let s := { s with
      mem := s.mem.filter fun c => inPflash c.1 || inDflash c.1
      auxGen := s.auxGen + 1
      trcGen := s.trcGen + 1
      parBad := []
      parSet := []
      trc := { s.trc with ram := [] } }
    (s.sysReset 4 false false).settleOut

/-- BIST as a plain write of SLF.CTRL starts it: what fails, and where, is a free value (R726). -/
def State.bistDrawn (s : State) : State :=
  let r := s.draw
  let t := State.drawRows (r.2.toNat % 1025) r.1
  t.1.bist (r.2.extractLsb' 16 16).toNat (r.2.extractLsb' 32 32) t.2

/-! ## The flash controller (R757 to R761, R810) -/

/-- Sector base and size of an address. -/
def sectorOf (a : Nat) : Nat × Nat := if inPflash a then (a - a % 4096, 4096) else (a - a % 1024, 1024)

/-- The sector of an address is protected (R758, R761). -/
def State.flsProtected (s : State) (a : Nat) : Bool :=
  if inPflash a then
    let k := (a - 0x08000000) / 4096
    s.bit (R.FLS_PROT0 + 4 * (k / 32)) (k % 32)
  else
    let k := (a - 0x0C000000) / 1024
    s.bit R.FLS_DPROT k || (k == 15 && s.lcs.state != 1)

/-- The first failing condition of Table 16-3, 0 when all hold. -/
def State.flsWhy (s : State) (op : Nat) : Nat :=
  let a := (s.rd R.FLS_ADDR).toNat
  if !s.direct then 1
  else if s.flashBusy then 2
  else if !s.pin.vbatOk then 3
  else if !((inPflash a || inDflash a) && (if op = 1 then a % 16 == 0 else a == (sectorOf a).1)) then 4
  else if 0x0C003000 ≤ a ∧ a ≤ 0x0C0037FF then 5
  else if s.flsProtected a then 6
  else if op = 1 ∧ !s.lineErased a then 7
  else 0

/-- A write of OP to FLS.CTRL: 1 PROGRAM, 2 ERASE (R758). -/
def State.flsOp (s : State) (op : Nat) : State :=
  if op = 0 ∨ op = 3 then s
  else
    let w := s.flsWhy op
    let a := (s.rd R.FLS_ADDR).toNat
    if w ≠ 0 then ({ s with fls := { s.fls with refwhy := w } } : State).raise P.FLS 1
    else
      let o := if op = 1 then
          FlsOp.program a (s.rd R.FLS_DATA0) (s.rd R.FLS_DATA1) (s.rd R.FLS_DATA2) (s.rd R.FLS_DATA3)
        else FlsOp.erase a
      { s with fls := { s.fls with op := some o, done := false } }

/-- The operation in progress ends; `verify` is what the margin read-back finds (R760). -/
def State.flsDone (s : State) (verify : Bool) : State :=
  match s.fls.op with
  | none => s
  | some o =>
    let s := match o with
      | .program a d0 d1 d2 d3 => s.programLine a [d0, d1, d2, d3]
      | .erase a => s.eraseFlash a (sectorOf a).2
    let s := ({ s with fls := { s.fls with op := none, done := true } } : State).raise P.FLS 0
    if verify then s else (s.setFlt P.FLS 0).raise P.FLS 2

/-! ## The log's commands -/

/-- LOG.CTRL.CLR: the log is empty (R739). -/
def State.logClear (s : State) : State :=
  { s with log := { s.log with queue := [], ring := [], wptr := 0, wrapped := false, held := 0 } }

/-- LOG.CTRL.PFLUSH, or the condition of R742: the pending buffer is to be written when R742 permits. -/
def State.pflush (s : State) : State :=
  if s.direct && !s.flashBusy && !s.log.pbuf.isEmpty then { s with log := { s.log with pbusy := true } } else s

/-- A write to LOG.USER (R737). -/
def State.logUser (s : State) (p : Path) (v : Word) : State := s.logPush 11 P.LOG v (wd (pathCode p))

/-- The persistent write takes place while TCK is IDLE or SAFE and no flash operation runs; a transition that waits for it then completes (R731, R742, R743). -/
def State.persistWrite (s : State) (verify : Bool) : State :=
  if !s.direct || s.fls.op.isSome then s
  else
    let s := s.persistAll verify
    if s.lcs.pend && s.log.pbuf.isEmpty then s.lcEnd else s

end Sys2Proof.Machine
end

