-- ==== Sys2Proof/Machine/Twn.lean ====
section
/-! DEFINITION. The twin link: pairing, transfer and join, input agreement, the digest, verdicts, failover and handover (chapter 14). -/

namespace Sys2Proof.Machine

/-! ## Packets (R663, R664, Table 14-5) -/

/-- A received packet: one with a violation, a wrong length or a bad CRC is discarded and counted (R664). -/
def State.packet (s : State) (good : Bool) (f : State → State) : State := if good then f s else s.inc R.TWN_LINKERR

/-! ## Roles and states -/

/-- The bridge is shared (Table 14-2). -/
def State.shared (s : State) : Bool := !s.bit R.TWN_CFG 0

/-- HOLD as the pair state asks for it (Table 14-3, R656): a shadow holds its bridge but in JOINED with a bridge of its own and an agreed tick. -/
def State.wantHold (s : State) : Bool :=
  !s.twn.role && (s.twn.pstate == 2 || s.twn.pstate == 4 || s.twn.pstate == 5 || s.twn.pstate == 6 || (s.twn.pstate == 3 && (s.shared || s.twn.unag)))

/-- The pair state becomes `p`, and HOLD follows. -/
def State.pairTo (s : State) (p : Nat) : State :=
  let s := { s with twn := { s.twn with pstate := p } }
  { s with twn := { s.twn with hold := s.wantHold } }

/-- Every tracked page, ascending (Table 14-4). -/
def State.allTracked (s : State) : List Nat :=
  List.range (s.fd R.TWN_MSIZE 0 9) ++ (List.range 39).map (· + 256) ++ (if s.bit R.TWN_CFG 1 then (List.range 512).map (· + 295) else [])

/-- Entry to TRACK (R670, R699, R700): the lead marks every tracked page dirty, the shadow's core parks and nothing but the transfer writes its tracked state. -/
def State.enterTrack (s : State) : State :=
  let s := s.pairTo 2
  let s := { s with twn := { s.twn with
    dirty := if s.twn.role then s.allTracked else []
    round := 0, cursor := 0, join := none, verdict := false, verdL := 0, verdS := 0, noDig := 0, unagRun := 0, disRun := 0
    listed := [], toList := [], decisions := [], gpio := none, told := false } }
  if s.twn.role then s else { s with cpu := { s.cpu with parked := true } }

/-- An address of tracked memory (Table 14-4). -/
def State.tracked (s : State) (a : Nat) : Bool := (s.twinPage a).isSome || inList a

/-- Out of TRACK a shadow's core runs again: at once in IDLE and SAFE, in a tick from phase 64 of the next (R379, R657). -/
def State.unpark (s : State) : State := if s.frozen && s.direct then { s with cpu := { s.cpu with parked := false } } else s

/-- Detach, keeping the role (R671, R690, Table 14-8, Table 14-9). -/
def State.detach (s : State) : State :=
  let was := s.twn.pstate
  let s := s.unpark
  let s := { s with twn := { s.twn with verdict := false, join := none, listed := [], toList := [], decisions := [] } }
  (s.pairTo 6).raiseIf (2 ≤ was ∧ was ≤ 5) P.TWN 5

/-! ## Pairing (R668 to R671, R691) -/

/-- Enter HELLO; a lead that is DETACHED keeps its role for the pairing (R654), and a detached shadow keeps HOLD until it has a partner (R691). -/
def State.enterHello (s : State) : State :=
  { s with twn := { s.twn with pstate := 1, role := s.twn.pstate == 6 && s.twn.role, heard := false } }

/-- The conditions of R668. -/
def State.pairOk (s : State) : Bool := (s.twn.pstate == 0 || s.twn.pstate == 6) && s.fd (rCTRL P.TCK) 0 2 == 0

/-- TWN.CTRL.PAIR. -/
def State.pair (s : State) : State := if s.pairOk then s.enterHello else s.raise P.TWN 13

/-- TWN.CTRL.UNPAIR (R671). -/
def State.unpair (s : State) : State :=
  if s.twn.pstate = 0 then s
  else
    let s := if s.twn.pstate = 1 then s else s.detach
    { s with twn := { s.twn with pstate := 0, role := false, hold := false, promote := 0, resign := 0, twinOwn := false } }

/-- CFGSUM: CRC-32 in the convention of Table 10-8 over the configuration words (R669). -/
def State.cfgSum (s : State) : Word :=
  wd (crc32 ([R.CYC_ETYPE, R.CYC_MAC_LO, R.CYC_MAC_HI, R.CYC_NODE, R.TWN_MBASE, R.TWN_MSIZE, R.TCK_PERIOD, R.TCK_SLOTS, R.TCK_STROBE, rCTRL P.LNK,
    R.LNK_PLCA].flatMap fun a => wordBytes (s.rd a)))

/-- SYS.ID.VERSION. -/
def sysVersion : Nat := fld (idWord P.SYS) 24 8

/-- The device's own HELLO (R669). -/
def State.helloMsg (s : State) : List Byte :=
  ctrlPkt 1 (beOctets 8 s.fuses.uid.toNat ++ beOctets 1 s.pin.twselS.toNat ++ beOctets 1 sysVersion ++ beOctets 4 (s.rd R.TWN_FWID).toNat ++
    beOctets 4 s.cfgSum.toNat ++ beOctets 1 (s.fd R.TWN_CFG 0 8) ++ beOctets 1 (s.twn.pstate + s.twn.role.toNat * 8))

/-- HELLO goes out in HELLO alone. -/
def State.helloSend (s : State) : State := if s.twn.pstate = 1 then s.sendTwin s.helloMsg else s

/-- The first failing check of Table 14-6, 0 when all pass. -/
def State.helloWhy (s : State) (h : Hello) : Nat :=
  if h.version ≠ sysVersion then 2
  else if h.fwid ≠ s.rd R.TWN_FWID then 3
  else if h.cfgsum ≠ s.cfgSum then 4
  else if h.cfg ≠ s.fd R.TWN_CFG 0 8 then 5
  else if !(h.netSrc && s.fd (rCTRL P.TCK) 0 2 == 0) then 6
  else if !(h.pstate == 1 || (h.pstate == 6 && h.role)) then 7
  else if !decide (s.fd R.TCK_STROBE 0 18 + 320 ≤ s.tickLen / s.slots - 1) then 9
  else 0

/-- The role R654 gives: whoever led a pair before leads again, else TWSEL decides, else the larger device number. -/
def State.helloRole (s : State) (h : Hello) : Bool :=
  if s.twn.role && !h.role then true
  else if h.role && !s.twn.role then false
  else if s.pin.twselS && !h.twsel then true
  else if h.twsel && !s.pin.twselS then false
  else decide (s.fuses.uid.toNat > h.uid.toNat)

/-- A HELLO is received, in HELLO or by a lead that is DETACHED, which answers with its own (R654, R670). -/
def State.hello (s : State) (h : Hello) : State :=
  if !(s.twn.pstate == 1 || (s.twn.pstate == 6 && s.twn.role)) then s
  else
    let s := if s.twn.pstate = 6 then s.sendTwin s.helloMsg else { s with twn := { s.twn with heard := true } }
    let s := (s.wr R.TWN_PUID_LO (h.uid.extractLsb' 0 32)).wr R.TWN_PUID_HI (h.uid.extractLsb' 32 32)
    let w := s.helloWhy h
    if w ≠ 0 then ({ s with twn := { s.twn with joinwhy := w } } : State).raise P.TWN 10
    else
      let conf := h.twsel == s.pin.twselS
      let s := { s with twn := { s.twn with role := s.helloRole h, joinwhy := 0 } }
      ((s.raiseIf conf P.TWN 12).raise P.TWN 0).enterTrack

/-- No HELLO within 10 ms of entry to HELLO (R670). -/
def State.helloTimeout (s : State) : State := if s.twn.pstate = 1 ∧ !s.twn.heard then { s with twn := { s.twn with joinwhy := 1 } } else s

/-- The link goes down (R666). -/
def State.twinDown (s : State) : State :=
  if s.twn.linkup then ({ s with twn := { s.twn with linkup := false, upTicks := 0 } } : State).raise P.TWN 8 else s

/-- The link comes up (R666). -/
def State.twinUp (s : State) : State := { s with twn := { s.twn with linkup := true } }

/-- A detached shadow pairs again by itself (R691). -/
def State.autoRepair (s : State) : State :=
  if s.twn.pstate = 6 ∧ !s.twn.role ∧ s.bit R.TWN_CFG 2 ∧ s.twn.linkup ∧ s.twn.upTicks ≥ 64 ∧ s.pairOk then s.enterHello else s

/-! ## Samples and agreement (R680 to R684) -/

/-- A flag octet of a SAMPLE: Table 10-6 bits [4:0] and RNG. -/
def flagOctet (f : Nat) : Nat := f % 32 + f / 256 % 8 * 32

/-- The body of a SAMPLE (Table 14-7); `ended` tells that a precision window ended at this strobe. -/
def State.sampleMsg (s : State) (ended : Bool) : List Byte :=
  let v (i : Nat) : Int × Nat := s.adc.vals.getD i (0, 0)
  let pos (k : Nat) : List Byte :=
    beOctets 4 (wdI (v k).1).toNat ++ beOctets 4 (wdI (v (k + 3)).1).toNat ++ beOctets 1 (flagOctet (v k).2) ++ beOctets 1 (flagOctet (v (k + 3)).2)
  [0x01#8] ++ beOctets 4 s.slotNs ++ beOctets 1 (s.vec.hallL % 8) ++ beOctets 2 s.pst.condL ++ beOctets 4 (wdI s.vec.encL).toNat ++
    pos 0 ++ pos 1 ++ pos 2 ++ beOctets 4 (s.rd R.ADC_PRES).toNat ++ beOctets 1 (s.fd R.ADC_PFLG 0 5 + ended.toNat * 128)

/-- The lead sends a SAMPLE in every slot in JOINED and VERDICT (R680). -/
def State.sampleSend (s : State) (ended : Bool) : State :=
  if s.twn.role ∧ (s.twn.pstate = 3 ∨ s.twn.pstate = 4) then s.sendTwin (s.sampleMsg ended) else s

/-- A SAMPLE arrives whole, with the strobes' difference (R681, R684); one that is not of the slot whose deadline is still to come is discarded. -/
def State.sampleIn (s : State) (x : Sample) (skew : Int) : State :=
  if s.twn.role ∨ !(3 ≤ s.twn.pstate ∧ s.twn.pstate ≤ 5) then s
  else
    let far := decide (skew.natAbs > 16)
    let run := if far then s.twn.skewRun + 1 else 0
    let s := { s with twn := { s.twn with sample := if s.twn.due && x.slot == wd s.slotNs then some x else s.twn.sample, skew := clampI (-128) 127 skew, skewRun := run } }
    s.raiseIf (run == 4) P.TWN 9

/-- SCALE × 2^20 of the input of a SAR position in the range in force. -/
def State.posScale (s : State) (i : Nat) : Int :=
  let code := s.sarCode i
  if code = 0 then 0
  else if code ≤ 2 then scaleI (s.chainRange code)
  else if code ≤ 4 then scaleV (s.chainRange code)
  else if code ≤ 9 then 2500000009
  else 79999952

/-- SCALE × 2^20 of the precision input. -/
def State.precScale (s : State) : Int :=
  let src := s.fd R.ADC_PCFG 0 3
  if src = 0 then scaleP (s.fd R.ADC_PCFG 4 2) else if src ≤ 2 then scaleI (s.chainRange src) else scaleV (s.chainRange src)

/-- Two values lie within TOLC codes of each other. -/
def State.tolOk (s : State) (own lead scale : Int) : Bool :=
  decide ((own - lead).natAbs * 2 ^ 20 ≤ s.fd R.TWN_TOL 0 12 * scale.natAbs)

/-- The comparison of R681. -/
def State.agree (s : State) (x : Sample) : Bool :=
  let pos (i : Nat) : Bool :=
    let o := s.adc.vals.getD i (0, 0)
    let l := x.vals.getD i (0, 0)
    hasFlg o.2 flgOver == hasFlg l.2 flgOver && hasFlg o.2 flgRanging == hasFlg l.2 flgRanging && s.tolOk o.1 l.1 (s.posScale i)
  let prec :=
    let f := s.fd R.ADC_PFLG 0 5
    !x.pflg.testBit 7 || (bitOf (wd f) 1 == x.pflg.testBit 1 && bitOf (wd f) 2 == x.pflg.testBit 2 &&
      s.tolOk (s.rd R.ADC_PRES).toInt x.prec.toInt s.precScale)
  (List.range 6).all pos && x.hall % 8 == s.vec.hallL % 8 && decide ((s.vec.encL - x.enc.toInt).natAbs ≤ s.fd R.TWN_TOL 16 8) && prec

/-- A divergence (R695): the error is reported, and VERDICT follows at the end of the tick. -/
def State.diverge (s : State) (src : Nat) (unit : Word) : State :=
  let s := { s with twn := { s.twn with verdict := true, verdL := 0, verdS := 0 } }
  s.detect src P.TWN unit

/-- The tick becomes UNAGREED (R674, R682). -/
def State.unagree (s : State) : State :=
  let s := if s.twn.unag then s else s.inc R.TWN_UNAGCT
  ({ s with twn := { s.twn with unag := true } } : State).raise P.TWN 2

/-- A slot's comparison fails (R683). -/
def State.disagree (s : State) : State :=
  let run := s.twn.disRun + 1
  let s := ((s.inc R.TWN_DISCT).raise P.TWN 3)
  let s := { s with twn := { s.twn with disRun := run } }
  if run = s.fd R.TWN_TOL 24 8 then ((s.setFlt P.TWN 1).sendTwin (ctrlPkt 4 [])).diverge 0x0E 0#32 else s

/-- The lead's values, flags and states of a slot, as the shadow commits them (R682). -/
def State.commitSample (s : State) (x : Sample) : State :=
  let s := { s with
    adc := { s.adc with vals := x.vals }
    vec := { s.vec with hallL := x.hall % 8, encL := x.enc.toInt }
    pst := { s.pst with condL := x.cmp % 65536 } }
  if x.pflg.testBit 7 then (s.wr R.ADC_PRES x.prec).setF R.ADC_PFLG 0 5 (x.pflg % 32) else s

/-- The agreement deadline of a slot (R681 to R683); in FAILOVER it only records whether the lead still samples (Table 14-8). -/
def State.deadline (s : State) : State :=
  if s.twn.role ∨ !s.twn.due then s
  else
    let s := s.atPhase ((s.adc.slot - 1) * s.slotLen + s.fd R.TCK_STROBE 0 18 + 280)
    let s := { s with twn := { s.twn with due := false, got := s.twn.got + s.twn.sample.isSome.toNat } }
    if !s.agrees then { s with twn := { s.twn with sample := none } }
    else
    let s := match s.twn.sample with
      | some x =>
        let s := if s.agree x then { s with twn := { s.twn with disRun := 0 } } else s.disagree
        s.commitSample x
      | none =>
        let own := s.adc.vals.map fun (v : Int × Nat) => (v.1, v.2 ||| flgUnagreed)
        ({ s with adc := { s.adc with vals := own } } : State).unagree
    let s := { s with twn := { s.twn with sample := none } }
    s.publish.seqSample

/-- From the output write of an unagreed slot to the end of the tick the shadow holds its bridge (R682). -/
def State.unagHold (s : State) : State := if s.twn.unag then { s with twn := { s.twn with hold := s.twn.hold || s.wantHold } } else s

/-! ## The digest (R685 to R687) -/

/-- CRC-64 of octets: initial value 0, no final XOR (R686). -/
def crc64 (l : List Byte) : Nat := l.foldl crc64Byte 0

/-- The octets of an entry (R685). -/
def digOctets (e : Nat × Nat × Word) : List Byte := beOctets 1 e.1 ++ beOctets 4 e.2.1 ++ beOctets 4 e.2.2.toNat

/-- The digest closes (R686). -/
def State.digestClose (s : State) : State :=
  if !(2 ≤ s.twn.pstate ∧ s.twn.pstate ≤ 5) then s
  else
    let d := crc64 (beOctets 4 s.tck.now.toNat ++ s.twn.digq.flatMap digOctets)
    let s := ((s.wr R.TWN_DIG_LO (wd d)).wr R.TWN_DIG_HI (wd (d / 2 ^ 32))).wr R.TWN_DIGTICK s.tck.now
    { s with twn := { s.twn with digq := [] } }

/-- The DIGEST packet (R687). -/
def State.digestSend (s : State) : State :=
  if !(2 ≤ s.twn.pstate ∧ s.twn.pstate ≤ 5) then s
  else
    s.sendTwin ([0x02#8] ++ beOctets 4 (s.rd R.TWN_DIGTICK).toNat ++ beOctets 4 (s.rd R.TWN_DIG_HI).toNat ++ beOctets 4 (s.rd R.TWN_DIG_LO).toNat ++
      beOctets 1 (s.twn.unag.toNat + s.twn.role.toNat * 2 + s.twn.pstate * 4))

/-- The partner's DIGEST arrives: its tick, its digest and its state octet. -/
def State.digestIn (s : State) (tick : Word) (dig : BitVec 64) (st : Nat) : State :=
  if !(2 ≤ s.twn.pstate ∧ s.twn.pstate ≤ 5) then s
  else
    let s := (s.wr R.TWN_PDIG_LO (dig.extractLsb' 0 32)).wr R.TWN_PDIG_HI (dig.extractLsb' 32 32)
    { s with twn := { s.twn with pdig := some (tick, dig.toNat, st) } }

/-- The partner's digest of this tick, and its state octet. -/
def State.pdigNow (s : State) : Option (Nat × Nat) :=
  match s.twn.pdig with
  | some (t, d, st) => if t = s.tck.now then some (d, st) else none
  | none => none

/-- The lead resigns (R698). -/
def State.resignNow (s : State) : State :=
  let s := { s with twn := { s.twn with role := false, pstate := 6, resign := 2, verdict := false } }
  (s.raise P.TWN 7).sendTwin (ctrlPkt 5 [])

/-- Two ticks without a usable DIGEST of the shadow detach the lead (R690). -/
def State.leadWatch (s : State) : State :=
  if !(s.twn.role && (s.twn.pstate == 3 || s.twn.pstate == 4)) then s
  else
    let p := s.pdigNow
    let no := if p.isNone then s.twn.noDig + 1 else 0
    let un := match p with
      | some e => if e.2.testBit 0 then s.twn.unagRun + 1 else 0
      | none => 0
    let s := { s with twn := { s.twn with noDig := no, unagRun := un } }
    if no ≥ 2 ∨ un ≥ 2 then s.detach else s

/-- The digests are compared at G + 192 (R687, R690); a resignation asked for takes place (R698). -/
def State.digestCompare (s : State) : State :=
  let s :=
    match s.pdigNow with
    | some e =>
      if s.twn.pstate = 3 ∧ !s.twn.unag ∧ !e.2.testBit 0 ∧ e.2 / 4 % 8 = 3 then
        if e.1 = (s.rd R.TWN_DIG_HI).toNat * 2 ^ 32 + (s.rd R.TWN_DIG_LO).toNat then s.inc R.TWN_DIGOK
        else ((s.setFlt P.TWN 0).raise P.TWN 4).diverge 0x0D s.tck.now
      else s
    | none => s
  let s := s.leadWatch
  if s.twn.resign = 1 ∧ s.twn.role ∧ s.twn.pstate = 3 then s.resignNow else s

/-! ## Failover, verdicts and handover (R688 to R698) -/

/-- The shadow becomes LEAD; the line and the bridge follow at the next edge (R692). -/
def State.promoteNow (s : State) : State :=
  let s := { s with twn := { s.twn with role := true, pstate := 6, promote := 3, unag := false, verdict := false } }
  s.raise P.TWN 6

/-- A gate reads high on a shared bridge. -/
def State.gateHigh (s : State) (gates : Nat) : Bool := s.shared && decide (gates % 256 ≠ 0)

/-- The decision at G + 192 (Table 14-8, R698): `gates` is what GDR.GSTAT reads and `line` whether the lead's Isinasia signal was seen (R689). -/
def State.failover (s : State) (gates : Nat) (line : Bool) : State :=
  if s.twn.promote = 2 then (if s.gateHigh gates then ({ s with twn := { s.twn with promote := 0 } } : State).detach else s.promoteNow)
  else if s.twn.pstate ≠ 5 ∨ s.twn.role then s
  else if s.slots ≤ s.twn.got then (s.sendTwin (ctrlPkt 2 [])).enterTrack
  else if s.pdigNow.isSome ∨ s.twn.lineAct ∨ line ∨ s.gateHigh gates then s.detach
  else s.promoteNow

/-- CTRL RESYNC: both devices return to TRACK (R688). -/
def State.resyncIn (s : State) : State := if s.twn.role ∧ (s.twn.pstate = 3 ∨ s.twn.pstate = 4) then s.enterTrack else s

/-- CTRL VERDICT: the partner's verdict (R696). -/
def State.verdictIn (s : State) (lasting : Bool) : State :=
  let v := if lasting then 2 else 1
  if s.twn.role then { s with twn := { s.twn with verdS := v } } else { s with twn := { s.twn with verdL := v } }

/-- CTRL VERDICT-REQUEST: the event is a divergence here too (R683). -/
def State.verdictReq (s : State) : State := if 3 ≤ s.twn.pstate ∧ s.twn.pstate ≤ 4 then s.diverge 0x0E 0#32 else s

/-- The verdicts' outcome at G + 192 of a tick in VERDICT (R696, R697). -/
def State.verdictOut (s : State) : State :=
  if s.twn.pstate ≠ 4 then s
  else
    let late := decide (s.twn.verdTicks ≥ 6)
    let s :=
      if late ∧ s.twn.role ∧ s.twn.verdS = 0 then { s with twn := { s.twn with verdS := 2 } }
      else if late ∧ !s.twn.role ∧ s.twn.verdL = 0 then { s with twn := { s.twn with verdL := 2 } }
      else s
    match s.twn.verdL, s.twn.verdS with
    | 1, 1 => s.enterTrack
    | 1, 2 => s.detach
    | 2, 1 => if s.twn.role then s.resignNow else { s with twn := { s.twn with promote := 1 } }
    | 2, 2 => (if s.twn.role then s.askSafe 4 else s).detach
    | _, _ => s

/-- TWN.CTRL.RESIGN by the lead in JOINED (R698). -/
def State.resign (s : State) : State := if s.twn.role ∧ s.twn.pstate = 3 then { s with twn := { s.twn with resign := 1 } } else s

/-- CTRL RESIGN at the shadow (R698). -/
def State.resignIn (s : State) : State :=
  if !s.twn.role ∧ 3 ≤ s.twn.pstate ∧ s.twn.pstate ≤ 4 then { s with twn := { s.twn with promote := 1 } } else s

/-! ## Tick records and events (R676 to R678) -/

/-- The events of live and local pages that are set and enabled. -/
def State.localEvents (s : State) : List (Nat × Nat) :=
  (allPages.filter fun p => localPage p || livePage p).flatMap fun p => ((List.range 16).filter fun n => s.bit (rEVT p) n && s.bit (rEVEN p) n).map fun n => (p, n)

/-- The reason octet of a TICKREC: the cause of the entry to SAFE the lead was asked for, 0 without one; 5, a code of the model's own, where it goes to IDLE instead, so that the
shadow's tick state follows (R675, R676; DESIGN CHOICE, log entry 58). -/
def State.leaveWhy (s : State) : Nat := ([3, 2, 4, 1].find? (· ∈ s.tck.safeReq)).getD (5 * s.tck.stopReq.toNat)

/-- The lead's TICKREC, the first 16 events it has not listed yet, and its GPIO levels (R676, R678). -/
def State.tickrecSend (s : State) : State :=
  if !(s.twn.role && decide (2 ≤ s.twn.pstate) && decide (s.twn.pstate ≤ 4)) then s
  else
    let g := s.gpioLevels true
    let ev := (s.localEvents.filter fun e => !(s.twn.listed.contains e)).take 16
    let why := s.leaveWhy
    let body := [0x03#8] ++ beOctets 4 s.tck.now.toNat ++ beOctets 1 g ++ beOctets 1 why ++ beOctets 1 ev.length ++
      ev.flatMap fun (e : Nat × Nat) => beOctets 1 e.1 ++ beOctets 1 (e.2 % 16)
    ({ s with twn := { s.twn with toList := ev, gpio := some g }, free := s.free + 1 } : State).sendTwin body

/-- The shadow receives a TICKREC; its tick state follows the lead's (R675 to R678). -/
def State.tickrecIn (s : State) (gpio why : Nat) (ev : List (Nat × Nat)) : State :=
  if s.twn.role ∨ !(2 ≤ s.twn.pstate ∧ s.twn.pstate ≤ 4) then s
  else
    let s := { s with twn := { s.twn with toList := s.twn.toList ++ ev, gpio := some (gpio % 64) } }
    if why = 0 then s else if why = 5 then s.tckStop else s.askSafe (why % 16)

/-! ## Decisions and content (R672 to R674) -/

/-- A shadow in IDLE or SAFE enters ARMED where the lead's acceptance shows that the lead has (R675); what is tracked stays the transfer's in TRACK (R700). -/
def State.followArm (s : State) : State :=
  if !s.direct then s
  else if s.frozen then { s with tck := { s.tck with state := .armed, cause := 0, pend := none, stopReq := false, safeReq := [], inTick := false } }
  else s.armEntry

/-- An authorisation the lead did not accept, at the shadow (R673): late or a duplicate by its tick number under checks 4 and 5 of Table 1-4, else rejected, with a WHY that no
packet carries and that is free. -/
def State.followRefused (s : State) (num : Word) : State :=
  let on := s.tck.state == .armed || s.ticking
  if on && !(tickAhead num s.tck.now) && !(s.tck.state == .armed && !s.tck.ran) then s.authDrop 0
  else if on && (match s.tck.pend with
    | some a => a.num == num
    | none => false) then s.authDrop 1
  else
    let r := s.draw
    r.1.authRej (1 + r.2.toNat % 9)

/-- The shadow does to the payload of a frame what the lead decided, and the frame is the last accepted one (R306, R673). -/
def State.applyDecision (s : State) (d : Decision) (p : List Byte) : State :=
  let o (n : Nat) : Bool := d.outcome.testBit n
  let s := ({ s with cyc := { s.cyc with seqv := true } } : State).setF R.CYC_FSEQ 0 16 d.fseq
  let s :=
    if o 0 then
      let s := s.followArm
      let s := { s with tck := { s.tck with pend := some ⟨d.tick, d.edge⟩, pnum := d.tick, pedge := d.edge } }
      let s := s.wr R.TCK_MARGIN (wd d.margin)
      if d.margin < s.fd R.TCK_MINMARG 0 20 then s.setF R.TCK_MINMARG 0 20 d.margin else s
    else if hdrAuth p then s.followRefused (hdrTick p)
    else s
  let s := if o 1 then (s.stage (hdrTick p) (setPoints p)).1 else s
  let s := if o 2 then { s with cyc := { s.cyc with fifo := s.cyc.fifo ++ [cmdSection p] } } else s
  if o 3 then (({ s with cyc := { s.cyc with cdrop := true } } : State).inc R.QUE_CDROPCT).raise P.CYC 4 else s

/-- A DECISION arrives; without a matching copy the shadow asks for the content (R673, R674). -/
def State.decisionIn (s : State) (d : Decision) : State :=
  if !s.follows then s
  else
    match s.twn.copies.find? (fun (c : Nat × Word × List Byte × LineTime × LineTime) => c.1 == d.fseq && c.2.1 == d.fcs) with
    | some c => s.applyDecision d c.2.2.1
    | none => ({ s with twn := { s.twn with decisions := s.twn.decisions ++ [d] } } : State).sendTwin ([0x07#8] ++ beOctets 2 d.fseq ++ beOctets 4 d.fcs.toNat)

/-- The lead answers FILL with the content of a frame it holds (R674). -/
def State.fillIn (s : State) (fseq : Nat) : State :=
  if !s.twn.role then s
  else
    match s.twn.copies.find? (fun (c : Nat × Word × List Byte × LineTime × LineTime) => c.1 == fseq) with
    | some c => s.sendTwin ([0x08#8] ++ beOctets 2 fseq ++ c.2.2.1)
    | none => s

/-- CONTENT arrives: the decision that waits for it is applied (R674). -/
def State.contentIn (s : State) (fseq : Nat) (p : List Byte) : State :=
  match s.twn.decisions.find? (fun d => d.fseq == fseq) with
  | some d => ({ s with twn := { s.twn with decisions := s.twn.decisions.filter fun e => e.fseq != fseq } } : State).applyDecision d p
  | none => s

/-! ## Transfer and join (R699 to R702) -/

/-- The offsets of the 64 words of a register page that a transfer carries: its writable fields. -/
def pageFields (p : Nat) : List (Nat × Nat) :=
  ((List.range 64).filterMap fun i => match regDesc (256 * p + 4 * i) with
    | some d => if d.wmask = 0 ∨ d.acc = .w1c ∨ d.acc = .wo then none else some (256 * p + 4 * i, d.wmask)
    | none => none)

/-- The register page of a transfer page number. -/
def regPageOf (k : Nat) : Nat := trackedPages.getD (k - 256) 0

/-- The 256 octets of a transfer page. Table 14-5 says 256 octets and not in which order a word's stand: the least significant comes first, in the order of addresses (DESIGN
CHOICE, log entry 52). -/
def State.pageBytes (s : State) (k : Nat) : List Byte :=
  if k < 256 then (List.range 256).map fun i => s.rdB ((s.rd R.TWN_MBASE).toNat + 256 * k + i)
  else if k < 279 then
    let f := pageFields (regPageOf k)
    (List.range 64).flatMap fun i =>
      let a := 256 * regPageOf k + 4 * i
      match f.find? (fun (e : Nat × Nat) => e.1 == a) with
      | some e => wordBytes (s.rd a &&& wd e.2)
      | none => wordBytes 0#32
  else if k < 287 then (List.range 256).map fun i => s.rdB (0x32000000 + 256 * (k - 279) + i)
  else if k < 295 then
    (List.range 32).flatMap fun i => let w := s.segW (32 * (k - 287) + i); wordBytes w.1 ++ wordBytes w.2
  else (List.range 256).map fun i => s.rdB (0x30000000 + 256 * (k - 295) + i)

/-- A little-endian word of a list of octets. -/
def leWord (l : List Byte) (i : Nat) : Word :=
  wd ((l.getD i 0#8).toNat + (l.getD (i + 1) 0#8).toNat * 2 ^ 8 + (l.getD (i + 2) 0#8).toNat * 2 ^ 16 + (l.getD (i + 3) 0#8).toNat * 2 ^ 24)

/-- The shadow writes a received page (R700). -/
def State.pageIn (s : State) (k : Nat) (l : List Byte) : State :=
  if !s.frozen then s
  else
    let mem (s : State) (base : Nat) : State := (List.range 64).foldl (fun (s : State) i => s.memStore (base + 4 * i) 4 (leWord l (4 * i))) s
    if k < 256 then mem s ((s.rd R.TWN_MBASE).toNat + 256 * k)
    else if k < 279 then
      (pageFields (regPageOf k)).foldl (fun (s : State) e => s.hw e.1 (mergeMask (s.rd e.1) (leWord l (e.1 % 256)) (wd e.2))) s
    else if k < 287 then mem s (0x32000000 + 256 * (k - 279))
    else if k < 295 then
      (List.range 32).foldl (fun (s : State) i =>
        s.setSeg (32 * (k - 287) + i) (leWord l (8 * i)) (leWord l (8 * i + 4))) s
    else mem s (0x30000000 + 256 * (k - 295))

/-- The registers the join image carries beside the internal state: those of the CPU page, and what the engine, Owl and the sequencer show in read-only registers of tracked pages
(Table 14-4). -/
def imageRegs : List Nat :=
  let of (p : Nat) (f : RegDesc → Bool) : List Nat := (((pageRegs p).getD []).filter f).map fun d => 256 * p + d.off
  of P.CPU (fun d => d.off != 0x00 && d.off != 0xFC) ++
    (trackedPages.filter fun p => p != P.PST && p != P.GDR).flatMap fun p => of p fun d => d.acc == .ro && d.off != 0x00 && d.off != 0xFC && !localWord (256 * p + d.off)

/-- The shadow takes a part of the join image (R700). -/
def State.imageIn (s : State) (x : ImagePart) : State :=
  if !s.frozen then s
  else
    match x with
    | .core c l => (l.filter fun e => imageRegs.contains e.1).foldl (fun (s : State) e => s.wr e.1 e.2) { s with cpu := { c with parked := true } }
    | .engine c v => { s with ctl := c, vec := { v with hall := s.vec.hall } }
    | .learning g r i => { s with gens := g, rpts := r, injs := i }
    | .owl a b d => { s with fmA := a, fmB := b, adc := d }
    | .schedule t q p =>
      { s with
        tck := t
        seq := q
        pst := { p with
          out := s.pst.out, cprdy := s.pst.cprdy, cond := s.pst.cond, condL := s.pst.condL, otw := s.pst.otw, drove := s.pst.drove, braked := s.pst.braked
          brakeIn := s.pst.brakeIn } }

/-- The join image: the core and engine state of Table 14-4 (R702). -/
def State.imageParts (s : State) : List ImagePart :=
  [.core s.cpu (imageRegs.map fun a => (a, s.rd a)), .engine s.ctl s.vec, .learning s.gens s.rpts s.injs, .owl s.fmA s.fmB s.adc, .schedule s.tck s.seq s.pst]

/-- The lowest dirty page the pass has still to send. -/
def State.nextDirty (s : State) : Option Nat :=
  let l := s.twn.dirty.filter fun k => decide (k ≥ s.twn.cursor)
  l.foldl (fun (m : Option Nat) k => match m with
    | some x => some (min x k)
    | none => some k) none

/-- The pass is over once no dirty page is left above the cursor. -/
def State.passEnd (s : State) : State :=
  if s.nextDirty.isNone then { s with twn := { s.twn with cursor := 0, round := s.twn.round + 1 } } else s

/-- A PAGE packet: number, round and content (Table 14-5). -/
def State.pagePkt (s : State) (k : Nat) : List Byte := [0x09#8] ++ beOctets 2 k ++ beOctets 1 s.twn.round ++ s.pageBytes k

/-- The twin link reads the words of a page that lies in SRAM or list RAM, word `i` of SRAM meeting `e`: an error is reported with the link as master (Table 15-1, R818). The octets go
out as they are stored (DESIGN CHOICE, log entry 52). -/
def State.pageCheck (s : State) (k i : Nat) (e : Ecc) : State :=
  let base := (s.rd R.TWN_MBASE).toNat + 256 * k
  (List.range 64).foldl (fun (s : State) j =>
    if k < 256 then s.memReport .sram (base + 4 * j) P.TWN (s.eccAt .sram (base + 4 * j) (if j = i then e else .ok))
    else if 295 ≤ k then s.listCheck (64 * (k - 295) + j)
    else s) s

/-- The lead sends the next dirty page (R699). -/
def State.pageSend (s : State) (i : Nat := 0) (e : Ecc := .ok) : State :=
  if !(s.twn.role && s.twn.pstate == 2) then s
  else
    match s.nextDirty with
    | none => s
    | some k =>
      let body := s.pagePkt k
      let s := s.pageCheck k i e
      let s := { s with twn := { s.twn with dirty := s.twn.dirty.filter (· != k), cursor := k + 1 } }
      (s.sendTwin body).passEnd

/-- The snapshot point of the tick has come: the core is parked and the last output is written (R701). -/
def State.atSnapshot (s : State) : Bool := s.tck.inTick && s.cpu.parked && decide (s.slots ≤ s.tck.evals)

/-- At the snapshot point the lead checks whether it can join, and then sends CTRL JOIN, the join image and the dirty pages; `fits` tells that image and pages fit in the link time left
(R701, R702). -/
def State.joinCheck (s : State) (fits : Bool) : State :=
  if !(s.twn.role && s.twn.pstate == 2 && s.atSnapshot) then s
  else if s.tck.state = .run ∧ s.twn.dirty.length ≤ s.fd R.TWN_XCFG 0 4 ∧ fits then
    let t := s.tck.now + 1#32
    let pages := (s.allTracked.filter (s.twn.dirty.contains ·)).map fun k => twinPkt (s.pagePkt k)
    let u := (s.allTracked.filter (s.twn.dirty.contains ·)).foldl (fun (s : State) k => s.pageCheck k 0 .ok) s
    { u with twn := { u.twn with join := some t, dirty := [], sent := twinPkt (ctrlPkt 6 (beOctets 4 t.toNat)) :: pages, image := s.imageParts } }
  else { s with twn := { s.twn with joinwhy := 8 } }

/-- CTRL JOIN names the tick of the join (R702). -/
def State.joinIn (s : State) (t : Word) : State := if s.frozen then { s with twn := { s.twn with join := some t } } else s

/-! ## At tick edges and ends -/

/-- What a pair does at the edge of tick `num`: joining, the ends of a handover, promotion, counts, and the levels and events of the TICKREC (R674, R677,
R678, R692 to R694, R698, R702). `gates` is what GDR.GSTAT reads at phase 0. -/
def State.twinEdge (s : State) (num : Word) (gates : Nat) : State :=
  let s := if s.twn.join = some num ∧ s.twn.pstate = 2 then
      (({ s with twn := { s.twn with join := none, joinwhy := 0 } } : State).pairTo 3).raise P.TWN 1 else s
  let s := if s.twn.resign = 2 then { s with twn := { s.twn with resign := 0, hold := true } } else s
  let p := s.twn.promote
  let s :=
    if p = 1 then ({ s with twn := { s.twn with promote := 2 } } : State).pairTo 5
    else if p = 3 then
      if s.gateHigh gates then
        let s := { s with twn := { s.twn with promote := 4, twinOwn := true } }
        ((s.setFlt P.TWN 2).askSafe 4).detect 8 P.TWN 0#32
      else { s with twn := { s.twn with promote := 4, twinOwn := true, hold := false } }
    else if p = 4 then { s with twn := { s.twn with promote := 0, twinOwn := false } }
    else s
  let miss := s.follows && !s.twn.decisions.isEmpty
  let s := { s with twn := { s.twn with
    upTicks := if s.twn.linkup then s.twn.upTicks + 1 else 0
    verdTicks := if s.twn.pstate = 4 then s.twn.verdTicks + 1 else 0
    due := false, got := 0, lineAct := false, sample := none, pdig := none, decisions := []
    listed := s.twn.listed ++ s.twn.toList.filter (fun e => !s.twn.listed.contains e)
    toList := [] } }
  if miss then (s.raise P.TWN 11).unagree else s

/-- What a pair does at the end of a tick: FAILOVER after an UNAGREED tick, else VERDICT after a divergence (R682, R695). -/
def State.twinEnd (s : State) : State :=
  let un := s.twn.unag
  let s := { s with twn := { s.twn with unag := false } }
  if un ∧ !s.twn.role ∧ 2 ≤ s.twn.pstate ∧ s.twn.pstate ≤ 4 then
    ({ s with twn := { s.twn with verdict := false, join := none } } : State).pairTo 5
  else if s.twn.verdict ∧ s.twn.pstate = 3 then
    ({ s with twn := { s.twn with verdict := false, verdTicks := 0 } } : State).pairTo 4
  else s

end Sys2Proof.Machine
end

