-- ==== Sys2Proof/Machine/Land.lean ====
section
/-! DEFINITION. The landing of a write: reach, key and fences, what each block accepts, shadows and action bits, and WRITE_SHADOWED (R3 to R10, R120 to R152). -/

namespace Sys2Proof.Machine

/-! ## Reach (Table 3-6, R131, R140 to R143) -/

/-- The paths of the host. -/
def Path.host (p : Path) : Bool := p == .network || p == .spi

/-- The paths of the core. -/
def Path.core (p : Path) : Bool := p == .coreSup || p == .coreUser

/-- A path may read a page. -/
def State.reachR (s : State) (p : Path) (page : Nat) : Bool :=
  if p.host then s.lcs.state == 1 || s.lcs.state == 2 || s.lcs.state == 3
  else if p.core then s.lcs.state != 4 || decide (s.cpu.pc.toNat ≤ 0x7FFF)
  else s.lcs.state != 4 || page == P.SYS || page == P.LCS || page == P.LOG

/-- Table 3-6 lets a path write a page. -/
def State.reachW (s : State) (p : Path) (page : Nat) : Bool :=
  if p.host then
    (s.lcs.state == 1 && page != P.LCS) ||
    (s.lcs.state == 2 && !([P.CPU, P.MPU, P.GTE, P.LCS, P.MON, P.FLS].contains page))
  else if p.core then s.reachR p page
  else
    s.lcs.state == 0 || s.lcs.state == 1 ||
    (s.lcs.state == 2 && !([P.CPU, P.MPU, P.GTE, P.LCS, P.FLS].contains page)) ||
    (s.lcs.state == 3 && !([P.PST, P.GDR, P.SUP].contains page))

/-- A fence of the page refuses a path (R131, R141). -/
def State.fenced (s : State) (p : Path) (page : Nat) : Bool :=
  (p.host && s.bit (rLOCK page) 24) || (p == .monitor && s.bit (rLOCK page) 25)

/-- In a joined pair the SPI and monitor paths write local pages only (R679). -/
def State.pairDenies (s : State) (p : Path) (page : Nat) : Bool :=
  s.paired && (p == .spi || p == .monitor) && !localPage page

/-- A write of a path to a register of a page is refused as denied. -/
def State.denied (s : State) (p : Path) (a : Nat) : Bool :=
  !s.reachW p (a / 256) || s.fenced p (a / 256) || s.pairDenies p (a / 256) || (p == .coreUser && a % 256 == 0x1C)

/-- The page is open to a path (R127, R128). -/
def State.openTo (s : State) (p : Path) (page : Nat) : Bool :=
  s.bit (rLOCK page) 16 && s.fd (rLOCK page) 17 3 == pathCode p

/-! ## Ranges and reserved encodings -/

/-- Keep the old value of a field whose new value lies outside a range; the flag tells that it was kept. -/
def rngFld (old : Word) (lo w mn mx : Nat) (v : Word × Bool) : Word × Bool :=
  let x := fld v.1 lo w
  if mn ≤ x ∧ x ≤ mx then v else (setFld v.1 lo w (fld old lo w), true)

/-- What a block makes of a written value: the value the register takes, and the event that reports a refusal, as page and number. -/
abbrev Accepted := Word × Option (Nat × Nat)

/-- An acceptance whose refusal raises one event. -/
def refuseAs (p n : Nat) (v : Word × Bool) : Accepted := (v.1, if v.2 then some (p, n) else none)

/-- CLK (R32, R76). -/
def State.clkAccept (s : State) (a : Nat) (old new : Word) : Accepted :=
  if a = rCTRL P.CLK then (if s.direct then (new, none) else (old, some (P.CLK, 6)))
  else if a = R.CLK_LOCKCFG then refuseAs P.CLK 6 (rngFld old 16 4 1 15 (rngFld old 8 8 1 255 (rngFld old 0 8 1 255 (new, false))))
  else if a = R.CLK_LOSS then refuseAs P.CLK 6 (rngFld old 0 15 100 20000 (new, false))
  else (new, none)

/-- TCK (R6, R78, R79). -/
def State.tckAccept (s : State) (a : Nat) (old new : Word) : Accepted :=
  let rej : Accepted := (old, some (P.TCK, 10))
  if a = rCTRL P.TCK then
    let v := keepFld old 0 2 (· == 3) new
    if fld v 0 2 ≠ fld old 0 2 ∧ !s.direct then (setFld v 0 2 (fld old 0 2), some (P.TCK, 10)) else (v, none)
  else if a = R.TCK_PERIOD then (if s.direct && decide (20 ≤ fld new 0 11) && decide (fld new 0 11 ≤ 2000) then (new, none) else rej)
  else if a = R.TCK_SLOTS ∨ a = R.TCK_STROBE then (if s.direct then (new, none) else rej)
  else if a = R.TCK_BUDGET then (if 256 ≤ fld new 0 19 ∧ fld new 0 19 + 576 ≤ s.tickLen then (new, none) else rej)
  else if a = R.TCK_HOLD then (if fld new 0 7 ≤ 64 then (new, none) else rej)
  else if a = R.TCK_COAST then ((List.range 8).foldl (fun v n => keepFld old (2 * n) 2 (· == 3) v) new, none)
  else (new, none)

/-- PWR (R6, R119). -/
def pwrAccept (a : Nat) (old new : Word) : Accepted :=
  if a = R.PWR_WAKECFG then (keepFld old 16 8 (· == 0) (keepFld old 8 8 (· == 0) (keepFld old 0 2 (· == 0) new)), none) else (new, none)

/-- CYC (R333). -/
def State.cycCfgAccept (s : State) (a : Nat) (old new : Word) : Accepted :=
  if a = R.CYC_RPTCFG then refuseAs P.CYC 0 (rngFld old 16 7 0 64 (rngFld old 8 6 1 32 (rngFld old 0 5 0 16 (new, false))))
  else if a = R.CYC_IDLERPT then refuseAs P.CYC 0 (rngFld old 0 16 20 65535 (new, false))
  else if a = R.CYC_GRP_HI then (if bitOf new 8 then (new, none) else (old, some (P.CYC, 0)))
  else if a = R.CYC_ETYPE ∨ a = R.CYC_MAC_LO ∨ a = R.CYC_MAC_HI ∨ a = R.CYC_NODE then (if s.direct then (new, none) else (old, some (P.CYC, 0)))
  else (new, none)

/-- QUE (R335); a change beyond 16 is refused too. -/
def State.queAccept (s : State) (a : Nat) (old new : Word) : Accepted :=
  if a = rCTRL P.QUE ∧ fld new 8 5 ≠ fld old 8 5 ∧
      !(s.direct && s.cyc.fifo.isEmpty && s.cyc.cmdq.isEmpty && s.cyc.rspq.isEmpty && decide (fld new 8 5 ≤ 16)) then
    (setFld new 8 5 (fld old 8 5), some (P.QUE, 1))
  else (new, none)

/-- CPU, MPU and GTE (R392, R438, R441); `raw` is the word as written. -/
def State.coreAccept (s : State) (a : Nat) (old new raw : Word) : Accepted :=
  if a = R.CPU_CRIT_MAX then (if raw.toNat > 255 then (old, none) else (new, none))
  else if R.MPU_RBASE0 ≤ a ∧ a < R.MPU_RATTR0 + 32 then
    (if s.bit (R.MPU_RATTR0 + (a - R.MPU_RBASE0) % 32) 7 then (old, some (P.MPU, 1)) else (new, none))
  else if a = R.GTE_BASE then
    (if decide (new.toNat ≤ 0x7FFF) || inPflash new.toNat || inSram new.toNat then (new, none) else (old, some (P.GTE, 1)))
  else (new, none)

/-- A force register of R517. -/
def fmGated (o : Nat) : Bool := o == 0x04 || o == 0x28 || o == 0x2C || o == 0x30 || o == 0x34

/-- FMA and FMB (R6, R517, R523); bounds above the ranges of Tables 10-2 and 10-3 are refused with the range (DEDUCED, log entry 57). -/
def State.fmAccept (s : State) (path : Path) (a : Nat) (old new : Word) : Accepted :=
  let c := a / 256 - 0x24
  let o := a % 256
  let rej : Accepted := (old, some (P.FM c, 9))
  if fmGated o && s.ticking && (s.fm c).owner != ownCode path then (old, some (P.FM c, 8))
  else if o = 0x04 then (keepFld old 0 2 (· == 3) new, none)
  else if o = 0x20 then
    (if s.direct then (keepFld old 20 2 (· == 3) (keepFld old 8 3 (decide <| 5 ≤ ·) (keepFld old 4 3 (decide <| 5 ≤ ·) new)), none) else rej)
  else if o = 0x30 then (if fld new 0 8 = 0 then rej else (new, none))
  else if o = 0x34 then
    (if fld new 8 3 ≤ fld new 12 3 ∧ fld new 16 2 ≤ fld new 20 2 ∧ fld new 8 3 ≤ fld new 0 3 ∧ fld new 0 3 ≤ fld new 12 3 ∧
        fld new 16 2 ≤ fld new 4 2 ∧ fld new 4 2 ≤ fld new 20 2 ∧ fld new 12 3 ≤ 5 ∧ fld new 20 2 ≤ 2 ∧ fld new 24 8 ≠ 0 then (new, none) else rej)
  else (new, none)

/-- ADC and CAL (R6, R488, R511); a window length outside its range keeps the old one. -/
def State.adcAccept (s : State) (a : Nat) (old new : Word) : Accepted :=
  if a = R.ADC_SEQ then
    (if s.direct then ([0, 4, 8, 16, 20, 24].foldl (fun v lo => keepFld old lo 4 (decide <| 13 ≤ ·) v) new, none) else (old, some (P.ADC, 2)))
  else if a = R.ADC_PCFG then
    (if s.adc.pbusy && !s.adc.pstart then (old, some (P.ADC, 2))
     else (keepFld old 0 3 (decide <| 5 ≤ ·) (keepFld old 16 13 (fun n => n == 0 || decide (n > 4096)) new), none))
  else if a = rCTRL P.CAL then (keepFld old 4 2 (· == 3) new, none)
  else (new, none)

/-- SEQ (R6, R560). -/
def State.seqAccept (s : State) (a : Nat) (old new : Word) : Accepted :=
  let rej : Accepted := (old, some (P.SEQ, 12))
  if a = rCTRL P.SEQ then
    let v := keepFld old 16 3 (decide <| 6 ≤ ·) (keepFld old 8 2 (· == 3) new)
    if s.seqActive && v != old then rej else (v, none)
  else if a = R.SEQ_CAPBASE ∨ a = R.SEQ_SD1 then (if s.seqActive then rej else (new, none))
  else if a = R.SEQ_CAPLEN then (if s.seqActive || fld new 0 14 == 0 || decide (fld new 0 14 > 8192) then rej else (new, none))
  else (new, none)

/-- TRC (R6, R639); NCH above 8 and POST 0 keep the old field. -/
def State.trcAccept (s : State) (a : Nat) (old new : Word) : Accepted :=
  if R.TRC_CFG ≤ a ∧ a ≤ R.TRC_POST then
    (if s.trc.state = .idle ∨ s.trc.state = .done then
      (if a = R.TRC_CFG then keepFld old 16 4 (decide <| 9 ≤ ·) new
       else if a = R.TRC_TRIG then keepFld old 0 3 (decide <| 4 ≤ ·) new
       else if a = R.TRC_POST then keepFld old 0 14 (· == 0) new
       else new, none)
     else (old, some (P.TRC, 3)))
  else (new, none)

/-- TWN (R6, R705); DISN 0 and a FINAL outside 1 to 8 keep the old field. -/
def State.twnAccept (s : State) (a : Nat) (old new : Word) : Accepted :=
  let fits (base size : Nat) : Bool := decide (size ≤ 256) && decide (base + 256 * size ≤ 0x20020000)
  let free := s.twn.pstate == 0 || s.twn.pstate == 6
  let ok :=
    if a = R.TWN_CFG ∨ a = R.TWN_FWID then free
    else if a = R.TWN_MBASE then free && fits new.toNat (s.fd R.TWN_MSIZE 0 9)
    else if a = R.TWN_MSIZE then free && fits (s.rd R.TWN_MBASE).toNat (fld new 0 9)
    else true
  if a = R.TWN_TOL then (keepFld old 24 8 (· == 0) new, none)
  else if a = R.TWN_XCFG then (keepFld old 0 4 (fun n => n == 0 || decide (8 < n)) new, none)
  else if ok then (new, none) else (old, some (P.TWN, 13))

/-- SLF and FLS (R746, R761). -/
def slfAccept (a : Nat) (old new : Word) : Accepted :=
  if a = R.SLF_CLS then refuseAs P.SLF 8 (rngFld old 16 16 1 65535 (rngFld old 0 8 1 255 (new, false)))
  else if R.FLS_PROT0 ≤ a ∧ a ≤ R.FLS_DPROT then (new ||| old, none)
  else (new, none)

/-- What the block of a register makes of a written value. -/
def State.accept (s : State) (path : Path) (a : Nat) (old new raw : Word) : Accepted :=
  let p := a / 256
  if p = P.CLK then s.clkAccept a old new
  else if p = P.TCK then s.tckAccept a old new
  else if p = P.PWR then pwrAccept a old new
  else if p = P.LNK then refuseAs P.LNK 8 (s.lnkAccept a old new)
  else if p = P.ISN then refuseAs P.ISN 12 (s.isnAccept a old new)
  else if p = P.CDG then (if a % 256 = 0x20 then refuseAs P.CDG 3 (s.cdgAccept old new) else (new, none))
  else if p = P.CYC then s.cycCfgAccept a old new
  else if p = P.QUE then s.queAccept a old new
  else if p = P.CPU ∨ p = P.MPU ∨ p = P.GTE then s.coreAccept a old new raw
  else if p = P.PST ∨ p = P.GDR ∨ p = P.SUP then s.pstAccept a old new
  else if p = 0x24 ∨ p = 0x25 then s.fmAccept path a old new
  else if p = P.ADC ∨ p = P.CAL then s.adcAccept a old new
  else if p = P.SEQ then s.seqAccept a old new
  else if p = P.TRC then s.trcAccept a old new
  else if p = P.TWN then s.twnAccept a old new
  else if p = P.SLF ∨ p = P.FLS then slfAccept a old new
  else (new, none)

/-! ## Action bits -/

/-- PWR, SYS and TCK actions: in TCK a STOP acts before an ARM (R78); a shadow's own are ignored (R675). A shadow refuses DOZE and SLEEP as any paired device does (R103). -/
def State.actTime (s : State) (a : Nat) (v : Word) : State :=
  if a = R.SYS_RSTREQ then
    (if fld v 0 2 = 1 then s.sysReset 4 false false else if fld v 0 2 = 2 then s.coreResetReq else s)
  else if a = rCTRL P.TCK then
    let s := if bitOf v 9 then s.mclr else s
    if s.follows then s
    else
      let s := if bitOf v 5 then s.tckStop else s
      if bitOf v 4 then s.tckArm else s
  else if a = rCTRL P.PWR then s.modeReq (fld v 0 2)
  else s

/-- Actions of the line pages. -/
def State.actLine (s : State) (a : Nat) (v : Word) : State :=
  if a = rCTRL P.LNK then (if bitOf v 8 then s.portRestart else s)
  else if a = rCTRL P.LNS then (if bitOf v 0 then s.lnsClear else s)
  else if a = rCTRL P.ISN then
    let s := if bitOf v 6 then s.loadNow else s
    let s := if bitOf v 4 then s.rcvTrigger else s
    if bitOf v 5 then s.portRestart else s
  else if a = rCTRL P.ISC then (if bitOf v 0 then s.iscClear else s)
  else if a = rCTRL P.CDG then
    let s := if bitOf v 1 then s.cdgStop false else s
    if bitOf v 0 then s.cdgStart else s
  else if a = rCTRL P.QUE then (if bitOf v 0 then s.flush else s)
  else s

/-- Actions of the core, the power stage, Owl and the sequencer. -/
def State.actMid (s : State) (path : Path) (a : Nat) (v : Word) : State :=
  if a = rCTRL P.CPU then
    let s := if bitOf v 0 then s.wr R.CPU_SCREE_HWM (s.rd R.CPU_SCREE_PTR) else s
    if bitOf v 1 then { s with cpu := { s.cpu with ovrct := 0 } } else s
  else if a = rCTRL P.PST then
    let s := if bitOf v 5 then s.stageSafe else s
    if bitOf v 4 then s.relAsk else s
  else if a = R.FM_OWN 0 ∨ a = R.FM_OWN 1 then
    let c := a / 256 - 0x24
    let s := if bitOf v 1 then s.ownRel c path else s
    if bitOf v 0 then s.ownReq c path else s
  else if a = rCTRL P.ADC then
    if !(bitOf v 0 || bitOf v 1) then s
    else if s.seq.pwin then s.raise P.ADC 2
    else
      let s := if bitOf v 1 then s.precStop else s
      if bitOf v 0 then s.precStart (s.fd R.ADC_PCFG 16 13) else s
  else if a = rCTRL P.CAL then
    (if bitOf v 0 then (if s.direct then s.calLoad (s.rd R.CAL_LADDR).toNat false else s.raise P.CAL 2) else s)
  else if a = rCTRL P.SEQ then
    let s := if bitOf v 0 then s.seqArm else s
    { s with seq := { s.seq with
      go := s.seq.go || (bitOf v 1 && s.seq.state == 1), pause := s.seq.pause || bitOf v 2, resume := s.seq.resume || bitOf v 3, abort := s.seq.abort || bitOf v 4 } }
  else if a = R.SEQ_JUMP then
    if bitOf v 30 then { s with seq := { s.seq with jreq := some .clear } }
    else if bitOf v 31 then { s with seq := { s.seq with jreq := some (.jump (fld v 0 8)) } }
    else s
  else s

/-- Actions of trace, twin, self-test, life cycle, log, monitor and flash. -/
def State.actHigh (s : State) (path : Path) (a : Nat) (v : Word) : State :=
  if a = rCTRL P.TRC then
    let s := if bitOf v 1 then s.trcStop else s
    let s := if bitOf v 0 then s.trcArm else s
    if bitOf v 2 then s.trgFire 0 else s
  else if a = R.TRC_USER then s.trcUser path v
  else if a = rCTRL P.TWN then
    let s := if bitOf v 1 then s.unpair else s
    let s := if bitOf v 0 then s.pair else s
    if bitOf v 2 then s.resign else s
  else if a = rCTRL P.SLF then
    let s := if bitOf v 10 then [R.SLF_BKT0, R.SLF_BKT0 + 4, R.SLF_BKT0 + 8].foldl (fun (s : State) b => s.wr b 0#32) s else s
    let s := if bitOf v 9 then s.fuseBurn else s
    if bitOf v 8 then s.bistDrawn else s
  else if a = rCTRL P.LCS then (if bitOf v 0 then s.newChallenge else s)
  else if a = R.LCS_CMD then s.lcsCmd path v
  else if a = rCTRL P.LOG then
    let s := if bitOf v 0 then s.logClear else s
    if bitOf v 1 then s.pflush else s
  else if a = R.LOG_USER then s.logUser path v
  else if a = rCTRL P.MON then (if bitOf v 0 then { s with mon := { s.mon with synced := false } } else s)
  else if a = rCTRL P.FLS then s.flsOp (fld v 0 2)
  else s

/-- The write-only fields of a register that is not tick-shadowed act. -/
def State.act (s : State) (path : Path) (a : Nat) (v : Word) : State :=
  let p := a / 256
  if p ≤ 0x03 then s.actTime a v
  else if p ≤ 0x11 then s.actLine a v
  else if p ≤ 0x28 then s.actMid path a v
  else s.actHigh path a v

/-! ## What follows from a register's new value -/

/-- The sequencer's windows (Table 11-8). -/
def State.seqWindows (s : State) (a : Nat) (v : Word) : State :=
  if a = R.SEQ_PLO then { s with seq := { s.seq with plo := v } }
  else if a = R.SEQ_PHI then
    let i := s.fd R.SEQ_PIDX 0 14
    let s := (s.memStore (pointAddr i) 4 s.seq.plo).memStore (pointAddr i + 4) 4 v
    s.setF R.SEQ_PIDX 0 14 ((i + 1) % 16384)
  else if a = R.SEQ_SD0 then { s with seq := { s.seq with sd0 := v } }
  else if a = R.SEQ_SD1 then
    let k := s.fd R.SEQ_SIDX 0 8
    ((s.setSeg k s.seq.sd0 v).markDirty (287 + k / 32)).setF R.SEQ_SIDX 0 8 ((k + 1) % 256)
  else s

/-- The registers whose written word is no stored word. -/
def isWindow (a : Nat) : Bool := a == R.SEQ_PLO || a == R.SEQ_PHI || a == R.SEQ_SD0 || a == R.SEQ_SD1

/-- Store an accepted value and what follows at once: a clock source changed (R38), the profile or loopback changed (R196), an idle port's settings (R195), LQI's threshold (R277), the charge pump (R456),
FREEZE released (R199). -/
def State.putReg (s : State) (a : Nat) (v : Word) : State :=
  let old := s.rd a
  let s := if v = old then s else s.wr a v
  if a = rCTRL P.CLK then (if bitOf old 0 != bitOf v 0 then s.clkSrc else s)
  else if a = rCTRL P.LNK then (if fld old 0 2 != fld v 0 2 || bitOf old 4 != bitOf v 4 then s.portRestart else s)
  else if a = rCTRL P.PST then (if bitOf old 0 && !bitOf v 0 then s.pumpStop else s)
  else if a = R.LNK_PLCA ∨ a = R.LNK_BURST ∨ a = R.LNK_TXCFG ∨ a = R.LNK_RXCFG then s.lnkWritten
  else if a = R.ISN_LQCFG then s.lqiEval
  else if a = rCTRL P.LNS then (if bitOf old 1 && !bitOf v 1 then s.lnsRelease else s)
  else s

/-! ## The common words -/

/-- A safety condition of some event that did not hold before the write and holds now acts (R135). -/
def State.safetyEdge (s old : State) (p : Nat) : State :=
  if (List.range 16).any fun n => s.safetyOf p n && !old.safetyOf p n then s.safetyAct else s

/-- LOCK (R126 to R131). -/
def State.landLock (s : State) (path : Path) (p : Nat) (v : Word) : State × Nat :=
  let old := s.rd (rLOCK p)
  let key := fld v 0 16 == 0xA500 + p
  let fences := if path = .coreSup then setFld old 24 2 (fld v 24 2) else old
  if !bitOf old 16 then (s.wr (rLOCK p) (if key then setFld (setFld fences 16 1 1) 17 3 (pathCode path) else fences), 0)
  else if s.openTo path p then (s.wr (rLOCK p) (if key then fences else setFld fences 16 4 0), 0)
  else (s.wr (rLOCK p) fences, 2)

/-- EVT (R138, R151): bits written 1 clear; WRITE_SHADOWED takes SHADOW with it, and a page whose cause routes a TICKREC presents loses the listing. -/
def State.landEvt (s : State) (p : Nat) (v : Word) : State :=
  let m := match regDesc (rEVT p) with
    | some d => wd d.wmask
    | none => 0xFFFF#32
  let s := s.wr (rEVT p) (s.rd (rEVT p) &&& ~~~(v &&& m))
  let s := { s with twn := { s.twn with listed := s.twn.listed.filter fun e => !(e.1 == p && bitOf v e.2) } }
  if bitOf v 15 && (p == P.CYC || p == P.HSP || p == P.CPU || p == P.MON) then s.wr (256 * p + 0xFC) 0#32 else s

/-- FLT (R130, R463). -/
def State.landFlt (s : State) (path : Path) (p : Nat) (v : Word) : State × Nat :=
  let m := match ((pageRegs p).getD []).find? (fun d => d.off == 0x18) with
    | some d => wd d.wmask
    | none => 0#32
  let w := v &&& m
  if w = 0#32 then (s, 0)
  else if !s.openTo path p then (s, 2)
  else
    let w := if p = P.PST then w &&& ~~~(wd (s.pst.cond ||| (if s.cycleOver then 0x800 else 0))) else w
    let f (s : State) : State := s.wr (rFLT p) (s.rd (rFLT p) &&& ~~~w)
    (if p = P.LNK then s.linkEv f else f s, 0)

/-- EVEN (R137) and EVRT. -/
def State.landRoute (s : State) (path : Path) (a : Nat) (v : Word) : State × Nat :=
  let p := a / 256
  if a % 256 = 0x10 then
    let old := s.rd a
    let keep := (List.range 16).foldl (fun (m : Word) n => if bitOf old n && s.level p n == 3 && !s.openTo path p then setBit m n true else m) 0#32
    ((s.wr a ((v &&& 0xFFFF#32) ||| keep)).safetyEdge s p, 0)
  else if s.openTo path p then ((s.wr a v).safetyEdge s p, 0)
  else (s, 2)

/-! ## Block-specific registers -/

/-- A tick-shadowed value: into the shadow, or in force at once in IDLE and SAFE (R10). Where a shadow stands already, the previous value that a reserved encoding or a refused field
leaves (R6) is the shadow's and not the value in force: the write amends the value that will commit (the spec does not say which: DESIGN CHOICE, log entry 52). -/
def State.landTs (s : State) (path : Path) (a : Nat) (d : RegDesc) (v : Word) : State :=
  let old := (Sparse.find s.shadow a).getD (s.rd a)
  let r := s.accept path a old (mergeMask old v (wd d.wmask)) v
  let refused := r.1 = old ∧ r.2.isSome
  let s := match r.2 with
    | some e => s.raise e.1 e.2
    | none => s
  let act := if d.amask = 0 then [] else [(a, v &&& wd d.amask)]
  let val := if d.wmask = 0 ∨ refused then [] else [(a, r.1)]
  if s.direct then s.commit val act
  else
    let s := val.foldl (fun (s : State) e => { s with shadow := Sparse.insert s.shadow e.1 e.2 }) s
    act.foldl (fun (s : State) e => { s with acts := Sparse.insert s.acts e.1 (((Sparse.find s.acts e.1).getD 0#32) ||| e.2) }) s

/-- A value that takes effect as it lands; the action bits follow. -/
def State.landNow (s : State) (path : Path) (a : Nat) (d : RegDesc) (v : Word) : State :=
  let old := s.rd a
  let r := s.accept path a old (mergeMask old v (wd d.wmask)) v
  let s := match r.2 with
    | some e => s.raise e.1 e.2
    | none => s
  let s :=
    if isWindow a then (if r.2.isNone then s.seqWindows a v else s)
    else if d.wmask = 0 then s
    else s.putReg a r.1
  s

/-- A register of the block's own table: the state after it, and the status. -/
def State.landBlock (s : State) (path : Path) (a : Nat) (d : RegDesc) (v : Word) : State × Nat :=
  let act (s : State) : State := if d.amask = 0 then s else s.act path a (v &&& wd d.amask)
  match d.acc with
  | .ro => (s, 0)
  | .w1c => (s.wr a (s.rd a &&& ~~~(v &&& wd d.wmask)), 0)
  | .wo => (act s, 0)
  | .rw => (act (s.landNow path a d v), 0)
  | .ts => (s.landTs path a d v, 0)
  | .lk =>
    if s.openTo path (a / 256) then (act (s.landNow path a d v), 0)
    else (if d.wmask = 0 then s else act s, 2)
  | .lkts => if s.openTo path (a / 256) then (s.landTs path a d v, 0) else (s, 2)

/-! ## WRITE_SHADOWED (R147 to R151) -/

/-- The page of a path. -/
def pathPage : Path → Nat
  | .network => P.CYC
  | .spi => P.HSP
  | .coreSup => P.CPU
  | .coreUser => P.CPU
  | .monitor => P.MON

/-- One shadowing recorded on the page of the earlier path. -/
def State.shadowed (s : State) (a : Nat) (winner loser : Path) : State :=
  let r := 256 * pathPage loser + 0xFC
  let n := s.fd r 24 8
  let s := s.wr r (wd (a % 65536 + pathCode winner * 65536 + (if n ≥ 255 then 255 else n + 1) * 2 ^ 24))
  s.raise (pathPage loser) 15

/-- R148 applies to the register (R149). -/
def shadowable (a : Nat) (d : RegDesc) : Bool :=
  (d.acc == .rw || d.acc == .ts || d.acc == .lk || d.acc == .lkts) && a % 256 != 0x1C

/-- A write has landed: every other path that wrote the register in this tick is told. -/
def State.markLanded (s : State) (path : Path) (a : Nat) : State :=
  if !s.ticking then s
  else
    let earlier := ([Path.network, .spi, .coreSup, .monitor].filter fun q =>
      pathCode q != pathCode path && s.landed.any fun e => e.1 == a && pathCode e.2 == pathCode q)
    let s := earlier.foldl (fun (s : State) q => s.shadowed a path q) s
    { s with landed := if s.landed.contains (a, path) then s.landed else s.landed ++ [(a, path)] }

/-! ## The landing (R128, R140 to R150) -/

/-- The status of a write that cannot reach a register: 1 ADDR (R123, R124), 3 DENIED (R140 to R143), 0 otherwise. -/
def State.wrStatus (s : State) (path : Path) (a : Nat) : Nat :=
  if a ≥ 65536 ∨ a % 4 ≠ 0 ∨ !populated a ∨ (regDesc a).isNone then 1 else if s.denied path a then 3 else 0

/-- A write that reaches its register lands. -/
def State.landReg (s : State) (path : Path) (a : Nat) (d : RegDesc) (v : Word) : State × Nat :=
  let o := a % 256
  if o = 0x1C then s.landLock path (a / 256) v
  else if o = 0x0C then (s.landEvt (a / 256) v, 0)
  else if o = 0x18 then s.landFlt path (a / 256) v
  else if o = 0x10 ∨ o = 0x14 then s.landRoute path a v
  else s.landBlock path a d v

/-- A write by a path: the state after it and its status, with the twin's record (R685), WRITE_SHADOWED, and the output state that follows. In TRACK
tracked state at the shadow does not change (R700). -/
def State.landWrite (s : State) (path : Path) (a : Nat) (v : Word) : State × Nat :=
  let w := s.wrStatus path a
  if w ≠ 0 then (s, w)
  else match regDesc a with
    | none => (s, 1)
    | some d =>
      if s.frozen && !localPage (a / 256) then (s, 0)
      else
        let r := s.landReg path a d v
        let s := if r.2 = 0 ∧ d.acc ≠ .ro then r.1.note 4 (0x40000000 + a) v else r.1
        let s := if r.2 = 0 ∧ (d.acc = .rw ∨ d.acc = .lk) then { s with snap := Sparse.erase s.snap a } else s
        let s := if r.2 = 0 && shadowable a d then s.markLanded path a else s
        (s.settleOut, r.2)

/-- MODIFY: the bits under the mask are written, write-only bits reading 0; on a W1C or WO register the word is DATA AND MASK (R299). -/
def State.modWord (s : State) (a : Nat) (data mask : Word) : Word :=
  match regDesc a with
  | some d => if d.acc = .w1c ∨ d.acc = .wo then data &&& mask else (s.readReg a &&& ~~~(wd d.amask) &&& ~~~mask) ||| (data &&& mask)
  | none => data &&& mask

/-- A MODIFY by a path. -/
def State.landModify (s : State) (path : Path) (a : Nat) (data mask : Word) : State × Nat :=
  s.landWrite path a (s.modWord a data mask)

/-- A write of 1 to some bits of a register by a path, its other fields as they stand. -/
def State.landSet (s : State) (path : Path) (a : Nat) (bits : Word) : State := (s.landModify path a bits bits).1

end Sys2Proof.Machine
end

