-- ==== Sys2Proof/Machine/Tick.lean ====
section
/-! DEFINITION. The tick: its edge and commit phases, the commands executed in it, strobes and evaluations, its end, holdover (chapter 1, R299, R314, R315). -/

namespace Sys2Proof.Machine

/-- Part `k` of Table 1-2 after the commit phases can begin, at phase `p`: the part before it is the last that has begun, and no strobe or output write is due first (R24, R54,
R55). -/
def State.turn (s : State) (k p : Nat) : Bool := s.ticking && s.tck.inTick && s.tck.step + 1 == k && decide (p ≤ s.slotDue)

/-- Part `k` of Table 1-2 begins, at phase `p`. -/
def State.partTo (s : State) (k p : Nat) : State := { s with tck := { s.tck with step := k, phase := max s.tck.phase p } }

/-! ## Register commands (R299, Table 6-7) -/

/-- The status of a read by a path: 1 ADDR, 3 DENIED, 0 OK. -/
def State.rdStatus (s : State) (path : Path) (a : Nat) : Nat :=
  if a ≥ 65536 ∨ a % 4 ≠ 0 ∨ !populated a ∨ (regDesc a).isNone then 1 else if !s.reachR path (a / 256) then 3 else 0

/-- A command executes: READ, WRITE, MODIFY or FLUSHMARK, and its answer. -/
def State.execCmd (s : State) (c : Cmd) : State :=
  match c.op with
  | 1 =>
    if c.data ≠ 0#32 ∨ c.mask ≠ 0#32 then s.respond c 5 0#32
    else
      let w := s.rdStatus c.path c.addr
      if w ≠ 0 then s.respond c w 0#32
      else
        let r := s.fetchReg c.addr
        r.1.respond c 0 r.2
  | 2 =>
    if c.mask ≠ 0#32 then s.respond c 5 0#32
    else
      let r := s.landWrite c.path c.addr c.data
      r.1.respond c r.2 c.data
  | 3 =>
    let v := if s.wrStatus c.path c.addr = 0 then s.fetchReg c.addr else (s, 0#32)
    let r := v.1.landModify c.path c.addr c.data c.mask
    r.1.respond c r.2 v.2
  | 4 =>
    if c.mask ≠ 0#32 then s.respond c 5 0#32
    else if c.addr % 4 ≠ 0 then s.respond c 1 0#32
    else s.respond c 0 0#32
  | _ => s.respond c 4 0#32

/-- The command at the front of the queue executes. -/
def State.execFront (s : State) : State :=
  match s.cyc.cmdq with
  | [] => s
  | c :: rest => ({ s with cyc := { s.cyc with cmdq := rest } } : State).execCmd c

/-- Within a command the phase moves on to `p`, and the trace queue passes a record on in each core cycle (R642). -/
def State.reach (s : State) (p : Nat) : State := (State.trcDrain (min s.trc.queue.length (p - s.tck.phase)) s).atPhase p

/-- Up to `n` commands execute, one per core cycle, from a phase on. -/
def State.execQueue : Nat → Nat → State → State
  | 0, _, s => s
  | n + 1, p, s => ((s.reach p).execFront).execQueue n (p + 1)

/-! ## Commit phases -/

/-- The read-only registers whose core reads return the value held at phase 63 (R69): those of pages that are not live and not CPU (R70, R390), but for SHADOW (R809) and
PWR.AONCNT (R115). The windows an index register selects are kept apart: LOG.RD0 to RD3 by `State.snapAt`; LOG.PRD0 to PRD3 and SLF.RINFO show what changes in IDLE, SAFE and the
guard window alone (R724, R742), so that a core read, which comes in the budget, finds it as it was at phase 63. -/
def snapRegs : List Nat :=
  (allPages.filter fun p => !livePage p && p != P.CPU).flatMap fun p =>
    (((pageRegs p).getD []).filter fun d => d.acc == .ro && d.off != 0x00 && d.off != 0xFC &&
      !(p == P.LOG && decide (0x2C ≤ d.off) && decide (d.off ≤ 0x4C)) && !(p == P.SLF && d.off == 0x50) &&
      !(p == P.PWR && d.off == 0x30)).map fun d => 256 * p + d.off

/-- The snapshot of phase 63: the read-only registers at once; what else hardware changes later in the tick is kept when it changes (`State.keepReg`, `State.hwStore`). -/
def State.takeSnap (s : State) : State :=
  { s with snap := snapRegs.map fun a => (a, s.readReg a), snapB := [], trc := { s.trc with ramS := [] }, log := { s.log with ringS := [] } }

/-- The effective budget (R57). -/
def State.setBudget (s : State) : State :=
  let want := s.fd R.TCK_BUDGET 0 19
  let room := s.tickLen - 576 - s.fd R.CPU_CRIT_MAX 0 8
  let s := s.raiseIf (decide (room < want)) P.TCK 6
  { s with tck := { s.tck with budget := max 256 (min want room) } }

/-- The staged set-point block of the tick commits (R312). -/
def State.commitSp (s : State) (num : Word) : State :=
  match s.cyc.staged with
  | none => s
  | some b =>
    if b.1 ≠ num then s
    else
      let s := { s with cyc := { s.cyc with staged := none } }
      if s.frozen then s
      else (b.2.foldl (fun (p : State × Nat) w => (p.1.wr p.2 w, p.2 + 4)) (s, R.CTL_SP0)).1

/-- A block staged for a tick that runs synthetically is discarded (R312). -/
def State.dropSp (s : State) (num : Word) : State :=
  match s.cyc.staged with
  | none => s
  | some b => if b.1 = num then s.dropStaged else s

/-- The levels of GPIO at phase 0: sampled, or in TRACK, JOINED and VERDICT those of the TICKREC of the tick before (R657, R678, R822). Where that TICKREC is missing the device takes
its own (DESIGN CHOICE, log entry 58). -/
def State.sampleGpio (s : State) : State :=
  let lv := if 2 ≤ s.twn.pstate ∧ s.twn.pstate ≤ 4 then s.twn.gpio.getD (s.gpioLevels false) else s.gpioLevels false
  { s with pin := { s.pin with gpioS := lv }, twn := { s.twn with gpio := none }, free := s.free + 1 }

/-- The output latency in force from this edge (R56, R659). -/
def State.setLat (s : State) : State := { s with tck := { s.tck with lat := decide (2 ≤ s.twn.pstate) && decide (s.twn.pstate ≤ 5) } }

/-- Phase 0 of a tick: the release is evaluated before the compares of slot 0 are loaded, and the stage is in DRIVE where its conditions hold (R445, R451, R471). -/
def State.phase0 (s : State) (num : Word) (edge : LineTime) (synth : Bool) (gates : Nat) (gpio : List (Option Bool)) : State :=
  let resync := !synth && s.tck.state == .holdover
  let s := { s with
    lt := edge
    landed := []
    pin := { s.pin with gpioIn := gpio }
    tck := { s.tck with
      state := if synth then .holdover else .run, synth := synth, now := num, edge := edge, inTick := true, phase := 0
      pend := if synth then s.tck.pend else none, ran := true, step := 0, evals := 0 }
    cpu := { s.cpu with parked := true, ovrThis := false }
    trc := { s.trc with lostRaised := false }
    slf := { s.slf with decayCt := s.slf.decayCt + 1, lastLasting := s.slf.lastLasting.map (· + 1) }
    adc := { s.adc with slot := 0, pready := s.adc.pstart } }
  let s := s.raiseIf resync P.TCK 4
  let s := (s.closePages.presentAll.twinEdge num gates).setLat
  let s := s.sampleGpio
  if s.frozen then s.settleOut
  else ({ s.relEval (!synth) with pst := { (s.relEval (!synth)).pst with point := 1 } } : State).slotUpdate.settleOut

/-- Phases 56 to 63. -/
def State.phase56 (s : State) : State :=
  let s := (s.reach 56).setBudget
  (s.reach 63).takeSnap

/-- A stepped bench tick authorises the next one (R779). -/
def State.stepNext (s : State) : State :=
  if !s.mon.stepping then s
  else
    let n := s.fd R.MON_STEPREM 0 16 - 1
    let s := s.setF R.MON_STEPREM 0 16 n
    if n = 0 then s else s.authTake (s.tck.now + 1#32) (s.tck.edge + BitVec.ofNat 48 s.periodLt) s.tck.edge

/-! ## The edge (R46, R22, R314, R518, R538, R613) -/

/-- The edge of the pending authorisation fires, with the gates as they read and the GPIO levels at phase 0, and phases 0 to 63 follow. -/
def State.tickEdge (s : State) (gates : Nat) (gpio : List (Option Bool)) : State :=
  match s.tck.pend with
  | none => s
  | some a =>
    if !(s.tck.state == .armed || s.ticking) || s.tck.inTick then s
    else
      let s := s.phase0 a.num a.edge false gates gpio
      let s := s.stepNext
      let n := min 32 s.cyc.cmdq.length
      let s := ((s.reach 1).commitEdge.reach 8).commitSp a.num
      let s := s.execQueue n 16
      let s := s.reach 48
      let s := if s.frozen || !s.ticking then s else s.phase48.seqStep.latchTargets
      if s.ticking then s.phase56.settleOut else s.settleOut

/-- The number of synthetic ticks of a holdover (R60). -/
def State.synthMax (s : State) : Nat := min (s.fd R.TCK_HOLD 0 7) (20000 / s.periodUs)

/-- The line-time `k` periods after E1. -/
def State.coastEdge (s : State) (k : Nat) : LineTime := s.tck.e1 + BitVec.ofNat 48 (k * s.periodLt)

/-- The pending authorisation schedules its edge at a line-time. -/
def State.pendAt (s : State) (t : LineTime) : Bool :=
  match s.tck.pend with
  | some a => a.edge == t
  | none => false

/-- At E1 − 400 with no authorisation pending HOLDOVER begins (R60, R68). -/
def State.holdoverEntry (s : State) : State :=
  if s.tck.state ≠ .run ∨ s.tck.pend.isSome ∨ s.bench then s
  else
    let e1 := s.tck.edge + BitVec.ofNat 48 s.periodLt
    let s := { s with lt := e1 - 400#48, tck := { s.tck with state := .holdover, e1 := e1 } }
    ((s.wr R.TCK_HCOUNT 0#32).raise P.TCK 3).settleOut

/-- PARK and the DECAY that is treated as PARK, at phase 0 of the first synthetic tick (Table 1-6, R64, R65). -/
def State.coastPark (s : State) : State :=
  let on := (List.range 8).filter fun n => s.bit (rCTRL (P.LP n)) 0
  let free := on.any fun n => s.coast n == 1 && !((List.range 4).any fun j => s.bound j n)
  let s := s.raiseIf free P.TCK 7
  if free || on.any (fun n => s.coast n == 2) then s.stageSafe else s

/-- A synthetic tick fires on the holdover schedule (R62, R551, R558). -/
def State.synthTick (s : State) (gates : Nat) (gpio : List (Option Bool)) : State :=
  let k := s.fd R.TCK_HCOUNT 0 7
  if s.tck.state ≠ .holdover ∨ s.tck.inTick ∨ k ≥ s.synthMax ∨ s.pendAt (s.coastEdge k) then s
  else
    let num := s.tck.now + 1#32
    let s := s.phase0 num (s.coastEdge k) true gates gpio
    let s := s.setF R.TCK_HCOUNT 0 7 (k + 1)
    let s := if k = 0 ∧ !s.frozen then s.coastPark else s
    let s := ((s.reach 1).commitEdge.reach 8).dropSp num
    let s := s.reach 48
    let s := if s.frozen then s
      else
        let s := s.arbitrateAll
        let s := if s.seq.state = 2 ∨ s.seq.state = 3 then { s with seq := { s.seq with syn := true } } else s
        s.latchTargets
    s.phase56.settleOut

/-- The holdover has no further synthetic tick, and no authorised edge at the next line-time of its schedule, which is E1 + N × 100 × P, or the next scheduled edge where TCK.HOLD.MAX
has been lowered since (R61). -/
def State.exhausted (s : State) : Bool :=
  s.tck.state == .holdover && decide (s.fd R.TCK_HCOUNT 0 7 ≥ s.synthMax) && !s.pendAt (s.coastEdge (s.fd R.TCK_HCOUNT 0 7))

/-- The end of a tick, every part of Table 1-2 having run (R24): pair states, then an entry to SAFE or IDLE (R49, R82). `temp` is the die temperature the guard window converted, in
1/16 °C (R512). -/
def State.tickEnd (s : State) (temp : Int := 400) : State :=
  if !s.turn 7 s.tickLen then s
  else
    let s := (s.wr R.ADC_TDIE (wdI temp)).twinEnd
    let s := { s with lt := s.tck.edge + BitVec.ofNat 48 s.periodLt }
    let s := if s.tck.safeReq ≠ [] && s.exhausted then s.askSafe 1 else s
    s.tickOver.settleOut

/-- At E1 + N × 100 × P with no authorised edge TCK enters SAFE (R61). -/
def State.holdoverEnd (s : State) : State :=
  if s.tck.inTick ∨ !s.exhausted then s
  else
    let s := { s with lt := s.coastEdge (s.fd R.TCK_HCOUNT 0 7) }
    (s.enterSafe (s.tck.safeReq ++ [1])).settleOut

/-! ## Slots (R54, R55, R563, R589 to R592) -/

/-- The strobe of the next slot is due: the slot before it is evaluated, and the parts of Table 1-2 that come before the strobe have begun (R24, R54). -/
def State.strobeDue (s : State) : Bool :=
  s.ticking && s.tck.inTick && decide (s.adc.slot < s.slots) && s.tck.evals == s.adc.slot && decide (s.slotDue ≤ s.partDue)

/-- The strobe of the next slot: the raw codes of the six converter positions, and the Hall levels; the comparator states are latched with them (R54). At the shadow of a pair the
samples wait for the agreement deadline. -/
def State.slotStrobe (s : State) (raws : List Int) (hall : Nat) : State :=
  if !s.strobeDue then s
  else
    let s := s.atPhase (s.adc.slot * s.slotLen + s.fd R.TCK_STROBE 0 18)
    let s := { s with vec := { s.vec with hall := hall % 8, hallL := hall % 8, encL := s.vec.enc }, pst := { s.pst with condL := s.pst.cond } }
    let s := { s with twn := { s.twn with due := !s.twn.role && decide (3 ≤ s.twn.pstate) && decide (s.twn.pstate ≤ 5), sample := none } }
    if s.frozen then { s with adc := { s.adc with slot := s.adc.slot + 1 } }
    else
      let s := s.sample raws
      if s.agrees then s else s.seqSample

/-- The latency from strobe to output write (R55). -/
def State.latency (s : State) : Nat := if s.tck.lat then 320 else 128

/-- The evaluation of the slot in progress is due: its strobe has been and its samples are agreed, its outputs are not written (R55, R682). -/
def State.evalDue (s : State) : Bool := s.ticking && s.tck.inTick && !(s.agrees && s.twn.due) && decide (s.tck.evals < s.adc.slot) && decide (s.slotDue ≤ s.partDue)

/-- The evaluation of the slot in progress and its output write. -/
def State.engineTick (s : State) : State :=
  if !s.evalDue then s
  else
    let s := s.atPhase ((s.adc.slot - 1) * s.slotLen + s.fd R.TCK_STROBE 0 18 + s.latency)
    let s := { s with tck := { s.tck with evals := s.adc.slot }, ctl := { s.ctl with binW := s.ctl.binW.filter fun e => decide (s.tck.phase ≤ e.2 + 32) } }
    if s.frozen then s
    else ((s.evaluate).seqComp.unagHold).settleOut

/-- An edge on HALL1 (channel 0) or HALL2 (channel 1): the quadrature count moves (R592). -/
def State.encoderEdge (s : State) (chan : Nat) : State :=
  let k := chan % 2
  let h := s.vec.hall ^^^ 2 ^ k
  let a := h.testBit 0
  let b := h.testBit 1
  let lead := if k = 0 then a != b else a == b
  let up := lead == Config.encForward
  if s.frozen then { s with vec := { s.vec with hall := h } }
  else { s with vec := { s.vec with hall := h, enc := (BitVec.ofInt 32 (if up then s.vec.enc + 1 else s.vec.enc - 1)).toInt } }

/-- An edge on HALL3: with ZEN it sets the count to 0 (R592). -/
def State.encoderZ (s : State) : State :=
  let s := { s with vec := { s.vec with hall := s.vec.hall ^^^ 4 } }
  if s.bit (rCTRL P.VEC) 7 && !s.frozen then (({ s with vec := { s.vec with enc := 0 } } : State).raise P.VEC 5).settleOut else s

end Sys2Proof.Machine
end

