-- ==== Sys2Proof/Machine/Map.lean ====
section
/-! DEFINITION. The memory map as the core and the monitor see it: regions, widths, the MPU, check bits and parity (R344, R345, R398, R431 to R436). -/

namespace Sys2Proof.Machine

/-- The region that holds an address. -/
def memRegion (a : Nat) : Option Region :=
  if a ≤ 0x7FFF then some .boot
  else if inPflash a then some .pflash
  else if inDflash a then some .dflash
  else if inSram a then some .sram
  else if inList a then some .list
  else if 0x31000000 ≤ a ∧ a ≤ 0x3101FFFF then some .trace
  else if inBin a then some .bin
  else if inCarr a then some .carrier
  else if 0x40000000 ≤ a ∧ a ≤ 0x4000FFFF ∧ populated (a - 0x40000000) then some .regs
  else none

/-- What kind of access is made. -/
inductive AccKind where
  | fetch | load | store
  deriving DecidableEq, Repr

/-- Width and direction permitted by Table 7-3. -/
def widthOk (k : AccKind) (w : Nat) (g : Region) : Bool :=
  match k, g with
  | .fetch, _ => true
  | .load, .boot => true
  | .load, .pflash => true
  | .load, .dflash => true
  | .load, .sram => true
  | .load, _ => w == 4
  | .store, .sram => true
  | .store, .list => w == 4
  | .store, .bin => w == 4
  | .store, .carrier => w == 4
  | .store, .regs => w == 4
  | .store, _ => false

/-- Regions the core may execute from. -/
def execOk (g : Region) : Bool := g == .boot || g == .pflash || g == .sram

/-- Load cycles of Table 7-3. -/
def loadCyc (g : Region) : Nat :=
  match g with
  | .pflash => 5
  | .dflash => 6
  | .carrier => 3
  | .regs => 3
  | _ => 2

/-- Drain cycles of Table 7-3. -/
def drainCyc (g : Region) (w : Nat) : Nat := if g == .regs || (g == .sram && w != 4) then 2 else 1

/-- The lowest-numbered region of the MPU that matches an address (R431, R432). -/
def State.mpuRegion (s : State) (a : Nat) : Option Nat :=
  (List.range 8).find? fun r =>
    s.bit (R.MPU_RATTR0 + 4 * r) 0 && decide ((s.rd (R.MPU_RBASE0 + 4 * r)).toNat ≤ a) &&
    decide (a ≤ (s.rd (R.MPU_RLIM0 + 4 * r)).toNat + 31) &&
    decide ((s.rd (R.MPU_RBASE0 + 4 * r)).toNat ≤ (s.rd (R.MPU_RLIM0 + 4 * r)).toNat)

/-- The bit of RATTR an access needs (Table 8-11). -/
def mpuBit (k : AccKind) (sup : Bool) : Nat :=
  (match k with
    | .load => 1
    | .store => 2
    | .fetch => 3) + (if sup then 3 else 0)

/-- The MPU permits an access (R433, R434). -/
def State.mpuOk (s : State) (k : AccKind) (sup : Bool) (a : Nat) : Bool :=
  if sup && !s.bit (rCTRL P.MPU) 0 then true
  else match s.mpuRegion a with
    | some r => s.bit (R.MPU_RATTR0 + 4 * r) (mpuBit k sup)
    | none => sup

/-- The core's path at a level. -/
def corePath (sup : Bool) : Path := if sup then .coreSup else .coreUser

/-- The core reaches a register (R140, R142). -/
def State.coreReach (s : State) (k : AccKind) (sup : Bool) (a : Nat) : Bool :=
  if k = .store then !s.denied (corePath sup) a else s.reachR (corePath sup) (a / 256)

/-- The lowest-numbered reason of Table 8-3 that refuses an access of the core, if any. -/
def State.accessFault (s : State) (k : AccKind) (w a : Nat) : Option Nat :=
  match memRegion a with
  | none => some 1
  | some g =>
    if !widthOk k w g then some 2
    else if a % w ≠ 0 then some 3
    else if k = .fetch && !execOk g then some 4
    else if !s.mpuOk k s.cpu.psr.sup a then some 5
    else if g = .regs && !s.coreReach k s.cpu.psr.sup (a - 0x40000000) then some 6
    else none

/-- Record an MPU denial (R436, Table 8-10): kind 0 fetch, 1 load, 2 store, 3 gate pointer. -/
def State.mpuDeny (s : State) (kind a : Nat) (sup : Bool) : State :=
  let s := s.wr R.MPU_DADDR (wd a)
  let s := s.wr R.MPU_DINFO (wd (kind + 4 * sup.toNat + (match s.mpuRegion a with
    | some r => 16 * r
    | none => 128)))
  s.raise P.MPU 0

/-- A word of trace RAM (R344, R647): a record's half, or what is left where nothing is held. -/
def State.traceWord (s : State) (off : Nat) : Word := (s.trcAt (off / 8)).extractLsb' (if off % 8 < 4 then 0 else 32) 32

/-- A word of trace RAM as a core load finds it: in RUN and HOLDOVER the record of phase 63 (R69). -/
def State.traceCore (s : State) (off : Nat) : Word :=
  match (if s.ticking then Sparse.find s.trc.ramS (off / 8) else none) with
  | some r => r.extractLsb' (if off % 8 < 4 then 0 else 32) 32
  | none => s.traceWord off

/-- A byte as a core load finds it: in RUN and HOLDOVER, where hardware has overwritten it since, the byte of phase 63 (R69). -/
def State.coreB (s : State) (a : Nat) : Byte := ((if s.ticking then Sparse.find s.snapB a else none)).getD (s.rdB a)

/-- A little-endian value of `w` bytes as a core load finds it. -/
def State.coreN (s : State) (a : Nat) : Nat → Nat
  | 0 => 0
  | w + 1 => (s.coreB a).toNat + 256 * s.coreN (a + 1) w

/-- A word of memory beside the register window. -/
def State.memWord (s : State) (g : Region) (a : Nat) : Word := if g = .trace then s.traceWord (a - 0x31000000) else s.rdW a

/-- A read of list RAM is checked for parity (R818). -/
def State.memCheck (s : State) (g : Region) (a : Nat) : State := if g = .list then s.listCheck ((a - 0x30000000) / 4) else s

/-- A flash array cannot be read while an operation runs (R364, R759). -/
def State.flashWait (s : State) (g : Region) : Bool := s.fls.op.isSome && (g == .pflash || g == .dflash)

end Sys2Proof.Machine
end

