-- ==== Sys2Proof/Machine/Cpu.lean ====
section
/-! DEFINITION. The Badger core's shared operations: registers and banks, time, the write buffer, double faults and traps, Scree, and what an instruction boundary
considers (chapters 7 and 8). -/

namespace Sys2Proof.Machine

/-! ## Registers, banks, status -/

/-- The current bank (R339): 0 to 15 the ring, 16 the trap bank, 17 the emergency bank. -/
def State.bank (s : State) : Nat := if s.cpu.psr.tb then 16 else if s.cpu.psr.eb then 17 else s.cpu.ftop % 16

/-- The key of register number `r` (R336). -/
def State.grKey (s : State) (r : Nat) : Nat := if r < 8 then 144 + r else s.bank * 8 + (r - 8)

/-- Read a register by its key. -/
def State.key (s : State) (k : Nat) : Word := Sparse.get (fun _ => 0#32) s.cpu.gpr k

/-- Write a register by its key. -/
def State.setKey (s : State) (k : Nat) (v : Word) : State :=
  { s with cpu := { s.cpu with gpr := Sparse.put (fun _ => 0#32) s.cpu.gpr k v } }

/-- Read a register; c0 reads zero (R337). -/
def State.gr (s : State) (r : Fin 16) : Word := if r.val = 0 then 0#32 else s.key (s.grKey r.val)

/-- Write a register; a result for c0 is discarded (R337). -/
def State.setGr (s : State) (r : Fin 16) (v : Word) : State := if r.val = 0 then s else s.setKey (s.grKey r.val) v

/-- Read one register of a bank. -/
def State.getBank (s : State) (bank i : Nat) : Word := s.key (bank * 8 + i)

/-- Write one register of a bank. -/
def State.setBank (s : State) (bank i : Nat) (v : Word) : State := s.setKey (bank * 8 + i) v

/-- Common register number `n`, 1 to 7. -/
def State.com (s : State) (n : Nat) : Word := s.key (144 + n)

/-- Write a common register. -/
def State.setCom (s : State) (n : Nat) (v : Word) : State := s.setKey (144 + n) v

/-- Give a bank b0 to b6 zero and b7 a value (R348, R349). -/
def State.freshBank (s : State) (bank : Nat) (b7 : Word) : State :=
  ([0, 1, 2, 3, 4, 5, 6].foldl (fun (s : State) i => s.setBank bank i 0#32) s).setBank bank 7 b7

/-- Set the program counter. -/
def State.setPc (s : State) (v : Word) : State := { s with cpu := { s.cpu with pc := v } }

/-- The address of the next instruction. -/
def State.nextPc (s : State) : Word := s.cpu.pc + 4#32

/-- Go on to the next instruction. -/
def State.advance (s : State) : State := s.setPc s.nextPc

/-- Change the status. -/
def State.setPsr (s : State) (p : Psr) : State := { s with cpu := { s.cpu with psr := p } }

/-- The status word (Table 7-2). -/
def psrWord (p : Psr) : Word :=
  wd (p.sup.toNat + 2 * p.ie.toNat + 4 * p.tb.toNat + 8 * p.eb.toNat + 16 * p.crit.toNat + 32 * p.lp.toNat + 64 * p.sat.toNat)

/-- Set PSR.SAT when an operation saturates. -/
def State.setSat (s : State) (b : Bool) : State := if b then s.setPsr { s.cpu.psr with sat := true } else s

/-- CPU.DEPTH rises by a frame, saturating (R348). -/
def State.deeper (s : State) : State := s.setF R.CPU_DEPTH 0 16 (min 0xFFFF (s.fd R.CPU_DEPTH 0 16 + 1))

/-- CPU.DEPTH falls by a frame (R350). -/
def State.shallower (s : State) : State := s.setF R.CPU_DEPTH 0 16 (s.fd R.CPU_DEPTH 0 16 - 1)

/-! ## The fixed timing (R361 to R364) -/

/-- The first phase at which the budget has ended. -/
def State.budgetEnd (s : State) : Nat := 64 + s.tck.budget

/-- The core runs against the budget of a tick. -/
def State.budgeted (s : State) : Bool := s.ticking && s.tck.inTick

/-- A critical window goes on past the end of the budget: it is counted once (R379). -/
def State.overrun (s : State) : State :=
  if s.cpu.ovrThis then s
  else ({ s with cpu := { s.cpu with ovrThis := true, ovrct := min 255 (s.cpu.ovrct + 1) } } : State).raise P.CPU 0

/-- A prefetch in progress comes nearer, and fills the buffer that does not hold the current line (R362). -/
def CpuSt.prefetch (c : CpuSt) (cyc : Nat) : CpuSt :=
  match c.pref with
  | none => c
  | some (l, n) => if n ≤ cyc then { c with pref := none, lines := c.lines.take 1 ++ [l] } else { c with pref := some (l, n - cyc) }

/-- The write buffer after `cyc` cycles: its entries drain in order (R366). -/
def drainBy : List BufStore → Nat → List BufStore
  | [], _ => []
  | e :: l, n => if e.left ≤ n then { e with left := 0 } :: drainBy l (n - e.left) else { e with left := e.left - n } :: l

/-- Core cycles pass: the phase of the tick, an open critical window, a prefetch and the drain of the write buffer move on. -/
def State.spend (s : State) (cyc : Nat) : State :=
  let s := { s with cpu := { s.cpu.prefetch cyc with wb := drainBy s.cpu.wb cyc } }
  let s := if s.budgeted then { s with tck := { s.tck with phase := s.tck.phase + cyc } } else s
  if s.cpu.psr.crit then
    let s := { s with cpu := { s.cpu with critLeft := s.cpu.critLeft - cyc } }
    if s.budgeted && decide (s.tck.phase > s.budgetEnd) then s.overrun else s
  else s

/-- The budget of the tick has ended (R57, R58). -/
def State.budgetOver (s : State) : Bool := s.budgeted && decide (s.tck.phase ≥ s.budgetEnd)

/-- `cyc` cycles from now pass the end of the budget. -/
def State.past (s : State) (cyc : Nat) : Bool := s.budgeted && decide (s.tck.phase + cyc > s.budgetEnd)

/-- Work of `cyc` cycles that begins now passes the end of the budget with no window open. -/
def State.overruns (s : State) (cyc : Nat) : Bool := !s.cpu.psr.crit && s.past cyc

/-- The cycles an open critical window has left (R417). -/
def State.winLeft (s : State) : Nat :=
  if s.budgeted then min s.cpu.critLeft (s.guardG - 1 - s.tck.phase) else s.cpu.critLeft

/-- Work of `cyc` cycles that begins now would not retire before the forced close of the window. -/
def State.tooLong (s : State) (cyc : Nat) : Bool := s.cpu.psr.crit && decide (cyc > s.winLeft)

/-- Words an abandoned entry or transfer has or has not written when it is cut, and whose content then carries no meaning (R379, R406): each stands, or takes a free value with valid
check bits. -/
def State.scribble : Nat → Nat → State → State
  | 0, _, s => s
  | n + 1, a, s =>
    let r := s.draw
    (if r.2.getLsbD 32 then r.1.memStore a 4 (r.2.extractLsb' 0 32) else r.1).scribble n (a + 4)

/-- A line of program flash leaves the buffers by a data read (R362). -/
def State.flushLines (s : State) : State := { s with cpu := { s.cpu with lines := [], pref := none } }

/-- Fetch at PC: the line buffers after it and the cycles it adds (R362, R363). -/
def State.fetchNow (s : State) : State × Nat :=
  let pc := s.cpu.pc.toNat
  let seq := decide (pc % 16 = 0) && s.cpu.pc == s.cpu.fetched + 4#32
  let c := { s.cpu with fetched := s.cpu.pc }
  if !inPflash pc then ({ s with cpu := c }, 0)
  else
    let l := pc / 16
    let next (c : CpuSt) (pen : Nat) : CpuSt :=
      if c.lines.contains (l + 1) || !inPflash (16 * (l + 1)) then c else { c with pref := some (l + 1, pen + 4) }
    if c.lines.contains l then
      let c := { c with lines := l :: c.lines.filter (· != l) }
      ({ s with cpu := if seq then next c 0 else c }, 0)
    else
      let c' := { c with lines := l :: c.lines.take 1, pref := none }
      match c.pref with
      | some (k, n) => if k = l ∧ seq = true then ({ s with cpu := next c' n }, n) else ({ s with cpu := next c' 3 }, 3)
      | none => ({ s with cpu := next c' 3 }, 3)

/-! ## The write buffer (R366 to R369, R412 to R414) -/

/-- A late store error becomes pending; a second one sets MULTI (R412, R413). -/
def State.pendLate (s : State) (a sub : Nat) : State :=
  match s.cpu.late with
  | none => { s with cpu := { s.cpu with late := some ⟨wd a, sub, false⟩ } }
  | some e => { s with cpu := { s.cpu with late := some { e with multi := true } } }

/-- A core store to a bin in a tick, kept for the evaluation that may learn into it (R629). -/
def State.binTouch (s : State) (a : Nat) : State :=
  if s.ticking && s.tck.inTick then { s with ctl := { s.ctl with binW := (a, s.tck.phase) :: s.ctl.binW } } else s

/-- A store lands on its target (R369, R819). -/
def State.landStore (s : State) (e : BufStore) (ecc : Ecc) : State :=
  match memRegion e.addr with
  | some .regs =>
    let r := s.landWrite (corePath e.sup) (e.addr - 0x40000000) e.data
    if r.2 = 3 then s.pendLate e.addr 6 else r.1
  | some .sram =>
    if e.width = 4 then s.memStore e.addr 4 e.data
    else
      match s.eccAt .sram e.addr ecc with
      | .uncorrectable => (s.memReport .sram e.addr P.CPU .uncorrectable).pendLate e.addr 1
      | x => (s.memReport .sram e.addr P.CPU x).memStore e.addr e.width e.data
  | some .bin => (s.memStore e.addr e.width e.data).binTouch e.addr
  | some _ => s.memStore e.addr e.width e.data
  | none => s

/-- The entry at the front of the write buffer leaves it; `ecc` is what its merge meets beside what the store has said. -/
def State.drainOne (s : State) (ecc : Ecc) : State :=
  match s.cpu.wb with
  | [] => s
  | e :: rest => ({ s with cpu := { s.cpu with wb := rest } } : State).landStore e (e.ecc.or ecc)

/-- The first `n` entries leave. -/
def State.drain : Nat → State → State
  | 0, s => s
  | n + 1, s => (s.drainOne .ok).drain n

/-- Up to `n` entries whose drain cycles are over leave, in order. -/
def State.landDue : Nat → State → State
  | 0, s => s
  | n + 1, s =>
    match s.cpu.wb with
    | [] => s
    | e :: _ => if e.left = 0 then (s.drainOne .ok).landDue n else s

/-- The entries whose drain cycles are over leave (R366). -/
def State.storesOut (s : State) : State := s.landDue s.cpu.wb.length

/-- What an instruction or an entry does after stores have left the buffer: nothing, where one of them has reset the core. -/
def State.unlessReset (s : State) (f : State → State) : State := if s.cpu.held then s else f s

/-- The drain cycles that entries of the buffer still take. -/
def drainTime (l : List BufStore) : Nat := (l.map BufStore.left).sum

/-- How many entries must leave before a load of a word (R367). -/
def waitFor (l : List BufStore) (word : Nat) : Nat := l.length - (l.reverse.takeWhile fun e => e.addr / 4 != word).length

/-- A load meets a drain at its target: the drain waits one cycle (R368). -/
def State.stall (s : State) (hit : Option Region) : State :=
  match s.cpu.wb with
  | [] => s
  | e :: rest => if memRegion e.addr = hit then { s with cpu := { s.cpu with wb := { e with left := e.left + 1 } :: rest } } else s

/-- Core cycles pass, and the stores whose drain ends in them leave. -/
def State.pass (s : State) (cyc : Nat) : State := (s.spend cyc).storesOut

/-- The work is abandoned at the end of the budget (R379); drains and a prefetch go on until then. -/
def State.toBudgetEnd (s : State) : State := s.pass (s.budgetEnd - s.tck.phase)

/-! ## Double faults and heavy traps (R409, R420, R421) -/

/-- A double fault of a kind of R420, acting as R421. -/
def State.doubleFault (s : State) (kind : Nat) : State :=
  let pc := s.cpu.pc
  let cause := s.cpu.cause
  let s := s.safetyAct
  let s := if s.bit (rFLT P.CPU) 0 then s
    else (s.wr (rFLT P.CPU) (setBit (s.rd (rFLT P.CPU)) 0 true)).logPush 7 P.CPU (wd (kind % 8 + cause.toNat % 2 ^ 19 * 256)) pc
  let s := s.coreReset
  let s := { s with cpu := { s.cpu with held := true } }
  let s := (s.setF R.SYS_RSTCAUSE 7 1 1).detect 0x0C P.CPU (wd kind)
  s.safeNow

/-- The 128 bytes of the Sett lie in SRAM (R409). -/
def State.settOk (s : State) : Bool := inSram s.cpu.sett.toNat && inSram (s.cpu.sett.toNat + 127)

/-- The CAUSE word of a heavy trap (Table 8-2). -/
def causeWord (code sub : Nat) (multi wbrk : Bool) : Word := wd (code + sub * 256 + 65536 + multi.toNat * 131072 + wbrk.toNat * 262144)

/-- The core cycles since phase 64 (Table 8-4). -/
def State.coreUse (s : State) : Word := if s.budgeted then wd (s.tck.phase - 64) else 0#32

/-- The 32 words of the Sett (Table 8-4); the word below c1 holds c0. -/
def State.settWords (s : State) (epc estat cause eaddr use : Word) : List Word :=
  [epc, estat, cause, eaddr, 0#32] ++ (List.range 7).map (fun i => s.com (i + 1)) ++ (List.range 8).map (fun i => s.getBank s.cpu.ftop i) ++
  [s.rd R.CPU_LACC_LO, s.rd R.CPU_LACC_HI, wd (s.cpu.ftop + s.cpu.res * 16 + s.fd R.CPU_DEPTH 0 16 * 65536), s.rd R.CPU_SCREE_PTR, s.tck.now, use, s.cpu.ssp,
    0#32, 0#32, 0#32, 0#32, 0#32]

/-- Write words to SRAM from an address up, with valid check bits. -/
def State.storeWords : List Word → Nat → State → State
  | [], _, s => s
  | w :: l, a, s => (s.memStore a 4 w).storeWords l (a + 4)

/-- Exchange c7 and SSP (R338); SSP keeps no bits [1:0]. -/
def State.swapStack (s : State) : State :=
  let c7 := s.com 7
  let s' := s.setCom 7 s.cpu.ssp
  { s' with cpu := { s'.cpu with ssp := c7 &&& 0xFFFFFFFC#32 } }

/-- The body of a heavy-trap entry, from the Sett words on (R409, R410). -/
def State.enterTrap (s : State) (epc cause eaddr use : Word) : State :=
  let est := psrWord s.cpu.psr
  let user := !s.cpu.psr.sup
  let s := s.storeWords (s.settWords epc est cause eaddr use) s.cpu.sett.toNat
  let s := { s with cpu := { s.cpu with epc := epc, estat := est, cause := cause, eaddr := eaddr } }
  let s := if user then s.swapStack else s
  let s := s.setPsr { s.cpu.psr with tb := true, sup := true, ie := false, crit := false, lp := false }
  (s.freshBank 16 0#32).setPc s.cpu.vbase

/-- The critical window closes (R416). -/
def State.closeWindow (s : State) : State :=
  { s with cpu := { s.cpu with psr := { s.cpu.psr with crit := false }, critLeft := 0 } }

/-- Heavy-trap entry (R409): `pre` cycles of the instruction before it, code, sub-code and MULTI, the address for EPC, that for EADDR where Table 8-1 gives one, and what else
the trap records. A window that is open closes as the entry begins (R416); an entry that the end of the budget cuts is abandoned, and as many Sett words as it had cycles for may have
been written (R406). -/
def State.heavyTrap (s : State) (pre code sub : Nat) (multi : Bool) (epc : Word) (eaddr : Option Word) (f : State → State) : State :=
  if s.cpu.psr.tb || s.cpu.psr.eb then s.doubleFault 3
  else if !s.settOk then s.doubleFault 4
  else
    if s.overruns pre then s.toBudgetEnd
    else if s.tooLong pre then s.pass s.winLeft
    else (s.pass pre).unlessReset fun (s : State) =>
      let wait := drainTime s.cpu.wb
      if s.past (wait + 36) then (s.closeWindow.scribble (min 32 (s.budgetEnd - s.tck.phase - wait)) s.cpu.sett.toNat).toBudgetEnd else
      let s := f s
      let use := s.coreUse
      let wbrk := s.cpu.psr.crit
      let left := drainTime s.cpu.wb
      (s.drain s.cpu.wb.length).unlessReset fun (s : State) => (s.enterTrap epc (causeWord code sub multi wbrk) (eaddr.getD s.cpu.eaddr) use).spend (left + 36)

/-! ## Scree (R352 to R360) -/

/-- CPU.SCREE_PTR moves, with its warning and high-water mark (R360). -/
def State.screeMove (s : State) (ptr : Word) : State :=
  let old := s.rd R.CPU_SCREE_PTR
  let s := s.wr R.CPU_SCREE_PTR ptr
  let s := if ptr.toNat > (s.rd R.CPU_SCREE_HWM).toNat then s.wr R.CPU_SCREE_HWM ptr else s
  let warn := (s.rd R.CPU_SCREE_WARN).toNat
  s.raiseIf (decide (old.toNat < warn) && decide (ptr.toNat ≥ warn)) P.CPU 2

/-- A spill is due for a forward rotation now. -/
def State.spillDue (s : State) : Bool := !s.cpu.psr.tb && !s.cpu.psr.eb && s.cpu.res == 16

/-- A spill is due and would pass SCREE_LIMIT (R354). -/
def State.spillBlocked (s : State) : Bool := s.spillDue && decide ((s.rd R.CPU_SCREE_PTR).toNat + 32 > s.cpu.screeLimit.toNat)

/-- The cycles a forward rotation adds for a spill. -/
def State.spillCyc (s : State) : Nat := if s.spillDue then 9 else 0

/-- Spill the oldest resident frame (R352). -/
def State.spill (s : State) : State :=
  let p := s.rd R.CPU_SCREE_PTR
  let s := s.storeWords ((List.range 8).map (fun i => s.getBank ((s.cpu.ftop + 1) % 16) i)) p.toNat
  (s.screeMove (p + 32#32)).inc R.CPU_SPILLS

/-- A forward rotation (Table 7-4) from the ring or the trap bank, b7 of the new bank given; the spill bound is already checked. -/
def State.forward (s : State) (b7 : Word) : State :=
  if s.cpu.psr.tb then
    ((s.setPsr { s.cpu.psr with tb := false, eb := true }).freshBank 17 b7).deeper
  else
    let s := if s.cpu.res = 16 then s.spill else { s with cpu := { s.cpu with res := s.cpu.res + 1 } }
    let t := (s.cpu.ftop + 1) % 16
    (({ s with cpu := { s.cpu with ftop := t } } : State).freshBank t b7).deeper

/-- What a backward rotation within the ring finds (R355, R356, R358). -/
inductive Back where
  | ok | fill | underflow | bad (addr : Nat)
  deriving DecidableEq, Repr

/-- What a backward rotation would do; `ecc` is what the fill's read of word `fillAt` of the frame meets. -/
def State.backKind (s : State) (ecc : Ecc) (fillAt : Fin 8) : Back :=
  if s.cpu.psr.eb || s.cpu.res ≠ 1 then .ok
  else if (s.rd R.CPU_SCREE_PTR).toNat ≤ s.cpu.screeBase.toNat then .underflow
  else
    let a := (s.rd R.CPU_SCREE_PTR).toNat - 32
    match (List.range 8).find? (fun i => s.badWord (a + 4 * i) || (ecc == .uncorrectable && i == fillAt.val)) with
    | some i => .bad (a + 4 * i)
    | none => .fill

/-- The backward rotation from the ring or the emergency bank (R350, R355), the fill's read of word `fillAt` meeting `ecc`. -/
def State.backward (s : State) (ecc : Ecc) (fillAt : Fin 8) : State :=
  if s.cpu.psr.eb then (s.setPsr { s.cpu.psr with eb := false, tb := true }).shallower
  else
    let t := (s.cpu.ftop + 15) % 16
    let s :=
      if s.cpu.res = 1 then
        let p := (s.rd R.CPU_SCREE_PTR).toNat - 32
        let s := (List.range 8).foldl (fun (s : State) i => s.setBank t i (s.rdW (p + 4 * i))) s
        ((s.screeMove (wd p)).inc R.CPU_FILLS).memReport .sram (p + 4 * fillAt.val) P.CPU ecc
      else { s with cpu := { s.cpu with res := s.cpu.res - 1 } }
    ({ s with cpu := { s.cpu with ftop := t } } : State).shallower

/-! ## The instruction boundary (R401 to R405) -/

/-- What acts at an instruction boundary (Table 8-5). -/
inductive Boundary where
  | off | close | park | expire | late | event (nm : Bool) (page : Nat) | issue
  deriving DecidableEq, Repr

/-- Page `p` presents a cause of the given class (R134, R136, R403); in a pair events of local and live pages present theirs when the TICKREC lists them, which at the
shadow says all: the event itself may be the lead's alone (R677). -/
def State.causeOn (s : State) (nm : Bool) (p : Nat) : Bool :=
  (List.range 16).any fun n =>
    let far := s.paired && (localPage p || livePage p)
    (s.bit (rEVT p) n && s.bit (rEVEN p) n || far && !s.twn.role) && ((s.level p n == 3) == nm) &&
    !(s.deferred.any fun d => d.1 == p && d.2.1 == n) && (!far || s.twn.listed.contains (p, n))

/-- The page of the light event that is taken first. -/
def State.causePage (s : State) (nm : Bool) : Option Nat := allPages.find? (s.causeOn nm)

/-- The core executes: the part runs, the core is neither parked nor held nor waiting in boot ROM, and TCK is not ARMED. -/
def State.coreOn (s : State) : Bool :=
  !s.pwr.inReset && s.pwr.mode == .run && !s.cpu.parked && !s.cpu.held && s.tck.state != .armed && !s.romWaits && !s.frozen

/-- The first applicable item of Table 8-5. -/
def State.boundary (s : State) : Boundary :=
  if !s.coreOn then .off
  else if s.cpu.psr.crit && s.winLeft == 0 then .close
  else if s.budgetOver && !s.cpu.psr.crit then .park
  else if s.cpu.expire then .expire
  else if s.cpu.psr.crit || s.cpu.psr.tb || s.cpu.psr.eb then .issue
  else if s.cpu.late.isSome then .late
  else match s.causePage true with
    | some p => .event true p
    | none =>
      match (if s.cpu.psr.ie then s.causePage false else none) with
      | some p => .event false p
      | none => .issue

/-- The instruction at PC can be fetched (R345, R364). -/
def State.fetchOk (s : State) : Bool :=
  (s.accessFault .fetch 4 s.cpu.pc.toNat).isNone && !s.flashWait ((memRegion s.cpu.pc.toNat).getD .sram)

/-- The next instruction issues: no item of Table 8-5 comes before it and it can be fetched. -/
def State.canIssue (s : State) : Bool := s.boundary = .issue && s.fetchOk

/-- What an instruction does once it issues: runs for some cycles and has an effect (`spill` tells that a spill is part of it); waits for stores to leave the buffer, runs for some
cycles, `hit` the target it reads, and has an effect (`long` tells a long instruction); meets a heavy trap with the cycles before its
entry, code, sub-code, EPC, EADDR and what else it records; meets a double fault; or waits for a flash operation. -/
inductive Act where
  | run (cyc : Nat) (spill : Bool) (f : State → State)
  | after (wait cyc : Nat) (hit : Option Region) (long : Bool) (f : State → State)
  | trap (cyc code sub : Nat) (epc : Word) (eaddr : Option Word) (f : State → State)
  | double (kind : Nat)
  | wait

/-- A trap whose EPC is the instruction and that records nothing else. -/
def State.trapAct (s : State) (code sub : Nat) (eaddr : Option Word) : Act := .trap 0 code sub s.cpu.pc eaddr id

/-- An instruction that has not retired is abandoned after `n` cycles; what a spill has written carries no meaning (R379). -/
def State.dropSpill (s : State) (spill : Bool) (n : Nat) : State :=
  if spill then s.scribble (min 8 n) (s.rd R.CPU_SCREE_PTR).toNat else s

/-- The long instruction that parked resumes (R381). -/
def State.resumed (s : State) : State :=
  { s with cpu := { s.cpu with long := s.cpu.long && !(s.cpu.psr.lp && s.cpu.pc == s.cpu.longPc) } }

/-- A long instruction has stopped before completion. -/
def State.longHeld (s : State) : State := s.setPsr { s.cpu.psr with lp := true }

/-- An instruction retires with an effect after a wait and `cyc` cycles, the stores whose drain ends in them out before it; where the end of the budget or the forced close of
a window comes first it is abandoned with none but what `drop` leaves of its cycles until then (R366, R379, R417). -/
def State.retire (s : State) (wait cyc : Nat) (hit : Option Region) (drop : Nat → State → State) (f : State → State) : State :=
  if s.overruns (wait + cyc) then (drop (s.budgetEnd - s.tck.phase) s).toBudgetEnd
  else if s.tooLong (wait + cyc) then (drop s.winLeft s).pass s.winLeft
  else (s.resumed.pass wait).unlessReset fun (t : State) => ((t.stall hit).pass cyc).unlessReset f

/-- Carry out what an instruction does, `pen` cycles of fetch first: the write buffer drains meanwhile. A long instruction that is cut before its first element parks as one (R379). -/
def State.perform (s : State) (pen : Nat) (a : Act) : State :=
  match a with
  | .run cyc spill f => s.retire 0 (pen + cyc) none (fun (n : Nat) (t : State) => t.dropSpill spill (n - pen)) f
  | .after wait cyc hit long f => s.retire (max pen wait) cyc hit (fun (_ : Nat) (t : State) => if long then t.longHeld else t) f
  | .trap cyc code sub epc ea f => s.heavyTrap (pen + cyc) code sub false epc ea f
  | .double k => s.doubleFault k
  | .wait => s

/-- No store leaves the write buffer within `cyc` cycles: the entry in front drains for longer (R366). -/
def State.holdsStores (s : State) (cyc : Nat) : Bool :=
  match s.cpu.wb with
  | [] => true
  | e :: _ => decide (cyc < e.left)

/-- Issue an instruction; it has no effect where it cannot issue. Its checks see what the stores have done that leave while it is fetched (R437). A fetch that the end of the budget or the close of a window cuts leaves the line buffers as they are, and so does
an instruction that waits for the flash. -/
def State.issue (s : State) (plan : State → Act) : State :=
  if s.canIssue then
    let r := s.fetchNow
    if s.overruns r.2 then s.toBudgetEnd
    else if s.tooLong r.2 then s.pass s.winLeft
    else if s.holdsStores r.2 then
      match plan s with
      | .wait => s
      | a => r.1.perform r.2 a
    else (r.1.pass r.2).unlessReset fun (t : State) => t.perform 0 (plan t)
  else s

/-- The core parks (R379, R380, R382); cycles of a critical window past the end of the budget are not counted. -/
def State.park (s : State) : State :=
  let use := s.tck.phase - 64
  let lp := s.cpu.psr.lp
  (s.parkWith (if s.cpu.ovrThis then min use s.tck.budget else use)).raiseIf lp P.CPU 1

/-- A critical window reaches its bound: it is force-closed and CRIT_EXPIRE becomes pending (R417, R418); while the trap or emergency bank is current that is a
double fault (R420). -/
def State.forceClose (s : State) : State :=
  if !(s.coreOn && s.cpu.psr.crit) then s
  else
    (s.pass s.winLeft).unlessReset fun (s : State) =>
      if s.cpu.psr.tb || s.cpu.psr.eb then s.doubleFault 3
      else
        let s := s.closeWindow
        { s with cpu := { s.cpu with expire := true } }

/-- CRIT_EXPIRE is taken where it is the next item (R401). -/
def State.takeExpire (s : State) : State :=
  if s.boundary = .expire then
    s.heavyTrap 0 0x1C 0 false s.cpu.pc none fun (s : State) => { s with cpu := { s.cpu with expire := false } }
  else s

/-- LATE_STORE is taken where it is the next item (R401, R412). -/
def State.takeLate (s : State) : State :=
  match s.cpu.late with
  | none => s
  | some e =>
    if s.boundary = .late then
      s.heavyTrap 0 0x1D e.sub e.multi s.cpu.pc (some e.addr) fun (s : State) => { s with cpu := { s.cpu with late := none } }
    else s

/-- Light-event entry (R407). -/
def State.lightEntry (s : State) : State :=
  match s.boundary with
  | .event nm page =>
    if s.spillBlocked then s.heavyTrap 0 0x17 0 false s.cpu.pc (some (s.rd R.CPU_SCREE_PTR)) id
    else
      let cyc := 3 + s.spillCyc
      if s.overruns cyc then (s.dropSpill s.spillDue (s.budgetEnd - s.tck.phase)).toBudgetEnd
      else (s.pass cyc).unlessReset fun (s : State) =>
        let est := psrWord s.cpu.psr
        let s := { s with cpu := { s.cpu with epc := s.cpu.pc, estat := est } }
        let s := s.forward 0#32
        let s := { s with cpu := { s.cpu with cause := wd ((if nm then 2 else 1) + page * 256) } }
        (s.setPsr { s.cpu.psr with sup := true, ie := false, lp := false }).setPc s.cpu.vbase
  | _ => s

/-- At the end of the budget an open critical window goes on, and otherwise the core parks (R379). -/
def State.endBudget (s : State) : State :=
  if !s.coreOn || !s.budgeted then s
  else
    let s := s.atPhase s.budgetEnd
    if s.cpu.psr.crit then s.overrun else s.park

/-- The heavy trap or light event that is the next item of Table 8-5 is entered (R401). -/
def State.consider (s : State) : State :=
  match s.boundary with
  | .expire => s.takeExpire
  | .late => s.takeLate
  | .event _ _ => s.lightEntry
  | _ => s

/-- At phase 64 the budget of the tick begins (R24): the core runs on from where it parked, and pending exceptions are considered (R381, R405). A core that is held, waits in boot ROM, or
belongs to a shadow in TRACK stays where it is. -/
def State.coreResume (s : State) : State :=
  if !s.turn 1 64 then s
  else
    let s := s.partTo 1 64
    if s.cpu.parked && !s.cpu.held && !s.romWaits && !s.frozen then ({ s with cpu := { s.cpu with parked := false } } : State).consider else s

/-! ## Transfers -/

/-- A transfer to a target, or IALIGN where it is not word-aligned (R365). -/
def State.jumpAct (s : State) (target : Word) : Act :=
  if fld target 0 2 ≠ 0 then s.trapAct 0x12 0 (some target) else .run 2 false fun s => s.setPc target

/-- A branch (Table 7-7). -/
def State.branchAct (s : State) (taken : Bool) (off : BitVec 18) : Act :=
  if taken then s.jumpAct (s.cpu.pc + (off.signExtend 32 <<< 2)) else .run 1 false State.advance

/-- A call: forward rotation with the return address in b7, then the jump (R348, R351, R354). -/
def State.callAct (s : State) (target : Word) : Act :=
  if fld target 0 2 ≠ 0 then s.trapAct 0x12 0 (some target)
  else if s.cpu.psr.eb then .double 1
  else if s.spillBlocked then s.trapAct 0x17 0 (some (s.rd R.CPU_SCREE_PTR))
  else .run (2 + s.spillCyc) s.spillDue fun s => (s.forward s.nextPc).setPc target

/-- The backward rotation of RET, GRET or ERET and what follows it, or the trap that stands in its way (R355, R356, R358). -/
def State.backAct (s : State) (cyc : Nat) (ecc : Ecc) (fillAt : Fin 8) (f : State → State) : Act :=
  match s.backKind ecc fillAt with
  | .underflow => s.trapAct 0x18 0 none
  | .bad a => .trap 0 0x16 3 s.cpu.pc (some (wd a)) fun s => s.memReport .sram a P.CPU .uncorrectable
  | .ok => .run cyc false fun s => f (s.backward ecc fillAt)
  | .fill => .run (cyc + 9) false fun s => f (s.backward ecc fillAt)

end Sys2Proof.Machine
end

