-- ==== Sys2Proof/Machine/CpuMem.lean ====
section
/-! DEFINITION. Loads and stores, long instructions, special registers and gates of the Badger core (chapters 7 and 8). -/

namespace Sys2Proof.Machine

/-! ## Register and memory reads of the core (R69 to R74, R390, R677, R679, R809) -/

/-- A core read of what is local to this device while TCK.CTRL.LIVEGUARD is 1 (R74). -/
def State.liveRead (s : State) : State := s.raiseIf (s.ticking && s.bit (rCTRL P.TCK) 8) P.TCK 8

/-- Reads of a page are live reads (R70, R679). -/
def State.readsLive (s : State) (a : Nat) : Bool := livePage (a / 256) || a == R.PWR_AONCNT || (s.paired && localWord a)

/-- The value of phase 63 a core read returns, where one is kept (R69): a register's, or a word of the log entry LOG.RIDX names. -/
def State.snapAt (s : State) (a : Nat) : Option Word :=
  if R.LOG_RD0 ≤ a ∧ a ≤ R.LOG_RD0 + 12 then (Sparse.find s.log.ringS (s.fd R.LOG_RIDX 0 8)).map fun e => e.word ((a - R.LOG_RD0) / 4)
  else Sparse.find s.snap a

/-- A core read of a register, by its offset in the window: live, the value of phase 63, or the present value; CLK.LT_HI holds what the last read of CLK.LT_LO left, and reads
present before the first (R40). -/
def State.coreRead (s : State) (a : Nat) : State × Word :=
  let s := if s.readsLive a then s.liveRead else s
  if a = R.CLK_LT_HI then
    match s.clk.ltHi with
    | some v => (s, v.setWidth 32)
    | none => s.fetchReg a
  else if a = R.CLK_LT_LO then
    let r := s.fetchReg a
    ({ r.1 with clk := { r.1.clk with ltHi := some (r.1.lt.extractLsb' 32 16) } }, r.2)
  else
    match (if s.ticking && !s.readsLive a then s.snapAt a else none) with
    | some v => (s, v)
    | none =>
      let r := s.fetchReg a
      (r.1, match s.pointWord a with
        | some w => wd (s.coreN w 4)
        | none => r.2)

/-- Memory a core load of which is a live read: the carrier table (R287), and in a pair what lies outside tracked state (R679). -/
def State.localMem (s : State) (g : Region) (a : Nat) : Bool :=
  g == .carrier || g == .trace || (s.paired && ((g == .sram && (s.twinPage a).isNone)))

/-! ## Loads and stores (R344, R345, R366 to R369) -/

/-- Sign- or zero-extension of a loaded value of `w` bytes. -/
def extendLoad (w : Nat) (signed : Bool) (v : Nat) : Word := if signed then wdI (sgn (8 * w) v) else wd (v % 2 ^ (8 * w))

/-- The access fault of an exception code, an MPU denial recorded with its kind (R398, R436). -/
def State.accessAct (s : State) (code sub kind a : Nat) : Act :=
  .trap 0 code sub s.cpu.pc (some (wd a)) fun (t : State) => if sub = 5 then t.mpuDeny kind a s.cpu.psr.sup else t

/-- The effect of a load of `w` bytes from a region, its checks made. -/
def State.loaded (s : State) (g : Region) (w : Nat) (signed : Bool) (rd : Fin 16) (a : Nat) (e : Ecc) : State :=
  let s := if s.localMem g a then s.liveRead else s
  if g = .regs then
    let r := s.coreRead (a - 0x40000000)
    (r.1.setGr rd r.2).advance
  else
    let s := (s.memReport g a P.CPU e).memCheck g a
    let s := if g = .pflash then s.flushLines else s
    (s.setGr rd (if g = .trace then s.traceCore (a - 0x31000000) else extendLoad w signed (s.coreN a w))).advance

/-- A load of `w` bytes: the checks, the wait for buffered stores to the same word, the read. -/
def State.loadAct (s : State) (w : Nat) (signed : Bool) (rd : Fin 16) (a : Nat) (ecc : Ecc) : Act :=
  match s.accessFault .load w a, memRegion a with
  | some sub, _ => s.accessAct 0x14 sub 1 a
  | none, none => .wait
  | none, some g =>
    let n := waitFor s.cpu.wb (a / 4)
    let wait := drainTime (s.cpu.wb.take n)
    if s.flashWait g then .wait
    else if (s.drain n).eccAt g a ecc = .uncorrectable then
      .trap (wait + loadCyc g) 0x16 2 s.cpu.pc (some (wd (a - a % 4))) fun (t : State) => t.memReport g a P.CPU .uncorrectable
    else .after wait (loadCyc g) (some g) false fun (t : State) => t.loaded g w signed rd a (t.eccAt g a ecc)

/-- A trap comes `n` cycles later. -/
def Act.later (n : Nat) : Act → Act
  | .trap cyc code sub epc ea f => .trap (n + cyc) code sub epc ea f
  | a => a

/-- A store of `w` bytes enters the write buffer after its checks, which are made as it enters (R369); a full buffer first lets an entry leave. `ecc` is what its merge will meet. -/
def State.storeAct (s : State) (w : Nat) (v : Word) (a : Nat) (ecc : Ecc) : Act :=
  let wait := if s.cpu.wb.length ≥ 4 then drainTime (s.cpu.wb.take 1) else 0
  match (if s.cpu.wb.length ≥ 4 then s.pass wait else s).accessFault .store w a with
  | some sub => (s.accessAct 0x15 sub 2 a).later wait
  | none =>
    .after wait 1 none false fun (t : State) =>
      ({ t with cpu := { t.cpu with wb := t.cpu.wb ++ [⟨a, w, v, t.cpu.psr.sup, drainCyc ((memRegion a).getD .sram) w, ecc⟩] } } : State).advance

/-! ## Long instructions (R370 to R376) -/

/-- Which long instruction. -/
inductive LongOp where
  | bmove | bfill | vmac16 | vmac32 | bcrc32 | bcrc16
  deriving DecidableEq, Repr

/-- The instruction reads its source anywhere R372 allows. -/
def LongOp.wide (op : LongOp) : Bool := op == .bmove || op == .bcrc32 || op == .bcrc16

/-- Regions R372 allows for a long instruction's source. -/
def longSrc (op : LongOp) (g : Region) : Bool := g == .sram || (op.wide && (g == .boot || g == .pflash || g == .dflash))

/-- BCRC takes bytes of the aligned words it reads (R373). -/
def LongOp.bytes (op : LongOp) : Bool := op == .bcrc32 || op == .bcrc16

/-- Widths of a long instruction's accesses in bytes. -/
def LongOp.width (op : LongOp) : Nat :=
  match op with
  | .bmove => 4
  | .bfill => 4
  | .vmac32 => 4
  | .vmac16 => 2
  | .bcrc32 => 4
  | .bcrc16 => 4

/-- Core cycles for one element (Table 7-5). -/
def LongOp.cyc (op : LongOp) : Nat := if op = .bmove ∨ op = .vmac32 then 2 else 1

/-- The fault of a long-instruction operand, the lowest-numbered reason of Table 8-3. -/
def State.longFault (s : State) (k : AccKind) (w a : Nat) (ok : Region → Bool) : Option Nat :=
  match s.accessFault k w a with
  | some sub => some sub
  | none =>
    match memRegion a with
    | some g => if ok g then none else some 7
    | none => some 1

/-- The 64-bit accumulator as a signed number. -/
def State.lacc (s : State) : Int := sgn 64 ((s.rd R.CPU_LACC_LO).toNat + (s.rd R.CPU_LACC_HI).toNat * 2 ^ 32)

/-- Write the accumulator, saturating with its event (R375). -/
def State.setLacc (s : State) (x : Int) : State :=
  let y := satS 64 x
  let n := (BitVec.ofInt 64 y).toNat
  let s := (s.wr R.CPU_LACC_LO (wd n)).wr R.CPU_LACC_HI (wd (n / 2 ^ 32))
  s.raiseIf (decide (y ≠ x)) P.CPU 3

/-- What comes in the way of one element of a long instruction: a trap, or a flash operation. -/
inductive Stop where
  | trap (code sub : Nat) (ea : Nat) (kind : Nat)
  | wait
  deriving DecidableEq, Repr

/-- One read of a long instruction: what stops it, if anything. -/
def State.longRead (s : State) (op : LongOp) (a : Nat) (ecc : Ecc) : Option Stop :=
  let b := if op.bytes then a - a % 4 else a
  match s.longFault .load op.width b (longSrc op), memRegion a with
  | some sub, _ => some (.trap 0x14 sub b 1)
  | none, none => none
  | none, some g =>
    if s.flashWait g then some .wait
    else if s.eccAt g a ecc = .uncorrectable then some (.trap 0x16 4 (a - a % 4) 1)
    else none

/-- One write of a long instruction: what stops it, if anything. -/
def State.longWrite (s : State) (a : Nat) : Option Stop :=
  (s.longFault .store 4 a (· == .sram)).map fun sub => .trap 0x15 sub a 2

/-- What stops the element a long instruction has before it, in the order source, destination. -/
def State.longStop (s : State) (op : LongOp) (d a : Nat) (ecc eccY : Ecc) : Option Stop :=
  match op with
  | .bfill => s.longWrite d
  | .bmove => (s.longRead op a ecc).or (s.longWrite d)
  | .vmac16 => (s.longRead op a ecc).or (s.longRead op d eccY)
  | .vmac32 => (s.longRead op a ecc).or (s.longRead op d eccY)
  | .bcrc32 => s.longRead op a ecc
  | .bcrc16 => s.longRead op a ecc

/-- The cycles reading the source from flash adds to an element; BCRC reads a word when it enters one and at its start (R373). -/
def LongOp.flashCyc (op : LongOp) (first : Bool) (a : Nat) : Nat :=
  if !op.wide || (op != .bmove && !first && a % 4 != 0) then 0
  else match memRegion a with
    | some .pflash => 3
    | some .dflash => 4
    | _ => 0

/-- What a read of the source or second operand does beside giving its value: reports, live reads, emptied line buffers. -/
def State.longNote (s : State) (a : Nat) (ecc : Ecc) : State :=
  match memRegion a with
  | none => s
  | some g =>
    let s := s.memReport g a P.CPU (s.eccAt g a ecc)
    let s := if s.localMem g a then s.liveRead else s
    if g = .pflash then s.flushLines else s

/-- The registers after an element: RD and RA move on, RB falls (Table 7-5). -/
def State.longStep (s : State) (rd ra rb : Fin 16) (dInc aInc : Nat) : State :=
  let s := if dInc = 0 then s else s.setGr rd (s.gr rd + wd dInc)
  let s := if aInc = 0 then s else s.setGr ra (s.gr ra + wd aInc)
  s.setGr rb (s.gr rb - 1#32)

/-- The element itself (Table 7-5). -/
def State.longElem (s : State) (op : LongOp) (rd ra rb : Fin 16) (ecc eccY : Ecc) : State :=
  let d := (s.gr rd).toNat
  let a := (s.gr ra).toNat
  let w := op.width
  match op with
  | .bfill => (s.memStore d 4 (s.gr ra)).longStep rd ra rb 4 0
  | .bmove =>
    let s := s.longNote a ecc
    (s.memStore d 4 (s.rdW a)).longStep rd ra rb 4 4
  | .vmac16 =>
    let s := (s.longNote a ecc).longNote d eccY
    (s.setLacc (s.lacc + sgn (8 * w) (s.rdN a w) * sgn (8 * w) (s.rdN d w))).longStep rd ra rb w w
  | .vmac32 =>
    let s := (s.longNote a ecc).longNote d eccY
    (s.setLacc (s.lacc + sgn (8 * w) (s.rdN a w) * sgn (8 * w) (s.rdN d w))).longStep rd ra rb w w
  | .bcrc32 =>
    let s := s.longNote a ecc
    (s.setGr rd (wd (crc32Byte d (s.rdB a)))).longStep rd ra rb 0 1
  | .bcrc16 =>
    let s := s.longNote a ecc
    (s.setGr rd (wd (crc16Byte (d % 65536) (s.rdB a)))).longStep rd ra rb 0 1

/-- A long instruction completes (R376). -/
def State.longDone (s : State) : State := (s.setPsr { s.cpu.psr with lp := false }).advance

/-- A long instruction goes on: nothing of Table 8-5 stops it between elements; before its first element no pending exception does (R376, R401). -/
def State.goesOn (s : State) (first : Bool) : Bool :=
  match s.boundary with
  | .issue => true
  | .expire => first
  | .late => first
  | .event _ _ => first
  | _ => false

/-- Up to `n` elements of a long instruction: it completes when RB reaches 0 and otherwise stops with PSR.LP set; `first` tells the element after the setup,
and `ecc` and `eccY` are what the reads of the `n`-th element meet. An element under way at the end of the budget completes (R379); one that would not end before the forced close of a
window is abandoned (R417). -/
def State.longRun : Nat → State → LongOp → (rd ra rb : Fin 16) → Ecc → Ecc → Bool → State
  | n, s, op, rd, ra, rb, ecc, eccY, first =>
    if s.gr rb = 0#32 then s.longDone
    else match n with
      | 0 => s.longHeld
      | k + 1 =>
        if !s.goesOn first then s.longHeld
        else
          let d := (s.gr rd).toNat
          let a := (s.gr ra).toNat
          let x := if k = 0 then ecc else .ok
          let y := if k = 0 then eccY else .ok
          match s.longStop op d a x y with
          | some .wait => s.longHeld
          | some (.trap code sub ea kind) =>
            s.longHeld.heavyTrap 0 code sub false s.cpu.pc (some (wd ea)) fun (t : State) =>
              if code = 0x16 then t.memReport ((memRegion ea).getD .sram) ea P.CPU .uncorrectable
              else if sub = 5 then t.mpuDeny kind ea t.cpu.psr.sup
              else t
          | none =>
            let cyc := op.cyc + op.flashCyc first a
            if s.tooLong cyc then s.longHeld.spend s.winLeft
            else ((s.spend cyc).longElem op rd ra rb x y).longRun k op rd ra rb ecc eccY false

/-- A long instruction (R370): it waits for the write buffer, spends its setup and processes up to `n` elements. -/
def State.longAct (s : State) (op : LongOp) (rd ra rb : Fin 16) (n : Nat) (ecc eccY : Ecc) : Act :=
  .after (drainTime s.cpu.wb) 3 none true fun (t : State) => t.longRun n op rd ra rb ecc eccY true

/-! ## Special registers (R341 to R343, R353) -/

/-- The value of a special register (Table 7-1). -/
def State.special (s : State) (n : Nat) : Word :=
  match n with
  | 0 => psrWord s.cpu.psr
  | 1 => s.cpu.epc
  | 2 => s.cpu.estat
  | 3 => s.cpu.cause
  | 4 => s.cpu.eaddr
  | 5 => s.cpu.vbase
  | 6 => s.cpu.sett
  | 7 => s.cpu.ssp
  | 8 => s.cpu.screeBase
  | 9 => s.cpu.screeLimit
  | 10 => s.rd R.CPU_CRIT_MAX
  | 11 => s.cpu.pc
  | _ => 0#32

/-- An address of the spill stack (R353). -/
def screeAddr (v : Word) : Word := 0x20000000#32 ||| (v &&& 0x1FFE0#32)

/-- Write a special register (R343, R353, R383, R392). -/
def State.setSpecial (s : State) (n : Nat) (v : Word) : State :=
  match n with
  | 0 => s.setPsr { s.cpu.psr with sup := bitOf v 0, ie := bitOf v 1, sat := bitOf v 6 }
  | 1 => { s with cpu := { s.cpu with epc := v } }
  | 2 => { s with cpu := { s.cpu with estat := v } }
  | 3 => { s with cpu := { s.cpu with cause := v &&& 0x7FFFF#32 } }
  | 4 => { s with cpu := { s.cpu with eaddr := v } }
  | 5 => { s with cpu := { s.cpu with vbase := v &&& 0xFFFFFF00#32 } }
  | 6 => { s with cpu := { s.cpu with sett := v &&& 0xFFFFFF80#32 } }
  | 7 => { s with cpu := { s.cpu with ssp := v &&& 0xFFFFFFFC#32 } }
  | 8 =>
    if s.rd R.CPU_SCREE_PTR = s.cpu.screeBase then
      ({ s with cpu := { s.cpu with screeBase := screeAddr v } } : State).screeMove (screeAddr v)
    else s
  | 9 => { s with cpu := { s.cpu with screeLimit := screeAddr v } }
  | 10 => if v.toNat > 255 then s else s.wr R.CPU_CRIT_MAX v
  | _ => s

/-! ## Gates (R424 to R430) -/

/-- GATE_FAULT with its reason and address (R430); `f` is what a failed pointer check records too. -/
def State.gateFault (s : State) (cyc why gate : Nat) (a : Nat) (f : State → State) : Act :=
  .trap cyc 0x19 gate s.cpu.pc (some (wd a)) fun (t : State) =>
    let t := ((f t).setF (rSTAT P.GTE) 0 4 why).setF (rSTAT P.GTE) 8 6 gate
    (t.wr R.GTE_FADDR (wd a)).raise P.GTE 0

/-- The address of a gate's descriptor (R424). -/
def State.gateAddr (s : State) (n : Nat) : Nat := (s.rd R.GTE_BASE).toNat + 8 * n

/-- The points of a span at which the deciding region of the MPU can change. -/
def State.mpuCuts (s : State) (a len : Nat) : List Nat :=
  let cuts := (List.range 8).flatMap fun q => [(s.rd (R.MPU_RBASE0 + 4 * q)).toNat, (s.rd (R.MPU_RLIM0 + 4 * q)).toNat + 32]
  a :: cuts.filter fun c => decide (a < c) && decide (c ≤ a + len - 1)

/-- Region `r` grants what a pointer check asks of a level (R425). -/
def State.grants (s : State) (r : Nat) (wr sup : Bool) : Bool :=
  let attr := s.rd (R.MPU_RATTR0 + 4 * r)
  bitOf attr (mpuBit .load sup) && (!wr || bitOf attr (mpuBit .store sup))

/-- The region of Table 7-3 an address lies in; the registers are one, their unpopulated pages in it. -/
def spanRegion (a : Nat) : Option Region := if 0x40000000 ≤ a ∧ a ≤ 0x4000FFFF then some .regs else memRegion a

/-- The pointer check of R425. -/
def State.pointerOk (s : State) (a span : Nat) (wr : Bool) : Bool :=
  let len := max span 1
  let sup := s.cpu.psr.sup
  let found := (s.mpuCuts a len).map s.mpuRegion
  let matched := found.filterMap id
  decide (a + len - 1 ≤ 0xFFFFFFFF) && (spanRegion a).isSome && decide (spanRegion a = spanRegion (a + len - 1)) &&
  (if sup && !s.bit (rCTRL P.MPU) 0 then true
   else match matched.head? with
    | none => sup
    | some r => (sup || found.all Option.isSome) && matched.all (· == r) && s.grants r wr sup)

/-- The address a failed pointer check records: the first of the span whose deciding region is not the one the span needs or grants too little, and the pointer
where the span fails for another reason (DEDUCED from the worked case of chapter 8, whose span leaves its region: log entry 31). -/
def State.pointerAt (s : State) (a span : Nat) (wr : Bool) : Nat :=
  let sup := s.cpu.psr.sup
  let cuts := s.mpuCuts a (max span 1)
  let want := (cuts.filterMap s.mpuRegion).head?
  let bad := cuts.filter fun c =>
    match s.mpuRegion c with
    | none => !sup
    | some r => (if sup then want != some r else s.mpuRegion a != some r) || !s.grants r wr sup
  (bad.min?).getD a

/-- What a descriptor read meets; one that cannot be read is no detected error (R429, Table 8-1). -/
def State.gateEcc (s : State) (n : Nat) (ecc : Ecc) : Ecc :=
  let a := s.gateAddr n
  match memRegion a with
  | some g => if s.eccAt g a .ok = .uncorrectable ∨ s.eccAt g (a + 4) .ok = .uncorrectable then .uncorrectable else s.eccAt g a ecc
  | none => .ok

/-- The effect of a gate entry (R426, R427). -/
def State.enterGate (s : State) (n : Nat) (w0 w1 : Word) : State :=
  let sup := s.cpu.psr.sup
  let ie := s.cpu.psr.ie
  let ret := s.nextPc
  let s := if sup then s else s.swapStack
  let sp := s.com 7 - 4#32
  let s := (s.setCom 7 sp).memStore sp.toNat 4 (wd (sup.toNat + 2 * ie.toNat + 256 * n + 0x6A7E0000))
  let s := s.forward ret
  let s := s.setPsr { s.cpu.psr with sup := true, ie := ie && bitOf w1 15 }
  let s := ((s.setF (rSTAT P.GTE) 16 6 n).setF (rSTAT P.GTE) 24 1 1).inc R.GTE_COUNT
  s.setPc (w0 &&& 0xFFFFFFFC#32)

/-- GATE n (R426). -/
def State.gateAct (s : State) (n : Nat) (ecc : Ecc) : Act :=
  let da := s.gateAddr n
  let g := (memRegion da).getD .sram
  let e := s.gateEcc n ecc
  let w0 := s.rdW da
  let w1 := s.rdW (da + 4)
  let ptr (i : Nat) : Nat := (s.com (i + 1)).toNat
  let sp := if s.cpu.psr.sup then (s.com 7).toNat else s.cpu.ssp.toNat
  let note (t : State) : State := if e = .uncorrectable then t else t.memReport g da P.CPU e
  if s.cpu.psr.eb then .double 1
  else if !s.bit (rCTRL P.GTE) 0 then s.gateFault 0 1 n da id
  else if s.flashWait g then .wait
  else if e = .uncorrectable || (memRegion da).isNone then s.gateFault 0 4 n da note
  else if !bitOf w0 0 then s.gateFault 0 2 n da note
  else if !s.cpu.psr.sup && !bitOf w0 1 then s.gateFault 0 3 n da note
  else
    match (List.range 6).find? fun i => bitOf w1 i && !s.pointerOk (ptr i) (fld w1 16 16) (bitOf w1 (8 + i)) with
    | some i => s.gateFault 0 5 n (ptr i) fun (t : State) => (note t).mpuDeny 3 (s.pointerAt (ptr i) (fld w1 16 16) (bitOf w1 (8 + i))) s.cpu.psr.sup
    | none =>
      if sp % 4 ≠ 0 ∨ sp < 4 ∨ !inSram (sp - 4) then s.gateFault 0 6 n sp note
      else if s.spillBlocked then s.trapAct 0x17 0 (some (s.rd R.CPU_SCREE_PTR))
      else .run (6 + s.spillCyc) s.spillDue fun (t : State) => (note t).enterGate n w0 w1

/-- GRET at supervisor level (R428). The gate number of its GATE_FAULT is a free value: the spec names none. -/
def State.gretAct (s : State) (ecc fill : Ecc) (fillAt : Fin 8) : Act :=
  let a := (s.com 7).toNat
  let lw := s.rdW a
  let gate := (s.draw.2.extractLsb' 0 6).toNat
  let e := s.eccAt .sram a ecc
  let target := s.gr 15
  if s.cpu.psr.tb then .double 2
  else if a % 4 ≠ 0 ∨ !inSram a then s.gateFault 0 7 gate a fun (t : State) => t.draw.1
  else if e = .uncorrectable then .trap 0 0x16 2 s.cpu.pc (some (wd a)) fun (t : State) => t.memReport .sram a P.CPU e
  else if fld lw 16 16 ≠ 0x6A7E then s.gateFault 0 7 gate a fun (t : State) => t.draw.1.memReport .sram a P.CPU e
  else if fld target 0 2 ≠ 0 then s.trapAct 0x12 0 (some target)
  else s.backAct 4 fill fillAt fun (t : State) =>
    let t := t.memReport .sram a P.CPU e
    let t := t.setCom 7 (wd (a + 4))
    let t := t.setPsr { t.cpu.psr with sup := bitOf lw 0, ie := bitOf lw 1 }
    let t := if bitOf lw 0 then t else t.swapStack
    t.setPc target

/-! ## Exception return (R408, R411) -/

/-- ERET at supervisor level. -/
def State.eretAct (s : State) (fill : Ecc) (fillAt : Fin 8) : Act :=
  let epc := s.cpu.epc
  let es := s.cpu.estat
  let back (t : State) : State := t.setPsr { t.cpu.psr with sup := bitOf es 0, ie := bitOf es 1, sat := bitOf es 6, lp := bitOf es 5 }
  let done (t : State) : State := t.closeWindow.setPc epc
  if fld epc 0 2 ≠ 0 then s.trapAct 0x12 0 (some epc)
  else if s.cpu.psr.tb then .run 4 false fun (t : State) => done (back (t.setPsr { t.cpu.psr with tb := false }))
  else if s.cpu.psr.eb then .run 4 false fun (t : State) => done (t.backward .ok 0)
  else s.backAct 4 fill fillAt fun (t : State) => done (back t)

/-- RET (R350). -/
def State.retAct (s : State) (fill : Ecc) (fillAt : Fin 8) : Act :=
  let target := s.gr 15
  if s.cpu.psr.tb then .double 2
  else if fld target 0 2 ≠ 0 then s.trapAct 0x12 0 (some target)
  else s.backAct 2 fill fillAt fun (t : State) => t.setPc target

end Sys2Proof.Machine
end

