-- ==== Sys2Proof/Machine/Operands.lean ====
section
/-! DEFINITION. The operand forms of the core's instructions: immediates, shift amounts, addresses and targets (R385). -/

namespace Sys2Proof.Machine

/-- IMM sign-extended. -/
def immS (imm : BitVec 18) : Word := imm.signExtend 32

/-- IMM zero-extended. -/
def immZ (imm : BitVec 18) : Word := imm.setWidth 32

/-- What LUI writes: IMM × 2^14. -/
def immU (imm : BitVec 18) : Word := imm.setWidth 32 <<< 14

/-- A shift amount in a register is its bits [4:0] (the words above Table 7-7). -/
def shiftOf (v : Word) : Nat := v.toNat % 32

/-- The address of a load or store: RA plus the sign-extended IMM, modulo 2^32. -/
def State.addrOf (s : State) (ra : Fin 16) (imm : BitVec 18) : Nat := (s.gr ra + immS imm).toNat

/-- The target of JMP and CALL: OFF words from the instruction itself. -/
def State.target (s : State) (off : BitVec 26) : Word := s.cpu.pc + (off.signExtend 32 <<< 2)

end Sys2Proof.Machine
end

