-- ==== Sys2Proof/Machine/Flags.lean ====
section
/-! DEFINITION. Results and the SAT flag of the core's arithmetic (Table 7-7, R388), and the shape of an instruction that writes one register. -/

namespace Sys2Proof.Machine

/-- The word of a condition. -/
def boolWord (b : Bool) : Word := if b then 1#32 else 0#32

/-- Saturation to signed 32 bits, and whether it changed the value (Table 7-7). -/
def satWord (x : Int) : Word × Bool := (wdI (satS 32 x), decide (satS 32 x ≠ x))

/-- Leading zeros, 32 for zero (Table 7-7). -/
def clzWord (v : Word) : Word := if v = 0#32 then 32#32 else wd (31 - v.toNat.log2)

/-- The high word of a product (Table 7-7). -/
def mulHigh (a b : Int) : Word := wdI (a * b / (2 ^ 32 : Nat))

/-- DIV (R388). -/
def divS (a b : Word) : Word := if b = 0#32 then 0xFFFFFFFF#32 else a.sdiv b

/-- DIVU (R388). -/
def divU (a b : Word) : Word := if b = 0#32 then 0xFFFFFFFF#32 else a / b

/-- REM (R388). -/
def remS (a b : Word) : Word := if b = 0#32 then a else a.srem b

/-- REMU (R388). -/
def remU (a b : Word) : Word := if b = 0#32 then a else a % b

/-- An instruction of `cyc` cycles that writes one register. -/
def aluAct (cyc : Nat) (rd : Fin 16) (f : State → Word) : State → Act := fun _ =>
  .run cyc false fun (t : State) => (t.setGr rd (f t)).advance

/-- An instruction that writes one register and sets PSR.SAT where its result saturates. -/
def satAct (cyc : Nat) (rd : Fin 16) (f : State → Word × Bool) : State → Act := fun _ =>
  .run cyc false fun (t : State) => ((t.setGr rd (f t).1).setSat (f t).2).advance

end Sys2Proof.Machine
end

