-- ==== Sys2Proof/Machine/Ports.lean ====
section
/-! DEFINITION. The host SPI port and the monitor link (R762 to R786, R820). -/

namespace Sys2Proof.Machine

/-! ## Host SPI port (R762 to R772) -/

/-- The port answers: the part runs and VIO is present. -/
def State.portsOn (s : State) : Bool := !s.pwr.inReset && s.pwr.mode == .run && s.pin.vioOk

/-- A transaction opens: what SDO carries (Tables 16-4 and 16-5). -/
def State.spiOpen (s : State) (rep mode3 : Bool) : State :=
  let e := if rep then s.hsp.removed else s.hsp.fifo.head?
  let left := if rep then s.hsp.fifo.length else s.hsp.fifo.length - 1
  let pstat := e.isSome.toNat + 2 * s.hsp.last + 8 * tckCode s.tck.state + 64 * s.tck.pend.isSome.toNat
  let o := beOctets 1 pstat ++ beOctets 1 left ++ (match e with
    | some e => e.octets
    | none => List.replicate 12 0#8)
  { s with hsp := { s.hsp with mode3 := mode3, sdo := o ++ beOctets 2 (crc16 o) } }

/-- The end of a good transaction: the entry presented leaves the FIFO unless it was repeated (R769). -/
def State.spiTaken (s : State) (rep : Bool) : State :=
  if rep then s
  else match s.hsp.fifo with
    | [] => s
    | e :: rest => { s with hsp := { s.hsp with fifo := rest, removed := some e } }

/-- A good transaction with what its operation does. -/
def State.spiWith (s : State) (rep mode3 : Bool) (f : State → State) : State :=
  if s.portsOn then
    let s := (s.spiOpen rep mode3).spiTaken rep
    f { s with hsp := { s.hsp with last := 0 } }
  else s

/-- A register operation executes as it arrives: in IDLE and SAFE, with no command before it in the queue (R314). -/
def State.atOnce (s : State) : Bool := s.direct && s.cyc.cmdq.isEmpty

/-- A register operation is refused as busy (R319, R771). -/
def State.spiBusy (s : State) : Bool :=
  let q := s.queued .spi
  decide (s.hsp.fifo.length + q ≥ 16) || (!s.atOnce && decide (q ≥ s.fd (rCTRL P.QUE) 8 5))

/-- A register operation enters the command queue, or executes at once in IDLE and SAFE where none waits before it (R314, R770, R771). -/
def State.spiOp (s : State) (op tag addr : Nat) (data mask : Word) : State :=
  let c : Cmd := ⟨.spi, op, tag % 256, addr % 65536, data, mask⟩
  if s.spiBusy then
    (({ s with hsp := { s.hsp with last := 2 } } : State).inc R.HSP_BUSYCT).raise P.HSP 1
  else if s.atOnce then s.execCmd c
  else { s with cyc := { s.cyc with cmdq := s.cyc.cmdq ++ [c] } }

/-- A TICK transaction (R66, R772). -/
def State.spiTick (s : State) (num : Word) (edge : LineTime) : State :=
  let w := s.authCode 1 num edge s.lt
  let s := (s.authorise 1 num edge s.lt).1
  if w = 0 then s
  else (({ s with hsp := { s.hsp with last := 3 } } : State).wr R.HSP_TICKWHY (wd w)).raise P.HSP 2

/-- A frame error (R768). -/
def State.spiError (s : State) (rep mode3 : Bool) : State :=
  if s.portsOn then
    let s := s.spiOpen rep mode3
    (({ s with hsp := { s.hsp with last := 1 } } : State).inc R.HSP_FRAMECT).raise P.HSP 0
  else s

/-! ## Monitor frames (R764, R765, R773 to R775) -/

/-- CMD of a request (Table 16-7). -/
def MonReq.code : MonReq → Nat
  | .ping => 1
  | .read _ _ _ => 2
  | .write _ _ _ => 3
  | .modify _ _ _ _ => 4
  | .step _ => 5
  | .halt => 6
  | .go _ => 7
  | .reset _ => 8
  | .ret _ => 9
  | .other c => c

/-- A command is available in a life-cycle state (Table 16-7). -/
def monAvail (cmd lc : Nat) : Bool :=
  if cmd = 1 ∨ cmd = 2 ∨ cmd = 8 then true
  else if 3 ≤ cmd ∧ cmd ≤ 6 then lc != 4
  else if cmd = 7 then lc != 2 && lc != 4
  else cmd == 9 && lc == 2

/-- COUNT and KIND are in range and the payload has the length they ask for. -/
def MonReq.inRange : MonReq → Bool
  | .read _ n _ => decide (1 ≤ n) && decide (n ≤ 60)
  | .write _ n l => decide (1 ≤ n) && decide (n ≤ 60) && l.length == n
  | .step n => decide (1 ≤ n) && decide (n ≤ 65535)
  | .reset k => k == 1
  | .ret l => l.length == 64
  | _ => true

/-- An answer is sent (Table 16-6). -/
def State.monAnswer (s : State) (c : MonCall) (status : Nat) (payload : List Byte) : State :=
  let body := beOctets 1 (payload.length + 3) ++ beOctets 1 (c.req.code + 0x80) ++ beOctets 1 c.seq ++ beOctets 1 status ++ payload
  let f := 0xA5#8 :: body ++ beOctets 2 (crc16 body)
  { s with mon := { s.mon with answer := f, prev := some (c.req.code, c.seq, f) } }

/-! ## Reach (R766, R767, R776, R820) -/

/-- The monitor reaches a region of memory in a direction (R766). -/
def State.monReach (s : State) (k : AccKind) (g : Region) : Bool :=
  if s.lcs.state = 4 then false
  else widthOk k 4 g && (s.lcs.state != 2 || (if k = .store then g == .list || g == .bin || g == .carrier else g != .boot && g != .pflash))

/-- The status of a word to be read. -/
def State.monRdStatus (s : State) (a : Nat) : Nat :=
  if a % 4 ≠ 0 then 1
  else if 0x40000000 ≤ a ∧ a ≤ 0x4000FFFF then s.rdStatus .monitor (a - 0x40000000)
  else match memRegion a with
    | some g => if s.monReach .load g then 0 else 1
    | none => 1

/-- Words of tracked memory are closed to the monitor in a pair (R679). -/
def State.monMemDenied (s : State) (a : Nat) : Bool := s.paired && ((s.twinPage a).isSome || inList a)

/-- A word is written by the monitor: the state after it and its status. -/
def State.monPut (s : State) (a : Nat) (v : Word) : State × Nat :=
  if a % 4 ≠ 0 then (s, 1)
  else if 0x40000000 ≤ a ∧ a ≤ 0x4000FFFF then s.landWrite .monitor (a - 0x40000000) v
  else match memRegion a with
    | some g => if !s.monReach .store g then (s, 1) else if s.monMemDenied a then (s, 3) else if s.frozen && s.tracked a then (s, 0) else (s.memStore a 4 v, 0)
    | none => (s, 1)

/-- Phases G to G + 63 of a tick have begun and have room for `n` words at one a cycle (R24, R144, R776). -/
def State.monRoom (s : State) (n : Nat) : Bool := s.ticking && s.tck.inTick && s.tck.step == 2 && decide (s.tck.phase + n ≤ s.guardG + 64)

/-- `n` words have landed in the guard window, one a cycle. -/
def State.monSpend (s : State) (n : Nat) : State := if s.monRoom n then { s with tck := { s.tck with phase := s.tck.phase + n } } else s

/-- The status of the first of the words that may not be written at ascending addresses, 0 when all may, every one checked before any lands (R776). -/
def State.monCheckAll (s : State) : List Word → Nat → Nat
  | [], _ => 0
  | w :: l, a => let k := (s.monPut (a % 2 ^ 32) w).2; if k ≠ 0 then k else s.monCheckAll l (a + 4)

/-- Words that have been checked are written at ascending addresses. -/
def State.monPutAll : List Word → Nat → State → State
  | [], _, s => s
  | w :: l, a, s => ((s.monPut (a % 2 ^ 32) w).1.monSpend 1).monPutAll l (a + 4)

/-- Words are read at ascending addresses; the second part is the address at which an uncorrectable error ends them. -/
def State.monGetAll : List Ecc → Nat → Nat → List Byte → State → State × List Byte × Option Nat
  | _, 0, _, acc, s => (s, acc, none)
  | eccs, n + 1, a0, acc, s =>
    let a := a0 % 2 ^ 32
    let e := eccs.headD .ok
    if 0x40000000 ≤ a ∧ a ≤ 0x4000FFFF then
      let r := s.fetchReg (a - 0x40000000)
      r.1.monGetAll eccs.tail n (a0 + 4) (acc ++ beOctets 4 r.2.toNat)
    else
      let g := (memRegion a).getD .sram
      let x := s.eccAt g a e
      let s := (s.memReport g a P.MON x).memCheck g a
      if x = .uncorrectable then (s, acc, some a)
      else s.monGetAll eccs.tail n (a0 + 4) (acc ++ beOctets 4 (s.memWord g a).toNat)

/-! ## The commands (R776 to R783) -/

/-- ETICK of an answer. -/
def State.etick (s : State) : List Byte := beOctets 4 s.tck.now.toNat

/-- A READ is served (R777, R820). -/
def State.monRead1 (s : State) (c : MonCall) (a n : Nat) (eccs : List Ecc) : State :=
  let et := s.etick
  match (List.range n).find? fun i => s.monRdStatus ((a + 4 * i) % 2 ^ 32) != 0 with
  | some i => s.monAnswer c (s.monRdStatus ((a + 4 * i) % 2 ^ 32)) []
  | none =>
    if (List.range n).any fun i => s.flashWait ((memRegion ((a + 4 * i) % 2 ^ 32)).getD .sram) then
      { s with mon := { s.mon with wait := some c } }
    else
      let r := s.monGetAll eccs n a []
      match r.2.2 with
      | none => r.1.monAnswer c 0 (et ++ r.2.1)
      | some x => r.1.monAnswer c 9 (et ++ beOctets 4 x ++ r.2.1)

/-- A WRITE lands: every word is checked, then all of them land (R776). -/
def State.monLandWrite (s : State) (c : MonCall) (a : Nat) (l : List Word) : State :=
  let k := s.monCheckAll l a
  let t := s.monPutAll l a
  if k = 0 then t.monAnswer c 0 t.etick else s.monAnswer c k []

/-- A MODIFY lands (R776, R299). -/
def State.monLandModify (s : State) (c : MonCall) (a : Nat) (data mask : Word) (ecc : Ecc) : State :=
  let w := s.monRdStatus a
  if w ≠ 0 then s.monAnswer c w []
  else if 0x40000000 ≤ a ∧ a ≤ 0x4000FFFF then
    let v := s.fetchReg (a - 0x40000000)
    let r := v.1.landModify .monitor (a - 0x40000000) data mask
    if r.2 = 0 then (r.1.monSpend 1).monAnswer c 0 (r.1.etick ++ beOctets 4 v.2.toNat) else s.monAnswer c r.2 []
  else
    let g := (memRegion a).getD .sram
    let v := s.memWord g a
    let r := s.monPut a ((v &&& ~~~mask) ||| (data &&& mask))
    let x := s.eccAt g a ecc
    if r.2 ≠ 0 then s.monAnswer c r.2 []
    else
      let t := (s.memReport g a P.MON x).memCheck g a
      if x = .uncorrectable then t.monAnswer c 9 (t.etick ++ beOctets 4 a)
      else
        let t := (t.monPut a ((v &&& ~~~mask) ||| (data &&& mask))).1
        (t.monSpend 1).monAnswer c 0 (t.etick ++ beOctets 4 v.toNat)

/-- A monitor write lands on arrival: outside RUN and HOLDOVER, or on the bench between stepped ticks (Table 3-7, R776). -/
def State.monNow (s : State) : Bool := !s.ticking || (s.bench && s.fd R.MON_STEPREM 0 16 == 0 && !s.tck.inTick)

/-- A monitor write of `n` words lands as it arrives: where nothing holds it back, or within the guard window (Table 3-7, R776). -/
def State.monOpen (s : State) (n : Nat) : Bool := s.monNow || s.monRoom n

/-- The first stepped edge: the first 50 ns line-time at least 10 µs ahead (R67). -/
def State.stepEdge (s : State) : LineTime := BitVec.ofNat 48 ((s.lt.toNat + 1000 + 4) / 5 * 5)

/-- STEP (R773, R778). -/
def State.monStep (s : State) (c : MonCall) (n : Nat) : State :=
  if s.fd R.MON_STEPREM 0 16 ≠ 0 then s.monAnswer c 6 []
  else
    let num := s.tck.now + 1#32
    let e := s.stepEdge
    let w := s.authCode 2 num e s.lt
    let s := (s.authorise 2 num e s.lt).1
    if w ≠ 0 then s.monAnswer c 7 (beOctets 1 w)
    else
      let s := s.setF R.MON_STEPREM 0 16 n
      ({ s with mon := { s.mon with stepping := true } } : State).monAnswer c 0 (beOctets 4 num.toNat ++ beOctets 6 e.toNat)

/-- HALT (R780): a stepped tick in progress is then the last one. -/
def State.monHalt (s : State) (c : MonCall) : State :=
  let s' := s.setF R.MON_STEPREM 0 16 0
  let s' := if s.mon.stepping then
      { s' with
        tck := { s'.tck with pend := none }
        mon := { s'.mon with stepping := s.tck.inTick } }
    else s'
  s'.monAnswer c 0 s'.etick

/-- GO (R781). -/
def State.monGo (s : State) (c : MonCall) (a : Nat) : State :=
  if s.fd R.MON_BOOT 0 2 ≠ 1 then s.monAnswer c 4 []
  else if a % 4 ≠ 0 ∨ !(inSram a || inPflash a) then s.monAnswer c 1 []
  else ((s.wr R.MON_GOADDR (wd (a + 1))).monAnswer c 0 []).coreResetReq

/-- RETURN (R783). -/
def State.monRet (s : State) (c : MonCall) (resp : List Byte) : State :=
  if s.lcs.pend then s.monAnswer c 8 (beOctets 1 s.lcs.cmdWhy)
  else
    let w := s.lcWhy .monitor 3 (some true)
    if w ≠ 0 then (s.lcRefuse w).monAnswer c 8 (beOctets 1 w)
    else
      let r := s.lcResponse resp
      if r.2 then (r.1.monAnswer c 0 []).lcBegin .monitor
      else (r.1.lcRefuse 8).monAnswer c 8 (beOctets 1 8)

/-- A request is taken up. -/
def State.monTake (s : State) (c : MonCall) : State :=
  if !monAvail c.req.code s.lcs.state then s.monAnswer c 4 []
  else if !(c.fits && c.req.inRange) then s.monAnswer c 5 []
  else match c.req with
    | .ping =>
      s.monAnswer c 0 (beOctets 4 (s.readReg 0).toNat ++ beOctets 4 (s.readReg (rSTAT P.LCS)).toNat ++ beOctets 4 (s.readReg R.SYS_UID_HI).toNat ++
        beOctets 4 (s.readReg R.SYS_UID_LO).toNat ++ beOctets 4 (s.readReg R.MON_BOOT).toNat)
    | .read a n eccs => s.monRead1 c a n eccs
    | .write a _ l => if s.monOpen l.length then s.monLandWrite c a l else { s with mon := { s.mon with wait := some c } }
    | .modify a d m e => if s.monOpen 1 then s.monLandModify c a d m e else { s with mon := { s.mon with wait := some c } }
    | .step n => s.monStep c n
    | .halt => s.monHalt c
    | .go a => s.monGo c a
    | .reset _ =>
      let t := s.monAnswer c 0 []
      let u := t.sysReset 4 false false
      { u with mon := { u.mon with answer := t.mon.answer } }
    | .ret l => s.monRet c l
    | .other _ => s.monAnswer c 4 []

/-- A request is taken up, or, where it repeats the previous one, its answer is sent again (R775). -/
def State.monStart (s : State) (c : MonCall) : State :=
  match s.mon.prev with
  | some (cmd, seq, f) => if cmd = c.req.code ∧ seq = c.seq then { s with mon := { s.mon with answer := f } } else s.monTake c
  | none => s.monTake c

/-- The monitor hears requests: it is synchronised and the part runs. -/
def State.monOn (s : State) : Bool := s.portsOn && s.mon.synced

/-- A valid request arrives (R773). -/
def State.monRequest (s : State) (r : MonReq) (seq : Nat) (fits : Bool) : State :=
  let c : MonCall := ⟨r, seq % 256, fits⟩
  if !s.monOn then s
  else if s.mon.wait.isNone then s.monStart c
  else if s.mon.buf.isNone then { s with mon := { s.mon with buf := some c } }
  else (s.inc R.MON_OVRCT).raise P.MON 2

/-- The request in the one-frame buffer is taken up once nothing waits before it. -/
def State.monNext (s : State) : State :=
  match s.mon.wait, s.mon.buf with
  | none, some c => ({ s with mon := { s.mon with buf := none } } : State).monStart c
  | _, _ => s

/-- The request that waits is carried out where what it waits for has come. -/
def State.monServe (s : State) : State :=
  match s.mon.wait with
  | none => s
  | some c =>
    let t := { s with mon := { s.mon with wait := none } }
    match c.req with
    | .read a n eccs => (t.monRead1 c a n eccs).monNext
    | .write a _ l => (t.monLandWrite c a l).monNext
    | .modify a d m e => (t.monLandModify c a d m e).monNext
    | _ => t.monNext

/-- The waiting WRITE or MODIFY lands. -/
def State.monLands (s : State) : State :=
  match s.mon.wait with
  | some ⟨.read _ _ _, _, _⟩ => s
  | _ => s.monServe

/-- The landing of monitor writes: at phases G to G + 63 of a tick, the core being parked (R24, R144), or once ticks no longer hold a write back (R776). A write that comes later than
this waits for the next tick's window. -/
def State.monWindow (s : State) : State :=
  if s.monNow then s.monLands
  else if s.turn 2 s.guardG && (s.cpu.parked || s.cpu.held) then (s.partTo 2 s.guardG).monLands
  else s

/-- An unsynchronised monitor accepts the octet 0x55 and answers it (R774). -/
def State.monSync (s : State) (baud : Nat) : State :=
  if !s.portsOn || s.mon.synced || decide (baud < 9600) || decide (3000000 < baud) then s
  else ((({ s with mon := { s.mon with synced := true, answer := [0x55#8] } } : State)).wr R.MON_BAUD (wd baud)).raise P.MON 0

/-- A request is discarded (R775). -/
def State.monCrcErr (s : State) : State := if s.monOn then (s.inc R.MON_CRCCT).raise P.MON 1 else s

/-- 64 framing errors in a row (R774). -/
def State.monLost (s : State) : State := if s.monOn then { s with mon := { s.mon with synced := false } } else s

/-- The last stepped tick has ended (R779). -/
def State.stepDone (s : State) : State :=
  if s.mon.stepping && s.fd R.MON_STEPREM 0 16 == 0 && !s.tck.inTick && s.tck.pend.isNone then
    ({ s with mon := { s.mon with stepping := false } } : State).raise P.MON 3
  else s

end Sys2Proof.Machine
end

