-- ==== Sys2Proof/Machine/Guard.lean ====
section
/-! DEFINITION. What the commands' meanings share: when the part hears a command, the writes a command makes, privilege, and the small events of single blocks. -/

namespace Sys2Proof.Machine

/-! ## The answer of a command -/

/-- A command has its effect, and the stage follows its conditions; the queue is no part of a command's effect. -/
def State.done (s t : State) : Host.Outcome State Fault Refusal := .next { t.settleOut with pending := s.pending }

/-- The stage follows Table 9-3 where an instruction has moved its conditions. -/
def State.steady (t : State) : State := if t.pst.out = t.outState then t else t.settleOut

/-- An instruction has its effect. -/
def State.ran (s t : State) : Host.Outcome State Fault Refusal := .next { t.steady with pending := s.pending }

/-! ## When a command is heard -/

/-- The part runs: out of reset and in RUN. -/
def State.awake (s : State) : Bool := !s.pwr.inReset && s.pwr.mode == .run

/-- The line transceiver runs: out of reset, in RUN or DOZE (Table 2-6). -/
def State.lineOn (s : State) : Bool := !s.pwr.inReset && (s.pwr.mode == .run || s.pwr.mode == .doze)

/-- The supplies of the core domain are watched: neither in power-on reset nor in SLEEP (R93). -/
def State.supplied (s : State) : Bool := s.pwr.mode != .por && s.pwr.mode != .sleep

/-! ## Writes -/

/-- A write of a path lands as it is made, in the tick state and at the phase that stand (R21, Table 3-7): the host paths' outside ticks alone and behind the commands that wait (R314), the core's also in the budget and up to
phase G − 1, the monitor's also in ARMED, between stepped ticks and at phases G to G + 63. -/
def State.landsNow (s : State) (path : Path) : Bool :=
  match path with
  | .network => s.atOnce
  | .spi => s.atOnce
  | .coreSup => s.direct || (s.budgeted && s.tck.step == 1 && decide (s.tck.phase < s.guardG))
  | .coreUser => s.direct || (s.budgeted && s.tck.step == 1 && decide (s.tck.phase < s.guardG))
  | .monitor => s.monOpen 1

/-- A write that cannot land yet waits as its path has it wait (Table 3-7): in the command queue where credit is left, with tag 0, or as a request of the monitor. The core
makes no write while it is parked. -/
def State.queueWrite (s : State) (path : Path) (op a : Nat) (data mask : Word) : State :=
  match path with
  | .network => if s.cfree = 0 then s else { s with cyc := { s.cyc with cmdq := s.cyc.cmdq ++ [⟨.network, op, 0, a % 65536, data, mask⟩] } }
  | .spi => s.spiOp op 0 a data mask
  | .monitor =>
    let seq := match s.mon.prev with
      | some p => p.2.1 + 1
      | none => 0
    s.monRequest (if op = 2 then .write (0x40000000 + a) 1 [data] else .modify (0x40000000 + a) data mask .ok) seq true
  | _ => s

/-- What follows a landing: a host path's write leaves its one response entry (R315), with tag 0, and the monitor's takes its cycle of the guard window (Table 3-7). -/
def State.answered (s : State) (c : Cmd) (status : Nat) (v : Word) : State := if c.path = .monitor then (if status = 0 then s.monSpend 1 else s) else s.respond c status v

/-- A write of some bits of a register is made: it lands, or waits. -/
def State.writeBits (s : State) (path : Path) (a : Nat) (data mask : Word) : State :=
  if !s.awake then s
  else if s.landsNow path then
    let v := s.fetchReg a
    let r := v.1.landModify path a data mask
    r.1.answered ⟨path, 3, 0, a % 65536, data, mask⟩ r.2 v.2
  else s.queueWrite path 3 a data mask

/-- A write of a register is made: it lands, or waits. -/
def State.writeWord (s : State) (path : Path) (a : Nat) (v : Word) : State :=
  if !s.awake then s else if s.landsNow path then
    let r := s.landWrite path a v
    r.1.answered ⟨path, 2, 0, a % 65536, v, 0#32⟩ r.2 v
  else s.queueWrite path 2 a v 0#32

/-- The command at the front of the queue has an operation, or one that is reserved, and executes now: outside RUN and HOLDOVER (R52, R315). -/
def State.frontIs (s : State) (op : Nat) : Bool :=
  match s.cyc.cmdq with
  | [] => false
  | c :: _ => (c.op == op || c.op == 0 || decide (4 < c.op)) && s.direct

/-! ## Twin -/

/-- The digest of the tick in progress has closed (R24, R686). -/
def State.closed (s : State) : Bool := !s.budgeted || decide (3 ≤ s.tck.step)

/-! ## Power -/

/-- NRES held low from outside (R95). Where another reset is still in force this one takes its place (DESIGN CHOICE, log entry 63). -/
def State.pinReset (s : State) : State := if s.pwr.mode = .por then s else s.sysReset 3 false false

/-- The levels of the wake pins, and AON cycles that have passed. -/
def State.wakePins (s : State) (p : WakePins) (dt : Nat) : State :=
  { s with aon := s.aon + wd dt, pin := { s.pin with wake := p.wake, hspLow := p.hspLow, monLow := p.monLow, told := true } }

/-- What a mode request was told of the wake pins is no longer known. -/
def State.untold (s : State) : State := { s with pin := { s.pin with told := false } }

/-- An edge on WAKE of the polarity PWR.WAKECFG.EDGE selects leaves the pin at its level (R821). -/
def State.wakeEdge (s : State) : State :=
  let e := s.fd R.PWR_WAKECFG 0 2
  { s with pin := { s.pin with wake := if e = 1 then true else if e = 2 then false else !s.pin.wake } }

/-- The sources another wake can come together with: all but TIMER, which the count decides, and FRAME, with which its frame is handed over (R114). -/
def alsoMask : Nat := 0x73

/-- HSP_CSN wakes the part; the frame that wakes it is lost with HSP_SDO at high impedance, and the next status word tells of a frame error (R113). -/
def State.wakeHsp (s : State) (bits dt : Nat) : State :=
  let t := s.wake bits dt
  if s.pwr.mode == .doze && t.pwr.mode == .run then { t with hsp := { t.hsp with last := 1, sdo := [] } } else t

/-- VCP has risen above its threshold while CPEN is 1 (R456). -/
def State.pumpReady (s : State) : State := { s with pst := { s.pst with cprdy := s.bit (rCTRL P.PST) 0 } }

/-- The over-temperature warning begins or ends (R480). -/
def State.otWarn (s : State) (on : Bool) : State :=
  let was := s.pst.otw
  ({ s with pst := { s.pst with otw := on } } : State).raiseIf (was != on) P.SUP (if on then 0 else 1)

/-! ## Line -/

/-- A frame that shows the lead alive on the line: a RESPONSE from CYC.MAC (R689). -/
def State.lineSeen (s : State) (oct : List Byte) : State :=
  if s.rxOn && decide (64 ≤ oct.length) && decide (oct.length ≤ 1522) && fcsOk oct && octs oct 6 6 == s.mac && octs oct 12 2 == s.fd R.CYC_ETYPE 0 16 && octs oct 14 1 == 0x12 then
    { s with twn := { s.twn with lineAct := true } }
  else s

/-- The core reads CLK.LT_LO at a line-time, and CLK.LT_HI holds the upper bits of the same instant (R40). -/
def State.readLtLo (s : State) (dt : LineTime) : State :=
  let s := (s.elapse dt).liveRead
  { s with clk := { s.clk with ltHi := some (s.lt.extractLsb' 32 16) } }

/-! ## Core -/

/-- A privileged instruction (R342, R393). -/
def State.supOnly (s : State) (a : Act) : Act := if s.cpu.psr.sup then a else s.trapAct 0x11 0 none

/-- Issue where a condition on the command holds. -/
def State.issueIf (s : State) (c : Bool) (plan : State → Act) : State := if c then s.issue plan else s

/-- MFS (R341, R342). -/
def State.mfsAct (s : State) (rd : Fin 16) (aux : Nat) : Act :=
  if aux ≥ 12 then s.trapAct 0x10 0 none
  else if !s.cpu.psr.sup && aux != 0 && aux != 11 then s.trapAct 0x11 0 none
  else .run 1 false fun (t : State) => (t.setGr rd (t.special aux)).advance

/-- MTS (R341 to R343). -/
def State.mtsAct (s : State) (aux : Nat) (ra : Fin 16) : Act :=
  if aux ≥ 11 then s.trapAct 0x10 0 none
  else s.supOnly (.run 2 false fun (t : State) => (t.setSpecial aux (t.gr ra)).advance)

/-- CRITB opens a window of CRIT_MAX core cycles (R417). -/
def State.openWindow (s : State) : State :=
  { s with cpu := { s.cpu with psr := { s.cpu.psr with crit := true }, critLeft := s.fd R.CPU_CRIT_MAX 0 8 } }

/-- YIELD: in a tick an open window closes (R416) and the core parks; elsewhere it does nothing beyond its cycle (R382). -/
def State.yieldNow (s : State) : State :=
  if s.budgeted then ((if s.cpu.psr.crit then s.closeWindow else s).advance).park else s.advance

/-- The fetch at PC meets a fault: IACCESS, MEMERR, or a corrected error that is reported (R345, R396, R398). -/
def State.fetchTrap (s : State) (ecc : Ecc) : State :=
  if s.boundary ≠ .issue then s
  else
    let pc := s.cpu.pc.toNat
    match s.accessFault .fetch 4 pc, memRegion pc with
    | some sub, _ =>
      s.heavyTrap 0 0x13 sub false s.cpu.pc (some s.cpu.pc) fun (t : State) => if sub = 5 then t.mpuDeny 0 pc s.cpu.psr.sup else t
    | none, none => s
    | none, some g =>
      if s.flashWait g then s
      else
        match s.eccAt g pc ecc with
        | .ok => s
        | .corrected => s.memReport g pc P.CPU .corrected
        | .uncorrectable => s.heavyTrap 0 0x16 1 false s.cpu.pc (some s.cpu.pc) fun (t : State) => t.memReport g pc P.CPU .uncorrectable

/-! ## Converters, self-test, flash, ports -/

/-- The strobe that ends a precision window has been taken (R508). -/
def State.windowOver (s : State) : Bool := s.adc.pbusy && !s.adc.pstart && decide (s.adc.left < s.adc.strobes)

/-- A step window, in a tick at its place in Table 1-2: one step of each lane that runs a test, and patrol where the MEM lane is empty and the life-cycle state permits it (R717, R723, R728). -/
def State.stepWindow (s : State) (memOk copyBad anaOk sysOk : Bool) (found : List (Nat × Word)) (copyAt : List (Fin 32)) : State :=
  if s.ticking && !s.turn 4 (s.guardG + 192) then s
  else
  let s := if s.ticking then s.partTo 4 (s.guardG + 192) else s
  let idle := s.slf.mem.run.isNone
  let s := ((s.memStep memOk copyBad copyAt).anaStep anaOk).sysStep sysOk
  if idle && s.ticking && s.lcs.state != 4 then s.patrol found else s

/-- The count of a CLK test ends (R717). -/
def State.clkTestEnd (s : State) (pass : Bool) : State :=
  match s.slf.sys.run with
  | none => s
  | some j => if j.test = 7 then s.laneEnd 2 j (if pass then 0 else 1) 0 else s

/-- The buckets decay in the tick whose count reaches SLF.CLS.DECAY (R710). -/
def State.bucketDecay (s : State) : State :=
  if s.ticking && s.tck.inTick && decide (s.slf.decayCt ≥ s.fd R.SLF_CLS 16 16) then
    let s := (List.range 10).foldl (fun (s : State) i => s.setBucket (i + 1) (s.bucket (i + 1) - 1)) s
    { s with slf := { s.slf with decayCt := 0 } }
  else s

/-- A write of 1 to SLF.CTRL.BIST, with what the elements find (R724, R726). -/
def State.bistWrite (s : State) (path : Path) (fails : Nat) (addr : Word) (rows : List (Nat × Nat)) : State :=
  if s.landsNow path then
    let r := s.landModify path (rCTRL P.SLF) 0#32 0x100#32
    if r.2 = 0 then r.1.bist fails addr rows else s
  else s.queueWrite path 3 (rCTRL P.SLF) 0x100#32 0x100#32

/-- A monitor READ that waits for the flash is served once it is free. -/
def State.monFlash (s : State) : State :=
  match s.mon.wait with
  | some ⟨.read _ _ _, _, _⟩ => if s.fls.op.isNone then s.monServe else s
  | _ => s

/-- A defined operation code of the host SPI port other than NOP (Table 16-3). -/
def spiCode (code : Nat) : Bool := code == 1 || code == 2 || code == 3 || code == 4 || code == 16

end Sys2Proof.Machine
end

