-- ==== Sys2Proof/Machine/Clock.lean ====
section
/-! DEFINITION. Clock events and line-time (chapter 1). -/

namespace Sys2Proof.Machine

/-- PLL_LOCK (R817): in a system reset the lock is noted and CLK stays in OSC until the release. -/
def execPllLock (s : State) : Host.Outcome State Fault Refusal :=
  s.done (if s.lineOn then s.pllLock else if s.supplied then { s with clk := { s.clk with pllok := true } } else s)

/-- PLL_UNLOCK (R30): in a system reset the loss is noted, and the lock of its step 4 no longer stands at the release (R817). In DOZE, where CORE is stopped, the PLL has no lock to lose and the command changes nothing (the spec does not say:
DESIGN CHOICE, log entry 51). -/
def execPllUnlock (s : State) : Host.Outcome State Fault Refusal :=
  s.done (if s.awake then s.pllUnlock else if s.pwr.inReset then { s with clk := { s.clk with pllok := false }, pwr := { s.pwr with start := 5 } } else s)

/-- PLL_RELOCK (R31). -/
def execPllRelock (s : State) : Host.Outcome State Fault Refusal :=
  s.done (if s.lineOn then s.pllRelock else s)

/-- CLK_LOSS_GAP (R25). -/
def execClkLossGap (dt : LineTime) (s : State) : Host.Outcome State Fault Refusal :=
  s.done (if s.lineOn then (s.elapse dt).lossGap else s)

/-- HOLD_TIMEOUT (R813). -/
def execHoldTimeout (s : State) : Host.Outcome State Fault Refusal :=
  s.done (if s.lineOn then s.holdTimeout else s)

/-- REFOK_SET (R812). -/
def execRefokSet (dt : LineTime) (s : State) : Host.Outcome State Fault Refusal :=
  s.done (if s.lineOn then (s.elapse dt).refokSet else s)

/-- REF_LOSS (R36). -/
def execRefLoss (dt : LineTime) (s : State) : Host.Outcome State Fault Refusal :=
  s.done (if s.lineOn then (s.elapse dt).refLoss else s)

/-- CLK_SRC_WRITE (R38). -/
def execClkSrcWrite (path : Path) (src : Bool) (dt : LineTime) (s : State) : Host.Outcome State Fault Refusal :=
  s.done ((if s.lineOn then s.elapse dt else s).writeBits path (rCTRL P.CLK) (wd src.toNat) 1#32)

/-- LT_LO_READ (R40). -/
def execLtLoRead (dt : LineTime) (s : State) : Host.Outcome State Fault Refusal :=
  s.done (if s.coreOn then s.readLtLo dt else s)

end Sys2Proof.Machine
end

