-- ==== Sys2Proof/Machine/Converters.lean ====
section
/-! DEFINITION. Owl: channel ownership, precision windows and calibration (chapter 10). -/

namespace Sys2Proof.Machine

/-- OWN_REQ (R518). -/
def execOwnReq (path : Path) (c : Fin 2) (s : State) : Host.Outcome State Fault Refusal :=
  s.done (s.writeBits path (R.FM_OWN c.val) 1#32 1#32)

/-- OWN_REL (R518). -/
def execOwnRel (path : Path) (c : Fin 2) (s : State) : Host.Outcome State Fault Refusal :=
  s.done (s.writeBits path (R.FM_OWN c.val) 2#32 2#32)

/-- PSTART (R508). -/
def execPstart (path : Path) (s : State) : Host.Outcome State Fault Refusal :=
  s.done (s.writeBits path (rCTRL P.ADC) (wd 1) (wd 1))

/-- PSTOP (R508). -/
def execPstop (path : Path) (s : State) : Host.Outcome State Fault Refusal :=
  s.done (s.writeBits path (rCTRL P.ADC) (wd 2) (wd 2))

/-- PRECISION_WINDOW_END (R509). -/
def execPrecisionWindowEnd (raw : Int) (ovl : Bool) (s : State) : Host.Outcome State Fault Refusal :=
  s.done (if s.windowOver then (s.precEnd raw ovl).seqPrecDone else s)

/-- CAL_LOAD (R515). -/
def execCalLoad (path : Path) (s : State) : Host.Outcome State Fault Refusal :=
  s.done (s.writeBits path (rCTRL P.CAL) (wd 1) (wd 1))

end Sys2Proof.Machine
end

