-- ==== Sys2Proof/Machine/CoreAlu.lean ====
section
/-! DEFINITION. Arithmetic and logic of the Badger core (chapter 7). -/

namespace Sys2Proof.Machine

/-- ADD (R387). -/
def execAdd (rd : Fin 16) (ra : Fin 16) (rb : Fin 16) (s : State) : Host.Outcome State Fault Refusal :=
  s.ran (s.issue (aluAct 1 rd fun t => t.gr ra + t.gr rb))

/-- SUB (R387). -/
def execSub (rd : Fin 16) (ra : Fin 16) (rb : Fin 16) (s : State) : Host.Outcome State Fault Refusal :=
  s.ran (s.issue (aluAct 1 rd fun t => t.gr ra - t.gr rb))

/-- AND (R387). -/
def execAnd (rd : Fin 16) (ra : Fin 16) (rb : Fin 16) (s : State) : Host.Outcome State Fault Refusal :=
  s.ran (s.issue (aluAct 1 rd fun t => t.gr ra &&& t.gr rb))

/-- OR (R387). -/
def execOr (rd : Fin 16) (ra : Fin 16) (rb : Fin 16) (s : State) : Host.Outcome State Fault Refusal :=
  s.ran (s.issue (aluAct 1 rd fun t => t.gr ra ||| t.gr rb))

/-- XOR (R387). -/
def execXor (rd : Fin 16) (ra : Fin 16) (rb : Fin 16) (s : State) : Host.Outcome State Fault Refusal :=
  s.ran (s.issue (aluAct 1 rd fun t => t.gr ra ^^^ t.gr rb))

/-- SHL (R387). -/
def execShl (rd : Fin 16) (ra : Fin 16) (rb : Fin 16) (s : State) : Host.Outcome State Fault Refusal :=
  s.ran (s.issue (aluAct 1 rd fun t => t.gr ra <<< shiftOf (t.gr rb)))

/-- SHR (R387). -/
def execShr (rd : Fin 16) (ra : Fin 16) (rb : Fin 16) (s : State) : Host.Outcome State Fault Refusal :=
  s.ran (s.issue (aluAct 1 rd fun t => t.gr ra >>> shiftOf (t.gr rb)))

/-- SRA (R387). -/
def execSra (rd : Fin 16) (ra : Fin 16) (rb : Fin 16) (s : State) : Host.Outcome State Fault Refusal :=
  s.ran (s.issue (aluAct 1 rd fun t => (t.gr ra).sshiftRight (shiftOf (t.gr rb))))

/-- SLT (R387). -/
def execSlt (rd : Fin 16) (ra : Fin 16) (rb : Fin 16) (s : State) : Host.Outcome State Fault Refusal :=
  s.ran (s.issue (aluAct 1 rd fun t => boolWord ((t.gr ra).slt (t.gr rb))))

/-- SLTU (R387). -/
def execSltu (rd : Fin 16) (ra : Fin 16) (rb : Fin 16) (s : State) : Host.Outcome State Fault Refusal :=
  s.ran (s.issue (aluAct 1 rd fun t => boolWord ((t.gr ra).ult (t.gr rb))))

/-- MIN (R387). -/
def execMin (rd : Fin 16) (ra : Fin 16) (rb : Fin 16) (s : State) : Host.Outcome State Fault Refusal :=
  s.ran (s.issue (aluAct 1 rd fun t => if (t.gr ra).slt (t.gr rb) then t.gr ra else t.gr rb))

/-- MAX (R387). -/
def execMax (rd : Fin 16) (ra : Fin 16) (rb : Fin 16) (s : State) : Host.Outcome State Fault Refusal :=
  s.ran (s.issue (aluAct 1 rd fun t => if (t.gr ra).slt (t.gr rb) then t.gr rb else t.gr ra))

/-- ADDS (R387). -/
def execAdds (rd : Fin 16) (ra : Fin 16) (rb : Fin 16) (s : State) : Host.Outcome State Fault Refusal :=
  s.ran (s.issue (satAct 1 rd fun t => satWord ((t.gr ra).toInt + (t.gr rb).toInt)))

/-- SUBS (R387). -/
def execSubs (rd : Fin 16) (ra : Fin 16) (rb : Fin 16) (s : State) : Host.Outcome State Fault Refusal :=
  s.ran (s.issue (satAct 1 rd fun t => satWord ((t.gr ra).toInt - (t.gr rb).toInt)))

/-- CLZ (R387). -/
def execClz (rd : Fin 16) (ra : Fin 16) (s : State) : Host.Outcome State Fault Refusal :=
  s.ran (s.issue (aluAct 1 rd fun t => clzWord (t.gr ra)))

/-- MUL (R387). -/
def execMul (rd : Fin 16) (ra : Fin 16) (rb : Fin 16) (s : State) : Host.Outcome State Fault Refusal :=
  s.ran (s.issue (aluAct 2 rd fun t => t.gr ra * t.gr rb))

/-- MULH (R387). -/
def execMulh (rd : Fin 16) (ra : Fin 16) (rb : Fin 16) (s : State) : Host.Outcome State Fault Refusal :=
  s.ran (s.issue (aluAct 2 rd fun t => mulHigh (t.gr ra).toInt (t.gr rb).toInt))

/-- MULHU (R387). -/
def execMulhu (rd : Fin 16) (ra : Fin 16) (rb : Fin 16) (s : State) : Host.Outcome State Fault Refusal :=
  s.ran (s.issue (aluAct 2 rd fun t => mulHigh (t.gr ra).toNat (t.gr rb).toNat))

/-- MULSH (R387). -/
def execMulsh (rd : Fin 16) (ra : Fin 16) (rb : Fin 16) (n : BitVec 5) (s : State) : Host.Outcome State Fault Refusal :=
  s.ran (s.issue (satAct 3 rd fun t => satWord (rshr ((t.gr ra).toInt * (t.gr rb).toInt) n.toNat)))

/-- DIV (R388). -/
def execDiv (rd : Fin 16) (ra : Fin 16) (rb : Fin 16) (s : State) : Host.Outcome State Fault Refusal :=
  s.ran (s.issue (aluAct 18 rd fun t => divS (t.gr ra) (t.gr rb)))

/-- DIVU (R388). -/
def execDivu (rd : Fin 16) (ra : Fin 16) (rb : Fin 16) (s : State) : Host.Outcome State Fault Refusal :=
  s.ran (s.issue (aluAct 18 rd fun t => divU (t.gr ra) (t.gr rb)))

/-- REM (R388). -/
def execRem (rd : Fin 16) (ra : Fin 16) (rb : Fin 16) (s : State) : Host.Outcome State Fault Refusal :=
  s.ran (s.issue (aluAct 18 rd fun t => remS (t.gr ra) (t.gr rb)))

/-- REMU (R388). -/
def execRemu (rd : Fin 16) (ra : Fin 16) (rb : Fin 16) (s : State) : Host.Outcome State Fault Refusal :=
  s.ran (s.issue (aluAct 18 rd fun t => remU (t.gr ra) (t.gr rb)))

/-- ADDI (R387). -/
def execAddi (rd : Fin 16) (ra : Fin 16) (imm : BitVec 18) (s : State) : Host.Outcome State Fault Refusal :=
  s.ran (s.issue (aluAct 1 rd fun t => t.gr ra + immS imm))

/-- ANDI (R387). -/
def execAndi (rd : Fin 16) (ra : Fin 16) (imm : BitVec 18) (s : State) : Host.Outcome State Fault Refusal :=
  s.ran (s.issue (aluAct 1 rd fun t => t.gr ra &&& immZ imm))

/-- ORI (R387). -/
def execOri (rd : Fin 16) (ra : Fin 16) (imm : BitVec 18) (s : State) : Host.Outcome State Fault Refusal :=
  s.ran (s.issue (aluAct 1 rd fun t => t.gr ra ||| immZ imm))

/-- XORI (R387). -/
def execXori (rd : Fin 16) (ra : Fin 16) (imm : BitVec 18) (s : State) : Host.Outcome State Fault Refusal :=
  s.ran (s.issue (aluAct 1 rd fun t => t.gr ra ^^^ immZ imm))

/-- SLTI (R387). -/
def execSlti (rd : Fin 16) (ra : Fin 16) (imm : BitVec 18) (s : State) : Host.Outcome State Fault Refusal :=
  s.ran (s.issue (aluAct 1 rd fun t => boolWord ((t.gr ra).slt (immS imm))))

/-- SLTIU (R387). -/
def execSltiu (rd : Fin 16) (ra : Fin 16) (imm : BitVec 18) (s : State) : Host.Outcome State Fault Refusal :=
  s.ran (s.issue (aluAct 1 rd fun t => boolWord ((t.gr ra).ult (immS imm))))

/-- LUI (R385). -/
def execLui (rd : Fin 16) (imm : BitVec 18) (s : State) : Host.Outcome State Fault Refusal :=
  s.ran (s.issue (aluAct 1 rd fun _ => immU imm))

/-- SHLI (R387). -/
def execShli (rd : Fin 16) (ra : Fin 16) (n : BitVec 5) (s : State) : Host.Outcome State Fault Refusal :=
  s.ran (s.issue (aluAct 1 rd fun t => t.gr ra <<< n.toNat))

/-- SHRI (R387). -/
def execShri (rd : Fin 16) (ra : Fin 16) (n : BitVec 5) (s : State) : Host.Outcome State Fault Refusal :=
  s.ran (s.issue (aluAct 1 rd fun t => t.gr ra >>> n.toNat))

/-- SRAI (R387). -/
def execSrai (rd : Fin 16) (ra : Fin 16) (n : BitVec 5) (s : State) : Host.Outcome State Fault Refusal :=
  s.ran (s.issue (aluAct 1 rd fun t => (t.gr ra).sshiftRight n.toNat))

end Sys2Proof.Machine
end

