-- ==== Sys2Proof/Machine/CoreFlow.lean ====
section
/-! DEFINITION. Branches, jumps, calls and returns of the Badger core (chapter 7). -/

namespace Sys2Proof.Machine

/-- BEQ (R387). -/
def execBeq (ra : Fin 16) (rb : Fin 16) (off : BitVec 18) (s : State) : Host.Outcome State Fault Refusal :=
  s.ran (s.issue fun t => t.branchAct (t.gr ra == t.gr rb) off)

/-- BNE (R387). -/
def execBne (ra : Fin 16) (rb : Fin 16) (off : BitVec 18) (s : State) : Host.Outcome State Fault Refusal :=
  s.ran (s.issue fun t => t.branchAct (t.gr ra != t.gr rb) off)

/-- BLT (R387). -/
def execBlt (ra : Fin 16) (rb : Fin 16) (off : BitVec 18) (s : State) : Host.Outcome State Fault Refusal :=
  s.ran (s.issue fun t => t.branchAct ((t.gr ra).slt (t.gr rb)) off)

/-- BGE (R387). -/
def execBge (ra : Fin 16) (rb : Fin 16) (off : BitVec 18) (s : State) : Host.Outcome State Fault Refusal :=
  s.ran (s.issue fun t => t.branchAct (!(t.gr ra).slt (t.gr rb)) off)

/-- BLTU (R387). -/
def execBltu (ra : Fin 16) (rb : Fin 16) (off : BitVec 18) (s : State) : Host.Outcome State Fault Refusal :=
  s.ran (s.issue fun t => t.branchAct ((t.gr ra).ult (t.gr rb)) off)

/-- BGEU (R387). -/
def execBgeu (ra : Fin 16) (rb : Fin 16) (off : BitVec 18) (s : State) : Host.Outcome State Fault Refusal :=
  s.ran (s.issue fun t => t.branchAct (!(t.gr ra).ult (t.gr rb)) off)

/-- JMP (R387). -/
def execJmp (off : BitVec 26) (s : State) : Host.Outcome State Fault Refusal :=
  s.ran (s.issue fun t => t.jumpAct (t.target off))

/-- CALL (R348). -/
def execCall (off : BitVec 26) (s : State) : Host.Outcome State Fault Refusal :=
  s.ran (s.issue fun t => t.callAct (t.target off))

/-- JR (R387). -/
def execJr (ra : Fin 16) (s : State) : Host.Outcome State Fault Refusal :=
  s.ran (s.issue fun t => t.jumpAct (t.gr ra))

/-- CALLR (R348). -/
def execCallr (ra : Fin 16) (s : State) : Host.Outcome State Fault Refusal :=
  s.ran (s.issue fun t => t.callAct (t.gr ra))

/-- RET (R350). -/
def execRet (fill : Ecc) (s : State) (fillAt : Fin 8 := 0) : Host.Outcome State Fault Refusal :=
  s.ran (s.issue fun t => t.retAct fill fillAt)

end Sys2Proof.Machine
end

