-- ==== Sys2Proof/Machine/CoreLong.lean ====
section
/-! DEFINITION. Long instructions of the Badger core (chapter 7). -/

namespace Sys2Proof.Machine

/-- BMOVE (R370). -/
def execBmove (rd : Fin 16) (ra : Fin 16) (rb : Fin 16) (n : Nat) (ecc : Ecc) (s : State) : Host.Outcome State Fault Refusal :=
  s.ran (s.issue fun t => t.longAct .bmove rd ra rb n ecc .ok)

/-- BFILL (R370). -/
def execBfill (rd : Fin 16) (ra : Fin 16) (rb : Fin 16) (n : Nat) (s : State) : Host.Outcome State Fault Refusal :=
  s.ran (s.issue fun t => t.longAct .bfill rd ra rb n .ok .ok)

/-- VMAC16 (R370). -/
def execVmac16 (rd : Fin 16) (ra : Fin 16) (rb : Fin 16) (n : Nat) (ecc : Ecc) (eccY : Ecc) (s : State) : Host.Outcome State Fault Refusal :=
  s.ran (s.issue fun t => t.longAct .vmac16 rd ra rb n ecc eccY)

/-- VMAC32 (R370). -/
def execVmac32 (rd : Fin 16) (ra : Fin 16) (rb : Fin 16) (n : Nat) (ecc : Ecc) (eccY : Ecc) (s : State) : Host.Outcome State Fault Refusal :=
  s.ran (s.issue fun t => t.longAct .vmac32 rd ra rb n ecc eccY)

/-- BCRC32 (R370). -/
def execBcrc32 (rd : Fin 16) (ra : Fin 16) (rb : Fin 16) (n : Nat) (ecc : Ecc) (s : State) : Host.Outcome State Fault Refusal :=
  s.ran (s.issue fun t => t.longAct .bcrc32 rd ra rb n ecc .ok)

/-- BCRC16 (R370). -/
def execBcrc16 (rd : Fin 16) (ra : Fin 16) (rb : Fin 16) (n : Nat) (ecc : Ecc) (s : State) : Host.Outcome State Fault Refusal :=
  s.ran (s.issue fun t => t.longAct .bcrc16 rd ra rb n ecc .ok)

end Sys2Proof.Machine
end

