-- ==== Sys2Proof/Machine/CoreMem.lean ====
section
/-! DEFINITION. Loads, stores and the write buffer of the Badger core (chapters 7 and 8). -/

namespace Sys2Proof.Machine

/-- LB (R344). -/
def execLb (rd : Fin 16) (ra : Fin 16) (imm : BitVec 18) (ecc : Ecc) (s : State) : Host.Outcome State Fault Refusal :=
  s.ran (s.issue fun t => t.loadAct 1 true rd (t.addrOf ra imm) ecc)

/-- LBU (R344). -/
def execLbu (rd : Fin 16) (ra : Fin 16) (imm : BitVec 18) (ecc : Ecc) (s : State) : Host.Outcome State Fault Refusal :=
  s.ran (s.issue fun t => t.loadAct 1 false rd (t.addrOf ra imm) ecc)

/-- LH (R344). -/
def execLh (rd : Fin 16) (ra : Fin 16) (imm : BitVec 18) (ecc : Ecc) (s : State) : Host.Outcome State Fault Refusal :=
  s.ran (s.issue fun t => t.loadAct 2 true rd (t.addrOf ra imm) ecc)

/-- LHU (R344). -/
def execLhu (rd : Fin 16) (ra : Fin 16) (imm : BitVec 18) (ecc : Ecc) (s : State) : Host.Outcome State Fault Refusal :=
  s.ran (s.issue fun t => t.loadAct 2 false rd (t.addrOf ra imm) ecc)

/-- LW (R367). -/
def execLw (rd : Fin 16) (ra : Fin 16) (imm : BitVec 18) (ecc : Ecc) (s : State) : Host.Outcome State Fault Refusal :=
  s.ran (s.issue fun t => t.loadAct 4 false rd (t.addrOf ra imm) ecc)

/-- SB (R366). -/
def execSb (rd : Fin 16) (ra : Fin 16) (imm : BitVec 18) (s : State) (ecc : Ecc := .ok) : Host.Outcome State Fault Refusal :=
  s.ran (s.issue fun t => t.storeAct 1 (t.gr rd) (t.addrOf ra imm) ecc)

/-- SH (R366). -/
def execSh (rd : Fin 16) (ra : Fin 16) (imm : BitVec 18) (s : State) (ecc : Ecc := .ok) : Host.Outcome State Fault Refusal :=
  s.ran (s.issue fun t => t.storeAct 2 (t.gr rd) (t.addrOf ra imm) ecc)

/-- SW (R366). -/
def execSw (rd : Fin 16) (ra : Fin 16) (imm : BitVec 18) (s : State) : Host.Outcome State Fault Refusal :=
  s.ran (s.issue fun t => t.storeAct 4 (t.gr rd) (t.addrOf ra imm) .ok)

/-- STORE_DRAIN (R366). -/
def execStoreDrain (ecc : Ecc) (s : State) : Host.Outcome State Fault Refusal :=
  s.done (if s.awake && !s.frozen && s.landsNow .coreSup then (s.drainOne ecc) else s)

/-- LATE_STORE (R412). -/
def execLateStore (s : State) : Host.Outcome State Fault Refusal :=
  s.done (s.takeLate)

end Sys2Proof.Machine
end

