-- ==== Sys2Proof/Machine/CoreSys.lean ====
section
/-! DEFINITION. Special registers, exceptions, gates, critical windows and light events of the Badger core (chapters 7 and 8). -/

namespace Sys2Proof.Machine

/-- MFS (R342). -/
def execMfs (rd : Fin 16) (aux : BitVec 8) (s : State) : Host.Outcome State Fault Refusal :=
  s.ran (s.issue fun t => t.mfsAct rd aux.toNat)

/-- MTS (R342). -/
def execMts (aux : BitVec 8) (ra : Fin 16) (s : State) : Host.Outcome State Fault Refusal :=
  s.ran (s.issue fun t => t.mtsAct aux.toNat ra)

/-- ERET (R408). -/
def execEret (fill : Ecc) (s : State) (fillAt : Fin 8 := 0) : Host.Outcome State Fault Refusal :=
  s.ran (s.issue fun t => t.supOnly (t.eretAct fill fillAt))

/-- GATE (R426). -/
def execGate (n : BitVec 6) (ecc : Ecc) (s : State) : Host.Outcome State Fault Refusal :=
  s.ran (s.issue fun t => t.gateAct n.toNat ecc)

/-- GRET (R428). -/
def execGret (ecc : Ecc) (fill : Ecc) (s : State) (fillAt : Fin 8 := 0) : Host.Outcome State Fault Refusal :=
  s.ran (s.issue fun t => t.supOnly (t.gretAct ecc fill fillAt))

/-- TRAP (R387). -/
def execTrap (aux : BitVec 8) (s : State) : Host.Outcome State Fault Refusal :=
  s.ran (s.issue fun t => .trap 1 0x1A aux.toNat t.nextPc none id)

/-- BRK (R387). -/
def execBrk (s : State) : Host.Outcome State Fault Refusal :=
  s.ran (s.issue fun t => .trap 1 0x1B 0 t.cpu.pc none id)

/-- FENCE (R387). -/
def execFence (s : State) : Host.Outcome State Fault Refusal :=
  s.ran (s.issue fun t => .after (drainTime t.cpu.wb) 1 none false State.advance)

/-- CRITB (R415). -/
def execCritb (s : State) : Host.Outcome State Fault Refusal :=
  s.ran (s.issue fun t => t.supOnly (.run 1 false fun u => (if u.cpu.psr.crit then u else u.openWindow).advance))

/-- CRITE (R416). -/
def execCrite (s : State) : Host.Outcome State Fault Refusal :=
  s.ran (s.issue fun t => t.supOnly (.run 1 false fun u => (if u.cpu.psr.crit then u.closeWindow else u).advance))

/-- YIELD (R382). -/
def execYield (s : State) : Host.Outcome State Fault Refusal :=
  s.ran (s.issue fun _ => .run 1 false fun u => u.yieldNow)

/-- LIGHT_EVENT_ENTRY (R407). -/
def execLightEventEntry (s : State) : Host.Outcome State Fault Refusal :=
  s.done (s.lightEntry)

/-- HWMCLR (R360). -/
def execHwmclr (path : Path) (s : State) : Host.Outcome State Fault Refusal :=
  s.done (s.writeBits path (rCTRL P.CPU) (wd 1) (wd 1))

/-- OVRCLR (R389). -/
def execOvrclr (path : Path) (s : State) : Host.Outcome State Fault Refusal :=
  s.done (s.writeBits path (rCTRL P.CPU) (wd 2) (wd 2))

/-- ILLEGAL_INSTRUCTION (R386). -/
def execIllegalInstruction (word : Word) (s : State) : Host.Outcome State Fault Refusal :=
  s.ran (s.issueIf (illegalWord word) fun t => t.trapAct 0x10 0 none)

/-- INSTRUCTION_ACCESS_FAULT (R345). -/
def execInstructionAccessFault (ecc : Ecc) (s : State) : Host.Outcome State Fault Refusal :=
  s.done (s.fetchTrap ecc)

end Sys2Proof.Machine
end

