-- ==== Sys2Proof/Machine/Cycle.lean ====
section
/-! DEFINITION. Cycle frames, register commands and queues (chapter 6). -/

namespace Sys2Proof.Machine

/-- CYCLE_FRAME_RX (R303). -/
def execCycleFrameRx (s : State) (also : Nat := 0) (dt : Nat := 0) : Host.Outcome State Fault Refusal :=
  s.done (if s.lineOn then s.cycRx (also &&& alsoMask) dt else s)

/-- SECTION_ADMIT (R318). -/
def execSectionAdmit (s : State) : Host.Outcome State Fault Refusal :=
  s.done (if s.awake then s.admitNow else s)

/-- CMD_READ (R299). -/
def execCmdRead (s : State) : Host.Outcome State Fault Refusal :=
  s.done (if s.awake && s.frontIs 1 then s.execFront else s)

/-- CMD_WRITE (R299). -/
def execCmdWrite (s : State) : Host.Outcome State Fault Refusal :=
  s.done (if s.awake && s.frontIs 2 then s.execFront else s)

/-- CMD_MODIFY (R299). -/
def execCmdModify (s : State) : Host.Outcome State Fault Refusal :=
  s.done (if s.awake && s.frontIs 3 then s.execFront else s)

/-- CMD_FLUSHMARK (R299). -/
def execCmdFlushmark (s : State) : Host.Outcome State Fault Refusal :=
  s.done (if s.awake && s.frontIs 4 then s.execFront else s)

/-- RESPONSE_ASSEMBLY (R321). -/
def execResponseAssembly (s : State) : Host.Outcome State Fault Refusal :=
  s.done (if s.turn 6 (s.guardG + 448) then (s.partTo 6 (s.guardG + 448)).tickAssemble else s)

/-- IDLE_REPORT (R321). -/
def execIdleReport (s : State) : Host.Outcome State Fault Refusal :=
  s.done (if s.awake then s.idleReport else s)

/-- FLUSH (R322). -/
def execFlush (path : Path) (s : State) : Host.Outcome State Fault Refusal :=
  s.done (s.writeBits path (rCTRL P.QUE) (wd 1) (wd 1))

end Sys2Proof.Machine
end

