-- ==== Sys2Proof/Machine/EngineRows.lean ====
section
/-! DEFINITION. The control engine, the vector unit, encoder, Hall inputs and injectors (chapter 12). -/

namespace Sys2Proof.Machine

/-- ENGINE_EVALUATION (R563). -/
def execEngineEvaluation (s : State) : Host.Outcome State Fault Refusal :=
  s.done (s.engineTick)

/-- HALL_TIMEOUT (R591). -/
def execHallTimeout (s : State) : Host.Outcome State Fault Refusal :=
  s.done (if s.ticking && s.bit (rCTRL P.VEC) 0 && decide (s.fd R.VEC_HTIMEOUT 0 16 ≤ s.vec.slots) then s.hallTimeout else s)

/-- ENCODER_EDGE (R592). -/
def execEncoderEdge (chan : Nat) (s : State) : Host.Outcome State Fault Refusal :=
  s.done (if s.awake then s.encoderEdge chan else s)

/-- ENC_Z (R592). -/
def execEncZ (s : State) : Host.Outcome State Fault Refusal :=
  s.done (if s.awake then s.encoderZ else s)

/-- INJECTOR_RUN_END (R633). -/
def execInjectorRunEnd (s : State) : Host.Outcome State Fault Refusal :=
  s.done (if s.ticking && !s.frozen then s.injEnds else s)

end Sys2Proof.Machine
end

