-- ==== Sys2Proof/Machine/Flash.lean ====
section
/-! DEFINITION. The flash controller (chapter 16). -/

namespace Sys2Proof.Machine

/-- PROGRAM (R758). -/
def execProgram (path : Path) (s : State) : Host.Outcome State Fault Refusal :=
  s.done (s.writeBits path (rCTRL P.FLS) 1#32 3#32)

/-- ERASE (R758). -/
def execErase (path : Path) (s : State) : Host.Outcome State Fault Refusal :=
  s.done (s.writeBits path (rCTRL P.FLS) 2#32 3#32)

/-- FLASH_OP_DONE (R760). -/
def execFlashOpDone (verify : Bool) (s : State) : Host.Outcome State Fault Refusal :=
  s.done (if s.awake then ((s.flsDone verify).monFlash) else s)

/-- FLASH_PROTECT (R761). -/
def execFlashProtect (path : Path) (k : Fin 5) (v : Word) (s : State) : Host.Outcome State Fault Refusal :=
  s.done (s.writeWord path (R.FLS_PROT0 + 4 * k.val) v)

end Sys2Proof.Machine
end

