-- ==== Sys2Proof/Machine/Isinasia.lean ====
section
/-! DEFINITION. The Isinasia profile (chapter 5). -/

namespace Sys2Proof.Machine

/-- NEGOTIATION (R238). -/
def execNegotiation (s : State) : Host.Outcome State Fault Refusal :=
  s.done (if s.lineOn then s.negotiate else s)

/-- NEG_DONE (R240). -/
def execNegDone (page : Word) (id : Option (BitVec 24)) (base10 : Bool) (s : State) (more : Nat := 0) : Host.Outcome State Fault Refusal :=
  s.done (if s.lineOn then (s.negDone page id base10 more) else s)

/-- TRAINING_START (R242). -/
def execTrainingStart (s : State) : Host.Outcome State Fault Refusal :=
  s.done (if s.lineOn && s.lnk.profact == 3 && s.isn.stage == 7 && s.isn.left == 0 then s.trainStart else s)

/-- TRAINING_STAGE_END (R243). -/
def execTrainingStageEnd (echo : Nat) (s : State) : Host.Outcome State Fault Refusal :=
  s.done (if s.lineOn then (s.stageEnd echo) else s)

/-- TRAINING_RESTART (R249): after 50 superframes of silence. -/
def execTrainingRestart (s : State) : Host.Outcome State Fault Refusal :=
  s.done (if s.lineOn && s.lnk.profact == 3 && s.tmaster && s.isn.stage == 7 && s.isn.left == 0 then s.trainStart else s)

/-- SUPERFRAME_TX (R233). -/
def execSuperframeTx (s : State) (dt : LineTime := 0#48) : Host.Outcome State Fault Refusal :=
  s.done (if s.lineOn then (s.elapse dt).sfTx else s)

/-- SUPERFRAME_RX (R259). -/
def execSuperframeRx (rx : SfRx) (s : State) : Host.Outcome State Fault Refusal :=
  s.done (if s.lineOn then (s.sfRx rx) else s)

/-- LOAD_PROPOSE (R267). -/
def execLoadPropose (s : State) : Host.Outcome State Fault Refusal :=
  s.done (if s.lineOn then s.withMsg 1 State.onPropose else s)

/-- ACK (R268). -/
def execAck (s : State) : Host.Outcome State Fault Refusal :=
  s.done (if s.lineOn then (s.withMsg 2 State.onAck) else s)

/-- SEED (R269). -/
def execSeed (s : State) : Host.Outcome State Fault Refusal :=
  s.done (if s.lineOn then s.withMsg 3 State.onSeed else s)

/-- LQI_REPORT (R270). -/
def execLqiReport (s : State) : Host.Outcome State Fault Refusal :=
  s.done (if s.lineOn then s.withMsg 4 State.onLqi else s)

/-- LQI_REPORT_SEND (R270). -/
def execLqiReportSend (s : State) : Host.Outcome State Fault Refusal :=
  s.done (if s.lineOn then s.sendLqi else s)

/-- SWAP_FLIP (R267). -/
def execSwapFlip (s : State) : Host.Outcome State Fault Refusal :=
  s.done (if s.lineOn then s.swapFlip else s)

/-- PROPOSAL_TIMEOUT (R268). -/
def execProposalTimeout (s : State) : Host.Outcome State Fault Refusal :=
  s.done (if s.lineOn then s.propTimeout else s)

/-- LOADING_PERIOD (R265). -/
def execLoadingPeriod (s : State) : Host.Outcome State Fault Refusal :=
  s.done (if s.lineOn then s.loadPeriod else s)

/-- LOADNOW (R265). -/
def execLoadnow (path : Path) (s : State) : Host.Outcome State Fault Refusal :=
  s.done (s.writeBits path (rCTRL P.ISN) (wd 64) (wd 64))

/-- RCV (R252). -/
def execRcv (path : Path) (s : State) : Host.Outcome State Fault Refusal :=
  s.done (s.writeBits path (rCTRL P.ISN) (wd 16) (wd 16))

/-- RECONVERGENCE_START (R253). -/
def execReconvergenceStart (s : State) : Host.Outcome State Fault Refusal :=
  s.done (if s.lineOn then s.reconvStart else s)

/-- RECONVERGENCE_END (R253). -/
def execReconvergenceEnd (s : State) : Host.Outcome State Fault Refusal :=
  s.done (if s.lineOn then s.reconvEnd else s)

/-- RETRAIN (R196). -/
def execRetrain (path : Path) (s : State) : Host.Outcome State Fault Refusal :=
  s.done (s.writeBits path (rCTRL P.ISN) (wd 32) (wd 32))

/-- LPI_ENTER (R271). -/
def execLpiEnter (s : State) : Host.Outcome State Fault Refusal :=
  s.done (if s.lineOn then s.lpiEnter else s)

/-- LPI_EXIT (R272). -/
def execLpiExit (s : State) : Host.Outcome State Fault Refusal :=
  s.done (if s.lineOn then s.lpiExit else s)

/-- ISC_CLR (R286). -/
def execIscClr (path : Path) (s : State) : Host.Outcome State Fault Refusal :=
  s.done (s.writeBits path (rCTRL P.ISC) (wd 1) (wd 1))

/-- ACQ_TONE (R242). -/
def execAcqTone (present : Bool) (rate : Int) (s : State) : Host.Outcome State Fault Refusal :=
  s.done (if s.lineOn then s.acqTone present rate else s)

end Sys2Proof.Machine
end

