-- ==== Sys2Proof/Machine/Line.lean ====
section
/-! DEFINITION. The line transceiver, PLCA, CSMA/CD and cable diagnostics (chapter 4). -/

namespace Sys2Proof.Machine

/-- RX_FRAME (R165). -/
def execRxFrame (oct : List Byte) (dt : LineTime) (back : LineTime) (rate : Int) (jit : Nat) (sym : Nat) (s : State) : Host.Outcome State Fault Refusal :=
  s.done (if s.lineOn then ((s.elapse dt).lineSeen oct).rxFrame oct back rate jit sym else s)

/-- TX_FRAME (R170). -/
def execTxFrame (dt : LineTime) (s : State) : Host.Outcome State Fault Refusal :=
  s.done (if s.awake then (s.elapse dt).txHand else s)

/-- BEACON_RX (R174). -/
def execBeaconRx (s : State) (dt : LineTime := 0#48) : Host.Outcome State Fault Refusal :=
  s.done (if s.lineOn then (s.elapse dt).beaconRx else s)

/-- PLCA_LOSS (R174). -/
def execPlcaLoss (s : State) : Host.Outcome State Fault Refusal :=
  s.done (if s.lineOn then s.plcaLoss else s)

/-- BEACON_TX (R175). -/
def execBeaconTx (s : State) (dt : LineTime := 0#48) : Host.Outcome State Fault Refusal :=
  s.done (if s.awake then (s.elapse dt).beaconTx else s)

/-- PLCA_TX_OPPORTUNITY (R176). -/
def execPlcaTxOpportunity (dt : LineTime) (s : State) : Host.Outcome State Fault Refusal :=
  s.done (if s.lineOn then (s.elapse dt).plcaOpp else s)

/-- ID_CLASH (R179). -/
def execIdClash (s : State) : Host.Outcome State Fault Refusal :=
  s.done (if s.awake then s.idClash else s)

/-- COLLISION (R181). -/
def execCollision (bitTimes : Nat) (s : State) : Host.Outcome State Fault Refusal :=
  s.done (if s.awake then s.collision bitTimes else s)

/-- BACKOFF_END (R181). -/
def execBackoffEnd (s : State) : Host.Outcome State Fault Refusal :=
  s.done (if s.awake then s.backoffEnd else s)

/-- JABBER_TX (R183). -/
def execJabberTx (s : State) : Host.Outcome State Fault Refusal :=
  s.done (if s.awake then (s.txFault 0) else s)

/-- DRIVER_FAULT (R184). -/
def execDriverFault (s : State) : Host.Outcome State Fault Refusal :=
  s.done (if s.awake then (s.txFault 1) else s)

/-- JABBER_RX (R187). -/
def execJabberRx (s : State) : Host.Outcome State Fault Refusal :=
  s.done (if s.lineOn then s.rxJabber else s)

/-- LINK_WINDOW_EXPIRY (R188). -/
def execLinkWindowExpiry (quiet : Bool) (s : State) : Host.Outcome State Fault Refusal :=
  s.done (if s.lineOn then s.linkWindow quiet else s)

/-- LNK_CONFIG_APPLY (R195). -/
def execLnkConfigApply (s : State) : Host.Outcome State Fault Refusal :=
  s.done (if s.lineOn && s.portIdle then s.lnkApply else s)

/-- RESTART (R196). -/
def execRestart (path : Path) (s : State) : Host.Outcome State Fault Refusal :=
  s.done (s.writeBits path (rCTRL P.LNK) (wd 256) (wd 256))

/-- LNS_CLR (R199). -/
def execLnsClr (path : Path) (s : State) : Host.Outcome State Fault Refusal :=
  s.done (s.writeBits path (rCTRL P.LNS) (wd 1) (wd 1))

/-- LNS_FREEZE (R199). -/
def execLnsFreeze (path : Path) (on : Bool) (s : State) : Host.Outcome State Fault Refusal :=
  s.done (s.writeBits path (rCTRL P.LNS) (wd (2 * on.toNat)) 2#32)

/-- CDG_START (R201). -/
def execCdgStart (path : Path) (s : State) : Host.Outcome State Fault Refusal :=
  s.done (s.writeBits path (rCTRL P.CDG) (wd 1) (wd 1))

/-- CDG_PULSE_TRAIN (R202). -/
def execCdgPulseTrain (s : State) : Host.Outcome State Fault Refusal :=
  s.done (if s.lineOn then s.cdgPulses else s)

/-- CDG_DONE (R202). -/
def execCdgDone (peaks : List (Nat × Int)) (s : State) : Host.Outcome State Fault Refusal :=
  s.done (if s.lineOn then (s.cdgFinish peaks) else s)

/-- DISTURBED (R203). -/
def execDisturbed (s : State) : Host.Outcome State Fault Refusal :=
  s.done (if s.lineOn then (s.cdgStop true) else s)

/-- CDG_ABORT (R204). -/
def execCdgAbort (path : Path) (s : State) : Host.Outcome State Fault Refusal :=
  s.done (s.writeBits path (rCTRL P.CDG) (wd 2) (wd 2))

/-- LINE_ENERGY (R160): the amplitude on the line changes. -/
def execLineEnergy (mv : Nat) (gain : Nat) (noise : Nat) (s : State) (outS : Bool := false) : Host.Outcome State Fault Refusal :=
  s.done (s.lineEnergy mv gain noise outS)

/-- DETECTOR_SETTLED (R160). -/
def execDetectorSettled (s : State) : Host.Outcome State Fault Refusal :=
  s.done (if s.pwr.inReset then s else { s with lnk := { s.lnk with settling := false } })

end Sys2Proof.Machine
end

