-- ==== Sys2Proof/Machine/Monitor.lean ====
section
/-! DEFINITION. The monitor link (chapter 16). -/

namespace Sys2Proof.Machine

/-- MON_SYNC (R774). -/
def execMonSync (baud : Nat) (s : State) : Host.Outcome State Fault Refusal :=
  s.done (s.monSync baud)

/-- RESYNC (R774). -/
def execResync (path : Path) (s : State) : Host.Outcome State Fault Refusal :=
  s.done (s.writeBits path (rCTRL P.MON) (wd 1) (wd 1))

/-- PING (R765). -/
def execPing (seq : Nat) (fits : Bool) (s : State) : Host.Outcome State Fault Refusal :=
  s.done (s.monRequest .ping seq fits)

/-- MON_READ (R777). -/
def execMonRead (seq : Nat) (fits : Bool) (addr : Nat) (count : Nat) (eccs : List Ecc) (s : State) : Host.Outcome State Fault Refusal :=
  s.done ((s.monRequest (.read addr count eccs) seq fits))

/-- MON_WRITE (R776). -/
def execMonWrite (seq : Nat) (fits : Bool) (addr : Nat) (count : Nat) (words : List Word) (s : State) : Host.Outcome State Fault Refusal :=
  s.done ((s.monRequest (.write addr count words) seq fits))

/-- MON_MODIFY (R776). -/
def execMonModify (seq : Nat) (fits : Bool) (addr : Nat) (data : Word) (mask : Word) (ecc : Ecc) (s : State) : Host.Outcome State Fault Refusal :=
  s.done ((s.monRequest (.modify addr data mask ecc) seq fits))

/-- STEP (R778). -/
def execStep (seq : Nat) (fits : Bool) (count : Nat) (dt : LineTime) (s : State) : Host.Outcome State Fault Refusal :=
  s.done (((if s.lineOn then s.elapse dt else s).monRequest (.step count) seq fits))

/-- STEP_DONE (R779). -/
def execStepDone (s : State) : Host.Outcome State Fault Refusal :=
  s.done (s.stepDone)

/-- HALT (R780). -/
def execHalt (seq : Nat) (fits : Bool) (s : State) : Host.Outcome State Fault Refusal :=
  s.done (s.monRequest .halt seq fits)

/-- MON_GO (R781). -/
def execMonGo (seq : Nat) (fits : Bool) (addr : Nat) (s : State) : Host.Outcome State Fault Refusal :=
  s.done ((s.monRequest (.go addr) seq fits))

/-- MON_RESET (R782). -/
def execMonReset (seq : Nat) (fits : Bool) (kind : Nat) (s : State) : Host.Outcome State Fault Refusal :=
  s.done ((s.monRequest (.reset kind) seq fits))

/-- RETURN (R783). -/
def execReturnReq (seq : Nat) (fits : Bool) (resp : List Byte) (s : State) : Host.Outcome State Fault Refusal :=
  s.done ((s.monRequest (.ret resp) seq fits))

/-- CRC_ERR (R775). -/
def execCrcErr (s : State) : Host.Outcome State Fault Refusal :=
  s.done (s.monCrcErr)

/-- FRAMING_ERRORS (R774). -/
def execFramingErrors (s : State) : Host.Outcome State Fault Refusal :=
  s.done (s.monLost)

end Sys2Proof.Machine
end

