-- ==== Sys2Proof/Machine/Pages.lean ====
section
/-! DEFINITION. The common words of the register pages, and a write of any register (chapter 3). -/

namespace Sys2Proof.Machine

/-- LOCK_WRITE (R127). -/
def execLockWrite (path : Path) (page : Nat) (v : Word) (s : State) : Host.Outcome State Fault Refusal :=
  s.done (s.writeWord path (rLOCK page) v)

/-- FLT_CLEAR (R130). -/
def execFltClear (path : Path) (page : Nat) (v : Word) (s : State) : Host.Outcome State Fault Refusal :=
  s.done (s.writeWord path (rFLT page) v)

/-- EVT_CLEAR (R138). -/
def execEvtClear (path : Path) (page : Nat) (v : Word) (s : State) : Host.Outcome State Fault Refusal :=
  s.done (s.writeWord path (rEVT page) v)

/-- EVEN_WRITE (R137). -/
def execEvenWrite (path : Path) (page : Nat) (v : Word) (s : State) : Host.Outcome State Fault Refusal :=
  s.done (s.writeWord path (rEVEN page) v)

/-- REGISTER_WRITE (R144). -/
def execRegisterWrite (path : Path) (addr : Nat) (v : Word) (s : State) : Host.Outcome State Fault Refusal :=
  s.done (s.writeWord path addr v)

end Sys2Proof.Machine
end

