-- ==== Sys2Proof/Machine/Power.lean ====
section
/-! DEFINITION. Supplies, resets, power modes and wakes (chapter 2). -/

namespace Sys2Proof.Machine

/-- POWER_ON_RESET (R89). -/
def execPowerOnReset (s : State) : Host.Outcome State Fault Refusal :=
  s.done ((s.sysReset 0 true false))

/-- VDD5_BROWN_OUT (R93). -/
def execVdd5BrownOut (s : State) : Host.Outcome State Fault Refusal :=
  s.done (if s.supplied then (s.sysReset 1 false false) else s)

/-- VDD1_BROWN_OUT (R93). -/
def execVdd1BrownOut (s : State) : Host.Outcome State Fault Refusal :=
  s.done (if s.supplied then (s.sysReset 2 false false) else s)

/-- VBAT_LOW (R91). -/
def execVbatLow (s : State) : Host.Outcome State Fault Refusal :=
  s.done (s.vbatTo false)

/-- VBAT_OK (R91). -/
def execVbatOk (s : State) : Host.Outcome State Fault Refusal :=
  s.done (s.vbatTo true)

/-- VIO_LOSS (R91). -/
def execVioLoss (s : State) : Host.Outcome State Fault Refusal :=
  s.done (s.vioTo false)

/-- VIO_OK (R91). -/
def execVioOk (s : State) : Host.Outcome State Fault Refusal :=
  s.done (s.vioTo true)

/-- PIN_RESET (R95). -/
def execPinReset (s : State) : Host.Outcome State Fault Refusal :=
  s.done (({ s with pin := { s.pin with nresLow := true } } : State).pinReset)

/-- SUPERVISOR_RESET (R93). -/
def execSupervisorReset (s : State) : Host.Outcome State Fault Refusal :=
  s.done (if s.awake then (s.sysReset 5 false false) else s)

/-- RESET_RELEASE (R96). -/
def execResetRelease (levels : Levels) (s : State) : Host.Outcome State Fault Refusal :=
  s.done (({ s with pin := { s.pin with nresLow := false } } : State).release levels)

/-- SOFTWARE_RESET (R93). -/
def execSoftwareReset (path : Path) (s : State) : Host.Outcome State Fault Refusal :=
  s.done (s.writeBits path R.SYS_RSTREQ 1#32 3#32)

/-- CORE_RESET_REQUEST (R750). -/
def execCoreResetRequest (path : Path) (s : State) : Host.Outcome State Fault Refusal :=
  s.done (s.writeBits path R.SYS_RSTREQ 2#32 3#32)

/-- CORE_RESET_RELEASE (R749). -/
def execCoreResetRelease (regfPass : Bool) (s : State) (soft : List Nat := []) : Host.Outcome State Fault Refusal :=
  s.done (s.coreRelease regfPass soft)

/-- FAULT_N_EXTERNAL_PULL (R101). -/
def execFaultNExternalPull (s : State) : Host.Outcome State Fault Refusal :=
  s.done (({ s with pin := { s.pin with faultExt := true } } : State))

/-- DOZE_REQUEST (R105). -/
def execDozeRequest (path : Path) (pins : WakePins) (dt : Nat) (s : State) : Host.Outcome State Fault Refusal :=
  s.done ((s.wakePins pins dt).writeBits path (rCTRL P.PWR) 1#32 3#32).untold

/-- SLEEP_REQUEST (R108). -/
def execSleepRequest (path : Path) (pins : WakePins) (dt : Nat) (sret : Bool) (tret : Bool) (s : State) : Host.Outcome State Fault Refusal :=
  s.done ((s.wakePins pins dt).writeBits path (rCTRL P.PWR) (wd (2 + 16 * sret.toNat + 32 * tret.toNat)) 0x33#32).untold

/-- WAKE_PIN (R111). -/
def execWakePin (also : Nat) (dt : Nat) (s : State) : Host.Outcome State Fault Refusal :=
  s.done (s.wakeEdge.wake (1 ||| (also &&& alsoMask)) dt)

/-- WAKE_LINE (R111): line energy, inside or outside the S positions (R274). -/
def execWakeLine (also : Nat) (dt : Nat) (s : State) (outS : Bool := false) : Host.Outcome State Fault Refusal :=
  s.done (s.wake ((if s.lineCounts outS then 2 else 0) ||| (also &&& alsoMask)) dt)

/-- WAKE_TIMER (R111): `dt` AON cycles pass, with which the standby interval ends. -/
def execWakeTimer (also : Nat) (dt : Nat) (s : State) : Host.Outcome State Fault Refusal :=
  s.done (if s.withTimer 0 dt = 0 then s else s.wake (also &&& alsoMask) dt)

/-- WAKE_HSP (R113). -/
def execWakeHsp (also : Nat) (dt : Nat) (s : State) : Host.Outcome State Fault Refusal :=
  s.done (s.wakeHsp (16 ||| (also &&& alsoMask)) dt)

/-- WAKE_MON (R113). -/
def execWakeMon (also : Nat) (dt : Nat) (s : State) : Host.Outcome State Fault Refusal :=
  s.done (s.wake (32 ||| (also &&& alsoMask)) dt)

/-- WAKE_TWIN (R111). -/
def execWakeTwin (also : Nat) (dt : Nat) (s : State) : Host.Outcome State Fault Refusal :=
  s.done (s.wake (64 ||| (also &&& alsoMask)) dt)

/-- POWER_FAIL (R91). -/
def execPowerFail (s : State) : Host.Outcome State Fault Refusal :=
  s.done (s.powerFail)

/-- FAULT_N_RELEASE (R101). -/
def execFaultNRelease (s : State) : Host.Outcome State Fault Refusal :=
  s.done (({ s with pin := { s.pin with faultExt := false } } : State))

end Sys2Proof.Machine
end

