-- ==== Sys2Proof/Machine/SelfTest.lean ====
section
/-! DEFINITION. Self-test, life cycle and the event log (chapter 15). -/

namespace Sys2Proof.Machine

/-- STEP_WINDOW (R717). -/
def execStepWindow (memOk : Bool) (copyBad : Bool) (anaOk : Bool) (sysOk : Bool) (found : List (Nat × Word)) (s : State) (copyAt : List (Fin 32) := []) : Host.Outcome State Fault Refusal :=
  s.done (if s.awake then (s.stepWindow memOk copyBad anaOk sysOk found copyAt) else s)

/-- CLK_TEST_END (R719). -/
def execClkTestEnd (pass : Bool) (s : State) : Host.Outcome State Fault Refusal :=
  s.done (if s.awake then (s.clkTestEnd pass) else s)

/-- BUCKET_DECAY (R710). -/
def execBucketDecay (s : State) : Host.Outcome State Fault Refusal :=
  s.done (s.bucketDecay)

/-- CLRBKT (R710). -/
def execClrbkt (path : Path) (s : State) : Host.Outcome State Fault Refusal :=
  s.done (s.writeBits path (rCTRL P.SLF) (wd 1024) (wd 1024))

/-- FUSE (R725). -/
def execFuse (path : Path) (s : State) : Host.Outcome State Fault Refusal :=
  s.done (s.writeBits path (rCTRL P.SLF) (wd 512) (wd 512))

/-- BIST (R726). -/
def execBist (path : Path) (fails : Nat) (addr : Word) (rows : List (Nat × Nat)) (s : State) : Host.Outcome State Fault Refusal :=
  s.done (if s.awake then s.bistWrite path fails addr rows else s)

/-- LCS_CMD (R731). -/
def execLcsCmd (path : Path) (v : Word) (s : State) : Host.Outcome State Fault Refusal :=
  s.done (s.writeWord path R.LCS_CMD v)

/-- CHREQ (R733). -/
def execChreq (path : Path) (s : State) : Host.Outcome State Fault Refusal :=
  s.done (s.writeBits path (rCTRL P.LCS) (wd 1) (wd 1))

/-- LOG_ENTRY_WRITE (R738). -/
def execLogEntryWrite (s : State) : Host.Outcome State Fault Refusal :=
  s.done (if s.awake then s.logWrite else s)

/-- LOG_CLR (R739). -/
def execLogClr (path : Path) (s : State) : Host.Outcome State Fault Refusal :=
  s.done (s.writeBits path (rCTRL P.LOG) (wd 1) (wd 1))

/-- PFLUSH (R742). -/
def execPflush (path : Path) (s : State) : Host.Outcome State Fault Refusal :=
  s.done (s.writeBits path (rCTRL P.LOG) (wd 2) (wd 2))

/-- LOG_USER (R737). -/
def execLogUser (path : Path) (v : Word) (s : State) : Host.Outcome State Fault Refusal :=
  s.done (s.writeWord path R.LOG_USER v)

/-- PERSIST_WRITE (R743). -/
def execPersistWrite (verify : Bool) (s : State) : Host.Outcome State Fault Refusal :=
  s.done (if s.awake then (s.persistWrite verify) else s)

end Sys2Proof.Machine
end

