-- ==== Sys2Proof/Machine/SpiPort.lean ====
section
/-! DEFINITION. The host SPI port (chapter 16). -/

namespace Sys2Proof.Machine

/-- SPI_NOP (R763). -/
def execSpiNop (rep : Bool) (mode3 : Bool) (code : Nat) (tag : Nat) (addr : Nat) (s : State) : Host.Outcome State Fault Refusal :=
  s.done (s.spiWith rep mode3 fun t => if code = 0 ∨ spiCode code then t else t.spiOp code tag addr 0#32 0#32)

/-- SPI_READ (R770). -/
def execSpiRead (rep : Bool) (mode3 : Bool) (tag : Nat) (addr : Nat) (data : Word) (mask : Word) (s : State) : Host.Outcome State Fault Refusal :=
  s.done (s.spiWith rep mode3 fun t => t.spiOp 1 tag addr data mask)

/-- SPI_WRITE (R770). -/
def execSpiWrite (rep : Bool) (mode3 : Bool) (tag : Nat) (addr : Nat) (data : Word) (mask : Word) (s : State) : Host.Outcome State Fault Refusal :=
  s.done (s.spiWith rep mode3 fun t => t.spiOp 2 tag addr data mask)

/-- SPI_MODIFY (R770). -/
def execSpiModify (rep : Bool) (mode3 : Bool) (tag : Nat) (addr : Nat) (data : Word) (mask : Word) (s : State) : Host.Outcome State Fault Refusal :=
  s.done (s.spiWith rep mode3 fun t => t.spiOp 3 tag addr data mask)

/-- SPI_FLUSHMARK (R770). -/
def execSpiFlushmark (rep : Bool) (mode3 : Bool) (tag : Nat) (addr : Nat) (data : Word) (mask : Word) (s : State) : Host.Outcome State Fault Refusal :=
  s.done (s.spiWith rep mode3 fun t => t.spiOp 4 tag addr data mask)

/-- SPI_TICK (R772). -/
def execSpiTick (rep : Bool) (mode3 : Bool) (num : Word) (edge : LineTime) (dt : LineTime) (s : State) : Host.Outcome State Fault Refusal :=
  s.done ((if s.lineOn then s.elapse dt else s).spiWith rep mode3 fun t => t.spiTick num edge)

/-- FRAME_ERR (R768). -/
def execFrameErr (rep : Bool) (mode3 : Bool) (s : State) : Host.Outcome State Fault Refusal :=
  s.done (s.spiError rep mode3)

end Sys2Proof.Machine
end

