-- ==== Sys2Proof/Machine/Stage.lean ====
section
/-! DEFINITION. The power stage and its monitors (chapter 9). -/

namespace Sys2Proof.Machine

/-- PWM_UPDATE (R451). -/
def execPwmUpdate (start : Bool) (s : State) : Host.Outcome State Fault Refusal :=
  s.done (s.pwmUpdate start)

/-- PROTECTION_TRIP (R461). -/
def execProtectionTrip (n : Fin 10) (s : State) (mv : Nat := 0) (ns : Nat := 0) (dt : LineTime := 0) : Host.Outcome State Fault Refusal :=
  s.done (if s.awake then ((s.elapse dt).trip n.val mv ns) else s)

/-- CBC_TRIP (R462). -/
def execCbcTrip (b : Bool) (s : State) (mv : Nat := 0) (ns : Nat := 0) (dt : LineTime := 0) : Host.Outcome State Fault Refusal :=
  s.done (if s.awake then ((s.elapse dt).cbcTrip b mv ns) else s)

/-- CP_READY (R456). -/
def execCpReady (s : State) : Host.Outcome State Fault Refusal :=
  s.done (if s.awake then s.pumpReady else s)

/-- OT_WARNING (R480). -/
def execOtWarning (on : Bool) (s : State) : Host.Outcome State Fault Refusal :=
  s.done (if s.awake then (s.otWarn on) else s)

/-- SAFENOW (R468). -/
def execSafenow (path : Path) (s : State) : Host.Outcome State Fault Refusal :=
  s.done (s.writeBits path (rCTRL P.PST) (wd 32) (wd 32))

/-- RELEASE (R472). -/
def execRelease (path : Path) (s : State) : Host.Outcome State Fault Refusal :=
  s.done (s.writeBits path (rCTRL P.PST) (wd 16) (wd 16))

/-- MONITOR_CONDITION_END (R463). -/
def execMonitorConditionEnd (n : Fin 10) (s : State) : Host.Outcome State Fault Refusal :=
  s.done ((s.setCond n.val false))

end Sys2Proof.Machine
end

