-- ==== Sys2Proof/Machine/Sweep.lean ====
section
/-! DEFINITION. The sequencer (chapter 11). -/

namespace Sys2Proof.Machine

/-- SEQ_ARM (R533). -/
def execSeqArm (path : Path) (s : State) : Host.Outcome State Fault Refusal :=
  s.done (s.writeBits path (rCTRL P.SEQ) (wd 1) (wd 1))

/-- SEQ_ARM_CHECK (R534). -/
def execSeqArmCheck (s : State) : Host.Outcome State Fault Refusal :=
  s.done (if s.budgeted && !s.tck.synth && s.tck.phase == 48 && !s.frozen then s.phase48 else s)

/-- GO (R536). -/
def execGo (path : Path) (s : State) : Host.Outcome State Fault Refusal :=
  s.done (s.writeBits path (rCTRL P.SEQ) (wd 2) (wd 2))

/-- PAUSE (R552). -/
def execPause (path : Path) (s : State) : Host.Outcome State Fault Refusal :=
  s.done (s.writeBits path (rCTRL P.SEQ) (wd 4) (wd 4))

/-- RESUME (R552). -/
def execResume (path : Path) (s : State) : Host.Outcome State Fault Refusal :=
  s.done (s.writeBits path (rCTRL P.SEQ) (wd 8) (wd 8))

/-- ABORT (R553). -/
def execAbort (path : Path) (s : State) : Host.Outcome State Fault Refusal :=
  s.done (s.writeBits path (rCTRL P.SEQ) (wd 16) (wd 16))

/-- JUMP_REQUEST (R542). -/
def execJumpRequest (path : Path) (tgt : BitVec 8) (s : State) : Host.Outcome State Fault Refusal :=
  s.done (s.writeWord path R.SEQ_JUMP (wd (2 ^ 31 + tgt.toNat)))

/-- JUMP_CLEAR (R542). -/
def execJumpClear (path : Path) (s : State) : Host.Outcome State Fault Refusal :=
  s.done (s.writeWord path R.SEQ_JUMP (wd (2 ^ 30)))

/-- POINT_WINDOW_WRITE (R559). -/
def execPointWindowWrite (path : Path) (hi : Word) (s : State) : Host.Outcome State Fault Refusal :=
  s.done (s.writeWord path R.SEQ_PHI hi)

/-- SEGMENT_WINDOW_WRITE (R560). -/
def execSegmentWindowWrite (path : Path) (sd1 : Word) (s : State) : Host.Outcome State Fault Refusal :=
  s.done (s.writeWord path R.SEQ_SD1 sd1)

end Sys2Proof.Machine
end

