-- ==== Sys2Proof/Machine/Ticks.lean ====
section
/-! DEFINITION. Arming, ticks, their commit phases and holdover (chapter 1). -/

namespace Sys2Proof.Machine

/-- TCK_ARM (R50). -/
def execTckArm (path : Path) (s : State) : Host.Outcome State Fault Refusal :=
  s.done (s.writeBits path (rCTRL P.TCK) (wd 16) (wd 16))

/-- TCK_STOP (R49). -/
def execTckStop (path : Path) (s : State) : Host.Outcome State Fault Refusal :=
  s.done (s.writeBits path (rCTRL P.TCK) (wd 32) (wd 32))

/-- MCLR (R80). -/
def execMclr (path : Path) (s : State) : Host.Outcome State Fault Refusal :=
  s.done (s.writeBits path (rCTRL P.TCK) (wd 512) (wd 512))

/-- TICK_EDGE (R46). -/
def execTickEdge (gates : Nat) (gpio : List (Option Bool)) (s : State) : Host.Outcome State Fault Refusal :=
  s.done (if s.awake then s.tickEdge gates gpio else s)

/-- CORE_RESUME (R381). -/
def execCoreResume (s : State) : Host.Outcome State Fault Refusal :=
  s.done (s.coreResume)

/-- BUDGET_END (R379). -/
def execBudgetEnd (s : State) : Host.Outcome State Fault Refusal :=
  s.done (s.endBudget)

/-- CRIT_EXPIRE (R417). -/
def execCritExpire (s : State) : Host.Outcome State Fault Refusal :=
  s.done (s.forceClose.takeExpire)

/-- MONITOR_WRITE_LANDING (R144). -/
def execMonitorWriteLanding (s : State) : Host.Outcome State Fault Refusal :=
  s.done (if s.awake then s.monWindow else s)

/-- DIGEST_CLOSE (R686). -/
def execDigestClose (s : State) : Host.Outcome State Fault Refusal :=
  s.done (if s.turn 3 (s.guardG + 64) then (s.partTo 3 (s.guardG + 64)).digestClose else s)

/-- TICK_END (R49). -/
def execTickEnd (s : State) (temp : Int := 400) : Host.Outcome State Fault Refusal :=
  s.done (s.tickEnd temp)

/-- HOLDOVER_ENTRY (R60). -/
def execHoldoverEntry (s : State) : Host.Outcome State Fault Refusal :=
  s.done (s.holdoverEntry)

/-- SYNTHETIC_TICK (R62). -/
def execSyntheticTick (gates : Nat) (gpio : List (Option Bool)) (s : State) : Host.Outcome State Fault Refusal :=
  s.done (s.synthTick gates gpio)

/-- HOLDOVER_EXHAUSTED (R61). -/
def execHoldoverExhausted (s : State) : Host.Outcome State Fault Refusal :=
  s.done (s.holdoverEnd)

/-- SLOT_STROBE (R54). -/
def execSlotStrobe (raws : List Int) (hall : Nat) (s : State) : Host.Outcome State Fault Refusal :=
  s.done (s.slotStrobe raws hall)

end Sys2Proof.Machine
end

