-- ==== Sys2Proof/Machine/Trace.lean ====
section
/-! DEFINITION. Trace capture (chapter 13). -/

namespace Sys2Proof.Machine

/-- TRC_ARM (R639). -/
def execTrcArm (path : Path) (s : State) : Host.Outcome State Fault Refusal :=
  s.done (s.writeBits path (rCTRL P.TRC) (wd 1) (wd 1))

/-- TRC_STOP (R638). -/
def execTrcStop (path : Path) (s : State) : Host.Outcome State Fault Refusal :=
  s.done (s.writeBits path (rCTRL P.TRC) (wd 2) (wd 2))

/-- FORCE (R644). -/
def execForce (path : Path) (s : State) : Host.Outcome State Fault Refusal :=
  s.done (s.writeBits path (rCTRL P.TRC) (wd 4) (wd 4))

/-- USER (R640). -/
def execUser (path : Path) (v : Word) (s : State) : Host.Outcome State Fault Refusal :=
  s.done (s.writeWord path R.TRC_USER v)

/-- TRACE_TICK_MARKER (R640). -/
def execTraceTickMarker (s : State) : Host.Outcome State Fault Refusal :=
  s.done (if s.turn 5 (s.guardG + 384) then (s.partTo 5 (s.guardG + 384)).trcMarker else s)

/-- TRACE_RECORD_WRITE (R642). -/
def execTraceRecordWrite (s : State) : Host.Outcome State Fault Refusal :=
  s.done (if s.awake then s.trcWrite else s)

/-- GPIO4_EDGE (R644). -/
def execGpio4Edge (rising : Bool) (s : State) : Host.Outcome State Fault Refusal :=
  s.done (if s.awake then (s.gpio4 rising) else s)

end Sys2Proof.Machine
end

