-- ==== Sys2Proof/Machine/Twin.lean ====
section
/-! DEFINITION. The twin (chapter 14). -/

namespace Sys2Proof.Machine

/-- PAIR (R668). -/
def execPair (path : Path) (s : State) : Host.Outcome State Fault Refusal :=
  s.done (s.writeBits path (rCTRL P.TWN) (wd 1) (wd 1))

/-- UNPAIR (R671). -/
def execUnpair (path : Path) (s : State) : Host.Outcome State Fault Refusal :=
  s.done (s.writeBits path (rCTRL P.TWN) (wd 2) (wd 2))

/-- RESIGN (R698). -/
def execResign (path : Path) (s : State) : Host.Outcome State Fault Refusal :=
  s.done (s.writeBits path (rCTRL P.TWN) (wd 4) (wd 4))

/-- HELLO_SEND (R669). -/
def execHelloSend (s : State) : Host.Outcome State Fault Refusal :=
  s.done (if s.awake then s.helloSend else s)

/-- HELLO (R670). -/
def execHello (hello : Hello) (good : Bool) (s : State) : Host.Outcome State Fault Refusal :=
  s.done (if s.awake then (s.packet good fun t => t.hello hello) else s)

/-- HELLO_TIMEOUT (R670). -/
def execHelloTimeout (s : State) : Host.Outcome State Fault Refusal :=
  s.done (if s.awake then s.helloTimeout else s)

/-- TWIN_LINK_DOWN (R666). -/
def execTwinLinkDown (s : State) : Host.Outcome State Fault Refusal :=
  s.done (if s.awake then s.twinDown else s)

/-- TWIN_LINK_UP (R666). -/
def execTwinLinkUp (s : State) : Host.Outcome State Fault Refusal :=
  s.done (if s.awake then s.twinUp else s)

/-- SAMPLE_SEND (R680). -/
def execSampleSend (ended : Bool) (s : State) : Host.Outcome State Fault Refusal :=
  s.done (if s.awake then s.sampleSend ended else s)

/-- SAMPLE_PACKET (R681). -/
def execSamplePacket (x : Sample) (skew : Int) (good : Bool) (s : State) : Host.Outcome State Fault Refusal :=
  s.done (if s.awake then (s.packet good fun t => t.sampleIn x skew) else s)

/-- AGREEMENT_DEADLINE (R682). -/
def execAgreementDeadline (s : State) : Host.Outcome State Fault Refusal :=
  s.done (if s.budgeted then s.deadline else s)

/-- DIGEST_SEND (R687). -/
def execDigestSend (s : State) : Host.Outcome State Fault Refusal :=
  s.done (if s.awake && s.closed then s.digestSend else s)

/-- DIGEST_PACKET (R687). -/
def execDigestPacket (tick : Word) (dig : BitVec 64) (st : Nat) (good : Bool) (s : State) : Host.Outcome State Fault Refusal :=
  s.done (if s.awake then s.packet good fun t => t.digestIn tick dig st else s)

/-- DIGEST_COMPARE (R687). -/
def execDigestCompare (s : State) : Host.Outcome State Fault Refusal :=
  s.done (if s.budgeted && s.closed then (s.atPhase (s.guardG + 192)).digestCompare else s)

/-- FAILOVER_DECISION (R688). -/
def execFailoverDecision (gates : Nat) (line : Bool) (s : State) : Host.Outcome State Fault Refusal :=
  s.done (if s.budgeted && s.closed then ((s.atPhase (s.guardG + 192)).failover gates line) else s)

/-- VERDICT_OUTCOME (R697). -/
def execVerdictOutcome (s : State) : Host.Outcome State Fault Refusal :=
  s.done (if s.awake && s.closed then s.verdictOut else s)

/-- TICKREC_SEND (R676). -/
def execTickrecSend (s : State) : Host.Outcome State Fault Refusal :=
  s.done (if s.awake && s.closed then s.tickrecSend else s)

/-- TICKREC (R676). -/
def execTickrec (gpio : Nat) (why : Nat) (evs : List (Nat × Nat)) (good : Bool) (s : State) : Host.Outcome State Fault Refusal :=
  s.done (if s.awake then s.packet good fun t => t.tickrecIn gpio why evs else s)

/-- DECISION (R673). -/
def execDecision (d : Decision) (good : Bool) (s : State) : Host.Outcome State Fault Refusal :=
  s.done (if s.awake then (s.packet good fun t => t.decisionIn d) else s)

/-- FILL_REQUEST (R674). -/
def execFillRequest (fseq : Nat) (good : Bool) (s : State) : Host.Outcome State Fault Refusal :=
  s.done (if s.awake then s.packet good fun t => t.fillIn fseq else s)

/-- CONTENT (R674). -/
def execContent (fseq : Nat) (payload : List Byte) (good : Bool) (s : State) : Host.Outcome State Fault Refusal :=
  s.done (if s.awake then (s.packet good fun t => t.contentIn fseq payload) else s)

/-- TAP (R280). -/
def execTap (sfn : Nat) (idx : Nat) (body : List Byte) (last : Bool) (good : Bool) (s : State) : Host.Outcome State Fault Refusal :=
  s.done (if s.awake then s.packet good fun t => t.tapRx sfn idx body last else s)

/-- CTRL_RESYNC (R688). -/
def execCtrlResync (good : Bool) (s : State) : Host.Outcome State Fault Refusal :=
  s.done (if s.awake then (s.packet good State.resyncIn) else s)

/-- CTRL_VERDICT (R696). -/
def execCtrlVerdict (lasting : Bool) (good : Bool) (s : State) : Host.Outcome State Fault Refusal :=
  s.done (if s.awake then s.packet good fun t => t.verdictIn lasting else s)

/-- CTRL_VERDICT_REQUEST (R683). -/
def execCtrlVerdictRequest (good : Bool) (s : State) : Host.Outcome State Fault Refusal :=
  s.done (if s.awake then (s.packet good State.verdictReq) else s)

/-- CTRL_JOIN (R702). -/
def execCtrlJoin (tick : Word) (good : Bool) (s : State) : Host.Outcome State Fault Refusal :=
  s.done (if s.awake then s.packet good fun t => t.joinIn tick else s)

/-- PAGE_SEND (R699). -/
def execPageSend (s : State) (ecc : Ecc := .ok) (word : Fin 64 := 0) : Host.Outcome State Fault Refusal :=
  s.done (if s.awake then s.pageSend word.val ecc else s)

/-- PAGE (R700). -/
def execPage (number : Nat) (payload : List Byte) (good : Bool) (s : State) : Host.Outcome State Fault Refusal :=
  s.done (if s.awake then (s.packet good fun t => t.pageIn number payload) else s)

/-- IMAGE (R700). -/
def execImage (part : ImagePart) (good : Bool) (s : State) : Host.Outcome State Fault Refusal :=
  s.done (if s.awake then (s.packet good fun t => t.imageIn part) else s)

/-- JOIN_CHECK (R701). -/
def execJoinCheck (fits : Bool) (s : State) : Host.Outcome State Fault Refusal :=
  s.done (if s.awake then s.joinCheck fits else s)

/-- AUTO_REPAIR (R691). -/
def execAutoRepair (s : State) : Host.Outcome State Fault Refusal :=
  s.done (if s.awake then s.autoRepair else s)

/-- CTRL_RESIGN (R698). -/
def execCtrlResign (good : Bool) (s : State) : Host.Outcome State Fault Refusal :=
  s.done (if s.awake then (s.packet good State.resignIn) else s)

end Sys2Proof.Machine
end

