-- ==== Sys2Proof/Machine/Dispatch.lean ====
section
/-! DEFINITION. The dispatch: one arm for each command of the table. -/

namespace Sys2Proof.Machine

/-- The effect of a command on everything but the queue. -/
def exec (i : Instr) (s : State) : Host.Outcome State Fault Refusal :=
  match i with
  | .powerOnReset => Sys2Proof.Machine.execPowerOnReset s
  | .vdd5BrownOut => Sys2Proof.Machine.execVdd5BrownOut s
  | .vdd1BrownOut => Sys2Proof.Machine.execVdd1BrownOut s
  | .vbatLow => Sys2Proof.Machine.execVbatLow s
  | .vbatOk => Sys2Proof.Machine.execVbatOk s
  | .vioLoss => Sys2Proof.Machine.execVioLoss s
  | .vioOk => Sys2Proof.Machine.execVioOk s
  | .pinReset => Sys2Proof.Machine.execPinReset s
  | .supervisorReset => Sys2Proof.Machine.execSupervisorReset s
  | .resetRelease levels => Sys2Proof.Machine.execResetRelease levels s
  | .softwareReset path => Sys2Proof.Machine.execSoftwareReset path s
  | .coreResetRequest path => Sys2Proof.Machine.execCoreResetRequest path s
  | .coreResetRelease regfPass soft => Sys2Proof.Machine.execCoreResetRelease regfPass s soft
  | .faultNExternalPull => Sys2Proof.Machine.execFaultNExternalPull s
  | .dozeRequest path pins dt => Sys2Proof.Machine.execDozeRequest path pins dt s
  | .sleepRequest path pins dt sret tret => Sys2Proof.Machine.execSleepRequest path pins dt sret tret s
  | .wakePin also dt => Sys2Proof.Machine.execWakePin also dt s
  | .wakeLine also dt outS => Sys2Proof.Machine.execWakeLine also dt s outS
  | .wakeTimer also dt => Sys2Proof.Machine.execWakeTimer also dt s
  | .wakeHsp also dt => Sys2Proof.Machine.execWakeHsp also dt s
  | .wakeMon also dt => Sys2Proof.Machine.execWakeMon also dt s
  | .wakeTwin also dt => Sys2Proof.Machine.execWakeTwin also dt s
  | .pllLock => Sys2Proof.Machine.execPllLock s
  | .pllUnlock => Sys2Proof.Machine.execPllUnlock s
  | .pllRelock => Sys2Proof.Machine.execPllRelock s
  | .clkLossGap dt => Sys2Proof.Machine.execClkLossGap dt s
  | .holdTimeout => Sys2Proof.Machine.execHoldTimeout s
  | .refokSet dt => Sys2Proof.Machine.execRefokSet dt s
  | .refLoss dt => Sys2Proof.Machine.execRefLoss dt s
  | .clkSrcWrite path src dt => Sys2Proof.Machine.execClkSrcWrite path src dt s
  | .ltLoRead dt => Sys2Proof.Machine.execLtLoRead dt s
  | .tckArm path => Sys2Proof.Machine.execTckArm path s
  | .tckStop path => Sys2Proof.Machine.execTckStop path s
  | .mclr path => Sys2Proof.Machine.execMclr path s
  | .tickEdge gates gpio => Sys2Proof.Machine.execTickEdge gates gpio s
  | .coreResume => Sys2Proof.Machine.execCoreResume s
  | .budgetEnd => Sys2Proof.Machine.execBudgetEnd s
  | .critExpire => Sys2Proof.Machine.execCritExpire s
  | .monitorWriteLanding => Sys2Proof.Machine.execMonitorWriteLanding s
  | .digestClose => Sys2Proof.Machine.execDigestClose s
  | .tickEnd temp => Sys2Proof.Machine.execTickEnd s temp
  | .holdoverEntry => Sys2Proof.Machine.execHoldoverEntry s
  | .syntheticTick gates gpio => Sys2Proof.Machine.execSyntheticTick gates gpio s
  | .holdoverExhausted => Sys2Proof.Machine.execHoldoverExhausted s
  | .slotStrobe raws hall => Sys2Proof.Machine.execSlotStrobe raws hall s
  | .engineEvaluation => Sys2Proof.Machine.execEngineEvaluation s
  | .hallTimeout => Sys2Proof.Machine.execHallTimeout s
  | .encoderEdge chan => Sys2Proof.Machine.execEncoderEdge chan s
  | .encZ => Sys2Proof.Machine.execEncZ s
  | .injectorRunEnd => Sys2Proof.Machine.execInjectorRunEnd s
  | .pwmUpdate start => Sys2Proof.Machine.execPwmUpdate start s
  | .protectionTrip n mv ns dt => Sys2Proof.Machine.execProtectionTrip n s mv ns dt
  | .cbcTrip b mv ns dt => Sys2Proof.Machine.execCbcTrip b s mv ns dt
  | .cpReady => Sys2Proof.Machine.execCpReady s
  | .otWarning on => Sys2Proof.Machine.execOtWarning on s
  | .safenow path => Sys2Proof.Machine.execSafenow path s
  | .release path => Sys2Proof.Machine.execRelease path s
  | .rxFrame oct dt back rate jit sym => Sys2Proof.Machine.execRxFrame oct dt back rate jit sym s
  | .txFrame dt => Sys2Proof.Machine.execTxFrame dt s
  | .beaconRx dt => Sys2Proof.Machine.execBeaconRx s dt
  | .plcaLoss => Sys2Proof.Machine.execPlcaLoss s
  | .beaconTx dt => Sys2Proof.Machine.execBeaconTx s dt
  | .plcaTxOpportunity dt => Sys2Proof.Machine.execPlcaTxOpportunity dt s
  | .idClash => Sys2Proof.Machine.execIdClash s
  | .collision bitTimes => Sys2Proof.Machine.execCollision bitTimes s
  | .backoffEnd => Sys2Proof.Machine.execBackoffEnd s
  | .jabberTx => Sys2Proof.Machine.execJabberTx s
  | .driverFault => Sys2Proof.Machine.execDriverFault s
  | .jabberRx => Sys2Proof.Machine.execJabberRx s
  | .linkWindowExpiry quiet => Sys2Proof.Machine.execLinkWindowExpiry quiet s
  | .lnkConfigApply => Sys2Proof.Machine.execLnkConfigApply s
  | .restart path => Sys2Proof.Machine.execRestart path s
  | .lnsClr path => Sys2Proof.Machine.execLnsClr path s
  | .lnsFreeze path on => Sys2Proof.Machine.execLnsFreeze path on s
  | .cdgStart path => Sys2Proof.Machine.execCdgStart path s
  | .cdgPulseTrain => Sys2Proof.Machine.execCdgPulseTrain s
  | .cdgDone peaks => Sys2Proof.Machine.execCdgDone peaks s
  | .disturbed => Sys2Proof.Machine.execDisturbed s
  | .cdgAbort path => Sys2Proof.Machine.execCdgAbort path s
  | .negotiation => Sys2Proof.Machine.execNegotiation s
  | .negDone page id base10 more => Sys2Proof.Machine.execNegDone page id base10 s more
  | .trainingStart => Sys2Proof.Machine.execTrainingStart s
  | .trainingStageEnd echo => Sys2Proof.Machine.execTrainingStageEnd echo s
  | .trainingRestart => Sys2Proof.Machine.execTrainingRestart s
  | .superframeTx dt => Sys2Proof.Machine.execSuperframeTx s dt
  | .superframeRx rx => Sys2Proof.Machine.execSuperframeRx rx s
  | .loadPropose => Sys2Proof.Machine.execLoadPropose s
  | .ack => Sys2Proof.Machine.execAck s
  | .seed => Sys2Proof.Machine.execSeed s
  | .lqiReport => Sys2Proof.Machine.execLqiReport s
  | .lqiReportSend => Sys2Proof.Machine.execLqiReportSend s
  | .swapFlip => Sys2Proof.Machine.execSwapFlip s
  | .proposalTimeout => Sys2Proof.Machine.execProposalTimeout s
  | .loadingPeriod => Sys2Proof.Machine.execLoadingPeriod s
  | .loadnow path => Sys2Proof.Machine.execLoadnow path s
  | .rcv path => Sys2Proof.Machine.execRcv path s
  | .reconvergenceStart => Sys2Proof.Machine.execReconvergenceStart s
  | .reconvergenceEnd => Sys2Proof.Machine.execReconvergenceEnd s
  | .retrain path => Sys2Proof.Machine.execRetrain path s
  | .lpiEnter => Sys2Proof.Machine.execLpiEnter s
  | .lpiExit => Sys2Proof.Machine.execLpiExit s
  | .iscClr path => Sys2Proof.Machine.execIscClr path s
  | .cycleFrameRx also dt => Sys2Proof.Machine.execCycleFrameRx s also dt
  | .sectionAdmit => Sys2Proof.Machine.execSectionAdmit s
  | .cmdRead => Sys2Proof.Machine.execCmdRead s
  | .cmdWrite => Sys2Proof.Machine.execCmdWrite s
  | .cmdModify => Sys2Proof.Machine.execCmdModify s
  | .cmdFlushmark => Sys2Proof.Machine.execCmdFlushmark s
  | .responseAssembly => Sys2Proof.Machine.execResponseAssembly s
  | .idleReport => Sys2Proof.Machine.execIdleReport s
  | .flush path => Sys2Proof.Machine.execFlush path s
  | .lockWrite path page v => Sys2Proof.Machine.execLockWrite path page v s
  | .fltClear path page v => Sys2Proof.Machine.execFltClear path page v s
  | .evtClear path page v => Sys2Proof.Machine.execEvtClear path page v s
  | .evenWrite path page v => Sys2Proof.Machine.execEvenWrite path page v s
  | .registerWrite path addr v => Sys2Proof.Machine.execRegisterWrite path addr v s
  | .add rd ra rb => Sys2Proof.Machine.execAdd rd ra rb s
  | .sub rd ra rb => Sys2Proof.Machine.execSub rd ra rb s
  | .and rd ra rb => Sys2Proof.Machine.execAnd rd ra rb s
  | .or rd ra rb => Sys2Proof.Machine.execOr rd ra rb s
  | .xor rd ra rb => Sys2Proof.Machine.execXor rd ra rb s
  | .shl rd ra rb => Sys2Proof.Machine.execShl rd ra rb s
  | .shr rd ra rb => Sys2Proof.Machine.execShr rd ra rb s
  | .sra rd ra rb => Sys2Proof.Machine.execSra rd ra rb s
  | .slt rd ra rb => Sys2Proof.Machine.execSlt rd ra rb s
  | .sltu rd ra rb => Sys2Proof.Machine.execSltu rd ra rb s
  | .min rd ra rb => Sys2Proof.Machine.execMin rd ra rb s
  | .max rd ra rb => Sys2Proof.Machine.execMax rd ra rb s
  | .adds rd ra rb => Sys2Proof.Machine.execAdds rd ra rb s
  | .subs rd ra rb => Sys2Proof.Machine.execSubs rd ra rb s
  | .clz rd ra => Sys2Proof.Machine.execClz rd ra s
  | .mul rd ra rb => Sys2Proof.Machine.execMul rd ra rb s
  | .mulh rd ra rb => Sys2Proof.Machine.execMulh rd ra rb s
  | .mulhu rd ra rb => Sys2Proof.Machine.execMulhu rd ra rb s
  | .mulsh rd ra rb n => Sys2Proof.Machine.execMulsh rd ra rb n s
  | .div rd ra rb => Sys2Proof.Machine.execDiv rd ra rb s
  | .divu rd ra rb => Sys2Proof.Machine.execDivu rd ra rb s
  | .rem rd ra rb => Sys2Proof.Machine.execRem rd ra rb s
  | .remu rd ra rb => Sys2Proof.Machine.execRemu rd ra rb s
  | .addi rd ra imm => Sys2Proof.Machine.execAddi rd ra imm s
  | .andi rd ra imm => Sys2Proof.Machine.execAndi rd ra imm s
  | .ori rd ra imm => Sys2Proof.Machine.execOri rd ra imm s
  | .xori rd ra imm => Sys2Proof.Machine.execXori rd ra imm s
  | .slti rd ra imm => Sys2Proof.Machine.execSlti rd ra imm s
  | .sltiu rd ra imm => Sys2Proof.Machine.execSltiu rd ra imm s
  | .lui rd imm => Sys2Proof.Machine.execLui rd imm s
  | .shli rd ra n => Sys2Proof.Machine.execShli rd ra n s
  | .shri rd ra n => Sys2Proof.Machine.execShri rd ra n s
  | .srai rd ra n => Sys2Proof.Machine.execSrai rd ra n s
  | .lb rd ra imm ecc => Sys2Proof.Machine.execLb rd ra imm ecc s
  | .lbu rd ra imm ecc => Sys2Proof.Machine.execLbu rd ra imm ecc s
  | .lh rd ra imm ecc => Sys2Proof.Machine.execLh rd ra imm ecc s
  | .lhu rd ra imm ecc => Sys2Proof.Machine.execLhu rd ra imm ecc s
  | .lw rd ra imm ecc => Sys2Proof.Machine.execLw rd ra imm ecc s
  | .sb rd ra imm ecc => Sys2Proof.Machine.execSb rd ra imm s ecc
  | .sh rd ra imm ecc => Sys2Proof.Machine.execSh rd ra imm s ecc
  | .sw rd ra imm => Sys2Proof.Machine.execSw rd ra imm s
  | .storeDrain ecc => Sys2Proof.Machine.execStoreDrain ecc s
  | .lateStore => Sys2Proof.Machine.execLateStore s
  | .beq ra rb off => Sys2Proof.Machine.execBeq ra rb off s
  | .bne ra rb off => Sys2Proof.Machine.execBne ra rb off s
  | .blt ra rb off => Sys2Proof.Machine.execBlt ra rb off s
  | .bge ra rb off => Sys2Proof.Machine.execBge ra rb off s
  | .bltu ra rb off => Sys2Proof.Machine.execBltu ra rb off s
  | .bgeu ra rb off => Sys2Proof.Machine.execBgeu ra rb off s
  | .jmp off => Sys2Proof.Machine.execJmp off s
  | .call off => Sys2Proof.Machine.execCall off s
  | .jr ra => Sys2Proof.Machine.execJr ra s
  | .callr ra => Sys2Proof.Machine.execCallr ra s
  | .ret fill fillAt => Sys2Proof.Machine.execRet fill s fillAt
  | .bmove rd ra rb n ecc => Sys2Proof.Machine.execBmove rd ra rb n ecc s
  | .bfill rd ra rb n => Sys2Proof.Machine.execBfill rd ra rb n s
  | .vmac16 rd ra rb n ecc eccY => Sys2Proof.Machine.execVmac16 rd ra rb n ecc eccY s
  | .vmac32 rd ra rb n ecc eccY => Sys2Proof.Machine.execVmac32 rd ra rb n ecc eccY s
  | .bcrc32 rd ra rb n ecc => Sys2Proof.Machine.execBcrc32 rd ra rb n ecc s
  | .bcrc16 rd ra rb n ecc => Sys2Proof.Machine.execBcrc16 rd ra rb n ecc s
  | .mfs rd aux => Sys2Proof.Machine.execMfs rd aux s
  | .mts aux ra => Sys2Proof.Machine.execMts aux ra s
  | .eret fill fillAt => Sys2Proof.Machine.execEret fill s fillAt
  | .gate n ecc => Sys2Proof.Machine.execGate n ecc s
  | .gret ecc fill fillAt => Sys2Proof.Machine.execGret ecc fill s fillAt
  | .trap aux => Sys2Proof.Machine.execTrap aux s
  | .brk => Sys2Proof.Machine.execBrk s
  | .fence => Sys2Proof.Machine.execFence s
  | .critb => Sys2Proof.Machine.execCritb s
  | .crite => Sys2Proof.Machine.execCrite s
  | .yield => Sys2Proof.Machine.execYield s
  | .lightEventEntry => Sys2Proof.Machine.execLightEventEntry s
  | .hwmclr path => Sys2Proof.Machine.execHwmclr path s
  | .ovrclr path => Sys2Proof.Machine.execOvrclr path s
  | .ownReq path c => Sys2Proof.Machine.execOwnReq path c s
  | .ownRel path c => Sys2Proof.Machine.execOwnRel path c s
  | .pstart path => Sys2Proof.Machine.execPstart path s
  | .pstop path => Sys2Proof.Machine.execPstop path s
  | .precisionWindowEnd raw ovl => Sys2Proof.Machine.execPrecisionWindowEnd raw ovl s
  | .calLoad path => Sys2Proof.Machine.execCalLoad path s
  | .seqArm path => Sys2Proof.Machine.execSeqArm path s
  | .seqArmCheck => Sys2Proof.Machine.execSeqArmCheck s
  | .go path => Sys2Proof.Machine.execGo path s
  | .pause path => Sys2Proof.Machine.execPause path s
  | .resume path => Sys2Proof.Machine.execResume path s
  | .abort path => Sys2Proof.Machine.execAbort path s
  | .jumpRequest path tgt => Sys2Proof.Machine.execJumpRequest path tgt s
  | .jumpClear path => Sys2Proof.Machine.execJumpClear path s
  | .pointWindowWrite path hi => Sys2Proof.Machine.execPointWindowWrite path hi s
  | .segmentWindowWrite path sd1 => Sys2Proof.Machine.execSegmentWindowWrite path sd1 s
  | .trcArm path => Sys2Proof.Machine.execTrcArm path s
  | .trcStop path => Sys2Proof.Machine.execTrcStop path s
  | .force path => Sys2Proof.Machine.execForce path s
  | .user path v => Sys2Proof.Machine.execUser path v s
  | .traceTickMarker => Sys2Proof.Machine.execTraceTickMarker s
  | .traceRecordWrite => Sys2Proof.Machine.execTraceRecordWrite s
  | .pair path => Sys2Proof.Machine.execPair path s
  | .unpair path => Sys2Proof.Machine.execUnpair path s
  | .resign path => Sys2Proof.Machine.execResign path s
  | .helloSend => Sys2Proof.Machine.execHelloSend s
  | .hello hello good => Sys2Proof.Machine.execHello hello good s
  | .helloTimeout => Sys2Proof.Machine.execHelloTimeout s
  | .twinLinkDown => Sys2Proof.Machine.execTwinLinkDown s
  | .twinLinkUp => Sys2Proof.Machine.execTwinLinkUp s
  | .sampleSend ended => Sys2Proof.Machine.execSampleSend ended s
  | .samplePacket x skew good => Sys2Proof.Machine.execSamplePacket x skew good s
  | .agreementDeadline => Sys2Proof.Machine.execAgreementDeadline s
  | .digestSend => Sys2Proof.Machine.execDigestSend s
  | .digestPacket tick dig st good => Sys2Proof.Machine.execDigestPacket tick dig st good s
  | .digestCompare => Sys2Proof.Machine.execDigestCompare s
  | .failoverDecision gates line => Sys2Proof.Machine.execFailoverDecision gates line s
  | .verdictOutcome => Sys2Proof.Machine.execVerdictOutcome s
  | .tickrecSend => Sys2Proof.Machine.execTickrecSend s
  | .tickrec gpio why evs good => Sys2Proof.Machine.execTickrec gpio why evs good s
  | .decision d good => Sys2Proof.Machine.execDecision d good s
  | .fillRequest fseq good => Sys2Proof.Machine.execFillRequest fseq good s
  | .content fseq payload good => Sys2Proof.Machine.execContent fseq payload good s
  | .tap sfn idx body last good => Sys2Proof.Machine.execTap sfn idx body last good s
  | .ctrlResync good => Sys2Proof.Machine.execCtrlResync good s
  | .ctrlVerdict lasting good => Sys2Proof.Machine.execCtrlVerdict lasting good s
  | .ctrlVerdictRequest good => Sys2Proof.Machine.execCtrlVerdictRequest good s
  | .ctrlJoin tick good => Sys2Proof.Machine.execCtrlJoin tick good s
  | .pageSend ecc word => Sys2Proof.Machine.execPageSend s ecc word
  | .page number payload good => Sys2Proof.Machine.execPage number payload good s
  | .image part good => Sys2Proof.Machine.execImage part good s
  | .joinCheck fits => Sys2Proof.Machine.execJoinCheck fits s
  | .autoRepair => Sys2Proof.Machine.execAutoRepair s
  | .stepWindow memOk copyBad anaOk sysOk found copyAt => Sys2Proof.Machine.execStepWindow memOk copyBad anaOk sysOk found s copyAt
  | .clkTestEnd pass => Sys2Proof.Machine.execClkTestEnd pass s
  | .bucketDecay => Sys2Proof.Machine.execBucketDecay s
  | .clrbkt path => Sys2Proof.Machine.execClrbkt path s
  | .fuse path => Sys2Proof.Machine.execFuse path s
  | .bist path fails addr rows => Sys2Proof.Machine.execBist path fails addr rows s
  | .lcsCmd path v => Sys2Proof.Machine.execLcsCmd path v s
  | .chreq path => Sys2Proof.Machine.execChreq path s
  | .logEntryWrite => Sys2Proof.Machine.execLogEntryWrite s
  | .logClr path => Sys2Proof.Machine.execLogClr path s
  | .pflush path => Sys2Proof.Machine.execPflush path s
  | .logUser path v => Sys2Proof.Machine.execLogUser path v s
  | .persistWrite verify => Sys2Proof.Machine.execPersistWrite verify s
  | .program path => Sys2Proof.Machine.execProgram path s
  | .erase path => Sys2Proof.Machine.execErase path s
  | .flashOpDone verify => Sys2Proof.Machine.execFlashOpDone verify s
  | .flashProtect path k v => Sys2Proof.Machine.execFlashProtect path k v s
  | .spiNop rep mode3 code tag addr => Sys2Proof.Machine.execSpiNop rep mode3 code tag addr s
  | .spiRead rep mode3 tag addr data mask => Sys2Proof.Machine.execSpiRead rep mode3 tag addr data mask s
  | .spiWrite rep mode3 tag addr data mask => Sys2Proof.Machine.execSpiWrite rep mode3 tag addr data mask s
  | .spiModify rep mode3 tag addr data mask => Sys2Proof.Machine.execSpiModify rep mode3 tag addr data mask s
  | .spiFlushmark rep mode3 tag addr data mask => Sys2Proof.Machine.execSpiFlushmark rep mode3 tag addr data mask s
  | .spiTick rep mode3 num edge dt => Sys2Proof.Machine.execSpiTick rep mode3 num edge dt s
  | .monSync baud => Sys2Proof.Machine.execMonSync baud s
  | .resync path => Sys2Proof.Machine.execResync path s
  | .ping seq fits => Sys2Proof.Machine.execPing seq fits s
  | .monRead seq fits addr count eccs => Sys2Proof.Machine.execMonRead seq fits addr count eccs s
  | .monWrite seq fits addr count words => Sys2Proof.Machine.execMonWrite seq fits addr count words s
  | .monModify seq fits addr data mask ecc => Sys2Proof.Machine.execMonModify seq fits addr data mask ecc s
  | .step seq fits count dt => Sys2Proof.Machine.execStep seq fits count dt s
  | .stepDone => Sys2Proof.Machine.execStepDone s
  | .halt seq fits => Sys2Proof.Machine.execHalt seq fits s
  | .monGo seq fits addr => Sys2Proof.Machine.execMonGo seq fits addr s
  | .monReset seq fits kind => Sys2Proof.Machine.execMonReset seq fits kind s
  | .returnReq seq fits resp => Sys2Proof.Machine.execReturnReq seq fits resp s
  | .powerFail => Sys2Proof.Machine.execPowerFail s
  | .lineEnergy mv gain noise outS => Sys2Proof.Machine.execLineEnergy mv gain noise s outS
  | .detectorSettled => Sys2Proof.Machine.execDetectorSettled s
  | .acqTone present rate => Sys2Proof.Machine.execAcqTone present rate s
  | .ctrlResign good => Sys2Proof.Machine.execCtrlResign good s
  | .gpio4Edge rising => Sys2Proof.Machine.execGpio4Edge rising s
  | .faultNRelease => Sys2Proof.Machine.execFaultNRelease s
  | .monitorConditionEnd n => Sys2Proof.Machine.execMonitorConditionEnd n s
  | .illegalInstruction word => Sys2Proof.Machine.execIllegalInstruction word s
  | .instructionAccessFault ecc => Sys2Proof.Machine.execInstructionAccessFault ecc s
  | .crcErr => Sys2Proof.Machine.execCrcErr s
  | .frameErr rep mode3 => Sys2Proof.Machine.execFrameErr rep mode3 s
  | .framingErrors => Sys2Proof.Machine.execFramingErrors s

end Sys2Proof.Machine
end

