-- ==== Sys2Proof/Safety.lean ====
section
/-! DEFINITION. What counts as safe: the output state, the gates and the canonical forms the claims speak of. -/

namespace Sys2Proof.Machine

/-- PST.STAT.OUT is the output state the conditions of Table 9-3 give. -/
def State.OutFollows (s : State) : Prop := s.pst.out = s.outState

/-- A system reset is in force: the core at its reset values, TCK in IDLE, the stage OFF (R92). -/
def State.ResetInForce (s : State) : Prop :=
  s.pwr.inReset = true ∧ s.tck.state = .idle ∧ s.cpu = resetCpu ∧ s.pst.out = .off ∧ s.pst.rel = false ∧ s.lcs.pend = false

/-- No gate of any leg is on in any cycle of a slot. -/
def State.AllOff (s : State) : Prop := ∀ n k, s.gates n k = (false, false)

/-- The registers keep their canonical form: rising addresses, no entry at its reset value. -/
def State.regsWf (s : State) : Bool := Sparse.wf resetVal s.regs

/-- The register file of the core keeps its canonical form. -/
def State.gprWf (s : State) : Bool := Sparse.wf (fun _ => 0#32) s.cpu.gpr

/-! ## What events and the settling of the output state may touch -/

/-- Everything but what an event's own routes touch: registers, the queues of log, trace and events, a trigger of trace, the routes held back, a request for
SAFE, the release. -/
def State.quiet (s : State) : State :=
  { s with
    regs := [], deferred := []
    log := { s.log with queue := [] }
    trc := { s.trc with state := .idle, queue := [], trigv := false, trigidx := 0, postCount := 0, lossTick := 0, lostRaised := false, mark := none, same := 0 }
    cyc := { s.cyc with evq := [], evlost := false }
    pst := { s.pst with rel := false, out := .off }
    tck := { s.tck with safeReq := [] } }

/-- The registers an event of page `p` and its routes can change. -/
def raiseTouches (p a : Nat) : Bool :=
  a == rEVT p || a == rEVT P.QUE || a == rEVT P.LOG || a == rEVT P.TRC || a == rEVT P.PST || a == R.QUE_EVLOSTCT || a == R.LOG_LOSTCT || a == R.TRC_LOST

/-- What the routes of an event keep: every register they do not touch, every EVT bit that is set, the entries that wait, a release that is withdrawn. -/
structure Keeps (p : Nat) (s t : State) : Prop where
  rd : ∀ a, raiseTouches p a = false → t.rd a = s.rd a
  evt : ∀ q n, s.bit (rEVT q) n = true → t.bit (rEVT q) n = true
  trc : t.trc.state = s.trc.state ∨ (s.trc.state = .armed ∧ t.trc.state = .post)
  trcq : s.trc.queue.Sublist t.trc.queue
  logq : s.log.queue <+: t.log.queue
  rel : s.pst.rel = false → t.pst.rel = false

/-- Everything but what an event and the settling of the output state can touch: also the stage's safe state and conditions, how it stood and how BRAKE began, a report of a gate or charge-pump fault,
the level of FAULT_N, the engine's safety flags. -/
def State.calm (s : State) : State :=
  { s.quiet with
    pst := { s.quiet.pst with brake := false, subst := false, cond := 0, drove := false, braked := false, brakeIn := none }
    slf := { s.slf with sys := resetLane, lastLasting := none }
    pin := { s.pin with fext := false }
    fmA := { s.fmA with safety := false }
    fmB := { s.fmB with safety := false } }

/-- The registers the settling can change: those of an event of SYS, SLF and PST, the latch of a fault, SLF's record of a report. -/
def settleTouches (a : Nat) : Bool :=
  raiseTouches P.SYS a || raiseTouches P.SLF a || raiseTouches P.PST a || a == rFLT P.PST || a == R.PST_TRIPCT || a == R.PST_LAST || a == R.PST_LASTTICK ||
    a == rFLT P.SLF || a == R.SLF_LASTV || a == R.SLF_LASTU || a == R.SLF_LASTTICK || a == R.SLF_LASTCT || a == R.SLF_TRANCT || a == R.SLF_NOTESTCT ||
    a == R.SLF_DETCT || a == R.SLF_BKT1

/-- What the settling of the output state keeps. -/
structure Calms (s t : State) : Prop where
  calm : t.calm = s.calm
  rd : ∀ a, settleTouches a = false → t.rd a = s.rd a
  evt : ∀ q n, s.bit (rEVT q) n = true → t.bit (rEVT q) n = true
  flt : ∀ q n, s.bit (rFLT q) n = true → t.bit (rFLT q) n = true
  trc : t.trc.state = s.trc.state ∨ (s.trc.state = .armed ∧ t.trc.state = .post)
  trcq : s.trc.queue.Sublist t.trc.queue
  logq : s.log.queue <+: t.log.queue
  rel : s.pst.rel = false → t.pst.rel = false
  cond : ∀ n, n < 10 → t.condOn n = s.condOn n

/-- The state `u` in which a command that has had the effect `t` leaves the block it found in `s`: the queue of `s`, the effect `t` with the output state settled. -/
structure Ended (s t u : State) : Prop where
  pending : u.pending = s.pending
  calms : Calms t { u with pending := t.pending }
  out : u.OutFollows

/-! ## What the landing of a write adds to the effect of its register -/

/-- Everything but what a landing adds to the effect of its register: also the twin's record of the write, the tick's list of who wrote what, the value of phase 63 that core reads keep
of the register, the response entries and the phase. -/
def State.shape (s : State) : State :=
  { s.calm with
    landed := [], snap := [], twn := { s.calm.twn with digq := [], digKeys := [], digMark := none, dirty := [] }
    cyc := { s.calm.cyc with rspq := [] }, hsp := { s.calm.hsp with fifo := [] }, tck := { s.calm.tck with phase := 0 } }

/-- The registers a landing can change beside its own: those of the settling, and WRITE_SHADOWED with its register on the page of a path. -/
def landTouches (a : Nat) : Bool :=
  settleTouches a || [P.CYC, P.HSP, P.CPU, P.MON].any fun p => raiseTouches p a || a == 256 * p + 0xFC

/-- What a landing keeps. -/
structure Near (s t : State) : Prop where
  shape : t.shape = s.shape
  rd : ∀ a, landTouches a = false → t.rd a = s.rd a
  evt : ∀ q n, s.bit (rEVT q) n = true → t.bit (rEVT q) n = true
  flt : ∀ q n, s.bit (rFLT q) n = true → t.bit (rFLT q) n = true
  trc : t.trc.state = s.trc.state ∨ (s.trc.state = .armed ∧ t.trc.state = .post)
  trcq : s.trc.queue.Sublist t.trc.queue
  logq : s.log.queue <+: t.log.queue
  rel : s.pst.rel = false → t.pst.rel = false
  cond : ∀ n, n < 10 → t.condOn n = s.condOn n
  rspq : s.cyc.rspq <+: t.cyc.rspq
  fifo : s.hsp.fifo <+: t.hsp.fifo
  phase : s.tck.phase ≤ t.tck.phase

/-- The state `u` in which a write whose register has had the effect `t` leaves the block it found in `s`. -/
structure Landed (s t u : State) : Prop where
  pending : u.pending = s.pending
  near : Near t { u with pending := t.pending }
  out : u.OutFollows

/-- A write of a path to a register takes effect as it is made: the part runs, the tick state and the phase let the path write (R21, Table 3-7), the path reaches the register (R123, R124,
R140 to R143), and no TRACK state holds it (R700). -/
def State.Takes (s : State) (path : Path) (a : Nat) : Prop :=
  s.awake = true ∧ s.landsNow path = true ∧ s.wrStatus path a = 0 ∧ (s.frozen && !localPage (a / 256)) = false

/-- A write of a path to a locked register takes effect: the page is open to it (R127, R128). -/
def State.Opens (s : State) (path : Path) (a : Nat) : Prop := s.Takes path a ∧ s.openTo path (a / 256) = true

/-! ## What issuing an instruction adds to its effect -/

/-- An instruction issues and retires: nothing of Table 8-5 comes before it, it can be fetched, and its `cyc` cycles and those of its fetch pass neither the end of the budget
nor the close of a window (R379, R401, R417). -/
def State.Retires (s : State) (cyc : Nat) : Prop :=
  s.canIssue = true ∧ s.overruns (s.fetchNow.2 + cyc) = false ∧ s.tooLong (s.fetchNow.2 + cyc) = false

/-- An instruction issues and retires, and no store leaves the write buffer before it does. -/
def State.Runs (s : State) (cyc : Nat) : Prop := s.Retires cyc ∧ s.holdsStores (s.fetchNow.2 + cyc) = true

/-- The core without the line buffers and the prefetch, the cycles its stores still drain, the mark of a long instruction that parked, the cycles a window has left and the count of
a window that goes on past the end of the budget. -/
def CpuSt.own (c : CpuSt) : CpuSt :=
  { c with
    lines := [], pref := none, fetched := 0#32, long := false, critLeft := 0, ovrThis := false, ovrct := 0
    wb := c.wb.map fun e => { e with left := 0 } }

/-- Everything but what an event touches and what the time an instruction takes moves: the line buffers, the prefetch and the drain of the stores, the mark of a long instruction that parked, the phase, the
cycles a window has left, and the count of a window that goes on past the end of the budget (R362, R379, R381, R417). -/
def State.still (s : State) : State := { s.quiet with cpu := s.cpu.own, tck := { s.quiet.tck with phase := 0 } }

/-- What the time an instruction takes changes beside its effect; where no window is open, the core's own lines and the phase alone. -/
structure State.Timed (s t : State) : Prop where
  still : t.still = s.still
  keeps : Keeps P.CPU s t
  out : s.OutFollows → t.OutFollows
  calm : s.cpu.psr.crit = false → t = { s with cpu := t.cpu, tck := { s.tck with phase := t.tck.phase } }

/-! ## Heavy traps -/

/-- A heavy trap whose entry begins after `pre` cycles is entered: neither the trap nor the emergency bank is current, the Sett lies in SRAM, no store is buffered, the entry is
not abandoned at the end of the budget, and no window is force-closed before it (R379, R409, R417, R420). -/
def State.CanTrap (s : State) (pre : Nat) : Prop :=
  s.cpu.psr.tb = false ∧ s.cpu.psr.eb = false ∧ s.settOk = true ∧ s.cpu.wb = [] ∧ s.past (pre + 36) = false ∧ s.tooLong pre = false

/-- The state `u` in which a heavy trap leaves the core it found in `s` (R409, R410, Tables 8-2 to 8-4): EPC, CAUSE, EADDR and ESTAT, the status, a trap bank of zeros, the handler's
address, the exchange of c7 and SSP at user level, and the Sett; no other byte of memory changes. -/
structure State.Trapped (s u : State) (code sub : Nat) (multi : Bool) (ret bad : Word) : Prop where
  epc : u.cpu.epc = ret
  cause : u.cpu.cause = causeWord code sub multi s.cpu.psr.crit
  eaddr : u.cpu.eaddr = bad
  estat : u.cpu.estat = psrWord s.cpu.psr
  psr : u.cpu.psr = { s.cpu.psr with tb := true, sup := true, ie := false, crit := false, lp := false }
  pc : u.cpu.pc = s.cpu.vbase
  bank : ∀ i, i < 8 → u.getBank 16 i = 0#32
  ring : u.cpu.ftop = s.cpu.ftop ∧ u.cpu.res = s.cpu.res
  stack : if s.cpu.psr.sup then u.cpu.ssp = s.cpu.ssp ∧ u.com 7 = s.com 7 else u.cpu.ssp = s.com 7 &&& 0xFFFFFFFC#32 ∧ u.com 7 = s.cpu.ssp
  sett : ∃ use, ∀ i, i < 32 → u.rdW (s.cpu.sett.toNat + 4 * i) =
    (s.settWords ret (psrWord s.cpu.psr) (causeWord code sub multi s.cpu.psr.crit) bad use).getD i 0#32
  mem : ∀ a, a < s.cpu.sett.toNat ∨ s.cpu.sett.toNat + 128 ≤ a → u.rdB a = s.rdB a

/-! ## The monitor -/

/-- A request of a command and sequence number is taken up as it arrives: the monitor hears it, nothing waits, and it does not repeat the last (R773, R775). -/
def State.Hears (s : State) (cmd seq : Nat) : Prop :=
  s.monOn = true ∧ s.mon.wait = none ∧ ∀ p, s.mon.prev = some p → ¬(p.1 = cmd ∧ p.2.1 = seq % 256)

/-- The answer on the line is the frame of Table 16-6 with this command, sequence number, status and payload. -/
def State.Answers (s : State) (cmd seq status : Nat) (payload : List Byte) : Prop :=
  let body := beOctets 1 (payload.length + 3) ++ beOctets 1 (cmd + 0x80) ++ beOctets 1 (seq % 256) ++ beOctets 1 status ++ payload
  s.mon.answer = 0xA5#8 :: body ++ beOctets 2 (crc16 body)

/-! ## Runs -/

/-- A run of the block: what some number of steps reaches. -/
inductive Reaches (s : State) : State → Prop where
  | start : Reaches s s
  | more {t u : State} (h : Reaches s t) (e : step t = .next u) : Reaches s u

end Sys2Proof.Machine
end

