-- ==== Sys2Proof/Certificates/Slice0/Obligations.lean ====
section
/-! DEFINITION. The statements for the provers. -/

open Sys2Proof Sys2Proof.Machine

/-! ## The queue -/

/-- A step takes the command at the front of the queue and carries it out with the queue's rest; on an empty queue the block idles (the model's own choice: log entry 1). -/
def Obligations.StepTakesFront : Prop :=
  (∀ (c : Instr) (rest : List Instr) (s : State), s.pending = c :: rest → step s = exec c { s with pending := rest }) ∧
  (∀ s : State, s.pending = [] → step s = .next s)

/-- Every command answers a next state, leaves the queue as it found it, and leaves PST.STAT.OUT at the output state Table 9-3 gives (R445). -/
def Obligations.EveryCommandEnds : Prop :=
  ∀ (c : Instr) (s : State), ∃ u, exec c s = .next u ∧ u.pending = s.pending ∧ u.OutFollows

/-- Table 9-3 is an invariant: where PST.STAT.OUT is the output state the conditions give, it is so after every step (R445). -/
def Obligations.OutFollowsKept : Prop :=
  ∀ s u : State, s.OutFollows → step s = .next u → u.OutFollows

/-- No gate of any leg is on unless the block is out of reset and in RUN (R92, R104, R445): in reset, DOZE, SLEEP and power-on reset a step leaves every gate off. -/
def Obligations.GatesOffOutsideRun : Prop :=
  ∀ s u : State, s.OutFollows → step s = .next u → (u.pwr.inReset = true ∨ u.pwr.mode ≠ .run) → u.AllOff

/-- The state after reset: the values the spec gives (R49, R75, R77, R92, R93, R341, R343, R704) with the output state of Table 9-3 (R445); that nothing is listed in memory, that
flash reads erased and SRAM zero, and that no fuse is blown is the model's own choice (log entries 4 and 7). -/
def Obligations.ResetValues : Prop :=
  (let z := State.reset
  z.tck.state = .idle ∧ z.tck.now = 0xFFFFFFFF#32 ∧ z.clk.state = .osc ∧ z.pst.out = .off ∧ z.pst.rel = false ∧ z.pwr.inReset = true ∧ z.lcs.state = 0 ∧
    z.twn.pstate = 0 ∧ z.cpu.psr.sup = true ∧ z.cpu.parked = false ∧ z.pin.nresOut = true ∧ z.regs = [] ∧ z.mem = [] ∧ z.pending = [] ∧
    (∀ a, inPflash a = true ∨ inDflash a = true → z.rdB a = 0xFF#8) ∧ (∀ a, inSram a = true → z.rdB a = 0#8)) ∧
  (State.reset.OutFollows)

/-! ## Events (chapter 3) -/

/-- Raising an event sets its bit of EVT and clears no other (R132, R138); beside it its routes touch the EVT registers of QUE, LOG, TRC and PST, the counters of what was
lost, the queues of log, trace and events, the routes that wait, a request for SAFE and the release, and the entries that wait stay in front (R134, R136); one that is
disabled, and that trace does not wait for, does nothing else (R133). -/
def Obligations.Raise : Prop :=
  (∀ (s : State) (p n : Nat), n < 32 →
    (s.raise p n).bit (rEVT p) n = true ∧ ∀ q m, s.bit (rEVT q) m = true → (s.raise p n).bit (rEVT q) m = true) ∧
  (∀ (s : State) (p n : Nat), Keeps p s (s.raise p n) ∧ (s.raise p n).quiet = s.quiet) ∧
  (∀ (s : State) (p n : Nat), s.bit (rEVT p) n = false → s.bit (rEVEN p) n = false → s.trigHit p n = false →
    s.raise p n = s.wr (rEVT p) (setBit (s.rd (rEVT p)) n true))

/-! ## Supplies, resets, power modes (chapter 2) -/

/-- The resets: each puts a system reset in force, names its cause in SYS.RSTCAUSE, keeps flash and fuses; all but a power-on reset keep the AON counter, list RAM and bin
RAM (R89, R92 to R96, R811); all but a pin reset drive NRES low (R93); one asked for through an open SYS page has cause bit 4. A core reset holds the core at its reset values and
names itself (R93, R391, R750); what is not the core's, the CPU page's and the reset cause's stands; its release, with no check of the register file to report, starts the boot ROM
(R749). -/
def Obligations.Resets : Prop :=
  ((∀ s : State, ∀ c ∈ [Instr.powerOnReset, .powerFail],
    ∃ u, exec c s = .next u ∧ u.ResetInForce ∧ u.rd R.SYS_RSTCAUSE = 1#32 ∧ u.aon = 0#32 ∧ u.fuses.uid = s.fuses.uid ∧ u.pin.vbatOk = s.pin.vbatOk ∧ u.pin.nresOut = true ∧
      (∀ a, inPflash a = true ∨ inDflash a = true → u.rdB a = s.rdB a) ∧ (c = .powerFail → u.pwr.mode = .por)) ∧
  ∀ s : State, ∀ e ∈ [(Instr.vdd5BrownOut, s.supplied, 1), (.vdd1BrownOut, s.supplied, 2), (.pinReset, decide (s.pwr.mode ≠ .por), 3), (.supervisorReset, s.awake, 5)],
    e.2.1 = true → ∃ u, exec e.1 s = .next u ∧ u.ResetInForce ∧ u.rd R.SYS_RSTCAUSE = setBit (s.rd R.SYS_RSTCAUSE) e.2.2 true ∧ u.aon = s.aon ∧
      u.fuses.uid = s.fuses.uid ∧ u.pin.vbatOk = s.pin.vbatOk ∧ u.lcs.lockout = s.lcs.lockout ∧ u.pin.nresOut = decide (e.2.2 ≠ 3) ∧
      (∀ a, inPflash a = true ∨ inDflash a = true ∨ inList a = true ∨ inBin a = true → u.rdB a = s.rdB a)) ∧
  (∀ (s : State) (path : Path), s.Opens path R.SYS_RSTREQ →
    ∃ u, exec (.softwareReset path) s = .next u ∧ u.ResetInForce ∧ u.rd R.SYS_RSTCAUSE = setBit (s.rd R.SYS_RSTCAUSE) 4 true ∧ u.aon = s.aon ∧ u.pin.nresOut = true ∧
      (∀ a, inPflash a = true ∨ inDflash a = true ∨ inList a = true ∨ inBin a = true → u.rdB a = s.rdB a)) ∧
  ((∀ (s : State) (path : Path), s.Opens path R.SYS_RSTREQ → s.direct = true →
    ∃ u, exec (.coreResetRequest path) s = .next u ∧ Landed s (s.coreReset.setF R.SYS_RSTCAUSE 7 1 1) u ∧ u.cpu = { resetCpu with parked := false }) ∧
  ∀ (s : State) (pass : Bool) (soft : List Nat), s.cpu.held = true → s.awake = true → s.ticking = false → s.slf.regf = none →
    ∃ u, exec (.coreResetRelease pass soft) s = .next u ∧ Ended s (s.bootRom true soft) u ∧ u.cpu.held = false)

/-- The release of a reset: VIO good and NRES high end it, RUN follows, the levels are sampled and NRES is let go, after at least 64 AON cycles of it (R96); where the reset ran from
before the lock of the CORE PLL the PLL has locked (R89, R823). -/
def Obligations.ResetRelease : Prop :=
  ∀ (s : State) (l : Levels), s.pwr.inReset = true → s.pwr.mode ≠ .por →
    ∃ u, exec (.resetRelease l) s = .next u ∧ u.pwr.inReset = false ∧ u.pwr.mode = .run ∧ u.pin.twselS = l.twsel ∧ u.pin.bootS = l.boot ∧ u.pin.nresOut = false ∧
      u.lcs.chalV = true ∧ u.aon = s.aon + wd (max 64 l.aon) ∧ u.clk.pllok = (s.clk.pllok || decide (s.pwr.start ≤ 4)) ∧ u.rd R.SYS_RSTCAUSE = s.rd R.SYS_RSTCAUSE

/-- The supply warnings, the level of VIO and the pull of FAULT_N: the level stands, a change of a supply raises its event of PWR, but in SLEEP, where the AON domain
alone runs (Table 2-7), and a pull that begins raises SYS's (R91, R101, R824). -/
def Obligations.SupplyLevels : Prop :=
  ∀ s : State, s.pwr.inReset = false →
    (∃ u, exec .vbatLow s = .next u ∧ Ended s (({ s with pin := { s.pin with vbatOk := false } } : State).raiseIf (s.pin.vbatOk && s.watches) P.PWR 0) u ∧ u.pin.vbatOk = false ∧
      (s.pin.vbatOk = true → s.watches = true → u.bit (rEVT P.PWR) 0 = true)) ∧
    (∃ u, exec .vbatOk s = .next u ∧ Ended s (({ s with pin := { s.pin with vbatOk := true } } : State).raiseIf (!s.pin.vbatOk && s.watches) P.PWR 1) u ∧ u.pin.vbatOk = true ∧
      (s.pin.vbatOk = false → s.watches = true → u.bit (rEVT P.PWR) 1 = true)) ∧
    (∃ u, exec .vioLoss s = .next u ∧ u.pin.vioOk = false ∧ (s.pin.vioOk = true → s.watches = true → u.bit (rEVT P.PWR) 2 = true)) ∧
    (∃ u, exec .vioOk s = .next u ∧ u.pin.vioOk = true ∧ (s.pin.vioOk = false → s.watches = true → u.bit (rEVT P.PWR) 3 = true)) ∧
    (∃ u, exec .faultNExternalPull s = .next u ∧ Ended s { s with pin := { s.pin with faultExt := true } } u ∧ u.pin.faultExt = true ∧
      (({ s with pin := { s.pin with faultExt := true } } : State).extLow = true → s.pin.fext = false → u.bit (rEVT P.SYS) 0 = true ∧ u.bit (rFLT P.PST) 10 = true)) ∧
    (∃ u, exec .faultNRelease s = .next u ∧ Ended s { s with pin := { s.pin with faultExt := false } } u ∧ u.pin.faultExt = false)

/-- Entry to DOZE and to SLEEP where no condition of R103 fails: the mode, the charge pump's flag and PWR.WAKESRC; SLEEP holds the core and drops the link (R104, R105,
R108). The wakes: from DOZE an enabled source returns the part to RUN with PWR.WAKESRC and PWR.EVT.WAKE; from SLEEP the sources AON watches start a system reset with
cause bit 6 (R107, R109, R111, R113, R114); the line counts as R274 says, and the timer when its interval ends. -/
def Obligations.LowPower : Prop :=
  (∀ (s : State) (path : Path) (pins : WakePins) (dt : Nat), (s.wakePins pins dt).Takes path (rCTRL P.PWR) →
    ((s.wakePins pins dt).modeWhy true = 0 →
      ∃ u, exec (.dozeRequest path pins dt) s = .next u ∧ u.pwr.mode = .doze ∧ u.pst.cprdy = false ∧ u.rd R.PWR_WAKESRC = 0#32 ∧ u.aon = s.aon + wd dt ∧
        u.AllOff) ∧
    ∀ sret tret : Bool, (s.wakePins pins dt).modeWhy false = 0 →
      ∃ u, exec (.sleepRequest path pins dt sret tret) s = .next u ∧ u.pwr.mode = .sleep ∧ u.cpu.held = true ∧ u.lnk.link = .down ∧ u.AllOff) ∧
  (∀ (s : State) (also dt : Nat) (outS : Bool), s.pwr.inReset = false →
    ∀ e ∈ [(Instr.wakePin also dt, 1, dt), (.wakeLine also dt outS, if s.lineCounts outS then 2 else 0, dt), (.wakeHsp also dt, 16, dt), (.wakeMon also dt, 32, dt),
        (.wakeTwin also dt, 64, dt)] ++ (if s.withTimer 0 dt = 0 then [] else [(Instr.wakeTimer also dt, 4, dt)]),
      let src := s.withTimer (e.2.1 ||| (also &&& 0x73)) e.2.2 &&& s.wakeMask &&& s.fd R.PWR_WAKEEN 0 7
      src ≠ 0 →
        (s.pwr.mode = .doze → ∃ u, exec e.1 s = .next u ∧ u.pwr.mode = .run ∧ u.pwr.modeLast = 1 ∧ u.rd R.PWR_WAKESRC = wd src ∧ u.bit (rEVT P.PWR) 5 = true ∧
          u.aon = s.aon + wd e.2.2 ∧ (e.2.1 = 16 → u.hsp.last = 1 ∧ u.hsp.sdo = [])) ∧
        (s.pwr.mode = .sleep → ∃ u, exec e.1 s = .next u ∧ u.ResetInForce ∧ u.rd R.PWR_WAKESRC = wd src ∧
          u.rd R.SYS_RSTCAUSE = setBit (s.rd R.SYS_RSTCAUSE) 6 true ∧ u.aon = s.aon + wd e.2.2))

/-! ## Clock and line-time (chapter 1) -/

/-- PLL lock ends OSC where SRC is 0 (Table 1-3, R817); elsewhere CLK keeps its state, or enters REF where SRC and REFOK ask for it; the return of lock after a loss
raises PLL_RELOCK (R31); in a system reset a lock and its loss are noted and CLK stays (R817). A loss of lock raises PLL_UNLOCK and puts the stage in its safe state; TCK enters SAFE
at once with cause 3 and its sticky bit, or stays where it is in IDLE and SAFE (R30, R31, R82). -/
def Obligations.PllLock : Prop :=
  (∀ s : State, s.lineOn = true →
    (∃ u, exec .pllLock s = .next u ∧ u.clk.pllok = true) ∧
    (s.clk.state = .osc → s.bit (rCTRL P.CLK) 0 = false → ∃ u, exec .pllLock s = .next u ∧ u.clk.pllok = true ∧ u.clk.state = .search ∧ u.cyc.seqv = false ∧ u.lt = s.lt) ∧
    (s.clk.state ≠ .osc → s.bit (rCTRL P.CLK) 0 = false → ∃ u, exec .pllLock s = .next u ∧ Ended s { s with clk := { s.clk with pllok := true } } u) ∧
    (s.clk.pllok = false → ∃ u, exec .pllRelock s = .next u ∧ u.clk.pllok = true ∧ u.bit (rEVT P.CLK) 7 = true ∧
      (s.clk.state = .osc → s.bit (rCTRL P.CLK) 0 = false → u.clk.state = .search)) ∧
    (s.clk.pllok = true → ∃ u, exec .pllRelock s = .next u ∧ Ended s s u)) ∧
  (∀ s : State, s.pwr.inReset = true → s.supplied = true →
    (∃ u, exec .pllLock s = .next u ∧ Ended s { s with clk := { s.clk with pllok := true } } u) ∧
    ∃ u, exec .pllUnlock s = .next u ∧ Ended s { s with clk := { s.clk with pllok := false }, pwr := { s.pwr with start := 5 } } u) ∧
  (∀ s : State, s.awake = true →
    (s.clk.pllok = true → ∃ u, exec .pllUnlock s = .next u ∧ u.clk.pllok = false ∧ u.pst.rel = false ∧
      (s.shadow = [] ∨ s.direct = true → u.bit (rEVT P.CLK) 5 = true) ∧
      (s.tck.state = .armed ∨ s.ticking = true → u.tck.state = .safe ∧ u.tck.cause = 3 ∧ u.tck.inTick = false ∧ u.tck.pend = none ∧ u.bit (rFLT P.TCK) 1 = true ∧
        u.bit (rEVT P.TCK) 5 = true) ∧
      (s.direct = true → u.tck.state = s.tck.state ∧ u.tck.cause = s.tck.cause)) ∧
    (s.clk.pllok = false → ∃ u, exec .pllUnlock s = .next u ∧ Ended s s u))

/-- The moves of CLK when host frames stop: LOCKED to HOLD, counted and raised as LOSS; PULL to SEARCH; HOLD to SEARCH after 20 ms, with HOLD_TIMEOUT (Table 1-3, R813,
R81). A HOLD that ends so while a tick runs asks for SAFE. -/
def Obligations.HostFramesStop : Prop :=
  ∀ s : State, s.lineOn = true →
    (∀ dt : LineTime,
      (s.clk.state = .locked → ∃ u, exec (.clkLossGap dt) s = .next u ∧ u.lt = s.lt + dt ∧ u.clk.state = .hold ∧ u.clk.holdAt = s.lt + dt ∧ u.bit (rEVT P.CLK) 1 = true ∧
        u.rd R.CLK_LOSSCT = incSat (s.rd R.CLK_LOSSCT)) ∧
      (s.clk.state = .pull → ∃ u, exec (.clkLossGap dt) s = .next u ∧ u.lt = s.lt + dt ∧ u.clk.state = .search ∧ u.cyc.seqv = false ∧ u.rd R.CLK_LOSSCT = s.rd R.CLK_LOSSCT) ∧
      (s.clk.state ≠ .locked → s.clk.state ≠ .pull → ∃ u, exec (.clkLossGap dt) s = .next u ∧ Ended s (s.elapse dt) u ∧ u.lt = s.lt + dt)) ∧
    (s.clk.state ≠ .hold → ∃ u, exec .holdTimeout s = .next u ∧ Ended s s u) ∧
    (s.clk.state = .hold → s.ticking = false ∨ s.tck.inTick = true → ∃ u, exec .holdTimeout s = .next u ∧ u.bit (rEVT P.CLK) 2 = true ∧ u.clk.state = .search ∧ u.cyc.seqv = false ∧
      u.rd R.CLK_HOLDT = 20000#32 ∧ Ended s ((((s.clkTo .search).wr R.CLK_HOLDT 20000#32).raise P.CLK 2).askSafe 3) u) ∧
    (s.clk.state = .hold → s.ticking = true → s.tck.inTick = false → s.bench = true → ∃ u, exec .holdTimeout s = .next u ∧ u.tck.state = .safe ∧ u.tck.cause = 3)

/-- REFIN: REFOK takes CLK to REF where SRC is 1; its loss in REF takes CLK to OSC with REF_LOSS (R36, R38, R812). A write of CLK.CTRL.SRC that is accepted: REF and SRC 0
give SEARCH with the DCO at the REFIN rate, SEARCH, PULL, LOCKED and HOLD with SRC 1 and REFOK give REF; a write that leaves SRC keeps CLK (R38); one while TCK is armed
or runs leaves SRC and raises CFG_REJECT (R32). A core read of CLK.LT_LO holds the upper 16 bits of the same instant in CLK.LT_HI, which later reads of CLK.LT_HI return
(R40). -/
def Obligations.ClockSource : Prop :=
  (∀ (s : State) (dt : LineTime), s.lineOn = true →
    (s.bit (rCTRL P.CLK) 0 = true → s.clk.state ≠ .osc → ∃ u, exec (.refokSet dt) s = .next u ∧ u.clk.refok = true ∧ u.clk.state = .ref) ∧
    (s.bit (rCTRL P.CLK) 0 = false → s.clk.state ≠ .osc →
      ∃ u, exec (.refokSet dt) s = .next u ∧ u.clk.refok = true ∧ Ended s { s.elapse dt with clk := { s.clk with refok := true } } u) ∧
    (s.clk.state ≠ .ref → ∃ u, exec (.refLoss dt) s = .next u ∧ u.clk.refok = false ∧ Ended s { s.elapse dt with clk := { s.clk with refok := false } } u) ∧
    (s.clk.state = .ref → s.ticking = false ∨ s.tck.inTick = true → ∃ u, exec (.refLoss dt) s = .next u ∧ u.clk.refok = false ∧ u.clk.state = .osc ∧ u.clk.afterLoss = true ∧
      u.bit (rEVT P.CLK) 4 = true ∧ u.lt = s.lt + dt)) ∧
  (∀ (s : State) (path : Path) (src : Bool) (dt : LineTime), (s.elapse dt).Takes path (rCTRL P.CLK) →
    (s.direct = true → ∃ u, exec (.clkSrcWrite path src dt) s = .next u ∧ u.bit (rCTRL P.CLK) 0 = src ∧
      (src = s.bit (rCTRL P.CLK) 0 → u.clk = s.clk ∧ u.lt = s.lt + dt) ∧
      (s.bit (rCTRL P.CLK) 0 = true → src = false → s.clk.state = .ref → u.clk.state = .search ∧ u.rd R.CLK_DCOW = 0#32 ∧ u.cyc.seqv = false) ∧
      (s.bit (rCTRL P.CLK) 0 = false → src = true → s.clk.refok = true → s.clk.state ≠ .osc → s.clk.state ≠ .ref → u.clk.state = .ref)) ∧
    (s.direct = false → ∃ u, exec (.clkSrcWrite path src dt) s = .next u ∧ u.bit (rCTRL P.CLK) 0 = s.bit (rCTRL P.CLK) 0 ∧ u.bit (rEVT P.CLK) 6 = true ∧ u.clk = s.clk)) ∧
  (∀ (s : State) (dt : LineTime), s.coreOn = true →
    ∃ u, exec (.ltLoRead dt) s = .next u ∧ u.lt = s.lt + dt ∧ u.clk.ltHi = some ((s.lt + dt).extractLsb' 32 16) ∧
      u.clk.state = s.clk.state ∧ (u.coreRead R.CLK_LT_HI).2 = ((s.lt + dt).extractLsb' 32 16).setWidth 32)

/-! ## Ticks (chapter 1) -/

/-- ARM with every check of R50 passed: TCK is ARMED, nothing is authorised and the core is parked at its place; with BENCH and CLK in OSC the line-time starts from zero (R50, R380,
R778); with a check failed ARM is refused with ARM_REJECT and changes nothing else; at the shadow of a joined pair ARM and STOP are ignored (R675). STOP: an armed TCK goes to IDLE, a
tick in progress ends first, and IDLE and SAFE stay (Table 1-5). MCLR sets the least margin to its reset value (R80). -/
def Obligations.Arming : Prop :=
  (∀ (s : State) (path : Path), s.Takes path (rCTRL P.TCK) →
    (s.follows = true → ∃ u, exec (.tckArm path) s = .next u ∧ Landed s s u) ∧
    (s.follows = false → s.armOk = true → ∃ u, exec (.tckArm path) s = .next u ∧ u.tck.state = .armed ∧ u.tck.cause = 0 ∧ u.tck.pend = none ∧ u.tck.stopReq = false ∧
      u.cpu.parked = true ∧ u.cpu.pc = s.cpu.pc ∧ u.rd R.CPU_PARKPC = s.cpu.pc ∧
      (s.bench = true → s.clk.state = .osc → u.lt = 0#48 ∧ u.bit (rEVT P.CLK) 3 = true) ∧ (s.bench = false → u.lt = s.lt)) ∧
    (s.follows = false → s.armOk = false → ∃ u, exec (.tckArm path) s = .next u ∧ Landed s (s.raise P.TCK 9) u ∧ u.bit (rEVT P.TCK) 9 = true ∧ u.tck.state = s.tck.state)) ∧
  (∀ (s : State) (path : Path), s.Takes path (rCTRL P.TCK) →
    (s.follows = true ∨ s.direct = true → ∃ u, exec (.tckStop path) s = .next u ∧ Landed s s u) ∧
    (s.follows = false → s.tck.state = .armed → ∃ u, exec (.tckStop path) s = .next u ∧ u.tck.state = .idle ∧ u.tck.cause = 0 ∧ u.tck.pend = none ∧ u.pst.rel = false ∧
      u.cpu.parked = false) ∧
    (s.follows = false → s.ticking = true → s.tck.inTick = true →
      ∃ u, exec (.tckStop path) s = .next u ∧ Landed s { s with tck := { s.tck with stopReq := true } } u ∧ u.tck.state = s.tck.state ∧ u.tck.stopReq = true) ∧
    (s.follows = false → s.ticking = true → s.tck.inTick = false → ∃ u, exec (.tckStop path) s = .next u ∧ u.tck.state = .idle ∧ u.pst.rel = false) ∧
    (∃ u, exec (.mclr path) s = .next u ∧ Landed s (s.setF R.TCK_MINMARG 0 20 0xFFFFF) u ∧ u.fd R.TCK_MINMARG 0 20 = 0xFFFFF))

/-- The edge of the pending authorisation: its number and line-time are the tick's, TCK runs, phases 0 to 63 pass with the core parked, and the effective budget follows
the register, at least 256 cycles (R22, R46, R57, R58). With nothing pending no edge fires. -/
def Obligations.TickEdge : Prop :=
  ∀ (s : State) (gates : Nat) (gpio : List (Option Bool)), s.awake = true →
    (∀ a, s.tck.pend = some a → s.tck.state = .armed ∨ s.ticking = true → s.tck.inTick = false → s.cyc.cmdq = [] → s.mon.stepping = false →
      ∃ u, exec (.tickEdge gates gpio) s = .next u ∧ u.tck.state = .run ∧ u.tck.now = a.num ∧ u.tck.edge = a.edge ∧ u.lt = a.edge ∧ u.tck.inTick = true ∧ u.tck.synth = false ∧
        u.tck.phase = 63 ∧ u.tck.step = 0 ∧ u.tck.evals = 0 ∧ u.tck.pend = none ∧ 256 ≤ u.tck.budget ∧ u.cpu.parked = true ∧ u.adc.slot = 0 ∧ u.shadow = [] ∧ u.cpu.gpr = s.cpu.gpr ∧
        u.cpu.pc = s.cpu.pc) ∧
    (s.tck.pend = none → ∃ u, exec (.tickEdge gates gpio) s = .next u ∧ Ended s s u)

/-- The end of a tick, once every part of Table 1-2 and every slot has run (R24): with nothing asked TCK goes on and the line-time stands a period after the edge; a STOP takes it to
IDLE; a request for SAFE takes it there with the cause that comes first and each cause's sticky bit (R49, R51, R82). Before that nothing ends. -/
def Obligations.TickEnd : Prop :=
  ∀ s : State,
    (s.turn 7 s.tickLen = true → s.tck.safeReq = [] → s.tck.stopReq = false →
      ∃ u, exec .tickEnd s = .next u ∧ u.tck.inTick = false ∧ u.tck.state = s.tck.state ∧ u.tck.pend = s.tck.pend ∧ u.lt = s.tck.edge + BitVec.ofNat 48 s.periodLt) ∧
    (s.turn 7 s.tickLen = true → s.tck.safeReq = [] → s.tck.stopReq = true →
      ∃ u, exec .tickEnd s = .next u ∧ u.tck.inTick = false ∧ u.tck.state = .idle ∧ u.tck.pend = none ∧ u.pst.rel = false ∧ (s.frozen = false → u.cpu.parked = false)) ∧
    (s.turn 7 s.tickLen = true → s.tck.safeReq ≠ [] →
      ∃ u, exec .tickEnd s = .next u ∧ u.tck.inTick = false ∧ u.tck.state = .safe ∧ u.tck.pend = none ∧ u.pst.rel = false ∧ u.bit (rEVT P.TCK) 5 = true ∧
        ∀ c ∈ s.tck.safeReq, u.bit (rFLT P.TCK) (safeFlt c) = true) ∧
    (s.turn 7 s.tickLen = false → ∃ u, exec .tickEnd s = .next u ∧ Ended s s u)

/-- HOLDOVER begins 400 line-time units before the edge that did not come, and ends in SAFE with HOLDOVER_EXHAUSTED's cause once its last place has passed (R60, R61). A
synthetic tick is the next number at its place of the schedule, counted in HCOUNT, with no authorisation taken (R62). -/
def Obligations.Holdover : Prop :=
  (∀ s : State,
    (s.tck.state = .run → s.tck.pend = none → s.bench = false →
      ∃ u, exec .holdoverEntry s = .next u ∧ u.tck.state = .holdover ∧ u.tck.e1 = s.tck.edge + BitVec.ofNat 48 s.periodLt ∧
        u.lt = s.tck.edge + BitVec.ofNat 48 s.periodLt - 400#48 ∧ u.rd R.TCK_HCOUNT = 0#32 ∧ u.bit (rEVT P.TCK) 3 = true ∧ u.tck.now = s.tck.now) ∧
    (s.tck.state ≠ .run ∨ s.tck.pend.isSome = true ∨ s.bench = true → ∃ u, exec .holdoverEntry s = .next u ∧ Ended s s u) ∧
    (s.tck.inTick = false → s.exhausted = true →
      ∃ u, exec .holdoverExhausted s = .next u ∧ u.tck.state = .safe ∧ u.tck.inTick = false ∧ u.pst.rel = false ∧ u.bit (rFLT P.TCK) 0 = true ∧ u.bit (rEVT P.TCK) 5 = true)) ∧
  (∀ (s : State) (gates : Nat) (gpio : List (Option Bool)), s.tck.state = .holdover → s.tck.inTick = false → s.fd R.TCK_HCOUNT 0 7 < s.synthMax →
    s.pendAt (s.coastEdge (s.fd R.TCK_HCOUNT 0 7)) = false → s.shadow = [] →
    ∃ u, exec (.syntheticTick gates gpio) s = .next u ∧ u.tck.state = .holdover ∧ u.tck.synth = true ∧ u.tck.now = s.tck.now + 1#32 ∧
      u.tck.edge = s.coastEdge (s.fd R.TCK_HCOUNT 0 7) ∧ u.tck.pend = s.tck.pend ∧ u.tck.inTick = true ∧ u.tck.phase = 63 ∧
      u.fd R.TCK_HCOUNT 0 7 = s.fd R.TCK_HCOUNT 0 7 + 1 ∧ u.cpu.parked = true)

/-- In a tick: when its turn has come, at phase 64, the core leaves its parking place; at the end of the budget it parks with its place and its use recorded, unless a window is open,
which goes on and is counted (R379, R380 to R382). A strobe that is due sets the phase, latches the Hall levels, the encoder's count and the comparators, and counts the slot (R54). The
digest closes with the tick's number and starts afresh; without a pair nothing closes (R686). -/
def Obligations.CoreInTick : Prop :=
  (∀ s : State,
    (s.turn 1 64 = true → s.cpu.parked = true → s.cpu.held = false → s.romWaits = false → s.frozen = false →
      let t := s.partTo 1 64
      let t : State := { t with cpu := { t.cpu with parked := false } }
      t.boundary = .issue → ∃ u, exec .coreResume s = .next u ∧ Ended s t u ∧ u.cpu.parked = false) ∧
    (s.coreOn = true → s.budgeted = true → s.cpu.psr.crit = false →
      let use := max s.tck.phase s.budgetEnd - 64
      ∃ u, exec .budgetEnd s = .next u ∧ u.cpu.parked = true ∧ u.cpu.pc = s.cpu.pc ∧ u.rd R.CPU_PARKPC = s.cpu.pc ∧
        u.rd R.CPU_LASTUSE = wd ((if s.cpu.ovrThis then min use s.tck.budget else use) % 2 ^ 19) ∧
        (s.cpu.psr.lp = true → u.bit (rEVT P.CPU) 1 = true ∧ u.cpu.long = true ∧ u.cpu.longPc = s.cpu.pc)) ∧
    (s.coreOn = true → s.budgeted = true → s.cpu.psr.crit = true → s.cpu.ovrThis = false →
      ∃ u, exec .budgetEnd s = .next u ∧ u.cpu.parked = false ∧ u.cpu.psr.crit = true ∧ u.cpu.ovrThis = true ∧ u.cpu.ovrct = min 255 (s.cpu.ovrct + 1) ∧
        u.bit (rEVT P.CPU) 0 = true)) ∧
  (∀ s : State,
    (∀ (raws : List Int) (hall : Nat), s.strobeDue = true →
      ∃ u, exec (.slotStrobe raws hall) s = .next u ∧ u.adc.slot = s.adc.slot + 1 ∧ u.vec.hallL = hall % 8 ∧ u.vec.encL = s.vec.enc ∧ u.pst.condL = s.pst.cond ∧
        u.tck.phase = max s.tck.phase (s.adc.slot * s.slotLen + s.fd R.TCK_STROBE 0 18)) ∧
    (s.turn 3 (s.guardG + 64) = true → ¬ (2 ≤ s.twn.pstate ∧ s.twn.pstate ≤ 5) → ∃ u, exec .digestClose s = .next u ∧ Ended s (s.partTo 3 (s.guardG + 64)) u) ∧
    (s.turn 3 (s.guardG + 64) = true → 2 ≤ s.twn.pstate → s.twn.pstate ≤ 5 → ∃ u, exec .digestClose s = .next u ∧ u.twn.digq = [] ∧ u.rd R.TWN_DIGTICK = s.tck.now))

/-! ## Engine, vector unit, injectors (chapters 12 and 13) -/

/-- An evaluation that is due: it falls at the latency after the strobe, set-points reach their nodes with what is injected there, a loop that is off leaves 0 in its nodes,
and CTL.PVAL reads the node PROBE names (R55, R564, R565). -/
def Obligations.EngineEvaluation : Prop :=
  ∀ s : State, s.evalDue = true → s.frozen = false →
    ∃ u, exec .engineEvaluation s = .next u ∧ u.tck.phase = max s.tck.phase ((s.adc.slot - 1) * s.slotLen + s.fd R.TCK_STROBE 0 18 + s.latency) ∧ u.tck.evals = s.adc.slot ∧
      u.rd R.CTL_PVAL = wdI (u.node (u.fd R.CTL_PROBE 0 8)) ∧ u.adc.vals = s.adc.vals ∧ u.cpu = s.cpu ∧
      (∀ i, i < 16 → u.node (0x20 + i) = s.injAdd (0x20 + i) (s.rd (R.CTL_SP0 + 4 * i)).toInt) ∧
      (∀ n, n < 8 → s.bit (rCTRL (P.LP n)) 0 = false → u.node (0x30 + n) = 0 ∧ u.node (0x38 + n) = 0)

/-- A run of a loop leaves a value within OUTMIN and OUTMAX in the loop's output node, whatever its inputs (R568). The next acceleration of a generator differs from the
present one by at most the jerk limit, and stays within the acceleration limit where the present one does (R616). -/
def Obligations.EngineBounds : Prop :=
  (∀ (s : State) (n : Nat) (inhib : Bool), n < 8 → (s.rd (R.LP_OUTMIN n)).toInt ≤ (s.rd (R.LP_OUTMAX n)).toInt →
    (s.rd (R.LP_OUTMIN n)).toInt ≤ (s.loopRun n inhib).node (0x30 + n) ∧ (s.loopRun n inhib).node (0x30 + n) ≤ (s.rd (R.LP_OUTMAX n)).toInt) ∧
  (∀ v a vc j am : Int, 0 ≤ j →
    a - j ≤ vstep v a vc j am ∧ vstep v a vc j am ≤ a + j ∧ (-am ≤ a → a ≤ am → -am ≤ vstep v a vc j am ∧ vstep v a vc j am ≤ am))

/-- The Hall inputs and the encoder: HTIMEOUT slots without an edge set the angle to the middle of the sector; an edge of HALL1 or HALL2 moves the count by one, and a
second edge of the same channel takes it back; an edge of HALL3 sets it to 0 under ZEN; at the shadow of a pair in TRACK the count keeps (R700); an injector's run ends with its length, and not before (R591, R592, R633). -/
def Obligations.VectorInputs : Prop :=
  ∀ s : State,
    (∀ k, s.vec.sector = some k → s.ticking = true → s.bit (rCTRL P.VEC) 0 = true → s.fd R.VEC_HTIMEOUT 0 16 ≤ s.vec.slots →
      ∃ u, exec .hallTimeout s = .next u ∧ u.vec.omega = 0 ∧ u.vec.theta = wrap32 ((s.rd R.VEC_HOFS).toInt + k * sect + sect / 2) ∧ u.bit (rEVT P.VEC) 1 = true) ∧
    (∀ chan : Nat, s.awake = true → ∃ u, exec (.encoderEdge chan) s = .next u ∧ u.vec.hall = s.vec.hall ^^^ 2 ^ (chan % 2) ∧ u.vec.hallL = s.vec.hallL ∧
      (s.frozen = true → u.vec.enc = s.vec.enc) ∧ (s.frozen = false → u.vec.enc = wrap32 (s.vec.enc + 1) ∨ u.vec.enc = wrap32 (s.vec.enc - 1)) ∧
      ∃ w, exec (.encoderEdge chan) u = .next w ∧ w.vec.hall = s.vec.hall ∧ (s.frozen = false → w.vec.enc = wrap32 s.vec.enc)) ∧
    (s.awake = true → s.frozen = true → ∃ u, exec .encZ s = .next u ∧ u.vec.hall = s.vec.hall ^^^ 4 ∧ u.vec.enc = s.vec.enc) ∧
    (s.awake = true → s.frozen = false → s.bit (rCTRL P.VEC) 7 = true → ∃ u, exec .encZ s = .next u ∧ u.vec.hall = s.vec.hall ^^^ 4 ∧ u.vec.enc = 0 ∧ u.bit (rEVT P.VEC) 5 = true) ∧
    (s.awake = true → s.bit (rCTRL P.VEC) 7 = false → ∃ u, exec .encZ s = .next u ∧ u.vec.hall = s.vec.hall ^^^ 4 ∧ u.vec.enc = s.vec.enc) ∧
    (s.ticking = true → s.frozen = false → ∀ k, k < 2 →
      ((s.inj k).run = true → (s.rd (R.INJ_LEN0 + 0x20 * k)).toNat ≠ 0 → (s.rd (R.INJ_LEN0 + 0x20 * k)).toNat ≤ (s.inj k).k →
        ∃ u, exec .injectorRunEnd s = .next u ∧ (u.inj k).run = false ∧ u.bit (rEVT P.INJ) (2 + k) = true) ∧
      ((s.inj k).k < (s.rd (R.INJ_LEN0 + 0x20 * k)).toNat → ∃ u, exec .injectorRunEnd s = .next u ∧ u.inj k = s.inj k))

/-! ## Power stage (chapter 9) -/

/-- An update point in a tick: the start of a slot whose predecessor is evaluated, or under UPD its middle, loads the compares of the four legs from their duties; the start of a slot
also lifts the cycle-by-cycle trips and starts a channel's count afresh where it had not tripped. A slot's middle without UPD loads nothing, and where no update point stands nothing
happens (R448, R451, R462). -/
def Obligations.PwmUpdates : Prop :=
  ∀ (s : State) (start : Bool),
    let j := s.pointNext start
    let here := s.ticking = true ∧ s.tck.inTick = true ∧ j < 2 * s.slots ∧ (start = true → j / 2 ≤ s.tck.evals)
    (here → start = true ∨ s.bit R.PST_CFG 3 = true →
      ∃ u, exec (.pwmUpdate start) s = .next u ∧ u.pst.point = j + 1 ∧ u.tck.phase = max s.tck.phase (j * (s.slotLen / 2)) ∧
        (∀ i, i < 4 → u.rd (R.PST_CMP1 + 4 * i) = wd (compareOf (s.legDuty (i + 1)) (s.slotLen / 2))) ∧
        (start = true → u.pst.tripA = false ∧ u.pst.tripB = false ∧ (s.pst.tripA = false → u.pst.cbcA = 0) ∧ (s.pst.tripB = false → u.pst.cbcB = 0))) ∧
    (here → start = false → s.bit R.PST_CFG 3 = false →
      ∃ u, exec (.pwmUpdate start) s = .next u ∧ u.pst.point = j + 1 ∧ ∀ i, i < 4 → u.rd (R.PST_CMP1 + 4 * i) = s.rd (R.PST_CMP1 + 4 * i)) ∧
    (¬ here → ∃ u, exec (.pwmUpdate start) s = .next u ∧ Ended s s u)

/-- What an armed monitor measures, a time `dt` on, meets its condition: the condition stands, and once its blanking and its deglitch time have passed it latches: its sticky bit stands, TRIP is raised and the release is
gone; where the condition is not met, or the monitor not armed, nothing happens. A condition that ends clears the condition alone; the sticky bit stands (R458, R461, R463,
R464). A cycle-by-cycle trip of a channel in cycle mode counts, is raised and holds the channel off for the rest of the slot; a run of CBCLIM slots latches; the charge pump is ready
only while it is enabled; the warning of temperature is raised when it begins and when it ends (R456, R462, R480). -/
def Obligations.StageProtection : Prop :=
  (∀ (s : State) (n : Fin 10) (mv ns : Nat) (dt : LineTime),
    (s.awake = true → (s.elapse dt).monArmed n.val = true → (s.elapse dt).monMet n.val mv = true → (s.elapse dt).monClear n.val = true → (s.elapse dt).monDgl n.val ≤ ns →
      ∃ u, exec (.protectionTrip n mv ns dt) s = .next u ∧ u.condOn n.val = true ∧ u.bit (rFLT P.PST) n.val = true ∧
        (s.bit (rFLT P.PST) n.val = false → u.pst.rel = false ∧ u.bit (rEVT P.PST) 0 = true)) ∧
    (s.awake = true → (s.elapse dt).monArmed n.val = true → (s.elapse dt).monMet n.val mv = true →
      (s.elapse dt).monClear n.val = false ∨ ns < (s.elapse dt).monDgl n.val →
      ∃ u, exec (.protectionTrip n mv ns dt) s = .next u ∧ Ended s ((s.elapse dt).setCond n.val true) u ∧ u.condOn n.val = true) ∧
    (s.awake = true → (s.elapse dt).monArmed n.val = false ∨ (s.elapse dt).monMet n.val mv = false →
      ∃ u, exec (.protectionTrip n mv ns dt) s = .next u ∧ Ended s (s.elapse dt) u) ∧
    ∃ u, exec (.monitorConditionEnd n) s = .next u ∧ u.condOn n.val = false ∧ (∀ m, m < 10 → m ≠ n.val → u.condOn m = s.condOn m) ∧
      (s.bit (rFLT P.PST) n.val = true → u.bit (rFLT P.PST) n.val = true)) ∧
  (∀ (s : State) (b : Bool) (mv ns : Nat) (dt : LineTime), s.awake = true →
    (s.bit R.PST_OCCFG (if b then 17 else 16) = true → (s.elapse dt).monMet b.toNat mv = true → (s.elapse dt).monClear b.toNat = true → (s.elapse dt).monDgl b.toNat ≤ ns →
      ∃ u, exec (.cbcTrip b mv ns dt) s = .next u ∧ u.tripped b = true ∧ u.condOn b.toNat = true ∧ u.rd R.PST_CBCCT = incSat (s.rd R.PST_CBCCT) ∧ u.bit (rEVT P.PST) 1 = true ∧
        (s.tripped b = false → u.cbcRun b = satAdd 8 (s.cbcRun b) 1 ∧ (s.fd R.PST_OCCFG 24 8 ≤ satAdd 8 (s.cbcRun b) 1 → u.bit (rFLT P.PST) 11 = true))) ∧
    (s.bit R.PST_OCCFG (if b then 17 else 16) = true → (s.elapse dt).monMet b.toNat mv = true → (s.elapse dt).monClear b.toNat = false ∨ ns < (s.elapse dt).monDgl b.toNat →
      ∃ u, exec (.cbcTrip b mv ns dt) s = .next u ∧ Ended s ((s.elapse dt).setCond b.toNat true) u) ∧
    (s.bit R.PST_OCCFG (if b then 17 else 16) = false ∨ (s.elapse dt).monMet b.toNat mv = false →
      ∃ u, exec (.cbcTrip b mv ns dt) s = .next u ∧ Ended s (s.elapse dt) u)) ∧
  ∀ s : State, s.awake = true →
    (∃ u, exec .cpReady s = .next u ∧ Ended s { s with pst := { s.pst with cprdy := s.bit (rCTRL P.PST) 0 } } u ∧ u.pst.cprdy = s.bit (rCTRL P.PST) 0) ∧
    (∀ on : Bool, s.pst.otw ≠ on → ∃ u, exec (.otWarning on) s = .next u ∧ u.pst.otw = on ∧ u.bit (rEVT P.SUP) (if on then 0 else 1) = true) ∧
    (∃ u, exec (.otWarning s.pst.otw) s = .next u ∧ Ended s s u)

/-- SAFENOW takes the release away at once. RELEASE is refused at once with reason 1 in IDLE and SAFE, and else held for the next edge, where it is granted exactly when
no condition of Table 9-8 fails, and refused with the first that does (R468, R471 to R474). -/
def Obligations.Release : Prop :=
  (∀ (s : State) (path : Path), s.Takes path (rCTRL P.PST) →
    (∃ u, exec (.safenow path) s = .next u ∧ Landed s s.stageSafe u ∧ u.pst.rel = false) ∧
    (s.direct = true → ∃ u, exec (.release path) s = .next u ∧ Landed s (s.relRefuse 1) u ∧ u.pst.relWhy = 1 ∧ u.pst.relReq = false ∧ u.bit (rEVT P.PST) 4 = true) ∧
    (s.direct = false → ∃ u, exec (.release path) s = .next u ∧ Landed s { s with pst := { s.pst with relReq := true } } u ∧ u.pst.relReq = true)) ∧
  ∀ (s : State) (auth : Bool), s.pst.relReq = true →
    (s.relEval auth).pst.relReq = false ∧
    (s.relWhy auth = 0 → s.bit (rEVT P.PST) 3 = true ∨ s.bit (rEVEN P.PST) 3 = false → (s.relEval auth).pst.rel = true) ∧
    (s.relWhy auth ≠ 0 → (s.relEval auth).pst.relWhy = s.relWhy auth ∧ (s.pst.rel = false → (s.relEval auth).pst.rel = false) ∧ (s.relEval auth).bit (rEVT P.PST) 4 = true)

/-! ## Line, PLCA, cable diagnostics (chapter 4) -/

/-- Reception: a frame of a right length and FCS brings the link up, is stamped at its delimiter and handed to the cycle engine with what it is checked against as it completes; one with a
bad FCS is counted and goes no further; its gain code is kept and the gain returns to code 7. The energy detector compares the amplitude with EDTHR; its settling, and the windows of the
link state; settings written come into force while the port is idle (R160 to R162, R165, R166, R168, R188, R195, R333). -/
def Obligations.LineReceive : Prop :=
  ∀ s : State, s.lineOn = true →
    (∀ (oct : List Byte) (dt back : LineTime) (rate : Int) (jit sym : Nat), s.rxOn = true → 64 ≤ oct.length → oct.length ≤ 1522 →
      (fcsOk oct = true → ∃ u, exec (.rxFrame oct dt back rate jit sym) s = .next u ∧ u.lt = s.lt + dt ∧ u.lnk.link = .up ∧ u.lnk.agc = s.gainNow ∧ u.lnk.gain = 7 ∧
        u.cyc.handover = s.cyc.handover ++ [⟨oct, s.lt + dt - back, s.lt + dt, rate, s.mac, s.fd R.CYC_NODE 0 16, s.fd R.CYC_ETYPE 0 16⟩] ∧
        u.rd R.LNK_STAMP_LO = (s.lt + dt - back).setWidth 32) ∧
      (fcsOk oct = false → ∃ u, exec (.rxFrame oct dt back rate jit sym) s = .next u ∧ u.lt = s.lt + dt ∧ u.lnk.link = s.lnk.link ∧ u.cyc.handover = s.cyc.handover ∧
        (s.bit (rCTRL P.LNS) 1 = false → u.rd R.LNS_RXFCS = wd (satAdd 32 (s.rd R.LNS_RXFCS).toNat 1)))) ∧
    (∀ quiet : Bool, s.t1s = true →
      (s.lnk.link = .up → ∃ u, exec (.linkWindowExpiry quiet) s = .next u ∧ u.lnk.link = if quiet && !s.lnk.energy then .down else .energy) ∧
      (s.lnk.link = .energy → quiet = true → s.lnk.energy = false → ∃ u, exec (.linkWindowExpiry quiet) s = .next u ∧ u.lnk.link = .down)) ∧
    (s.portIdle = true → ∃ u, exec .lnkConfigApply s = .next u ∧ u.lnk.plca = s.rd R.LNK_PLCA ∧ u.lnk.burst = s.rd R.LNK_BURST ∧ u.lnk.txcfg = s.rd R.LNK_TXCFG ∧
      u.lnk.rxcfg = s.rd R.LNK_RXCFG) ∧
    (∀ (mv gain noise : Nat) (outS : Bool),
      (s.edThr < mv → ∃ u, exec (.lineEnergy mv gain noise outS) s = .next u ∧ u.lnk.energy = true ∧ (s.lnk.energy = false → u.lnk.gain = gain % 8) ∧
        (s.t1s = true → s.lnk.link = .down → u.lnk.link = .energy)) ∧
      (mv ≤ s.edThr → mv ≤ 25 * fld (s.rd R.LNK_RXCFG) 0 4 → ∃ u, exec (.lineEnergy mv gain noise outS) s = .next u ∧ u.lnk.energy = false ∧ u.lnk.gain = 7)) ∧
    (∃ u, exec .detectorSettled s = .next u ∧ Ended s { s with lnk := { s.lnk with settling := false } } u ∧ u.lnk.settling = false) ∧
    (s.lnk.profact ≠ 0 → ∃ u, exec .jabberRx s = .next u ∧ u.lnk.jabRx = true ∧ u.bit (rEVT P.LNK) 3 = true)

/-- PLCA: a BEACON begins the cycle and makes a searching node follower, the loss of BEACON makes a follower search, the coordinator's BEACON, once the opportunities of its cycle can
have passed, makes it active; in its opportunity a node with a frame transmits it stamped, one without yields, and a SHADOW only counts; a clash drops the frame, and three cycles
running with one silence the transmitter (R174 to R176, R179, R180). -/
def Obligations.LinePlca : Prop :=
  ∀ s : State, s.awake = true →
    (∀ dt : LineTime, s.rxOn = true →
      (∃ u, exec (.beaconRx dt) s = .next u ∧ u.lt = s.lt + dt ∧ u.lnk.link = .up ∧ u.lnk.opp = 0 ∧ u.lnk.oppNo = 0 ∧ u.lnk.bcnAt = s.lt + dt) ∧
      (s.plcaOn = true → s.lnk.plcaStat = .searching → s.coordinator = false →
        ∃ u, exec (.beaconRx dt) s = .next u ∧ u.lnk.plcaStat = .follower ∧ u.bit (rEVT P.LNK) 4 = true)) ∧
    (s.lnk.plcaStat = .follower → ∃ u, exec .plcaLoss s = .next u ∧ u.lnk.plcaStat = .searching ∧ u.lnk.opp = 0 ∧ u.bit (rEVT P.LNK) 5 = true) ∧
    (s.lnk.plcaStat ≠ .follower → ∃ u, exec .plcaLoss s = .next u ∧ Ended s s u) ∧
    (∀ dt : LineTime, s.coordinator = true → s.txsil = false → s.testing = false → (s.elapse dt).cycleDue = true →
      ∃ u, exec (.beaconTx dt) s = .next u ∧ u.lnk.plcaStat = .coordinator ∧ u.lnk.coordHalt = false ∧ u.lnk.oppNo = 0 ∧ u.lnk.bcnAt = s.lt + dt ∧
        (s.lnk.plcaStat ≠ .coordinator → u.bit (rEVT P.LNK) 4 = true)) ∧
    (∀ dt : LineTime, s.plcaActive = true → (s.elapse dt).ownDue = true →
      (∀ f, s.txFront = some f → s.plcaTx = true → ∃ u, exec (.plcaTxOpportunity dt) s = .next u ∧ u.lnk.lastTx = stamped f (s.lt + dt) ∧
        u.lnk.opp = fld s.lnk.burst 0 4 ∧ u.lnk.oppNo = s.plcaId + 1 ∧ (s.cyc.txNow = none → u.cyc.txbuf = none)) ∧
      (s.txFront = none ∨ s.plcaTx = false → ∃ u, exec (.plcaTxOpportunity dt) s = .next u ∧ u.lnk.lastTx = s.lnk.lastTx ∧ u.lnk.opp = 0 ∧ u.lnk.oppNo = s.plcaId + 1 ∧
        u.cyc.txbuf = s.cyc.txbuf)) ∧
    (s.plcaTx = true → s.txFront.isSome = true → 0 < s.lnk.opp ∨ s.lnk.oppNo ≤ s.plcaId →
      let k := if s.lnk.clashed then s.lnk.clash else s.lnk.clash + 1
      ∃ u, exec .idClash s = .next u ∧ u.lnk.clash = k % 3 ∧ u.lnk.opp = 0 ∧ (s.cyc.txNow = none → u.cyc.txbuf = none) ∧ u.bit (rEVT P.LNK) 10 = true ∧
        (3 ≤ k → u.lnk.silent = true ∧ u.bit (rFLT P.LNK) 2 = true))

/-- CSMA/CD: a waiting frame is sent stamped and leaves its place; a collision keeps it and starts a back-off; a late one, and the sixteenth, drop it; a further frame of a burst is sent
while the burst lasts. A fault of the transmitter silences it, latches its bit and is reported to self-test (R170, R176, R181 to R186). -/
def Obligations.LineCsma : Prop :=
  ∀ s : State, s.awake = true →
    (∀ (f : List Byte) (dt : LineTime), s.txFront = some f → s.csmaOk = true →
      ∃ u, exec (.txFrame dt) s = .next u ∧ u.lnk.lastTx = stamped f (s.lt + dt) ∧ u.lnk.attempts = 0 ∧ (s.cyc.txNow = none → u.cyc.txbuf = none) ∧
        (s.bit (rCTRL P.LNS) 1 = false → u.rd R.LNS_TXOK = wd (satAdd 32 (s.rd R.LNS_TXOK).toNat 1))) ∧
    (∀ (f : List Byte) (dt : LineTime), s.txFront = some f → s.csmaOk = false → s.t1s = true → (s.elapse dt).burstOk = true →
      ∃ u, exec (.txFrame dt) s = .next u ∧ u.lnk.lastTx = stamped f (s.lt + dt) ∧ u.lnk.opp = s.lnk.opp - 1) ∧
    (∀ (f : List Byte) (bits : Nat), s.txFront = some f → s.csmaOk = true →
      (512 < bits → ∃ u, exec (.collision bits) s = .next u ∧ u.bit (rEVT P.LNK) 7 = true ∧ u.lnk.attempts = 0 ∧ u.lnk.backoff = false) ∧
      (bits ≤ 512 → 15 ≤ s.lnk.attempts → ∃ u, exec (.collision bits) s = .next u ∧ u.bit (rEVT P.LNK) 6 = true ∧ u.lnk.attempts = 0 ∧ u.lnk.backoff = false) ∧
      (bits ≤ 512 → s.lnk.attempts < 15 →
        ∃ u, exec (.collision bits) s = .next u ∧ u.txFront = some f ∧ u.lnk.attempts = s.lnk.attempts + 1 ∧ u.lnk.backoff = true)) ∧
    (∃ u, exec .backoffEnd s = .next u ∧ Ended s { s with lnk := { s.lnk with backoff := false } } u ∧ u.lnk.backoff = false) ∧
    ∀ e ∈ [(Instr.jabberTx, 0), (.driverFault, 1)], s.txsil = false →
      ∃ u, exec e.1 s = .next u ∧ u.lnk.silent = true ∧ u.bit (rFLT P.LNK) e.2 = true ∧ u.bit (rEVT P.SLF) 0 = true ∧ (e.2 = 0 → u.bit (rEVT P.LNK) 2 = true)

/-- The port's commands: RESTART restarts it with the link down where no energy stands; CLR sets the LNS counters to zero; FREEZE holds the counts back and its end adds them; START of
a measurement takes the port from the line, ABORT and foreign energy give it back with no result, 2^AVG pulses follow the quiet time, and DONE ends the measurement (R196,
R199, R201 to R204, R207). -/
def Obligations.LineCommands : Prop :=
  ∀ (s : State) (path : Path),
    (s.Opens path (rCTRL P.LNK) → ∃ u, exec (.restart path) s = .next u ∧ Landed s s.portRestart u ∧ u.isn.stage = 7 ∧ u.lnk.attempts = 0 ∧
      (s.lnk.amp ≤ 25 * fld (s.rd R.LNK_RXCFG) 0 4 → u.lnk.link = .down)) ∧
    (s.Takes path (rCTRL P.LNS) → ∃ u, exec (.lnsClr path) s = .next u ∧ Landed s s.lnsClear u ∧ u.lnk.held = [] ∧ ∀ a ∈ lnsCounters, u.rd a = 0#32) ∧
    (s.Takes path (rCTRL P.LNS) →
      (∃ u, exec (.lnsFreeze path true) s = .next u ∧ u.bit (rCTRL P.LNS) 1 = true ∧ u.lnk.held = s.lnk.held) ∧
      (s.lnk.held = [] → ∃ u, exec (.lnsFreeze path false) s = .next u ∧ u.bit (rCTRL P.LNS) 1 = false ∧ u.lnk.held = []) ∧
      (s.bit (rCTRL P.LNS) 1 = true → ∃ u, exec (.lnsFreeze path false) s = .next u ∧ u.lnk.held = [])) ∧
    (s.Takes path (rCTRL P.CDG) →
      (s.cdgRefusal = 0 → ∃ u, exec (.cdgStart path) s = .next u ∧ Landed s s.cdgStart u ∧ u.lnk.cdg = .quiet ∧ u.lnk.profact = 0 ∧ u.lnk.plcaStat = .off ∧ u.lnk.cdgRes = 0 ∧
        u.lnk.link = if s.lnk.profact = 3 then .down else s.lnk.link) ∧
      (s.cdgRefusal ≠ 0 → ∃ u, exec (.cdgStart path) s = .next u ∧ Landed s s.cdgStart u ∧ u.lnk.cdg = s.lnk.cdg ∧ u.lnk.cdgRefuse = s.cdgRefusal ∧ u.bit (rEVT P.CDG) 1 = true)) ∧
    (s.Takes path (rCTRL P.CDG) →
      (s.cdgBusy = true → ∃ u, exec (.cdgAbort path) s = .next u ∧ Landed s (s.cdgStop false) u ∧ u.lnk.cdg = .none ∧ u.lnk.cdgDone = true ∧ u.lnk.cdgRes = 0) ∧
      (s.cdgBusy = false → ∃ u, exec (.cdgAbort path) s = .next u ∧ Landed s s u)) ∧
    (s.lineOn = true →
      (s.lnk.cdg = .quiet → s.lnk.energy = false →
        ∃ u, exec .cdgPulseTrain s = .next u ∧ Ended s { s with lnk := { s.lnk with cdg := .pulses, pulses := 2 ^ s.fd R.CDG_CFG 24 4 } } u ∧ u.lnk.cdg = .pulses) ∧
      (s.lnk.cdg = .quiet → s.lnk.energy = true → ∃ u, exec .cdgPulseTrain s = .next u ∧ Ended s s u) ∧
      (s.lnk.cdg = .pulses → ∀ peaks, ∃ u, exec (.cdgDone peaks) s = .next u ∧ u.lnk.cdg = .none ∧ u.lnk.cdgDone = true ∧ u.bit (rEVT P.CDG) 0 = true) ∧
      (s.cdgBusy = true → ∃ u, exec .disturbed s = .next u ∧ u.lnk.cdg = .none ∧ u.lnk.cdgDone = true ∧ u.lnk.cdgRes = 0 ∧ u.bit (rEVT P.CDG) 2 = true))

/-! ## Isinasia (chapter 5) -/

/-- Negotiation and training: the pages are composed, the result names the profile or begins the negotiation anew; training begins at QUIET with both seeds reset, its stages follow one
another as their superframes are over, a canceller that has not converged fails it, and the tone takes a slave on; LOADNOW proposes, RCV asks for reconvergence in showtime, RETRAIN
restarts the port, CLR sets the counters to zero (R227, R237 to R243, R249, R251 to R253, R265, R284). -/
def Obligations.IsinasiaTraining : Prop :=
  ∀ s : State,
    (s.lineOn = true →
      (s.lnk.nego = true → ∃ u, exec .negotiation s = .next u ∧ Ended s { s with isn := { s.isn with
        negPage := s.ownPage, negOut := [.base true true, .message (BitVec.ofNat 24 (s.fd R.ISN_NEGID 0 24)), .unformatted s.ownPage], negAcks := 0 } } u ∧ u.isn.negPage = s.ownPage) ∧
      (∀ (page : Word) (id : Option (BitVec 24)) (base : Bool) (more : Nat), s.lnk.nego = true → s.isn.negOut ≠ [] →
        (∀ m, s.sameId id = true → bitOf s.isn.negPage 27 = true → bitOf page 27 = true → fld s.isn.negPage 28 4 = fld page 28 4 → masterOf s.isn.negPage page = some m →
          ∃ u, exec (.negDone page id base more) s = .next u ∧ u.lnk.profact = 3 ∧ u.lnk.nego = false ∧ u.rd R.ISN_NEGRES = page ∧ u.bit (rEVT P.ISN) 8 = true ∧ u.isn.stage = 7 ∧
            u.isn.negd = some ⟨m, min (fld s.isn.negPage 20 4) (fld page 20 4), bitOf s.isn.negPage 19 && bitOf page 19⟩) ∧
        (s.sameId id = false → base = true →
          ∃ u, exec (.negDone page id base more) s = .next u ∧ u.lnk.profact = 2 ∧ u.lnk.nego = false ∧ u.rd R.ISN_NEGRES = page ∧ u.bit (rEVT P.ISN) 8 = true) ∧
        (s.sameId id = false → base = false → ∃ u, exec (.negDone page id base more) s = .next u ∧
          Ended s { s with isn := { s.isn with negAcks := s.isn.negAcks + more, negOut := [], negPage := 0#32 } } u ∧ u.isn.negOut = [])) ∧
      (s.lnk.profact = 3 → s.isn.stage = 7 → s.isn.left = 0 →
        (∃ u, exec .trainingStart s = .next u ∧ u.isn.stage = 5 ∧ u.isn.left = 10 ∧ u.isn.done = false ∧ u.rd R.ISN_TXSEED = 0x7FFFFF#32 ∧ u.rd R.ISN_RXSEED = 0x7FFFFF#32) ∧
        (s.tmaster = true → ∃ u, exec .trainingRestart s = .next u ∧ u.isn.stage = 5 ∧ u.isn.left = 10 ∧ u.isn.done = false)) ∧
      (s.lnk.profact = 3 → s.isn.left = 0 → ∀ echo : Nat,
        (∀ e ∈ [(5, 6, s.tmaster), (6, 1, s.tmaster), (1, 2, s.tmaster || s.isn.locked), (2, 3, !s.tmaster || s.isn.locked), (3, 4, !s.isn.done)],
          120 ≤ echo → s.isn.stage = e.1 → e.2.2 = true → ∃ u, exec (.trainingStageEnd echo) s = .next u ∧ u.isn.stage = e.2.1 ∧ u.isn.left = s.stageLen e.2.1) ∧
        (echo < 120 → s.tmaster = true → s.isn.stage = 1 →
          ∃ u, exec (.trainingStageEnd echo) s = .next u ∧ u.isn.stage = 7 ∧ u.isn.left = 50 ∧ u.bit (rFLT P.ISN) 0 = true ∧ u.bit (rEVT P.ISN) 3 = true)) ∧
      (s.lnk.profact = 3 → s.tmaster = false → ∀ rate : Int,
        (s.isn.stage = 5 → ∃ u, exec (.acqTone true rate) s = .next u ∧ u.isn.stage = 6) ∧
        (s.isn.stage = 6 → ∃ u, exec (.acqTone false rate) s = .next u ∧ u.isn.stage = 1 ∧ (s.clk.state ≠ .ref → s.clk.state ≠ .osc → u.rd R.CLK_DCOW = s.rd R.CLK_DCOW - wdI rate)))) ∧
    ∀ path : Path,
      (s.Opens path (rCTRL P.ISN) →
        (∃ u, exec (.loadnow path) s = .next u ∧ Landed s s.loadNow u) ∧
        (s.showtime = true → s.isShadow = false → s.isn.prop = none → ∃ u, exec (.loadnow path) s = .next u ∧ u.isn.prop = some ⟨s.isn.msgSeq, !s.isn.ltRx, 0, 0⟩) ∧
        (s.showtime = true → ∃ u, exec (.rcv path) s = .next u ∧ Landed s s.rcvTrigger u ∧ u.isn.rcvPend = true) ∧
        (s.showtime = false → ∃ u, exec (.rcv path) s = .next u ∧ Landed s s u) ∧
        (∃ u, exec (.retrain path) s = .next u ∧ Landed s s.portRestart u ∧ u.isn.stage = 7 ∧ (s.lnk.amp ≤ 25 * fld (s.rd R.LNK_RXCFG) 0 4 → u.lnk.link = .down))) ∧
      (s.Takes path (rCTRL P.ISC) → ∃ u, exec (.iscClr path) s = .next u ∧ Landed s s.iscClear u ∧
        ∀ a ∈ [R.ISC_HDRERR, R.ISC_SYNCMISS, R.ISC_LOCKLOSS, R.ISC_SWAPS, R.ISC_RECONVS, R.ISC_PAYDROP, R.ISC_UNITERR, R.ISC_TAPMISS], u.rd a = 0#32)

/-- Messages: each is taken from the queue and has its effect: a proposal that fits is written to the other slot with its countdown and acknowledged, one that comes in a countdown is
only answered, an ACK moves the proposal or the seed it answers, a SEED is stored and acknowledged, an LQI_REPORT is stored. A due flip names the new slot; a proposal without an
answer is sent again, and after the third time fails (R246, R247, R265 to R270). -/
def Obligations.IsinasiaMessages : Prop :=
  ∀ s : State, s.lineOn = true →
    (∀ m r, popMsg 1 s.isn.msgq = some (m, r) →
      let counting := 1 ≤ s.isn.cd ∧ s.isn.cd ≤ 3 ∨ s.isn.cd = 6
      (counting → ∃ u, exec .loadPropose s = .next u ∧ u.isn.msgq = r ∧ u.isn.cd = s.isn.cd ∧ u.mem = s.mem) ∧
      (¬ counting → s.isShadow = false → msgOct m 2 ≤ 1 → (msgOct m 2 == 1) ≠ s.isn.ltTx → (octLoads ((m.drop 3).take 29)).any (fun b => decide (b > s.isnBmax)) = false →
        ∃ u, exec .loadPropose s = .next u ∧ u.isn.msgq = r ∧ u.isn.cd = (if s.isn.cd = 4 then 4 else 5) ∧ u.isn.cdSlot = (msgOct m 2 == 1) ∧
          (true, mkMsg [2#8, BitVec.ofNat 8 (msgOct m 1), 0#8]) ∈ u.isn.units)) ∧
    (∀ m r, popMsg 2 s.isn.msgq = some (m, r) →
      (∀ p, s.isn.prop = some p → p.seq = msgOct m 1 → p.ack = 0 →
        (msgOct m 2 = 0 → ∃ u, exec .ack s = .next u ∧ u.isn.msgq = r ∧ u.isn.prop = some { p with ack := 1 }) ∧
        (msgOct m 2 = 1 → ∃ u, exec .ack s = .next u ∧ u.isn.msgq = r ∧ u.isn.prop = some { p with ack := 2 }) ∧
        (2 ≤ msgOct m 2 → ∃ u, exec .ack s = .next u ∧ u.isn.msgq = r ∧ u.isn.prop = none ∧ u.bit (rEVT P.ISN) 5 = true)) ∧
      (s.isn.prop = none → s.isn.seedSeq = some (msgOct m 1) → msgOct m 2 = 0 → ∃ u, exec .ack s = .next u ∧ u.isn.msgq = r ∧ u.isn.seedAck = true)) ∧
    (∀ m r, popMsg 3 s.isn.msgq = some (m, r) → s.isn.seedDone = none → s.inX = true → beNat ((m.drop 2).take 3) % 2 ^ 23 ≠ 0 →
      ∃ u, exec .seed s = .next u ∧ u.isn.msgq = r ∧ u.isn.rxSeedNext = some (beNat ((m.drop 2).take 3) % 2 ^ 23) ∧ u.isn.seedDone = some (msgOct m 1, 0)) ∧
    (∀ m r, popMsg 4 s.isn.msgq = some (m, r) →
      ∃ u, exec .lqiReport s = .next u ∧ u.isn.msgq = r ∧ u.rd R.ISC_FARLQI = wd (msgOct m 1 + beNat ((m.drop 2).take 2) * 256 + msgOct m 4 % 64 * 2 ^ 24)) ∧
    (s.showtime = true → s.isShadow = false → ∃ u, exec .lqiReportSend s = .next u ∧ u.isn.units.length = s.isn.units.length + 1 ∧ Ended s s.sendLqi u) ∧
    (s.isn.cd = 6 → s.isn.stage = 4 → ∃ u, exec .swapFlip s = .next u ∧ u.isn.cd = 0 ∧ u.isn.ltTx = s.isn.cdSlot ∧ u.isn.stage = 0 ∧ u.rd R.ISN_TXSEED = wd s.isn.seed) ∧
    (s.isn.cd = 6 → s.isn.stage ≠ 4 → ∃ u, exec .swapFlip s = .next u ∧ u.isn.cd = 0 ∧ u.isn.ltTx = s.isn.cdSlot ∧ u.isn.stage = s.isn.stage) ∧
    (∀ p, s.isn.prop = some p → p.ack = 0 →
      (p.tries < 3 → ∃ u, exec .proposalTimeout s = .next u ∧ u.isn.prop = some { p with tries := p.tries + 1 }) ∧
      (3 ≤ p.tries → ∃ u, exec .proposalTimeout s = .next u ∧ u.isn.prop = none ∧ u.bit (rEVT P.ISN) 5 = true)) ∧
    (s.showtime = true → s.isShadow = false → s.fd R.ISN_LOADCFG 16 16 ≠ 0 → s.calcTable ≠ s.rxTable → s.isn.prop = none →
      ∃ u, exec .loadingPeriod s = .next u ∧ u.isn.prop = some ⟨s.isn.msgSeq, !s.isn.ltRx, 0, 0⟩)

/-- Showtime: a superframe that is due is sent and moves the frame number on, in low-power idle as S alone; a frame handed over becomes a payload unit. The aligner: a position detected
becomes a candidate, one detected again 800 samples on is checked, and one with a valid header locks; in LOCKED a hit keeps the lock and the fourth miss in a row ends it;
reconvergence runs its 50 superframes and ends in showtime, counted; low-power idle is entered and left with its first superframe marked (R229, R233, R252, R253, R257 to R260,
R271, R272). -/
def Obligations.IsinasiaShowtime : Prop :=
  ∀ s : State, s.lineOn = true →
    (∀ dt : LineTime, s.lnk.profact = 3 → s.isnSilent = false → s.isn.stage = 0 → s.isn.rcvTx = false → (s.elapse dt).sfDue = true →
      (s.isn.done = true ∨ s.isn.left ≠ 0 → s.isn.cd = 0 → s.isn.lpiTx = false →
        ∃ u, exec (.superframeTx dt) s = .next u ∧ u.lt = s.lt + dt ∧ u.isn.txSfn = (s.isn.txSfn + 1) % 4096 ∧ u.isn.ltTx = s.isn.ltTx ∧ u.isn.txLevels.length = 5) ∧
      (s.isn.lpiTx = true → s.isn.lpiFirst = false → s.lpiReady = true →
        ∃ u, exec (.superframeTx dt) s = .next u ∧ u.isn.txSfn = (s.isn.txSfn + 1) % 4096 ∧ u.isn.txLevels = [symbolS, symbol0, symbol0, symbol0, symbol0])) ∧
    (∀ (f : List Byte) (dt : LineTime), s.lnk.profact = 3 → s.isn.done = true → s.isnSilent = false → s.awake = true → s.txFront = some f →
      ∃ u, exec (.txFrame dt) s = .next u ∧ u.isn.units = s.isn.units ++ [(false, f)] ∧ (s.cyc.txNow = none → u.cyc.txbuf = none)) ∧
    (∀ (rx : SfRx) (w : Win), s.lnk.profact = 3 → s.isn.stage ≠ 7 → 40 ≤ rx.echo → rx.wins = [w] →
      (s.isn.locked = false → s.detected w = true → s.isn.cands = [] → ∃ u, exec (.superframeRx rx) s = .next u ∧ u.isn.locked = false ∧ u.isn.cands = [⟨w.pos, false⟩]) ∧
      (∀ p, s.isn.locked = false → s.detected w = true → s.isn.cands = [⟨p, false⟩] → w.pos = p + 800 → w.hdr = none →
        ∃ u, exec (.superframeRx rx) s = .next u ∧ u.isn.locked = false ∧ u.isn.cands = [⟨w.pos, true⟩]) ∧
      (∀ h, s.isn.locked = false → s.isn.cands = [⟨w.pos, true⟩] → w.hdr = some h → hdrOk h = true →
        ∃ u, exec (.superframeRx rx) s = .next u ∧ u.isn.locked = true ∧ u.isn.cands = [] ∧ u.isn.miss = 0 ∧ u.isn.rxHdr = h ∧ u.bit (rEVT P.ISN) 0 = true) ∧
      (∀ h, s.isn.locked = true → w.pos = s.isn.expect → s.detected w = true → w.hdr = some h → hcrcOk h = true →
        ∃ u, exec (.superframeRx rx) s = .next u ∧ u.isn.locked = true ∧ u.isn.miss = 0 ∧ u.isn.rxHdr = h ∧ u.isn.expect = (s.isn.expect + 800 + rx.slip).toNat)) ∧
    (∀ rx : SfRx, s.lnk.profact = 3 → s.isn.stage ≠ 7 → 40 ≤ rx.echo → rx.wins = [] → s.isn.locked = true → s.isn.lpiRx = false → s.isShadow = false → 3 ≤ s.isn.miss →
      ∃ u, exec (.superframeRx rx) s = .next u ∧ u.isn.locked = false ∧ u.isn.cands = [] ∧ u.rd R.ISC_LOCKLOSS = incSat (s.rd R.ISC_LOCKLOSS) ∧ u.bit (rEVT P.ISN) 1 = true) ∧
    (s.showtime = true → s.isn.rcvTx = true → s.isn.rcvRx = true → s.isn.cd = 0 →
      ∃ u, exec .reconvergenceStart s = .next u ∧ u.isn.stage = 3 ∧ u.isn.left = 50 ∧ u.isn.rcvPend = false) ∧
    (s.lnk.profact = 3 → s.isn.done = true → s.isn.stage = 3 → s.isn.left = 0 →
      ∃ u, exec .reconvergenceEnd s = .next u ∧ u.isn.stage = 0 ∧ u.rd R.ISC_RECONVS = incSat (s.rd R.ISC_RECONVS) ∧ u.bit (rEVT P.ISN) 6 = true) ∧
    (s.showtime = true → s.isnLpi = true → s.isn.lpiTx = false → s.isn.cd = 0 → s.isn.prop = none → s.isn.rcvPend = false → s.lpiWanted = true →
      ∃ u, exec .lpiEnter s = .next u ∧ u.isn.lpiTx = true ∧ u.isn.lpiFirst = true ∧ u.bit (rEVT P.ISN) 9 = true) ∧
    (s.isn.lpiTx = true → s.lpiReady = false →
      ∃ u, exec .lpiExit s = .next u ∧ u.isn.lpiTx = false ∧ u.isn.lpiFirst = true ∧ u.bit (rEVT P.ISN) 10 = true)

/-! ## Cycle frames, commands and queues (chapter 6; Table 1-4) -/

/-- An authorisation is accepted exactly where no check of Table 1-4 fails: its number and edge become the pending ones. One that fails changes the pending authorisation
in no way: a late or duplicate one is counted and raised, any other is counted with its reason (R41 to R45). -/
def Obligations.Authorisations : Prop :=
  ∀ (s : State) (src : Nat) (num : Word) (edge done : LineTime),
    let r := s.authorise src num edge done
    let w := s.authCode src num edge done
    (r.2 = true ↔ w = 0) ∧
    (w = 0 → r.1.tck = { s.tck with pend := some ⟨num, edge⟩, pnum := num, pedge := edge } ∧ r.1.rd R.TCK_MARGIN = wd (min (ahead edge done) 0xFFFFF)) ∧
    (w ≠ 0 → r.1.tck.pend = s.tck.pend ∧ r.1.tck.now = s.tck.now ∧
      (w = 14 → r.1.rd R.TCK_LATE = incSat (s.rd R.TCK_LATE) ∧ r.1.bit (rEVT P.TCK) 0 = true) ∧
      (w = 15 → r.1.rd R.TCK_LATE = incSat (s.rd R.TCK_LATE) ∧ r.1.bit (rEVT P.TCK) 1 = true) ∧
      (w < 14 → r.1.fd R.TCK_REJ 24 4 = w ∧ r.1.bit (rEVT P.TCK) 2 = true))

/-- The frame handed over first is checked: one that fails is dropped and counted at the first check it fails, but at a shadow that follows its lead, which counts none of its own;
one that passes is counted, its number kept, and the sender's address (Table 6-6, R303, R306, R673). -/
def Obligations.CycleFrames : Prop :=
  ∀ (s : State) (h : Handed) (rest : List Handed) (also dt : Nat), s.lineOn = true → s.cyc.handover = h :: rest →
    let gone := fun u : State => u.cyc.handover = rest ∧ u.tck.pend = s.tck.pend ∧ u.cyc.fifo = s.cyc.fifo ∧ u.cyc.staged = s.cyc.staged ∧ u.clk = s.clk ∧ u.aon = s.aon + wd dt
    (s.follows = true → s.cycCheck h ≠ 0 → ∃ u, exec (.cycleFrameRx also dt) s = .next u ∧ gone u ∧
      ∀ a ∈ [R.CYC_RXOTHER, R.CYC_RXADDR, R.CYC_RXFMT, R.CYC_RXSTALE], u.rd a = s.rd a) ∧
    (s.follows = false → s.cycCheck h = 1 → ∃ u, exec (.cycleFrameRx also dt) s = .next u ∧ gone u ∧ u.rd R.CYC_RXOTHER = incSat (s.rd R.CYC_RXOTHER)) ∧
    (s.follows = false → s.cycCheck h = 2 ∨ s.cycCheck h = 4 → ∃ u, exec (.cycleFrameRx also dt) s = .next u ∧ gone u ∧ u.rd R.CYC_RXADDR = incSat (s.rd R.CYC_RXADDR)) ∧
    (s.follows = false → s.cycCheck h = 3 ∨ s.cycCheck h = 5 → ∃ u, exec (.cycleFrameRx also dt) s = .next u ∧ gone u ∧ u.rd R.CYC_RXFMT = incSat (s.rd R.CYC_RXFMT) ∧ u.bit (rEVT P.CYC) 0 = true) ∧
    (s.follows = false → s.cycCheck h = 6 → ∃ u, exec (.cycleFrameRx also dt) s = .next u ∧ gone u ∧ u.rd R.CYC_RXSTALE = incSat (s.rd R.CYC_RXSTALE) ∧ u.bit (rEVT P.CYC) 1 = true) ∧
    (s.cycCheck h = 0 → s.awake = true → s.shadow = [] → ∃ u, exec (.cycleFrameRx also dt) s = .next u ∧ u.cyc.handover = rest ∧ u.rd R.CYC_RXOK = incSat (s.rd R.CYC_RXOK) ∧
      u.fd R.CYC_FSEQ 0 16 = hdrFseq (lanoth h.oct) ∧ u.cyc.seqv = true ∧ u.cyc.hmacv = true ∧ u.rd R.CYC_HMAC_LO = wd (octs h.oct 8 4))

/-- The queues: a section that fits moves to the command queue whole, one that does not waits with CREDIT_VIOL counted once; outside RUN and HOLDOVER the command in front
executes and answers, a READ with the value, a WRITE and a MODIFY with the status of their landing, a FLUSHMARK with 0; FLUSH empties both queues (R299, R315, R318,
R322). -/
def Obligations.CommandQueue : Prop :=
  ∀ s : State, s.awake = true →
    (∀ sec rest, s.cyc.fifo = sec :: rest →
      (s.mayAdmit sec.length = true → ∃ u, exec .sectionAdmit s = .next u ∧ Ended s { s with cyc := { s.cyc with fifo := rest, waited := false, cmdq := s.cyc.cmdq ++ sec } } u ∧
        u.cyc.cmdq = s.cyc.cmdq ++ sec) ∧
      (s.mayAdmit sec.length = false → s.cyc.waited = false → ∃ u, exec .sectionAdmit s = .next u ∧ u.cyc.fifo = s.cyc.fifo ∧ u.cyc.waited = true ∧
        u.rd R.QUE_CVIOLCT = incSat (s.rd R.QUE_CVIOLCT) ∧ u.bit (rEVT P.CYC) 3 = true) ∧
      (s.mayAdmit sec.length = false → s.cyc.waited = true → ∃ u, exec .sectionAdmit s = .next u ∧ Ended s s u)) ∧
    (∀ c rest, s.cyc.cmdq = c :: rest → s.direct = true → c.path = .network → s.cyc.rspq.length < 32 →
      let t : State := { s with cyc := { s.cyc with cmdq := rest } }
      (c.op = 1 → c.data = 0#32 → c.mask = 0#32 → s.rdStatus c.path c.addr = 0 → ∃ u, exec .cmdRead s = .next u ∧ u.cyc.cmdq = rest ∧
        u.cyc.rspq = s.cyc.rspq ++ [⟨c.tag, 0, c.addr, (t.fetchReg c.addr).2, s.tck.now⟩]) ∧
      (c.op = 1 → c.data = 0#32 → c.mask = 0#32 → s.rdStatus c.path c.addr ≠ 0 → ∃ u, exec .cmdRead s = .next u ∧ u.cyc.cmdq = rest ∧
        u.cyc.rspq = s.cyc.rspq ++ [⟨c.tag, s.rdStatus c.path c.addr, c.addr, 0#32, s.tck.now⟩]) ∧
      (c.op = 2 → c.mask = 0#32 → ∃ u, exec .cmdWrite s = .next u ∧ Ended s ((t.landWrite c.path c.addr c.data).1.respond c (t.landWrite c.path c.addr c.data).2 c.data) u) ∧
      (c.op = 2 → c.mask = 0#32 → s.wrStatus c.path c.addr ≠ 0 → ∃ u, exec .cmdWrite s = .next u ∧ u.cyc.cmdq = rest ∧
        u.cyc.rspq = s.cyc.rspq ++ [⟨c.tag, s.wrStatus c.path c.addr, c.addr, 0#32, s.tck.now⟩]) ∧
      (c.op = 3 → s.wrStatus c.path c.addr = 0 →
        let v := t.fetchReg c.addr
        ∃ u, exec .cmdModify s = .next u ∧ Ended s ((v.1.landModify c.path c.addr c.data c.mask).1.respond c (v.1.landModify c.path c.addr c.data c.mask).2 v.2) u) ∧
      (c.op = 3 → s.wrStatus c.path c.addr ≠ 0 → ∃ u, exec .cmdModify s = .next u ∧ u.cyc.cmdq = rest ∧
        u.cyc.rspq = s.cyc.rspq ++ [⟨c.tag, s.wrStatus c.path c.addr, c.addr, 0#32, s.tck.now⟩]) ∧
      (c.op = 4 → c.mask = 0#32 → c.addr % 4 = 0 → ∃ u, exec .cmdFlushmark s = .next u ∧ u.cyc.cmdq = rest ∧
        u.cyc.rspq = s.cyc.rspq ++ [⟨c.tag, 0, c.addr, 0#32, s.tck.now⟩])) ∧
    ∀ path : Path, s.Takes path (rCTRL P.QUE) → ∃ u, exec (.flush path) s = .next u ∧ Landed s s.flush u ∧ u.cyc.cmdq = [] ∧ u.cyc.fifo = []

/-- A RESPONSE frame: assembled in its window of a tick, and outside ticks at each report, it takes the responses its configuration gives room for, moves RSEQ on, and,
once a CYCLE frame has named the host, lies in the transmit buffer, a frame still there counted as lost (R300, R321, R323). -/
def Obligations.Responses : Prop :=
  ∀ (s : State) (c : Instr),
    (c = .responseAssembly ∧ s.turn 6 (s.guardG + 448) = true) ∨ (c = .idleReport ∧ s.awake = true ∧ (s.direct = true ∨ s.tck.state = .armed)) →
    let taken := fun u : State => u.cyc.rspq = s.cyc.rspq.drop (s.fd R.CYC_RPTCFG 8 6) ∧ u.fd R.CYC_FSEQ 16 16 = (s.fd R.CYC_FSEQ 16 16 + 1) % 65536 ∧ u.cyc.cdrop = false ∧
      u.cyc.rejWhy = 0
    (s.cyc.hmacv = true → ∃ u, exec c s = .next u ∧ taken u ∧ u.cyc.txbuf.isSome = true ∧
      (s.cyc.txbuf.isSome = true → u.rd R.QUE_RLOSTCT = incSat (s.rd R.QUE_RLOSTCT))) ∧
    (s.cyc.hmacv = false → ∃ u, exec c s = .next u ∧ taken u ∧ u.cyc.txbuf = s.cyc.txbuf)

/-! ## Register pages (chapter 3) -/

/-- The common words: the key opens a closed page to the path that writes it, a write without the key closes it, and no other path opens or closes it; a sticky bit clears
only through an open page, and one of PST only where its condition has ended; an EVT bit clears by a 1; EVEN takes what is written, but an enabled safety event of a
closed page stays enabled (R127 to R130, R137, R138, R463). -/
def Obligations.CommonWords : Prop :=
  ∀ (s : State) (path : Path) (page : Nat) (v : Word),
    (s.Takes path (rLOCK page) →
      let fences := fun u : State => path ≠ .coreSup → u.fd (rLOCK page) 24 2 = s.fd (rLOCK page) 24 2
      (s.bit (rLOCK page) 16 = false → fld v 0 16 = 0xA500 + page → ∃ u, exec (.lockWrite path page v) s = .next u ∧ u.openTo path page = true ∧ fences u) ∧
      (s.bit (rLOCK page) 16 = false → fld v 0 16 ≠ 0xA500 + page → ∃ u, exec (.lockWrite path page v) s = .next u ∧ u.bit (rLOCK page) 16 = false ∧ fences u) ∧
      (s.openTo path page = true → fld v 0 16 ≠ 0xA500 + page → ∃ u, exec (.lockWrite path page v) s = .next u ∧ u.fd (rLOCK page) 16 4 = 0 ∧ fences u) ∧
      (s.openTo path page = true → fld v 0 16 = 0xA500 + page → ∃ u, exec (.lockWrite path page v) s = .next u ∧ u.openTo path page = true ∧ fences u) ∧
      (s.bit (rLOCK page) 16 = true → s.openTo path page = false →
        ∃ u, exec (.lockWrite path page v) s = .next u ∧ u.fd (rLOCK page) 16 4 = s.fd (rLOCK page) 16 4 ∧ fences u)) ∧
    (s.Takes path (rFLT page) → page ≠ P.SLF →
      (∃ u, exec (.fltClear path page v) s = .next u ∧ ∀ n, bitOf v n = false → s.bit (rFLT page) n = true → u.bit (rFLT page) n = true) ∧
      (s.openTo path page = false → ∃ u, exec (.fltClear path page v) s = .next u ∧ ∀ n, s.bit (rFLT page) n = true → u.bit (rFLT page) n = true) ∧
      (s.openTo path page = true → page ≠ P.PST → ∀ d ∈ (pageRegs page).getD [], d.off = 0x18 →
        ∃ u, exec (.fltClear path page v) s = .next u ∧ ∀ n, n < 32 → bitOf v n = true → bitOf (wd d.wmask) n = true → u.bit (rFLT page) n = false) ∧
      (s.openTo path page = true → page = P.PST →
        ∃ u, exec (.fltClear path page v) s = .next u ∧ ∀ n, n < 10 → bitOf v n = true → u.bit (rFLT page) n = (s.bit (rFLT page) n && s.condOn n))) ∧
    (s.Takes path (rEVT page) → ∃ u, exec (.evtClear path page v) s = .next u ∧ (∀ n, bitOf v n = false → s.bit (rEVT page) n = true → u.bit (rEVT page) n = true) ∧
      (landTouches (rEVT page) = false → ∀ d, regDesc (rEVT page) = some d → ∀ n, n < 32 → bitOf v n = true → bitOf (wd d.wmask) n = true → u.bit (rEVT page) n = false)) ∧
    (s.Takes path (rEVEN page) → ∃ u, exec (.evenWrite path page v) s = .next u ∧
      ∀ n, n < 16 → u.bit (rEVEN page) n = (bitOf v n || (s.bit (rEVEN page) n && s.level page n == 3 && !s.openTo path page)))

/-- A write of a block's own register that its block accepts: its fields take the value at once, or wait in the shadow while ticks run where the register is
tick-shadowed; a locked register takes it through an open page only, a read-only one never. No other register changes but those an event or the settling of the stage
touches, where the register is none that something else follows. A write that the path may not make, or to no register, changes nothing but that a host
path's is answered with its status (R315). Where another path wrote the register earlier
in the tick, that path is told (R3 to R10, R123, R128, R140, R144, R148). A write of the network that cannot land yet waits in the command queue, with tag 0 (the model's choice: log
entry 53). -/
def Obligations.RegisterWrites : Prop :=
  ∀ (s : State) (path : Path) (a : Nat) (v : Word),
    (s.awake = true → s.landsNow path = true → s.wrStatus path a ≠ 0 →
      ∃ u, exec (.registerWrite path a v) s = .next u ∧ Ended s (s.answered ⟨path, 2, 0, a % 65536, v, 0#32⟩ (s.wrStatus path a) v) u) ∧
    (s.awake = true → s.atOnce = false → s.cfree ≠ 0 →
      ∃ u, exec (.registerWrite .network a v) s = .next u ∧ Ended s { s with cyc := { s.cyc with cmdq := s.cyc.cmdq ++ [⟨.network, 2, 0, a % 65536, v, 0#32⟩] } } u) ∧
    (s.Takes path a → (∀ o ∈ [0x0C, 0x10, 0x14, 0x18, 0x1C], a % 256 ≠ o) → landTouches a = false → isWindow a = false → a ≠ rCTRL P.CLK → a ≠ rCTRL P.LNS →
      ∀ d, regDesc a = some d → d.amask = 0 →
      let n := mergeMask (s.rd a) v (wd d.wmask)
      s.accept path a (s.rd a) n v = (n, none) →
      (d.acc = .ro → ∃ u, exec (.registerWrite path a v) s = .next u ∧ ∀ b, landTouches b = false → u.rd b = s.rd b) ∧
      (d.acc = .rw ∨ (d.acc = .lk ∧ s.openTo path (a / 256) = true) → ∃ u, exec (.registerWrite path a v) s = .next u ∧ u.rd a = n ∧
        (a ∉ [R.LNK_PLCA, R.LNK_BURST, R.LNK_TXCFG, R.LNK_RXCFG, R.ISN_LQCFG] → ∀ b, b ≠ a → landTouches b = false → u.rd b = s.rd b) ∧
        (s.ticking = true → path = .coreSup → (a, Path.network) ∈ s.landed → u.bit (rEVT P.CYC) 15 = true)) ∧
      (d.acc = .lk → s.openTo path (a / 256) = false → ∃ u, exec (.registerWrite path a v) s = .next u ∧ ∀ b, landTouches b = false → u.rd b = s.rd b) ∧
      (d.acc = .ts → s.direct = false → Sparse.find s.shadow a = none → d.wmask ≠ 0 → ∃ u, exec (.registerWrite path a v) s = .next u ∧ Sparse.find u.shadow a = some n ∧
        ∀ b, landTouches b = false → u.rd b = s.rd b))

/-! ## The Badger core (chapters 7 and 8) -/

/-- The register file: c0 reads zero and discards what is written, a register reads what was written to it, and no other register of the bank in force changes (R336,
R337, R339). Arithmetic and logic: in its cycles each instruction writes its result to RD and goes on; nothing else changes but the time. A saturating one sets PSR.SAT
where its result was clamped, and leaves it otherwise (Table 7-7, R385, R387, R388). -/
def Obligations.CoreArithmetic : Prop :=
  (∀ (s : State) (rd r : Fin 16) (v : Word),
    (s.setGr rd v).gr r = (if r.val = 0 then 0#32 else if r = rd then v else s.gr r) ∧
    ((s.setGr rd v).advance).cpu.pc = s.cpu.pc + 4#32 ∧ ((s.setGr rd v).advance).cpu.psr = s.cpu.psr ∧ ((s.setGr rd v).advance).gr r = (s.setGr rd v).gr r ∧
    ((s.setGr rd v).advance).mem = s.mem ∧ ((s.setGr rd v).advance).regs = s.regs) ∧
  (∀ (s : State) (rd ra rb : Fin 16) (imm : BitVec 18) (n : BitVec 5), s.OutFollows →
    let x := s.gr ra
    let y := s.gr rb
    let top := fun b : Bool => if b then 1#32 else 0#32
    let sat := fun v : Int => max (-(2 ^ 31)) (min (2 ^ 31 - 1) v)
    (∀ e ∈ [(Instr.add rd ra rb, 1, x + y), (.sub rd ra rb, 1, x - y), (.and rd ra rb, 1, x &&& y), (.or rd ra rb, 1, x ||| y), (.xor rd ra rb, 1, x ^^^ y),
        (.shl rd ra rb, 1, x <<< (y.toNat % 32)), (.shr rd ra rb, 1, x >>> (y.toNat % 32)), (.sra rd ra rb, 1, x.sshiftRight (y.toNat % 32)),
        (.slt rd ra rb, 1, top (decide (x.toInt < y.toInt))), (.sltu rd ra rb, 1, top (decide (x.toNat < y.toNat))),
        (.min rd ra rb, 1, BitVec.ofInt 32 (min x.toInt y.toInt)), (.max rd ra rb, 1, BitVec.ofInt 32 (max x.toInt y.toInt)),
        (.clz rd ra, 1, if x = 0#32 then 32#32 else BitVec.ofNat 32 (31 - x.toNat.log2)), (.mul rd ra rb, 2, BitVec.ofInt 32 (x.toInt * y.toInt)),
        (.mulh rd ra rb, 2, BitVec.ofInt 32 (x.toInt * y.toInt / 2 ^ 32)), (.mulhu rd ra rb, 2, BitVec.ofNat 32 (x.toNat * y.toNat / 2 ^ 32)),
        (.div rd ra rb, 18, if y = 0#32 then 0xFFFFFFFF#32 else BitVec.ofInt 32 (x.toInt.tdiv y.toInt)), (.divu rd ra rb, 18, if y = 0#32 then 0xFFFFFFFF#32 else x / y),
        (.rem rd ra rb, 18, if y = 0#32 then x else BitVec.ofInt 32 (x.toInt.tmod y.toInt)), (.remu rd ra rb, 18, if y = 0#32 then x else x % y),
        (.addi rd ra imm, 1, x + imm.signExtend 32), (.andi rd ra imm, 1, x &&& imm.setWidth 32), (.ori rd ra imm, 1, x ||| imm.setWidth 32),
        (.xori rd ra imm, 1, x ^^^ imm.setWidth 32), (.slti rd ra imm, 1, top (decide (x.toInt < imm.toInt))),
        (.sltiu rd ra imm, 1, top (decide (x.toNat < (imm.signExtend 32).toNat))), (.lui rd imm, 1, BitVec.ofNat 32 (imm.toNat * 2 ^ 14)),
        (.shli rd ra n, 1, x <<< n.toNat), (.shri rd ra n, 1, x >>> n.toNat), (.srai rd ra n, 1, x.sshiftRight n.toNat)],
      s.Runs e.2.1 → ∃ t, s.Timed t ∧ exec e.1 s = .next ((t.setGr rd e.2.2).advance)) ∧
    ∀ e ∈ [(Instr.adds rd ra rb, 1, x.toInt + y.toInt), (.subs rd ra rb, 1, x.toInt - y.toInt), (.mulsh rd ra rb n, 3, rshr (x.toInt * y.toInt) n.toNat)],
      s.Runs e.2.1 → ∃ t, s.Timed t ∧ exec e.1 s = .next (((t.setGr rd (BitVec.ofInt 32 (sat e.2.2))).setSat (decide (sat e.2.2 ≠ e.2.2))).advance))

/-- Loads and stores: a load from memory gives the bytes a core load finds, least significant first, extended as the instruction says, and changes no memory; a load from the register
window gives the core's read of the register; a store enters the write buffer; an access Table 8-3 refuses is a heavy trap with its reason. An entry leaves the buffer as its drain
cycles pass, a load of its word and FENCE wait for it, and it changes its own bytes alone; a late error is taken as LATE_STORE (R69, R344, R345, R366, R367, R369, R398, R412). -/
def Obligations.CoreMemory : Prop :=
  ∀ (s : State) (rd ra : Fin 16) (imm : BitVec 18) (ecc : Ecc),
    let a := (s.gr ra + imm.signExtend 32).toNat
    let at0 := s.coreB a
    let at1 := s.coreB (a + 1)
    let word := s.coreB (a + 3) ++ s.coreB (a + 2) ++ at1 ++ at0
    let got := fun (u : State) (v : Word) => u.gr rd = (if rd.val = 0 then 0#32 else v) ∧ u.cpu.pc = s.cpu.pc + 4#32 ∧ u.cpu.psr = s.cpu.psr ∧ ∀ r, r ≠ rd → u.gr r = s.gr r
    (∀ e ∈ [(Instr.lb rd ra imm ecc, 1, at0.signExtend 32), (.lbu rd ra imm ecc, 1, at0.setWidth 32), (.lh rd ra imm ecc, 2, (at1 ++ at0).signExtend 32),
        (.lhu rd ra imm ecc, 2, (at1 ++ at0).setWidth 32), (.lw rd ra imm ecc, 4, word)],
      (∀ g, memRegion a = some g → g ≠ .regs → g ≠ .trace → s.accessFault .load e.2.1 a = none → s.flashWait g = false → s.cpu.wb = [] → s.eccAt g a ecc ≠ .uncorrectable →
        s.Runs (loadCyc g) → ∃ u, exec e.1 s = .next u ∧ got u e.2.2 ∧ ∀ b, u.rdB b = s.rdB b) ∧
      (∀ why, s.accessFault .load e.2.1 a = some why → s.canIssue = true → s.CanTrap s.fetchNow.2 → ∃ u, exec e.1 s = .next u ∧ s.Trapped u 0x14 why false s.cpu.pc (wd a))) ∧
    (s.accessFault .load 4 a = none →
      (memRegion a = some .regs → s.cpu.wb = [] → s.Runs 3 →
        ∃ t, s.Timed t ∧ ∃ u, exec (.lw rd ra imm ecc) s = .next u ∧ u.gr rd = (if rd.val = 0 then 0#32 else (t.coreRead (a - 0x40000000)).2) ∧ u.cpu.pc = s.cpu.pc + 4#32) ∧
      (memRegion a = some .trace → s.cpu.wb = [] → s.paired = false → s.cpu.psr.crit = false → s.eccAt .trace a ecc = .ok → s.Runs 2 →
        ∃ u, exec (.lw rd ra imm ecc) s = .next u ∧ got u (s.traceCore (a - 0x31000000))) ∧
      (∀ e, s.cpu.wb = [e] → e.width = 4 → e.addr = a → memRegion a = some .sram → (s.drain 1).eccAt .sram a ecc = .ok → s.Retires (e.left + 2) →
        ∃ u, exec (.lw rd ra imm ecc) s = .next u ∧ got u e.data ∧ u.cpu.wb = [])) ∧
    (∀ e ∈ [(Instr.sb rd ra imm ecc, 1, ecc), (.sh rd ra imm ecc, 2, ecc), (.sw rd ra imm, 4, .ok)],
      (s.OutFollows → s.accessFault .store e.2.1 a = none → s.cpu.wb.length < 4 → s.Runs 1 → ∃ t, s.Timed t ∧ exec e.1 s =
        .next (({ t with cpu := { t.cpu with wb := t.cpu.wb ++ [⟨a, e.2.1, s.gr rd, s.cpu.psr.sup, drainCyc ((memRegion a).getD .sram) e.2.1, e.2.2⟩] } } : State).advance)) ∧
      (∀ why, s.accessFault .store e.2.1 a = some why → s.canIssue = true → s.CanTrap s.fetchNow.2 → ∃ u, exec e.1 s = .next u ∧ s.Trapped u 0x15 why false s.cpu.pc (wd a))) ∧
    (∀ e rest, s.cpu.wb = e :: rest → s.awake = true → s.frozen = false → s.landsNow .coreSup = true → inSram e.addr = true → e.width ∈ [1, 2, 4] → e.addr % e.width = 0 →
      (e.width = 4 ∨ s.eccAt .sram e.addr (e.ecc.or ecc) ≠ .uncorrectable) →
      ∃ u, exec (.storeDrain ecc) s = .next u ∧ u.cpu = { s.cpu with wb := rest } ∧
        ∀ b, u.rdB b = (if e.addr ≤ b ∧ b < e.addr + e.width then e.data.extractLsb' (8 * (b - e.addr)) 8 else s.rdB b)) ∧
    (s.cpu.wb = [] → ∃ u, exec (.storeDrain ecc) s = .next u ∧ Ended s s u) ∧
    (∀ e, s.cpu.wb = [e] → inSram e.addr = true → e.width = 4 → e.addr % 4 = 0 →
      let out := fun u : State => u.cpu.wb = [] ∧ u.cpu.pc = s.cpu.pc + 4#32 ∧
        ∀ b, u.rdB b = (if e.addr ≤ b ∧ b < e.addr + 4 then e.data.extractLsb' (8 * (b - e.addr)) 8 else s.rdB b)
      (e.left ≤ s.fetchNow.2 + 1 → s.Retires 1 → ∃ u, exec (.addi 0 0 0) s = .next u ∧ out u) ∧
      (s.Retires (e.left + 1) → ∃ u, exec .fence s = .next u ∧ out u)) ∧
    ∀ e, s.cpu.late = some e → s.boundary = .late → s.CanTrap 0 →
      ∃ u, exec .lateStore s = .next u ∧ s.Trapped u 0x1D e.sub e.multi s.cpu.pc e.addr ∧ u.cpu.late = none

/-- Branches and jumps: a branch that is taken and a jump go to their target in 2 cycles, a branch that is not taken goes on in 1; a target that is not word-aligned is a
heavy trap with the target in EADDR (R365, R387, Table 7-7). -/
def Obligations.CoreBranches : Prop :=
  ∀ (s : State) (ra rb : Fin 16) (off : BitVec 18) (far : BitVec 26),
    let x := s.gr ra
    let y := s.gr rb
    (s.OutFollows →
      (∀ e ∈ [(Instr.beq ra rb off, decide (x = y)), (.bne ra rb off, decide (x ≠ y)), (.blt ra rb off, decide (x.toInt < y.toInt)), (.bge ra rb off, decide (y.toInt ≤ x.toInt)),
          (.bltu ra rb off, decide (x.toNat < y.toNat)), (.bgeu ra rb off, decide (y.toNat ≤ x.toNat))],
        (e.2 = true → s.Runs 2 → ∃ t, s.Timed t ∧ exec e.1 s = .next (t.setPc (s.cpu.pc + BitVec.ofInt 32 (4 * off.toInt)))) ∧
        (e.2 = false → s.Runs 1 → ∃ t, s.Timed t ∧ exec e.1 s = .next t.advance)) ∧
      (s.Runs 2 → ∃ t, s.Timed t ∧ exec (.jmp far) s = .next (t.setPc (s.cpu.pc + BitVec.ofInt 32 (4 * far.toInt)))) ∧
      (x.toNat % 4 = 0 → s.Runs 2 → ∃ t, s.Timed t ∧ exec (.jr ra) s = .next (t.setPc x))) ∧
    (x.toNat % 4 ≠ 0 → s.canIssue = true → s.CanTrap s.fetchNow.2 → ∀ c ∈ [Instr.jr ra, .callr ra], ∃ u, exec c s = .next u ∧ s.Trapped u 0x12 0 false s.cpu.pc x)

/-- Calls and returns: a call takes the next frame of the ring, or the emergency bank from the trap bank, with the return address in b7 and zeros in b0 to b6, and goes to
its target; where the ring is full the oldest frame is spilled to SRAM. A return goes to the address in b7 and takes the frame before, which it fills from SRAM where none
is resident. The common registers stand (R348 to R352, R355). -/
def Obligations.CoreCalls : Prop :=
  ∀ (s : State) (ra : Fin 16) (far : BitVec 26) (fill : Ecc) (fillAt : Fin 8),
    (∀ e ∈ [(Instr.call far, s.cpu.pc + BitVec.ofInt 32 (4 * far.toInt)), (.callr ra, s.gr ra)], s.cpu.psr.eb = false → e.2.toNat % 4 = 0 → s.spillBlocked = false → s.Runs (2 + s.spillCyc) →
      ∃ u, exec e.1 s = .next u ∧ u.cpu.pc = e.2 ∧ u.gr 15 = s.cpu.pc + 4#32 ∧ (∀ r : Fin 16, 8 ≤ r.val → r.val < 15 → u.gr r = 0#32) ∧ (∀ r : Fin 16, r.val < 8 → u.gr r = s.gr r) ∧
        u.fd R.CPU_DEPTH 0 16 = min 0xFFFF (s.fd R.CPU_DEPTH 0 16 + 1) ∧
        (s.cpu.psr.tb = false → u.cpu.psr = s.cpu.psr ∧ u.cpu.ftop = (s.cpu.ftop + 1) % 16 ∧ (s.cpu.res ≠ 16 → u.cpu.res = s.cpu.res + 1)) ∧
        (s.cpu.psr.tb = true → u.cpu.psr = { s.cpu.psr with tb := false, eb := true } ∧ u.cpu.ftop = s.cpu.ftop) ∧
        (s.spillDue = true → u.cpu.res = 16 ∧ u.rd R.CPU_SCREE_PTR = s.rd R.CPU_SCREE_PTR + 32#32 ∧
          (inSram (s.rd R.CPU_SCREE_PTR).toNat = true → inSram ((s.rd R.CPU_SCREE_PTR).toNat + 31) = true →
            ∀ i, i < 8 → u.rdW ((s.rd R.CPU_SCREE_PTR).toNat + 4 * i) = s.getBank ((s.cpu.ftop + 1) % 16) i)) ∧
        (s.spillDue = false → ∀ b, u.rdB b = s.rdB b)) ∧
    (s.cpu.psr.tb = false → (s.gr 15).toNat % 4 = 0 →
      (s.backKind fill fillAt = .ok → s.Runs 2 → ∃ u, exec (.ret fill fillAt) s = .next u ∧ u.cpu.pc = s.gr 15 ∧ (∀ r : Fin 16, r.val < 8 → u.gr r = s.gr r) ∧
        (∀ b, u.rdB b = s.rdB b) ∧
        (s.cpu.psr.eb = false → u.cpu.psr = s.cpu.psr ∧ u.cpu.ftop = (s.cpu.ftop + 15) % 16 ∧ u.cpu.res = s.cpu.res - 1 ∧ u.cpu.gpr = s.cpu.gpr) ∧
        (s.cpu.psr.eb = true → u.cpu.psr = { s.cpu.psr with eb := false, tb := true } ∧ u.cpu.gpr = s.cpu.gpr)) ∧
      (s.backKind fill fillAt = .fill → s.Runs 11 → ∃ u, exec (.ret fill fillAt) s = .next u ∧ u.cpu.pc = s.gr 15 ∧ u.cpu.ftop = (s.cpu.ftop + 15) % 16 ∧ u.cpu.res = 1 ∧
        u.rd R.CPU_SCREE_PTR = wd ((s.rd R.CPU_SCREE_PTR).toNat - 32) ∧ ∀ i, i < 8 → u.getBank u.cpu.ftop i = s.rdW ((s.rd R.CPU_SCREE_PTR).toNat - 32 + 4 * i)))

/-- Long instructions: with a count of 0 they complete after their setup; an element moves a word, stores the fill value, adds a product to LACC with saturation at 64
bits, or takes a byte into the CRC, moves the addresses on and the count down; the count's end completes the instruction, and before it the instruction holds its place
with PSR.LP set (Table 7-5, R370 to R372, R374 to R376). -/
def Obligations.CoreLong : Prop :=
  ∀ (s : State) (rd ra rb : Fin 16) (x y : Ecc), s.cpu.wb = [] → s.cpu.psr.crit = false → s.Runs 3 →
    let d := s.gr rd
    let a := s.gr ra
    let k := s.gr rb
    let ops := [(Instr.bmove rd ra rb 1 x, LongOp.bmove), (.bfill rd ra rb 1, .bfill), (.vmac16 rd ra rb 1 x y, .vmac16), (.vmac32 rd ra rb 1 x y, .vmac32),
      (.bcrc32 rd ra rb 1 x, .bcrc32), (.bcrc16 rd ra rb 1 x, .bcrc16)]
    (∀ e ∈ ops, k = 0#32 → ∃ u, exec e.1 s = .next u ∧ u.cpu.pc = s.cpu.pc + 4#32 ∧ u.cpu.psr = { s.cpu.psr with lp := false } ∧ (∀ r, u.gr r = s.gr r) ∧ ∀ b, u.rdB b = s.rdB b) ∧
    (s.budgeted = false ∨ s.tck.phase + s.fetchNow.2 + 3 < s.budgetEnd → k ≠ 0#32 → rd ≠ ra → rd ≠ rb → ra ≠ rb → ∀ e ∈ ops,
      s.longStop e.2 d.toNat a.toNat (if e.2 = .bfill then .ok else x) (if e.2 = .vmac16 ∨ e.2 = .vmac32 then y else .ok) = none →
      ∃ u, exec e.1 s = .next u ∧ u.gr rb = k - 1#32 ∧
        (k = 1#32 → u.cpu.psr.lp = false ∧ u.cpu.pc = s.cpu.pc + 4#32) ∧ (k ≠ 1#32 → u.cpu.psr.lp = true ∧ u.cpu.pc = s.cpu.pc) ∧
        (e.2 = .bfill → u.gr ra = a ∧ u.gr rd = d + 4#32 ∧ u.rdW d.toNat = a ∧ ∀ b, b < d.toNat ∨ d.toNat + 4 ≤ b → u.rdB b = s.rdB b) ∧
        (e.2 = .bmove → u.gr ra = (if ra.val = 0 then 0#32 else a + 4#32) ∧ u.gr rd = d + 4#32 ∧ u.rdW d.toNat = s.rdW a.toNat ∧
          ∀ b, b < d.toNat ∨ d.toNat + 4 ≤ b → u.rdB b = s.rdB b) ∧
        (e.2 = .vmac16 → u.gr ra = a + 2#32 ∧ u.gr rd = d + 2#32 ∧ (∀ b, u.rdB b = s.rdB b) ∧
          u.lacc = max (-(2 ^ 63)) (min (2 ^ 63 - 1) (s.lacc + ((s.rdW a.toNat).extractLsb' 0 16).toInt * ((s.rdW d.toNat).extractLsb' 0 16).toInt))) ∧
        (e.2 = .vmac32 → u.gr ra = a + 4#32 ∧ u.gr rd = d + 4#32 ∧ (∀ b, u.rdB b = s.rdB b) ∧
          u.lacc = max (-(2 ^ 63)) (min (2 ^ 63 - 1) (s.lacc + (s.rdW a.toNat).toInt * (s.rdW d.toNat).toInt))) ∧
        (e.2 = .bcrc32 → u.gr ra = (if ra.val = 0 then 0#32 else a + 1#32) ∧ (∀ b, u.rdB b = s.rdB b) ∧
          u.gr rd = (if rd.val = 0 then 0#32 else wd (crc32Byte d.toNat (s.rdB a.toNat)))) ∧
        (e.2 = .bcrc16 → u.gr ra = (if ra.val = 0 then 0#32 else a + 1#32) ∧ (∀ b, u.rdB b = s.rdB b) ∧
          u.gr rd = (if rd.val = 0 then 0#32 else wd (crc16Byte (d.toNat % 65536) (s.rdB a.toNat)))))

/-- Special registers: MFS reads each of Table 7-1 into RD, MTS writes each with the bits it keeps, and both know privilege and the numbers that name none (R341 to R343,
R353, R393). -/
def Obligations.CoreSpecial : Prop :=
  ∀ (s : State) (r : Fin 16) (aux : BitVec 8),
    let v := s.gr r
    let n := aux.toNat
    (s.OutFollows → n < 12 → s.cpu.psr.sup = true ∨ n = 0 ∨ n = 11 → s.Runs 1 →
      ∃ t, s.Timed t ∧ exec (.mfs r aux) s = .next ((t.setGr r ([psrWord s.cpu.psr, s.cpu.epc, s.cpu.estat, s.cpu.cause, s.cpu.eaddr, s.cpu.vbase, s.cpu.sett, s.cpu.ssp,
        s.cpu.screeBase, s.cpu.screeLimit, s.rd R.CPU_CRIT_MAX, s.cpu.pc].getD n 0#32)).advance)) ∧
    (s.cpu.psr.sup = true → s.Runs 2 →
      (s.OutFollows → ∀ e ∈ [(0, { s.cpu with psr := { s.cpu.psr with sup := bitOf v 0, ie := bitOf v 1, sat := bitOf v 6 } }), (1, { s.cpu with epc := v }),
          (2, { s.cpu with estat := v }), (3, { s.cpu with cause := v &&& 0x7FFFF#32 }), (4, { s.cpu with eaddr := v }), (5, { s.cpu with vbase := v &&& 0xFFFFFF00#32 }),
          (6, { s.cpu with sett := v &&& 0xFFFFFF80#32 }), (7, { s.cpu with ssp := v &&& 0xFFFFFFFC#32 }),
          (9, { s.cpu with screeLimit := 0x20000000#32 ||| (v &&& 0x1FFE0#32) })],
        n = e.1 → ∃ t, s.Timed t ∧ ∃ u, exec (.mts aux r) s = .next u ∧ u = { t with cpu := u.cpu } ∧ u.cpu.own = { e.2 with pc := s.cpu.pc + 4#32 }.own) ∧
      (n = 8 → ∃ u, exec (.mts aux r) s = .next u ∧ u.cpu.pc = s.cpu.pc + 4#32 ∧
        (s.rd R.CPU_SCREE_PTR = s.cpu.screeBase → u.cpu.screeBase = 0x20000000#32 ||| (v &&& 0x1FFE0#32) ∧ u.rd R.CPU_SCREE_PTR = u.cpu.screeBase) ∧
        (s.rd R.CPU_SCREE_PTR ≠ s.cpu.screeBase → u.cpu.screeBase = s.cpu.screeBase ∧ u.rd R.CPU_SCREE_PTR = s.rd R.CPU_SCREE_PTR)) ∧
      (n = 10 → v.toNat ≤ 255 → ∃ u, exec (.mts aux r) s = .next u ∧ u.rd R.CPU_CRIT_MAX = v ∧ u.cpu.pc = s.cpu.pc + 4#32)) ∧
    (s.canIssue = true → s.CanTrap s.fetchNow.2 →
      (∀ c ∈ (if 12 ≤ n then [Instr.mfs r aux] else []) ++ (if 11 ≤ n then [Instr.mts aux r] else []), ∃ u, exec c s = .next u ∧ s.Trapped u 0x10 0 false s.cpu.pc s.cpu.eaddr) ∧
      (s.cpu.psr.sup = false → ∀ (x y : Ecc) (z : Fin 8), ∀ c ∈ [Instr.eret x z, .gret x y z, .critb, .crite] ++ (if 1 ≤ n ∧ n ≤ 10 then [Instr.mfs r aux] else []) ++
          (if n ≤ 10 then [Instr.mts aux r] else []),
        ∃ u, exec c s = .next u ∧ s.Trapped u 0x11 0 false s.cpu.pc s.cpu.eaddr))

/-- Heavy traps: TRAP and BRK enter theirs with the address of the next instruction and their own; a word that is no instruction, and a fetch that Table 8-3 refuses,
enter theirs; the bound of a critical window closes it and enters CRIT_EXPIRE (R345, R386, R387, R409, R410, R417, R418). -/
def Obligations.CoreTraps : Prop :=
  ∀ (s : State) (ecc : Ecc),
    (s.canIssue = true → s.CanTrap (s.fetchNow.2 + 1) →
      (∀ n, ∃ u, exec (.trap n) s = .next u ∧ s.Trapped u 0x1A n.toNat false (s.cpu.pc + 4#32) s.cpu.eaddr) ∧
      ∃ u, exec .brk s = .next u ∧ s.Trapped u 0x1B 0 false s.cpu.pc s.cpu.eaddr) ∧
    (∀ w, illegalWord w = true → s.canIssue = true → s.CanTrap s.fetchNow.2 →
      ∃ u, exec (.illegalInstruction w) s = .next u ∧ s.Trapped u 0x10 0 false s.cpu.pc s.cpu.eaddr) ∧
    (∀ why, s.boundary = .issue → s.accessFault .fetch 4 s.cpu.pc.toNat = some why → s.CanTrap 0 →
      ∃ u, exec (.instructionAccessFault ecc) s = .next u ∧ s.Trapped u 0x13 why false s.cpu.pc s.cpu.pc) ∧
    (s.coreOn = true → s.cpu.psr.crit = true → s.budgeted = false → s.CanTrap 0 →
      ∃ u, exec .critExpire s = .next u ∧ s.closeWindow.Trapped u 0x1C 0 false s.cpu.pc s.cpu.eaddr ∧ u.cpu.expire = false)

/-- Light events, critical windows and the instructions about them: a light event is entered with EPC, ESTAT and CAUSE, a fresh frame and the handler's address; ERET
takes them back; CRITB opens a window of CRIT_MAX cycles and CRITE closes it; YIELD parks the core where a tick runs; FENCE waits for the buffered stores; HWMCLR and
OVRCLR clear what they name (R360, R382, R387, R389, R407, R408, R411, R415, R416). -/
def Obligations.CoreEvents : Prop :=
  ∀ s : State,
    (∀ nm page, s.boundary = .event nm page → s.spillBlocked = false → s.overruns (3 + s.spillCyc) = false → s.holdsStores (3 + s.spillCyc) = true →
      ∃ u, exec .lightEventEntry s = .next u ∧ u.cpu.epc = s.cpu.pc ∧ u.cpu.estat = psrWord s.cpu.psr ∧ u.cpu.cause = wd ((if nm then 2 else 1) + page * 256) ∧
        u.cpu.psr = { s.cpu.psr with sup := true, ie := false, lp := false } ∧ u.cpu.pc = s.cpu.vbase ∧ u.cpu.ftop = (s.cpu.ftop + 1) % 16 ∧
        (∀ r : Fin 16, 8 ≤ r.val → u.gr r = 0#32) ∧ ∀ r : Fin 16, r.val < 8 → u.gr r = s.gr r) ∧
    (∀ (fill : Ecc) (fillAt : Fin 8), s.cpu.psr.sup = true → s.cpu.epc.toNat % 4 = 0 →
      let back := { s.cpu.psr with crit := false, sup := bitOf s.cpu.estat 0, ie := bitOf s.cpu.estat 1, lp := bitOf s.cpu.estat 5, sat := bitOf s.cpu.estat 6 }
      (s.cpu.psr.tb = true → s.Runs 4 → ∃ u, exec (.eret fill fillAt) s = .next u ∧ u.cpu.pc = s.cpu.epc ∧ u.cpu.gpr = s.cpu.gpr ∧ u.cpu.psr = { back with tb := false }) ∧
      (s.cpu.psr.tb = false → s.cpu.psr.eb = true → s.Runs 4 → ∃ u, exec (.eret fill fillAt) s = .next u ∧ u.cpu.pc = s.cpu.epc ∧
        u.cpu.psr = { s.cpu.psr with crit := false, eb := false, tb := true }) ∧
      (s.cpu.psr.tb = false → s.cpu.psr.eb = false → s.backKind fill fillAt = .ok → s.Runs 4 →
        ∃ u, exec (.eret fill fillAt) s = .next u ∧ u.cpu.pc = s.cpu.epc ∧ u.cpu.ftop = (s.cpu.ftop + 15) % 16 ∧ u.cpu.psr = back)) ∧
    (s.cpu.psr.sup = true → s.Runs 1 →
      ∃ u w, exec .critb s = .next u ∧ u.cpu.psr = { s.cpu.psr with crit := true } ∧ u.cpu.pc = s.cpu.pc + 4#32 ∧ (s.cpu.psr.crit = false → u.cpu.critLeft = s.fd R.CPU_CRIT_MAX 0 8) ∧
        exec .crite s = .next w ∧ w.cpu.psr = { s.cpu.psr with crit := false } ∧ w.cpu.pc = s.cpu.pc + 4#32) ∧
    (s.Runs 1 → ∃ u, exec .yield s = .next u ∧ u.cpu.psr = (if s.budgeted then { s.cpu.psr with crit := false } else s.cpu.psr) ∧ u.cpu.pc = s.cpu.pc + 4#32 ∧ u.cpu.parked = s.budgeted ∧
      (s.budgeted = true → u.rd R.CPU_PARKPC = s.cpu.pc + 4#32)) ∧
    (s.OutFollows → s.cpu.wb = [] → s.Runs 1 → ∃ t, s.Timed t ∧ exec .fence s = .next t.advance) ∧
    ∀ path, s.Takes path (rCTRL P.CPU) →
      (∃ u, exec (.hwmclr path) s = .next u ∧ u.rd R.CPU_SCREE_HWM = s.rd R.CPU_SCREE_PTR) ∧ ∃ u, exec (.ovrclr path) s = .next u ∧ u.cpu.ovrct = 0

/-- Gates: an open gate whose descriptor and pointers pass every check is entered at supervisor level at its handler, with the return address in b7 of a fresh frame and
the link word under the stack pointer, and GRET takes the caller's level and the frame before back; with gates off GATE is a heavy trap with its number (R424 to R430). -/
def Obligations.CoreGates : Prop :=
  ∀ (s : State) (n : BitVec 6) (ecc fill : Ecc) (fillAt : Fin 8),
    let da := s.gateAddr n.toNat
    let w0 := s.rdW da
    let w1 := s.rdW (da + 4)
    let sp := if s.cpu.psr.sup then s.com 7 else s.cpu.ssp
    let link := s.rdW (s.com 7).toNat
    (s.cpu.psr.eb = false → s.bit (rCTRL P.GTE) 0 = true → memRegion da ≠ none → s.flashWait ((memRegion da).getD .sram) = false → s.gateEcc n.toNat ecc ≠ .uncorrectable →
      bitOf w0 0 = true → s.cpu.psr.sup = true ∨ bitOf w0 1 = true →
      (∀ i, i < 6 → bitOf w1 i = true → s.pointerOk (s.com (i + 1)).toNat (fld w1 16 16) (bitOf w1 (8 + i)) = true) → sp.toNat % 4 = 0 → 4 ≤ sp.toNat →
      inSram (sp.toNat - 4) = true → s.spillBlocked = false → s.Runs (6 + s.spillCyc) →
      ∃ u, exec (.gate n ecc) s = .next u ∧ u.cpu.pc = w0 &&& 0xFFFFFFFC#32 ∧ u.cpu.psr.sup = true ∧ u.cpu.psr.ie = (s.cpu.psr.ie && bitOf w1 15) ∧ u.gr 15 = s.cpu.pc + 4#32 ∧
        u.com 7 = sp - 4#32 ∧ (s.cpu.psr.sup = false → u.cpu.ssp = s.com 7 &&& 0xFFFFFFFC#32) ∧ u.rd R.GTE_COUNT = incSat (s.rd R.GTE_COUNT) ∧
        (s.spillDue = false → u.rdW (sp.toNat - 4) = wd (s.cpu.psr.sup.toNat + 2 * s.cpu.psr.ie.toNat + 256 * n.toNat + 0x6A7E0000))) ∧
    (s.cpu.psr.eb = false → s.bit (rCTRL P.GTE) 0 = false → s.canIssue = true → s.CanTrap s.fetchNow.2 →
      ∃ u, exec (.gate n ecc) s = .next u ∧ s.Trapped u 0x19 n.toNat false s.cpu.pc (wd da) ∧ u.fd (rSTAT P.GTE) 0 4 = 1 ∧ u.bit (rEVT P.GTE) 0 = true) ∧
    (s.cpu.psr.sup = true → s.cpu.psr.tb = false → (s.com 7).toNat % 4 = 0 → inSram (s.com 7).toNat = true → s.eccAt .sram (s.com 7).toNat ecc ≠ .uncorrectable →
      fld link 16 16 = 0x6A7E → (s.gr 15).toNat % 4 = 0 → s.backKind fill fillAt = .ok → s.Runs 4 →
      ∃ u, exec (.gret ecc fill fillAt) s = .next u ∧ u.cpu.pc = s.gr 15 ∧ u.cpu.psr.sup = bitOf link 0 ∧ u.cpu.psr.ie = bitOf link 1 ∧
        (if bitOf link 0 then u.com 7 = s.com 7 + 4#32 ∧ u.cpu.ssp = s.cpu.ssp else u.com 7 = s.cpu.ssp ∧ u.cpu.ssp = s.com 7 + 4#32))

/-- Decoding takes back what encoding makes, for every instruction of Table 7-7 with every operand its format admits, and a word that decodes is the word of its
instruction: a reserved code or an unused field that is not zero decodes to none (R384 to R387). The words of the spec's examples decode as it says (chapters 7 and 8). -/
def Obligations.DecodeEncode : Prop :=
  (∀ (w : Word) (i : CoreIns), decodeCore w = some i ↔ i.encode = w) ∧
  (∀ (m : Meets) (i : CoreIns), illegalWord i.encode = false → coreCommand m i.encode = i.instr m) ∧
  (∀ (m : Meets) (w : Word), illegalWord w = true → coreCommand m w = .illegalInstruction w) ∧
  (∀ m : Meets, coreCommand m 0x1C410000#32 = .lui 1 0x10000#18 ∧ coreCommand m 0x5084020C#32 = .lw 2 1 0x20C#18 m.ecc ∧ coreCommand m 0xFC000143#32 = .gate 5#6 m.ecc) ∧
  decodeCore 0x1C410000#32 = some (.lui 1#4 0x10000#18) ∧ decodeCore 0x5084020C#32 = some (.imm .lw 2#4 1#4 0x20C#18) ∧
  decodeCore 0xC0C48004#32 = some (.reg .bcrc32 3#4 1#4 2#4) ∧ decodeCore 0xFC000143#32 = some (.gate 5#6) ∧ illegalWord 0#32 = false ∧ illegalWord 0xFFFFFFFF#32 = true

/-! ## Converters, ownership, calibration (chapter 10) -/

/-- Ownership and precision windows: a request waits for the edge and changes no owner, a release by the owner frees the channel; PSTART asks for a window of the length
of ADC.PCFG, PSTOP ends one without a result, and the sequencer's window refuses both; at the end of a window the result, its flags and its tick stand, and the next window
begins at the same strobe where PCONT or the sequencer asks for one; CAL.CTRL.LOAD takes a good image whole and a bad one not at all (R508 to R510, R515, R516, R518). -/
def Obligations.Converters : Prop :=
  ∀ (s : State) (path : Path),
    (∀ c : Fin 2, s.Takes path (R.FM_OWN c.val) →
      (∃ u, exec (.ownReq path c) s = .next u ∧ (u.fm c.val).owner = (s.fm c.val).owner ∧
        (u.fm c.val).reqs = (if s.direct || decide (ownCode path ∈ (s.fm c.val).reqs) then (s.fm c.val).reqs else (s.fm c.val).reqs ++ [ownCode path])) ∧
      ∃ u, exec (.ownRel path c) s = .next u ∧ (u.fm c.val).reqs = (s.fm c.val).reqs ∧
        (u.fm c.val).owner = (if (s.fm c.val).owner = ownCode path then 0 else (s.fm c.val).owner)) ∧
    (s.Takes path (rCTRL P.ADC) →
      (s.seq.pwin = true → ∀ c ∈ [Instr.pstart path, .pstop path], ∃ u, exec c s = .next u ∧ Landed s (s.raise P.ADC 2) u ∧ u.bit (rEVT P.ADC) 2 = true) ∧
      (s.seq.pwin = false → s.adc.pbusy = true →
        (∃ u, exec (.pstart path) s = .next u ∧ Landed s s u) ∧
        ∃ u, exec (.pstop path) s = .next u ∧ u.adc = { s.adc with pbusy := false, pstart := false, pready := false } ∧ u.rd R.ADC_PFLG = 0x10#32 ∧ u.rd R.ADC_PRES = s.rd R.ADC_PRES) ∧
      (s.seq.pwin = false → s.adc.pbusy = false →
        (∃ u, exec (.pstart path) s = .next u ∧ u.adc = { s.adc with pbusy := true, pstart := true, pready := false, pdone := false, left := s.fd R.ADC_PCFG 16 13 }) ∧
        ∃ u, exec (.pstop path) s = .next u ∧ Landed s s u)) ∧
    (∀ (raw : Int) (ovl : Bool),
      (s.windowOver = true → ∃ u, exec (.precisionWindowEnd raw ovl) s = .next u ∧ u.rd R.ADC_PRES = wdI (s.precValue raw).1 ∧ u.rd R.ADC_PRAW = wdI raw ∧
        u.rd R.ADC_PEND = s.tck.now ∧ u.rd R.ADC_PFLG = wd ((!ovl && !s.adc.ranging).toNat + 2 * s.adc.ranging.toNat + 4 * ovl.toNat + 8 * (s.precValue raw).2.toNat) ∧
        u.adc.pdone = true ∧ u.bit (rEVT P.ADC) 0 = true ∧ u.adc.pbusy = (s.seq.pnext.isSome || (s.bit (rCTRL P.ADC) 2 && !s.seq.pwin)) ∧ u.adc.strobes = u.adc.pbusy.toNat ∧
        (u.adc.pbusy = true → u.adc.sums = s.adc.nexts)) ∧
      (s.windowOver = false → ∃ u, exec (.precisionWindowEnd raw ovl) s = .next u ∧ Ended s s u)) ∧
    (s.Takes path (rCTRL P.CAL) →
      (s.direct = false → ∃ u, exec (.calLoad path) s = .next u ∧ Landed s (s.raise P.CAL 2) u ∧ u.bit (rEVT P.CAL) 2 = true) ∧
      (s.direct = true → s.calImage (s.rd R.CAL_LADDR).toNat = none → ∃ u, exec (.calLoad path) s = .next u ∧ u.adc = { s.adc with loadErr := true } ∧ u.bit (rEVT P.CAL) 1 = true ∧
        ∀ i, i < 52 → u.rd (R.CAL_E0W0 + 4 * i) = s.rd (R.CAL_E0W0 + 4 * i)) ∧
      ∀ l, s.direct = true → s.calImage (s.rd R.CAL_LADDR).toNat = some l → ∃ u, exec (.calLoad path) s = .next u ∧
        u.adc = { s.adc with loadErr := false, fact := (s.rd R.CAL_LADDR).toNat == 0x0C003F00 } ∧ u.bit (rEVT P.CAL) 0 = true ∧
        ∀ i, i < 52 → u.rd (R.CAL_E0W0 + 4 * i) = l.getD i 0#32)

/-! ## Sequencer (chapter 11) -/

/-- The sequencer's commands: ARM is refused with its reason in IDLE and SAFE and while a sequence is on, and is else held for phase 48, where it arms exactly when no
check of Table 11-6 fails and every named channel is won, and the channels take the owner that wins; GO, PAUSE, RESUME, ABORT and the jump requests wait for the step
(R518, R533 to R536, R542). The sequencer's windows: a write of the high word of a point puts the point into list RAM and moves the index on; one of the second word of a
segment puts the segment, its reserved bits at zero, while no sequence is on, and is else refused (Table 11-8, R4, R6, R560). No other byte of memory and no other segment changes. -/
def Obligations.Sequencer : Prop :=
  (∀ (s : State) (path : Path),
    (s.Takes path (rCTRL P.SEQ) →
      (s.direct = true → ∃ u, exec (.seqArm path) s = .next u ∧ u.seq = { s.seq with armwhy := 1 } ∧ u.bit (rEVT P.SEQ) 9 = true) ∧
      (s.direct = false → s.seqActive = true → ∃ u, exec (.seqArm path) s = .next u ∧ u.seq = { s.seq with armwhy := 2 } ∧ u.bit (rEVT P.SEQ) 9 = true) ∧
      (s.direct = false → s.seqActive = false → ∃ u, exec (.seqArm path) s = .next u ∧ u.seq = { s.seq with arm := true }) ∧
      (∃ u, exec (.go path) s = .next u ∧ u.seq = { s.seq with go := s.seq.go || s.seq.state == 1 }) ∧
      (∃ u, exec (.pause path) s = .next u ∧ u.seq = { s.seq with pause := true }) ∧
      (∃ u, exec (.resume path) s = .next u ∧ u.seq = { s.seq with resume := true }) ∧
      ∃ u, exec (.abort path) s = .next u ∧ u.seq = { s.seq with abort := true }) ∧
    (s.Takes path R.SEQ_JUMP →
      (∀ tgt, ∃ u, exec (.jumpRequest path tgt) s = .next u ∧ u.seq = { s.seq with jreq := some (.jump tgt.toNat) }) ∧
      ∃ u, exec (.jumpClear path) s = .next u ∧ u.seq = { s.seq with jreq := some .clear }) ∧
    (s.budgeted = true → s.tck.synth = false → s.tck.phase = 48 → s.frozen = false →
      (s.seq.arm = false → ∃ u, exec .seqArmCheck s = .next u ∧ u.seq.arm = false ∧ ∀ c, c < 2 → (u.fm c).owner = s.winner c false ∧ (u.fm c).reqs = []) ∧
      (s.seq.arm = true → s.armWhy ≠ 0 → ∃ u, exec .seqArmCheck s = .next u ∧ u.seq.arm = false ∧ u.seq.armwhy = s.armWhy ∧ u.bit (rEVT P.SEQ) 9 = true ∧
        (s.seqActive = false → u.seq.state = s.seq.state)) ∧
      (s.seq.arm = true → s.armWhy = 0 → (∃ c, c < 2 ∧ s.named c = true ∧ s.winner c true ≠ 3) → ∃ u, exec .seqArmCheck s = .next u ∧ u.seq.arm = false ∧ u.seq.armwhy = 7 ∧
        u.bit (rEVT P.SEQ) 9 = true) ∧
      (s.seq.arm = true → s.armWhy = 0 → (∀ c, c < 2 → s.named c = true → s.winner c true = 3) → ∃ u, exec .seqArmCheck s = .next u ∧ u.seq.arm = false ∧ u.seq.state = 1 ∧
        u.seq.armwhy = 0 ∧ u.seq.capptr = 0 ∧ u.bit (rEVT P.SEQ) 0 = true ∧ ∀ c, c < 2 → s.named c = true → (u.fm c).owner = 3))) ∧
  (∀ (s : State) (path : Path) (v : Word),
    (s.Takes path R.SEQ_PHI → ∃ u, exec (.pointWindowWrite path v) s = .next u ∧
      let i := s.fd R.SEQ_PIDX 0 14
      u.rdW (0x30000000 + 8 * i) = s.seq.plo ∧ u.rdW (0x30000000 + 8 * i + 4) = v ∧ u.fd R.SEQ_PIDX 0 14 = (i + 1) % 16384 ∧
      ∀ b, b < 0x30000000 + 8 * i ∨ 0x30000000 + 8 * i + 8 ≤ b → u.rdB b = s.rdB b) ∧
    (s.Takes path R.SEQ_SD1 → s.seqActive = false → ∃ u, exec (.segmentWindowWrite path v) s = .next u ∧
      let k := s.fd R.SEQ_SIDX 0 8
      u.segW k = segKept (s.segW k) s.seq.sd0 v ∧ u.fd R.SEQ_SIDX 0 8 = (k + 1) % 256 ∧ (∀ j, j ≠ k → u.segW j = s.segW j) ∧ u.mem = s.mem) ∧
    (s.Takes path R.SEQ_SD1 → s.seqActive = true → ∃ u, exec (.segmentWindowWrite path v) s = .next u ∧ u.seq = s.seq ∧ u.bit (rEVT P.SEQ) 12 = true ∧ u.mem = s.mem))

/-! ## Trace (chapter 13) -/

/-- Trace: ARM starts a capture afresh from IDLE and DONE where the counts fit, and is else refused; STOP ends one; a trigger, by FORCE or on GPIO4, takes an armed
capture that has its PRE records to POST; USER and the tick's marker put their records at the end of the queue; a record that is written stands at WPTR, which moves on
(R638 to R644). -/
def Obligations.Trace : Prop :=
  ∀ (s : State) (path : Path),
    let ready := (s.trc.state == .idle || s.trc.state == .done) && (!s.bit R.TRC_CFG 0 || decide (s.fd R.TRC_PRE 0 14 + s.fd R.TRC_POST 0 14 + 1 ≤ 16384))
    let full := s.trc.state == .armed && decide (s.fd R.TRC_PRE 0 14 ≤ s.trc.armCount)
    (s.Takes path (rCTRL P.TRC) →
      (ready = true → ∃ u, exec (.trcArm path) s = .next u ∧ u.trc.wptr = 0 ∧ u.trc.armCount = 0 ∧ u.trc.wrapped = false ∧ u.trc.ram = s.trc.ram ∧
        if s.bit R.TRC_CFG 0 then u.trc.state = .armed ∨ u.trc.state = .post else u.trc.state = .run) ∧
      (ready = false → ∃ u, exec (.trcArm path) s = .next u ∧ Landed s (s.raise P.TRC 3) u ∧ u.bit (rEVT P.TRC) 3 = true) ∧
      (s.tracing = true → ∃ u, exec (.trcStop path) s = .next u ∧ u.trc.state = .done ∧ u.bit (rEVT P.TRC) 1 = true ∧ u.trc.ram = s.trc.ram) ∧
      (s.tracing = false → ∃ u, exec (.trcStop path) s = .next u ∧ Landed s s u) ∧
      (full = true → ∃ u, exec (.force path) s = .next u ∧ u.trc.state = .post ∧ u.bit (rEVT P.TRC) 0 = true) ∧
      (full = false → ∃ u, exec (.force path) s = .next u ∧ Landed s s u)) ∧
    (s.Takes path R.TRC_USER → ∀ v,
      (s.tracing = false → ∃ u, exec (.user path v) s = .next u ∧ Landed s s u) ∧
      (s.tracing = true → s.trc.queue.length < 16 → ∃ u, exec (.user path v) s = .next u ∧
        (s.trc.queue ++ [trcRec 7 v (pathCode path + s.tck.now.toNat % 2 ^ 24 * 16)]).Sublist u.trc.queue) ∧
      (s.tracing = true → 16 ≤ s.trc.queue.length → s.trc.lostRaised = false → ∃ u, exec (.user path v) s = .next u ∧ u.bit (rEVT P.TRC) 2 = true)) ∧
    (s.turn 5 (s.guardG + 384) = true →
      (s.bit R.TRC_CFG 2 = false → ∃ u, exec .traceTickMarker s = .next u ∧ Ended s (s.partTo 5 (s.guardG + 384)) u) ∧
      (s.bit R.TRC_CFG 2 = true → s.tracing = true → s.trc.queue.length < 16 → 
        let r := trcRec 2 s.tck.now (s.tck.synth.toNat + s.trc.lossTick * 2 ^ 16)
        let n := (s.partTo 5 (s.guardG + 384)).trcPos r
        ∃ u, exec .traceTickMarker s = .next u ∧ (s.trc.queue.take n ++ r :: s.trc.queue.drop n).Sublist u.trc.queue)) ∧
    (s.turn 5 (s.guardG + 384) = false → ∃ u, exec .traceTickMarker s = .next u ∧ Ended s s u) ∧
    (s.awake = true →
      (s.trc.queue = [] → ∃ u, exec .traceRecordWrite s = .next u ∧ Ended s s u) ∧
      (∀ r rest, s.trc.queue = r :: rest → ∃ u, exec .traceRecordWrite s = .next u ∧ Sparse.find u.trc.ram s.trc.wptr = some r ∧ u.trc.wptr = (s.trc.wptr + 1) % 16384 ∧
        u.trc.armCount = s.trc.armCount + 1 ∧ (s.trc.state = .run → s.bit R.TRC_CFG 1 = false → 16384 ≤ s.trc.armCount + 1 → u.trc.state = .done) ∧
        (s.trc.state = .post → s.trc.postCount = 1 → u.trc.state = .done ∧ u.bit (rEVT P.TRC) 1 = true)) ∧
      ∀ rising : Bool,
        let on := s.bit R.SYS_GPCFG 24 && s.fd R.TRC_TRIG 0 3 == 3 && s.bit R.TRC_TRIG (if rising then 28 else 29)
        (on = true → full = true → ∃ u, exec (.gpio4Edge rising) s = .next u ∧ u.trc.state = .post ∧ u.bit (rEVT P.TRC) 0 = true) ∧
        (on = false ∨ full = false → ∃ u, exec (.gpio4Edge rising) s = .next u ∧ Ended s s u))

/-! ## Twin link (chapter 14) -/

/-- Pairing: PAIR enters HELLO where R668 permits it and is else refused, UNPAIR leaves the pair, a HELLO that passes Table 14-6 makes the roles of R654 and starts the
transfer, one that fails names its reason; HELLO goes out in HELLO alone, and a lead that is DETACHED answers one; the link's levels, the ten milliseconds without HELLO, a
packet with an error, and the pairing a detached shadow repeats (R654, R664, R666, R668 to R671, R691). -/
def Obligations.TwinPairing : Prop :=
  ∀ (s : State) (path : Path),
    (s.Takes path (rCTRL P.TWN) →
      (s.pairOk = true → ∃ u, exec (.pair path) s = .next u ∧ u.twn.pstate = 1 ∧ u.twn.role = (s.twn.pstate == 6 && s.twn.role)) ∧
      (s.pairOk = false → ∃ u, exec (.pair path) s = .next u ∧ Landed s (s.raise P.TWN 13) u ∧ u.bit (rEVT P.TWN) 13 = true) ∧
      (s.twn.pstate = 0 → ∃ u, exec (.unpair path) s = .next u ∧ Landed s s u) ∧
      (s.twn.pstate ≠ 0 → ∃ u, exec (.unpair path) s = .next u ∧ u.twn.pstate = 0 ∧ u.twn.role = false ∧ u.twn.hold = false ∧
        (2 ≤ s.twn.pstate → s.twn.pstate ≤ 5 → u.bit (rEVT P.TWN) 5 = true)) ∧
      (s.twn.role = true → s.twn.pstate = 3 → ∃ u, exec (.resign path) s = .next u ∧ u.twn.resign = 1) ∧
      (s.twn.role = false ∨ s.twn.pstate ≠ 3 → ∃ u, exec (.resign path) s = .next u ∧ Landed s s u)) ∧
    (s.pairOk = true ↔ (s.twn.pstate = 0 ∨ s.twn.pstate = 6) ∧ s.fd (rCTRL P.TCK) 0 2 = 0) ∧
    (s.awake = true →
      (s.twn.pstate = 1 → ∃ u, exec .helloSend s = .next u ∧ u.twn.sent = [twinPkt s.helloMsg]) ∧
      (s.twn.pstate ≠ 1 → ∃ u, exec .helloSend s = .next u ∧ Ended s s u) ∧
      (∀ h : Hello, s.twn.pstate = 1 ∨ (s.twn.pstate = 6 ∧ s.twn.role = true) →
        (s.helloWhy h = 0 → ∃ u, exec (.hello h true) s = .next u ∧ u.rd R.TWN_PUID_LO = h.uid.extractLsb' 0 32 ∧ u.rd R.TWN_PUID_HI = h.uid.extractLsb' 32 32 ∧
          u.twn.pstate = 2 ∧ u.twn.role = s.helloRole h ∧ u.twn.hold = !s.helloRole h ∧ u.bit (rEVT P.TWN) 0 = true ∧ (s.helloRole h = false → u.cpu.parked = true) ∧
          (s.twn.pstate = 6 → u.twn.sent = [twinPkt s.helloMsg])) ∧
        (s.helloWhy h ≠ 0 → ∃ u, exec (.hello h true) s = .next u ∧ u.rd R.TWN_PUID_LO = h.uid.extractLsb' 0 32 ∧ u.rd R.TWN_PUID_HI = h.uid.extractLsb' 32 32 ∧
          u.twn.pstate = s.twn.pstate ∧ u.twn.joinwhy = s.helloWhy h ∧ u.bit (rEVT P.TWN) 10 = true)) ∧
      (∀ (h : Hello) (x : Sample) (d : Decision) (l : List Byte) (i : ImagePart) (n m : Nat) (e : List (Nat × Nat)) (w : Word) (g : BitVec 64) (b : Bool) (k : Int),
        ∀ c ∈ [Instr.hello h false, .samplePacket x k false, .digestPacket w g n false, .tickrec n m e false, .decision d false, .fillRequest n false, .content n l false,
            .tap n m l b false, .ctrlResync false, .ctrlVerdict b false, .ctrlVerdictRequest false, .ctrlJoin w false, .page n l false, .image i false, .ctrlResign false],
          ∃ u, exec c s = .next u ∧ Ended s (s.inc R.TWN_LINKERR) u) ∧
      (s.twn.pstate = 1 → s.twn.heard = false → ∃ u, exec .helloTimeout s = .next u ∧ u.twn = { s.twn with joinwhy := 1 }) ∧
      (s.twn.pstate ≠ 1 ∨ s.twn.heard = true → ∃ u, exec .helloTimeout s = .next u ∧ Ended s s u) ∧
      (s.twn.linkup = true → ∃ u, exec .twinLinkDown s = .next u ∧ u.twn.linkup = false ∧ u.twn.upTicks = 0 ∧ u.bit (rEVT P.TWN) 8 = true) ∧
      (s.twn.linkup = false → ∃ u, exec .twinLinkDown s = .next u ∧ Ended s s u) ∧
      (∃ u, exec .twinLinkUp s = .next u ∧ Ended s { s with twn := { s.twn with linkup := true } } u ∧ u.twn.linkup = true) ∧
      (s.twn.pstate = 6 → s.twn.role = false → s.twn.linkup = true → s.bit R.TWN_CFG 2 = true → 64 ≤ s.twn.upTicks → s.fd (rCTRL P.TCK) 0 2 = 0 →
        ∃ u, exec .autoRepair s = .next u ∧ u.twn.pstate = 1 ∧ u.twn.hold = s.twn.hold))

/-- The transfer: the lead sends the lowest dirty page above its cursor and takes it off the list; a shadow in TRACK writes the page it receives, and no other device
does; at the snapshot point the lead sends the join, the image and the pages still dirty where few are left, and both note the tick; a part of the image of the core is taken
with the core parked (R699 to R702). -/
def Obligations.TwinTransfer : Prop :=
  ∀ s : State, s.awake = true →
    (∀ (k : Nat) (e : Ecc) (i : Fin 64), s.twn.role = true → s.twn.pstate = 2 → s.nextDirty = some k →
      ∃ u, exec (.pageSend e i) s = .next u ∧ u.twn.sent = [twinPkt ([0x09#8] ++ beOctets 2 k ++ beOctets 1 s.twn.round ++ s.pageBytes k)] ∧ u.twn.dirty = s.twn.dirty.filter (· != k)) ∧
    (∀ (k : Nat) (l : List Byte), s.frozen = true → k < 256 → inSram ((s.rd R.TWN_MBASE).toNat + 256 * k) = true → inSram ((s.rd R.TWN_MBASE).toNat + 256 * k + 255) = true →
      ∃ u, exec (.page k l true) s = .next u ∧ (∀ i, i < 256 → u.rdB ((s.rd R.TWN_MBASE).toNat + 256 * k + i) = l.getD i 0#8) ∧
        ∀ b, b < (s.rd R.TWN_MBASE).toNat + 256 * k ∨ (s.rd R.TWN_MBASE).toNat + 256 * k + 256 ≤ b → u.rdB b = s.rdB b) ∧
    (∀ (k : Nat) (l : List Byte) (i : ImagePart), s.frozen = false → ∀ c ∈ [Instr.page k l true, .image i true], ∃ u, exec c s = .next u ∧ Ended s s u) ∧
    (∀ (c : CpuSt) (l : List (Nat × Word)), s.frozen = true → ∃ u, exec (.image (.core c l) true) s = .next u ∧ u.cpu = { c with parked := true } ∧
      ∀ v, l = [(R.CPU_SCREE_PTR, v)] → u.rd R.CPU_SCREE_PTR = v) ∧
    (s.twn.role = true → s.twn.pstate = 2 → s.atSnapshot = true →
      (s.tck.state = .run → s.twn.dirty.length ≤ s.fd R.TWN_XCFG 0 4 → ∃ u, exec (.joinCheck true) s = .next u ∧ u.twn.pstate = 2 ∧ u.twn.join = some (s.tck.now + 1#32) ∧
        u.twn.dirty = [] ∧ u.twn.image = s.imageParts ∧
        u.twn.sent = twinPkt (ctrlPkt 6 (beOctets 4 (s.tck.now + 1#32).toNat)) :: (s.allTracked.filter (s.twn.dirty.contains ·)).map fun k => twinPkt (s.pagePkt k)) ∧
      ∀ fits : Bool, s.tck.state ≠ .run ∨ s.fd R.TWN_XCFG 0 4 < s.twn.dirty.length ∨ fits = false →
        ∃ u, exec (.joinCheck fits) s = .next u ∧ u.twn = { s.twn with joinwhy := 8 }) ∧
    (∀ fits : Bool, s.twn.role = false ∨ s.twn.pstate ≠ 2 ∨ s.atSnapshot = false → ∃ u, exec (.joinCheck fits) s = .next u ∧ Ended s s u) ∧
    ∀ t, s.frozen = true → ∃ u, exec (.ctrlJoin t true) s = .next u ∧ u.twn = { s.twn with join := some t }

/-- Agreement in JOINED: the lead sends its samples, its decisions' content and its tick records; the shadow keeps a SAMPLE of the slot whose deadline is to come, where it
commits the lead's values, or marks its own UNAGREED where none came; it does to a frame it holds what the lead decided, and asks for one it does not hold; the tick record's
events and levels wait for the next edge (R672 to R678, R680 to R684). -/
def Obligations.TwinAgreement : Prop :=
  ∀ s : State, s.awake = true →
    (∀ ended : Bool, s.twn.role = true → s.twn.pstate = 3 ∨ s.twn.pstate = 4 → ∃ u, exec (.sampleSend ended) s = .next u ∧ u.twn.sent = [twinPkt (s.sampleMsg ended)]) ∧
    (∀ (x : Sample) (skew : Int), s.twn.role = false → 3 ≤ s.twn.pstate → s.twn.pstate ≤ 5 → ∃ u, exec (.samplePacket x skew true) s = .next u ∧
      u.twn.sample = (if s.twn.due && x.slot == wd s.slotNs then some x else s.twn.sample) ∧
      (if skew.natAbs ≤ 16 then u.twn.skewRun = 0 else u.twn.skewRun = s.twn.skewRun + 1 ∧ (s.twn.skewRun = 3 → u.bit (rEVT P.TWN) 9 = true))) ∧
    (s.budgeted = true → s.twn.role = false → s.twn.due = true → s.twn.pstate = 3 →
      (∀ x, s.twn.sample = some x → ∃ u, exec .agreementDeadline s = .next u ∧ u.twn.sample = none ∧ u.twn.due = false ∧ u.twn.got = s.twn.got + 1 ∧ u.adc.vals = x.vals ∧
        u.vec.hallL = x.hall % 8 ∧ u.vec.encL = x.enc.toInt ∧ (s.agree x = true → u.twn.disRun = 0)) ∧
      (s.twn.sample = none → ∃ u, exec .agreementDeadline s = .next u ∧ u.twn.sample = none ∧ u.twn.due = false ∧ u.twn.got = s.twn.got ∧ u.twn.unag = true ∧
        u.bit (rEVT P.TWN) 2 = true ∧ u.adc.vals = s.adc.vals.map fun v : Int × Nat => (v.1, v.2 ||| 32))) ∧
    (s.budgeted = true → s.twn.role = false → s.twn.due = true → s.twn.pstate = 5 → ∃ u, exec .agreementDeadline s = .next u ∧ u.twn.sample = none ∧ u.twn.due = false ∧
      u.twn.got = s.twn.got + s.twn.sample.isSome.toNat ∧ u.adc = s.adc) ∧
    (∀ (d : Decision) (c : Nat × Word × List Byte × LineTime × LineTime), s.follows = true → d.outcome = 1 →
      s.twn.copies.find? (fun c : Nat × Word × List Byte × LineTime × LineTime => c.1 == d.fseq && c.2.1 == d.fcs) = some c →
      ∃ u, exec (.decision d true) s = .next u ∧ u.tck.pend = some ⟨d.tick, d.edge⟩ ∧ u.rd R.TCK_MARGIN = wd d.margin) ∧
    (∀ d : Decision, s.follows = true → s.twn.copies.find? (fun c : Nat × Word × List Byte × LineTime × LineTime => c.1 == d.fseq && c.2.1 == d.fcs) = none →
      ∃ u, exec (.decision d true) s = .next u ∧ u.twn.decisions = s.twn.decisions ++ [d] ∧ u.tck.pend = s.tck.pend ∧
        u.twn.sent = [twinPkt ([0x07#8] ++ beOctets 2 d.fseq ++ beOctets 4 d.fcs.toNat)]) ∧
    (∀ (n : Nat) (c : Nat × Word × List Byte × LineTime × LineTime), s.twn.role = true → s.twn.copies.find? (fun c => c.1 == n) = some c →
      ∃ u, exec (.fillRequest n true) s = .next u ∧ u.twn.sent = [twinPkt ([0x08#8] ++ beOctets 2 n ++ c.2.2.1)]) ∧
    (∀ (n : Nat) (l : List Byte) (d : Decision), s.twn.decisions.find? (fun d => d.fseq == n) = some d → ∃ u, exec (.content n l true) s = .next u ∧
      u.twn.decisions = s.twn.decisions.filter (fun e => e.fseq != n) ∧ (d.outcome = 1 → u.tck.pend = some ⟨d.tick, d.edge⟩)) ∧
    (∀ (n m : Nat) (l : List Byte) (last : Bool), ∃ u, exec (.tap n m l last true) s = .next u ∧ Ended s (s.tapRx n m l last) u) ∧
    (s.closed = true → s.twn.role = true → s.twn.pstate = 3 →
      let ev := (s.localEvents.filter fun e => !(s.twn.listed.contains e)).take 16
      ∃ u, exec .tickrecSend s = .next u ∧ u.twn.gpio = some (s.gpioLevels true) ∧ u.twn.toList = ev ∧
        u.twn.sent = [twinPkt ([0x03#8] ++ beOctets 4 s.tck.now.toNat ++ beOctets 1 (s.gpioLevels true) ++ beOctets 1 s.leaveWhy ++
          beOctets 1 ev.length ++ ev.flatMap fun e : Nat × Nat => beOctets 1 e.1 ++ beOctets 1 (e.2 % 16))]) ∧
    ∀ (gpio : Nat) (evs : List (Nat × Nat)), s.twn.role = false → s.twn.pstate = 3 →
      ∃ u, exec (.tickrec gpio 0 evs true) s = .next u ∧ u.twn.toList = s.twn.toList ++ evs ∧ u.twn.gpio = some (gpio % 64)

/-- Digests, verdicts and failover: the digest goes out with its tick and is compared with the partner's of the same tick; a difference in JOINED is a divergence;
verdicts decide who goes on; RESYNC starts the transfer again, RESIGN hands the lead over, and a shadow whose lead is silent is promoted unless a sign of it was seen
(R683, R687, R688, R692, R695 to R698, Table 14-8). -/
def Obligations.TwinVerdicts : Prop :=
  ∀ s : State, s.awake = true →
    (2 ≤ s.twn.pstate → s.twn.pstate ≤ 5 →
      (s.closed = true → ∃ u, exec .digestSend s = .next u ∧ u.twn.sent = [twinPkt ([0x02#8] ++ beOctets 4 (s.rd R.TWN_DIGTICK).toNat ++ beOctets 4 (s.rd R.TWN_DIG_HI).toNat ++
        beOctets 4 (s.rd R.TWN_DIG_LO).toNat ++ beOctets 1 (s.twn.unag.toNat + s.twn.role.toNat * 2 + s.twn.pstate * 4))]) ∧
      ∀ (t : Word) (d : BitVec 64) (n : Nat), ∃ u, exec (.digestPacket t d n true) s = .next u ∧ u.twn.pdig = some (t, d.toNat, n) ∧ u.rd R.TWN_PDIG_LO = d.extractLsb' 0 32 ∧
        u.rd R.TWN_PDIG_HI = d.extractLsb' 32 32) ∧
    (∀ (d st : Nat), s.budgeted = true → s.closed = true → s.twn.pdig = some (s.tck.now, d, st) → s.twn.pstate = 3 → s.twn.unag = false → st.testBit 0 = false →
      st / 4 % 8 = 3 → s.twn.resign ≠ 1 →
      (d = (s.rd R.TWN_DIG_HI).toNat * 2 ^ 32 + (s.rd R.TWN_DIG_LO).toNat → ∃ u, exec .digestCompare s = .next u ∧ u.twn.pstate = 3 ∧ u.twn.verdict = s.twn.verdict ∧
        u.rd R.TWN_DIGOK = incSat (s.rd R.TWN_DIGOK)) ∧
      (d ≠ (s.rd R.TWN_DIG_HI).toNat * 2 ^ 32 + (s.rd R.TWN_DIG_LO).toNat → ∃ u, exec .digestCompare s = .next u ∧ u.twn.pstate = 3 ∧ u.twn.verdict = true ∧
        u.bit (rEVT P.TWN) 4 = true ∧ u.bit (rFLT P.TWN) 0 = true)) ∧
    (∀ lasting : Bool, ∃ u, exec (.ctrlVerdict lasting true) s = .next u ∧ (if s.twn.role then u.twn.verdS else u.twn.verdL) = if lasting then 2 else 1) ∧
    (s.closed = true → s.twn.pstate = 4 →
      (s.twn.verdL = 1 → s.twn.verdS = 1 → ∃ u, exec .verdictOutcome s = .next u ∧ u.twn.pstate = 2) ∧
      (s.twn.verdL = 1 → s.twn.verdS = 2 → ∃ u, exec .verdictOutcome s = .next u ∧ u.twn.pstate = 6 ∧ u.twn.role = s.twn.role) ∧
      (s.twn.verdL = 2 → s.twn.verdS = 1 → s.twn.role = true → ∃ u, exec .verdictOutcome s = .next u ∧ u.twn.pstate = 6 ∧ u.twn.role = false ∧ u.bit (rEVT P.TWN) 7 = true) ∧
      (s.twn.verdL = 2 → s.twn.verdS = 1 → s.twn.role = false → ∃ u, exec .verdictOutcome s = .next u ∧ u.twn.promote = 1) ∧
      (s.twn.verdL = 2 → s.twn.verdS = 2 → ∃ u, exec .verdictOutcome s = .next u ∧ u.twn.pstate = 6)) ∧
    (s.twn.role = true → s.twn.pstate = 3 → ∃ u, exec (.ctrlResync true) s = .next u ∧ u.twn.pstate = 2) ∧
    (s.twn.pstate = 3 → ∃ u, exec (.ctrlVerdictRequest true) s = .next u ∧ u.twn.verdict = true ∧ u.bit (rEVT P.SLF) 0 = true) ∧
    (s.twn.role = false → s.twn.pstate = 3 → ∃ u, exec (.ctrlResign true) s = .next u ∧ u.twn.promote = 1) ∧
    ∀ (gates : Nat) (line : Bool), s.budgeted = true → s.closed = true →
      (s.twn.pstate = 5 → s.twn.role = false → s.twn.promote ≠ 2 →
        (s.slots ≤ s.twn.got → ∃ u, exec (.failoverDecision gates line) s = .next u ∧ u.twn.pstate = 2 ∧ u.twn.role = false ∧ u.twn.sent = [twinPkt (ctrlPkt 2 [])]) ∧
        (s.twn.got < s.slots → s.pdigNow.isSome = true ∨ s.twn.lineAct = true ∨ line = true ∨ s.gateHigh gates = true →
          ∃ u, exec (.failoverDecision gates line) s = .next u ∧ u.twn.pstate = 6 ∧ u.twn.role = false) ∧
        (s.twn.got < s.slots → s.pdigNow = none → s.twn.lineAct = false → line = false → s.gateHigh gates = false →
          ∃ u, exec (.failoverDecision gates line) s = .next u ∧ u.twn.role = true ∧ u.twn.promote = 3 ∧ u.bit (rEVT P.TWN) 6 = true)) ∧
      (s.twn.promote = 2 →
        (s.gateHigh gates = true → ∃ u, exec (.failoverDecision gates line) s = .next u ∧ u.twn.pstate = 6 ∧ u.twn.promote = 0) ∧
        (s.gateHigh gates = false → ∃ u, exec (.failoverDecision gates line) s = .next u ∧ u.twn.role = true ∧ u.twn.promote = 3))

/-! ## Self-test, log, life cycle, flash (chapter 15) -/

/-- Self-test. A window in which the MEM lane runs a FLINE and the ANA lane an AREF that pass ends both with a verdict, and the pending reports follow; one with no lane at work, and one
before its part of the tick, change nothing. A CLK test ends with the verdict of its count. The buckets fall by 1 at their tick, and CLRBKT empties them. FUSE and BIST are refused with the
first condition of Table 15-3 that fails, and where none fails FUSE completes and BIST resets the part with its result (R709, R710, R717, R720, R724 to R726). -/
def Obligations.SelfTest : Prop :=
  (∀ (s : State) (copyBad sysOk : Bool) (found : List (Nat × Word)) (at_ : List (Fin 32)) (j k : Job),
    s.awake = true → s.ticking = false ∨ s.turn 4 (s.guardG + 192) = true → s.slf.mem.run = some j → j.test = 2 → s.slf.ana.run = some k → k.test ≠ 5 →
    ∃ u, exec (.stepWindow true copyBad true sysOk found at_) s = .next u ∧ u.slf.mem.run = s.slf.mem.pend ∧ u.slf.ana.run = s.slf.ana.pend ∧ u.bit (rEVT P.SLF) 1 = true) ∧
  (∀ (s : State) (memOk copyBad anaOk sysOk : Bool) (found : List (Nat × Word)) (at_ : List (Fin 32)),
    (s.ticking = false → s.slf.mem.run = none → s.slf.ana.run = none → s.slf.sys.run = none →
      ∃ u, exec (.stepWindow memOk copyBad anaOk sysOk found at_) s = .next u ∧ Ended s s u) ∧
    (s.ticking = true → s.turn 4 (s.guardG + 192) = false → ∃ u, exec (.stepWindow memOk copyBad anaOk sysOk found at_) s = .next u ∧ Ended s s u)) ∧
  (∀ (s : State) (pass : Bool) (j : Job), s.awake = true → s.slf.sys.run = some j → j.test = 7 →
    ∃ u, exec (.clkTestEnd pass) s = .next u ∧ Ended s (s.laneEnd 2 j (if pass then 0 else 1) 0) u ∧ u.bit (rEVT P.SLF) 1 = true ∧
      (pass = false → u.bit (rFLT P.SLF) 0 = true ∧ u.bit (rEVT P.SLF) 2 = true)) ∧
  (∀ s : State, s.ticking = true → s.tck.inTick = true → s.fd R.SLF_CLS 16 16 ≤ s.slf.decayCt →
    ∃ u, exec .bucketDecay s = .next u ∧ Ended s s.bucketDecay u ∧ u.slf.decayCt = 0 ∧ ∀ n, 1 ≤ n → n ≤ 10 → s.bucketDecay.bucket n = s.bucket n - 1) ∧
  (∀ (s : State) (path : Path), s.Takes path (rCTRL P.SLF) →
    (∃ u, exec (.clrbkt path) s = .next u ∧ Landed s (((s.wr R.SLF_BKT0 0#32).wr R.SLF_BKT1 0#32).wr R.SLF_BKT2 0#32) u ∧ u.rd R.SLF_BKT0 = 0#32 ∧ u.rd R.SLF_BKT2 = 0#32) ∧
    (s.slfWhy ≠ 0 → ∃ u, exec (.fuse path) s = .next u ∧ u.slf.refWhy = s.slfWhy ∧ u.bit (rEVT P.SLF) 8 = true ∧ u.fuses = s.fuses) ∧
    (s.slfWhy = 0 → ∃ u, exec (.fuse path) s = .next u ∧ u.bit (rEVT P.SLF) 7 = true ∧ u.fuses.uid = s.fuses.uid ∧ u.fuses.lc = s.fuses.lc)) ∧
  ∀ (s : State) (path : Path) (fails : Nat) (addr : Word) (rows : List (Nat × Nat)), s.Takes path (rCTRL P.SLF) →
    (s.slfWhy ≠ 0 → ∃ u, exec (.bist path fails addr rows) s = .next u ∧ u.slf.refWhy = s.slfWhy ∧ u.bit (rEVT P.SLF) 8 = true) ∧
    (s.slfWhy = 0 → ∃ u, exec (.bist path fails addr rows) s = .next u ∧ u.ResetInForce ∧ u.rd R.SYS_RSTCAUSE = setBit (s.rd R.SYS_RSTCAUSE) 4 true ∧ u.bit R.SLF_BISTRES 0 = true)

/-- The event log and life cycle: an entry is written at WPTR with its tick, kind and page, and the ring holds at most 256; CLR empties it; USER makes its entry; PFLUSH
asks for the persistent write, which clears the pending entries and raises its event, or keeps them where the half they need does not verify; CHREQ draws a new challenge; a
transition that Table 15-6 refuses names its reason, one it permits waits for the persistent write (R729 to R733, R736 to R743). -/
def Obligations.LogAndLifeCycle : Prop :=
  ∀ (s : State) (path : Path),
    (s.awake = true →
      (s.log.queue = [] → ∃ u, exec .logEntryWrite s = .next u ∧ Ended s s u) ∧
      (∀ e rest, s.log.queue = e :: rest → ∃ u x, exec .logEntryWrite s = .next u ∧ Sparse.find u.log.ring s.log.wptr = some x ∧ x.w0 = s.tck.now ∧ fld x.w1 0 4 = e.kind % 16 ∧ x.w2 = e.data0 ∧
        x.w3 = e.data1 ∧ u.log.wptr = (s.log.wptr + 1) % 256 ∧ u.log.held = min 256 (s.log.held + 1) ∧ rest <+: u.log.queue ∧
        (256 ≤ s.log.held → u.rd R.LOG_OVWRCT = incSat (s.rd R.LOG_OVWRCT))) ∧
      (s.direct = true → s.fls.op = none → s.lcs.pend = false → s.log.pbuf ≠ [] →
        (∃ u, exec (.persistWrite true) s = .next u ∧ u.log.pbuf = [] ∧ u.log.pbusy = false ∧ u.bit (rEVT P.LOG) 2 = true) ∧
        (s.needsHalf = true → ∃ u, exec (.persistWrite false) s = .next u ∧ u.log.pbuf = s.log.pbuf ∧ u.log.pbusy = false ∧ u.bit (rEVT P.LOG) 3 = true ∧
          u.bit (rFLT P.LOG) 0 = true) ∧
        ∀ e, s.log.pbuf = [e] → s.needsHalf = false → ∃ u, exec (.persistWrite false) s = .next u ∧ u.log.pbuf = [] ∧ u.log.pbusy = false ∧ u.bit (rEVT P.LOG) 2 = true) ∧
      (s.direct = true → s.fls.op = none → s.lcs.pend = true → ∃ u, exec (.persistWrite true) s = .next u ∧ u.ResetInForce ∧
        u.lcs.state = lcState (s.fuses.lc ||| BitVec.ofNat 8 (3 * 4 ^ s.lcs.state)) ∧ u.rd R.SYS_RSTCAUSE = setBit (s.rd R.SYS_RSTCAUSE) 4 true)) ∧
    (s.Takes path (rCTRL P.LOG) →
      (∃ u, exec (.logClr path) s = .next u ∧ u.log.ring = [] ∧ u.log.wptr = 0 ∧ u.log.held = 0 ∧ u.log.wrapped = false ∧ u.log.pbuf = s.log.pbuf) ∧
      (s.direct = true → s.flashBusy = false → s.log.pbuf ≠ [] → ∃ u, exec (.pflush path) s = .next u ∧ u.log.pbusy = true ∧ u.log.pbuf = s.log.pbuf) ∧
      (s.direct = false ∨ s.flashBusy = true ∨ s.log.pbuf = [] → ∃ u, exec (.pflush path) s = .next u ∧ Landed s s u)) ∧
    (s.Takes path R.LOG_USER → ∀ v,
      (s.log.queue.length < 8 → ∃ u, exec (.logUser path v) s = .next u ∧ s.log.queue ++ [⟨11, P.LOG, v, wd (pathCode path)⟩] <+: u.log.queue) ∧
      (8 ≤ s.log.queue.length → ∃ u, exec (.logUser path v) s = .next u ∧ u.bit (rEVT P.LOG) 0 = true)) ∧
    (s.Takes path (rCTRL P.LCS) → ∃ u, exec (.chreq path) s = .next u ∧ u.lcs = { s.lcs with chalV := true } ∧ u.rd R.LCS_CHAL0 = s.draw.2.extractLsb' 96 32 ∧
      u.rd R.LCS_CHAL3 = s.draw.2.extractLsb' 0 32) ∧
    (s.Takes path R.LCS_CMD → ∀ v,
      (fld v 16 16 ≠ 0x4C43 ∨ s.lcs.pend = true → ∃ u, exec (.lcsCmd path v) s = .next u ∧ Landed s s u) ∧
      (fld v 16 16 = 0x4C43 → s.lcs.pend = false → s.lcWhy path (fld v 0 3) none ≠ 0 → ∃ u, exec (.lcsCmd path v) s = .next u ∧
        u.lcs = { s.lcs with cmdWhy := s.lcWhy path (fld v 0 3) none } ∧ u.bit (rEVT P.LCS) 0 = true) ∧
      (fld v 16 16 = 0x4C43 → s.lcs.pend = false → s.lcWhy path (fld v 0 3) none = 0 → ∃ u, exec (.lcsCmd path v) s = .next u ∧
        u.lcs = { s.lcs with pend := true } ∧ u.fuses = s.fuses))

/-- Flash: an operation that Table 16-3 refuses names its reason; one it permits is in progress, and its end programs the line or erases the sector, touches no other
byte, and tells whether it verified; a protection bit once set stays (R757 to R761). -/
def Obligations.Flash : Prop :=
  ∀ (s : State) (path : Path),
    (s.Opens path (rCTRL P.FLS) → ∀ e ∈ [(Instr.program path, 1), (.erase path, 2)],
      (s.flsWhy e.2 ≠ 0 → ∃ u, exec e.1 s = .next u ∧ u.mem = s.mem ∧ u.fls = { s.fls with refwhy := s.flsWhy e.2 } ∧ u.bit (rEVT P.FLS) 1 = true) ∧
      (s.flsWhy e.2 = 0 → ∃ u, exec e.1 s = .next u ∧ u.mem = s.mem ∧ u.fls.done = false ∧
        u.fls.op = some (if e.2 = 1 then .program (s.rd R.FLS_ADDR).toNat (s.rd R.FLS_DATA0) (s.rd R.FLS_DATA1) (s.rd R.FLS_DATA2) (s.rd R.FLS_DATA3)
        else .erase (s.rd R.FLS_ADDR).toNat))) ∧
    (s.awake = true → s.mon.wait = none → ∀ verify : Bool,
      (s.fls.op = none → ∃ u, exec (.flashOpDone verify) s = .next u ∧ Ended s s u) ∧
      (∀ o, s.fls.op = some o → ∃ u, exec (.flashOpDone verify) s = .next u ∧ u.fls.op = none ∧ u.fls.done = true ∧ u.bit (rEVT P.FLS) 0 = true ∧
        (verify = false → u.bit (rFLT P.FLS) 0 = true ∧ u.bit (rEVT P.FLS) 2 = true)) ∧
      (∀ a d0 d1 d2 d3, s.fls.op = some (.program a d0 d1 d2 d3) → ∃ u, exec (.flashOpDone verify) s = .next u ∧ u.rdW a = d0 ∧ u.rdW (a + 4) = d1 ∧ u.rdW (a + 8) = d2 ∧
        u.rdW (a + 12) = d3 ∧ ∀ b, b < a ∨ a + 16 ≤ b → u.rdB b = s.rdB b) ∧
      (∀ a, s.fls.op = some (.erase a) → inDflash a = true → ∃ u, exec (.flashOpDone verify) s = .next u ∧
        (∀ b, a ≤ b → b < a + 1024 → inDflash b = true → u.rdB b = 0xFF#8) ∧ ∀ b, b < a ∨ a + 1024 ≤ b → u.rdB b = s.rdB b) ∧
      (∀ a, s.fls.op = some (.erase a) → inPflash a = true → ∃ u, exec (.flashOpDone verify) s = .next u ∧
        (∀ b, a ≤ b → b < a + 4096 → inPflash b = true → u.rdB b = 0xFF#8) ∧ ∀ b, b < a ∨ a + 4096 ≤ b → u.rdB b = s.rdB b)) ∧
    ∀ (k : Fin 5) (v : Word), s.Takes path (R.FLS_PROT0 + 4 * k.val) → ∃ u, exec (.flashProtect path k v) s = .next u ∧
      (∀ n, s.bit (R.FLS_PROT0 + 4 * k.val) n = true → u.bit (R.FLS_PROT0 + 4 * k.val) n = true) ∧
      ∀ n, n < 16 → bitOf v n = true → u.bit (R.FLS_PROT0 + 4 * k.val) n = true

/-! ## Ports (chapter 16) -/

/-- The host SPI port: a good transaction presents the entry in front, which leaves the FIFO unless it is repeated, and clears the status of the last; an operation is
refused as busy where its queue is full, executes at once in IDLE and SAFE behind no waiting command, and else waits in the command queue; a TICK is an authorisation; a frame
error leaves the entry. Without VIO the port does nothing (R314, R768 to R772). -/
def Obligations.HostSpi : Prop :=
  ∀ (s : State) (rep mode3 : Bool) (tag addr : Nat) (data mask : Word),
    let o := s.spiOpen rep mode3
    let left := if rep then s.hsp.fifo else s.hsp.fifo.tail
    let t : State := { o with hsp := { o.hsp with fifo := left, removed := if rep then s.hsp.removed else s.hsp.fifo.head?.or s.hsp.removed, last := 0 } }
    let ops := [(Instr.spiRead rep mode3 tag addr data mask, 1), (.spiWrite rep mode3 tag addr data mask, 2), (.spiModify rep mode3 tag addr data mask, 3),
      (.spiFlushmark rep mode3 tag addr data mask, 4)]
    (s.portsOn = true →
      (∃ u, exec (.spiNop rep mode3 0 tag addr) s = .next u ∧ Ended s t u ∧ u.hsp = t.hsp ∧ u.hsp.sdo.length = 16) ∧
      (∀ e ∈ ops, (t.spiBusy = true → ∃ u, exec e.1 s = .next u ∧ u.hsp = { t.hsp with last := 2 } ∧ u.cyc.cmdq = s.cyc.cmdq ∧ u.rd R.HSP_BUSYCT = incSat (s.rd R.HSP_BUSYCT) ∧
          u.bit (rEVT P.HSP) 1 = true) ∧
        (t.spiBusy = false → s.atOnce = false → ∃ u, exec e.1 s = .next u ∧ u.hsp = t.hsp ∧ u.cyc.cmdq = s.cyc.cmdq ++ [⟨.spi, e.2, tag % 256, addr % 65536, data, mask⟩]) ∧
        (t.spiBusy = false → s.atOnce = true → ∃ u, exec e.1 s = .next u ∧ Ended s (t.execCmd ⟨.spi, e.2, tag % 256, addr % 65536, data, mask⟩) u)) ∧
      (t.spiBusy = false → s.atOnce = true → addr < 65536 → data = 0#32 → mask = 0#32 → s.rdStatus .spi addr = 0 → ∃ u, exec (.spiRead rep mode3 tag addr data mask) s = .next u ∧
        u.hsp.fifo = left ++ [⟨tag % 256, 0, addr, (t.fetchReg addr).2, s.tck.now⟩]) ∧
      ∃ u, exec (.frameErr rep mode3) s = .next u ∧ u.hsp = { o.hsp with last := 1 } ∧ u.hsp.fifo = s.hsp.fifo ∧ u.rd R.HSP_FRAMECT = incSat (s.rd R.HSP_FRAMECT) ∧
        u.bit (rEVT P.HSP) 0 = true) ∧
    (s.portsOn = false → ∀ c ∈ [Instr.spiNop rep mode3 0 tag addr, .frameErr rep mode3] ++ ops.map (·.1), ∃ u, exec c s = .next u ∧ Ended s s u) ∧
    ∀ (num : Word) (edge dt : LineTime), s.portsOn = true →
      let v := s.elapse dt
      let w := v.authCode 1 num edge v.lt
      (w = 0 → ∃ u, exec (.spiTick rep mode3 num edge dt) s = .next u ∧ u.lt = s.lt + dt ∧ u.hsp.fifo = left ∧ u.hsp.last = 0 ∧ u.tck.pend = some ⟨num, edge⟩) ∧
      (w ≠ 0 → ∃ u, exec (.spiTick rep mode3 num edge dt) s = .next u ∧ u.lt = s.lt + dt ∧ u.hsp.fifo = left ∧ u.hsp.last = 3 ∧ u.rd R.HSP_TICKWHY = wd w ∧
        u.bit (rEVT P.HSP) 2 = true ∧ u.tck.pend = s.tck.pend)

/-- The monitor's link: the octet 0x55 synchronises it at a rate in range and RESYNC or 64 framing errors end that; a request with a bad CRC is counted; one that repeats
the last is answered with the same frame; one that comes while another waits is kept, and a further one is lost; one that the life-cycle state withholds or whose length
is wrong is answered so (R773 to R775, Table 16-7). -/
def Obligations.MonitorLink : Prop :=
  ∀ s : State,
    (∀ baud : Nat, (s.portsOn = true → s.mon.synced = false → 9600 ≤ baud → baud ≤ 3000000 →
        ∃ u, exec (.monSync baud) s = .next u ∧ u.mon = { s.mon with synced := true, answer := [0x55#8] } ∧ u.rd R.MON_BAUD = wd baud ∧ u.bit (rEVT P.MON) 0 = true) ∧
      (s.portsOn = false ∨ s.mon.synced = true ∨ baud < 9600 ∨ 3000000 < baud → ∃ u, exec (.monSync baud) s = .next u ∧ Ended s s u)) ∧
    (∀ path, s.Takes path (rCTRL P.MON) → ∃ u, exec (.resync path) s = .next u ∧ u.mon = { s.mon with synced := false }) ∧
    (s.monOn = true → (∃ u, exec .framingErrors s = .next u ∧ u.mon = { s.mon with synced := false }) ∧
      ∃ u, exec .crcErr s = .next u ∧ u.mon = s.mon ∧ u.rd R.MON_CRCCT = incSat (s.rd R.MON_CRCCT) ∧ u.bit (rEVT P.MON) 1 = true) ∧
    ∀ (seq a n k : Nat) (fits : Bool) (es : List Ecc) (ws : List Word) (d m : Word) (e : Ecc) (dt : LineTime) (resp : List Byte), s.monOn = true →
      ∀ r ∈ [(Instr.ping seq fits, MonReq.ping), (.monRead seq fits a n es, .read a n es), (.monWrite seq fits a n ws, .write a n ws), (.monModify seq fits a d m e, .modify a d m e),
          (.step seq fits n dt, .step n), (.halt seq fits, .halt), (.monGo seq fits a, .go a), (.monReset seq fits k, .reset k), (.returnReq seq fits resp, .ret resp)],
        (∀ f, s.mon.wait = none → s.mon.prev = some (r.2.code, seq % 256, f) → ∃ u, exec r.1 s = .next u ∧ u.mon = { s.mon with answer := f } ∧ u.cpu = s.cpu ∧ u.mem = s.mem) ∧
        (∀ w, s.mon.wait = some w → s.mon.buf = none → ∃ u, exec r.1 s = .next u ∧ u.mon = { s.mon with buf := some ⟨r.2, seq % 256, fits⟩ }) ∧
        (∀ w b, s.mon.wait = some w → s.mon.buf = some b → ∃ u, exec r.1 s = .next u ∧ u.mon = s.mon ∧ u.rd R.MON_OVRCT = incSat (s.rd R.MON_OVRCT) ∧ u.bit (rEVT P.MON) 2 = true) ∧
        (s.Hears r.2.code seq → monAvail r.2.code s.lcs.state = false → ∃ u, exec r.1 s = .next u ∧ u.Answers r.2.code seq 4 [] ∧ u.cpu = s.cpu ∧ u.mem = s.mem) ∧
        (s.Hears r.2.code seq → monAvail r.2.code s.lcs.state = true → fits = false ∨ r.2.inRange = false →
          ∃ u, exec r.1 s = .next u ∧ u.Answers r.2.code seq 5 [] ∧ u.cpu = s.cpu ∧ u.mem = s.mem)

/-- The monitor's commands: PING answers who the part is; READ, WRITE and MODIFY of SRAM read and change their words alone; a write that the tick holds back waits, and lands in
the guard window with its answer; STEP authorises its tick and HALT withdraws it; GO leaves the boot ROM, RESET resets, and RETURN begins the transition where the response
verifies (R144, R773, R776 to R783). -/
def Obligations.MonitorCommands : Prop :=
  ∀ (s : State) (seq : Nat), s.monOn = true →
    (s.Hears 1 seq → ∃ u, exec (.ping seq true) s = .next u ∧ u.Answers 1 seq 0 (beOctets 4 (s.readReg 0).toNat ++ beOctets 4 (s.readReg (rSTAT P.LCS)).toNat ++
      beOctets 4 (s.readReg R.SYS_UID_HI).toNat ++ beOctets 4 (s.readReg R.SYS_UID_LO).toNat ++ beOctets 4 (s.readReg R.MON_BOOT).toNat)) ∧
    (∀ a n : Nat, s.Hears 2 seq → s.lcs.state ≠ 4 → 1 ≤ n → n ≤ 60 → a % 4 = 0 → inSram a = true → inSram (a + 4 * n - 1) = true → (∀ i, i < n → s.badWord (a + 4 * i) = false) →
      ∃ u, exec (.monRead seq true a n []) s = .next u ∧ u.mem = s.mem ∧ u.Answers 2 seq 0 (s.etick ++ (List.range n).flatMap fun i => beOctets 4 (s.rdW (a + 4 * i)).toNat)) ∧
    (∀ (a : Nat) (w : Word), s.lcs.state ≠ 2 → s.lcs.state ≠ 4 → a % 4 = 0 → inSram a = true → s.monMemDenied a = false →
      (s.Hears 3 seq → s.monOpen 1 = true → ∃ u, exec (.monWrite seq true a 1 [w]) s = .next u ∧ u.rdW a = w ∧ (∀ b, b < a ∨ a + 4 ≤ b → u.rdB b = s.rdB b) ∧ u.Answers 3 seq 0 s.etick) ∧
      (s.Hears 3 seq → s.monOpen 1 = false → ∃ u, exec (.monWrite seq true a 1 [w]) s = .next u ∧ u.mon = { s.mon with wait := some ⟨.write a 1 [w], seq % 256, true⟩ } ∧ u.mem = s.mem) ∧
      (s.mon.wait = some ⟨.write a 1 [w], seq % 256, true⟩ → s.mon.buf = none → s.monNow = true ∨ (s.turn 2 s.guardG = true ∧ s.cpu.parked = true) →
        ∃ u, exec .monitorWriteLanding s = .next u ∧ u.rdW a = w ∧ (∀ b, b < a ∨ a + 4 ≤ b → u.rdB b = s.rdB b) ∧ u.mon.wait = none ∧ u.Answers 3 seq 0 s.etick)) ∧
    (∀ (a : Nat) (d m : Word), s.Hears 4 seq → s.lcs.state ≠ 2 → s.lcs.state ≠ 4 → a % 4 = 0 → inSram a = true → s.monMemDenied a = false → s.badWord a = false → s.monOpen 1 = true →
      ∃ u, exec (.monModify seq true a d m .ok) s = .next u ∧ u.rdW a = (s.rdW a &&& ~~~m) ||| (d &&& m) ∧ u.Answers 4 seq 0 (s.etick ++ beOctets 4 (s.rdW a).toNat)) ∧
    (∀ (n : Nat) (dt : LineTime), s.Hears 5 seq → s.lcs.state ≠ 4 → 1 ≤ n → n ≤ 65535 → s.fd R.MON_STEPREM 0 16 = 0 →
      let v := s.elapse dt
      let w := v.authCode 2 (s.tck.now + 1#32) v.stepEdge v.lt
      (w = 0 → ∃ u, exec (.step seq true n dt) s = .next u ∧ u.fd R.MON_STEPREM 0 16 = n ∧ u.mon.stepping = true ∧ u.tck.pend = some ⟨s.tck.now + 1#32, v.stepEdge⟩ ∧
        u.Answers 5 seq 0 (beOctets 4 (s.tck.now + 1#32).toNat ++ beOctets 6 v.stepEdge.toNat)) ∧
      (w ≠ 0 → ∃ u, exec (.step seq true n dt) s = .next u ∧ u.Answers 5 seq 7 (beOctets 1 w) ∧ u.tck.pend = s.tck.pend)) ∧
    (s.mon.stepping = true → s.fd R.MON_STEPREM 0 16 = 0 → s.tck.inTick = false → s.tck.pend = none → ∃ u, exec .stepDone s = .next u ∧ u.mon.stepping = false ∧ u.bit (rEVT P.MON) 3 = true) ∧
    (s.Hears 6 seq → s.lcs.state ≠ 4 → ∃ u, exec (.halt seq true) s = .next u ∧ u.fd R.MON_STEPREM 0 16 = 0 ∧ u.Answers 6 seq 0 s.etick ∧
      if s.mon.stepping then u.tck.pend = none ∧ u.mon.stepping = s.tck.inTick else u.tck.pend = s.tck.pend) ∧
    (∀ a : Nat, s.Hears 7 seq → s.lcs.state ≠ 2 → s.lcs.state ≠ 4 → s.fd R.MON_BOOT 0 2 = 1 → a % 4 = 0 → inSram a = true ∨ inPflash a = true → s.direct = true →
      ∃ u, exec (.monGo seq true a) s = .next u ∧ u.Answers 7 seq 0 [] ∧ u.rd R.MON_GOADDR = wd (a + 1) ∧ u.cpu = { resetCpu with parked := false } ∧ u.bit R.SYS_RSTCAUSE 7 = true) ∧
    (s.Hears 8 seq → ∃ u, exec (.monReset seq true 1) s = .next u ∧ u.ResetInForce ∧ u.Answers 8 seq 0 [] ∧ u.rd R.SYS_RSTCAUSE = setBit (s.rd R.SYS_RSTCAUSE) 4 true) ∧
    ∀ resp : List Byte, s.Hears 9 seq → s.lcs.state = 2 → resp.length = 64 → s.lcs.pend = false →
      let chal : BitVec 128 := s.rd R.LCS_CHAL0 ++ s.rd R.LCS_CHAL1 ++ s.rd R.LCS_CHAL2 ++ s.rd R.LCS_CHAL3
      let w := s.lcWhy .monitor 3 (some true)
      (w ≠ 0 → ∃ u, exec (.returnReq seq true resp) s = .next u ∧ u.fuses = s.fuses ∧ u.Answers 9 seq 8 (beOctets 1 w) ∧ u.lcs = { s.lcs with cmdWhy := w } ∧ u.bit (rEVT P.LCS) 0 = true) ∧
      (w = 0 → ∃ u, exec (.returnReq seq true resp) s = .next u ∧ u.fuses = s.fuses ∧
        if Config.ecdsaOk resp chal s.fuses.uid = true then u.Answers 9 seq 0 [] ∧ u.lcs.pend = true
        else u.Answers 9 seq 8 (beOctets 1 8) ∧ u.lcs.pend = false ∧ u.rd R.LCS_AUTHFAIL = wd (min 3 (s.fd R.LCS_AUTHFAIL 0 2 + 1)) ∧ u.bit (rEVT P.LCS) 1 = true ∧
          (2 ≤ s.fd R.LCS_AUTHFAIL 0 2 → u.lcs.lockout = true))
end

