-- ==== Sys2Proof/Laws/Sparse.lean ====
section
/-! SUPPORT. What the operations on sparse data do: a read after a write, and the canonical form each of them keeps. -/

namespace Sys2Proof.Machine.Sparse

variable {α : Type}

theorem find_insert (l : List (Nat × α)) (k j : Nat) (v : α) :
    find (insert l k v) j = if j = k then some v else find l j := by
  induction l with
  | nil =>
    by_cases h : j = k
    · simp [insert, find, h]
    · simp [insert, find, h, Ne.symm h]
  | cons e t ih =>
    obtain ⟨a, b⟩ := e
    have e1 : ∀ (x : Nat) (y : α) (l : List (Nat × α)), find ((x, y) :: l) j = if x = j then some y else find l j := fun _ _ _ => rfl
    unfold insert
    split_ifs with h1 h2 h3 h4 h5 <;> simp only [e1, ih] <;> split_ifs <;> first | rfl | omega

theorem find_erase (l : List (Nat × α)) (k j : Nat) :
    find (erase l k) j = if j = k then none else find l j := by
  induction l with
  | nil => simp [erase, find]
  | cons e t ih =>
    obtain ⟨a, b⟩ := e
    have e1 : ∀ (x : Nat) (y : α) (l : List (Nat × α)), find ((x, y) :: l) j = if x = j then some y else find l j := fun _ _ _ => rfl
    unfold erase
    split_ifs <;> simp only [e1, ih] <;> split_ifs <;> first | rfl | omega

/-- A read after a write. -/
theorem get_put [DecidableEq α] (d : Nat → α) (l : List (Nat × α)) (k j : Nat) (v : α) :
    get d (put d l k v) j = if j = k then v else get d l j := by
  unfold put
  split_ifs with h1 h2 h2 <;> simp_all [get, find_insert, find_erase]

theorem above_mono {k j : Nat} {l : List (Nat × α)} (h : k ≤ j) (ha : above j l = true) : above k l = true := by
  induction l with
  | nil => rfl
  | cons e t ih => simp_all [above]; omega

theorem above_insert {k j : Nat} {v : α} {l : List (Nat × α)} (h : j < k) (ha : above j l = true) : above j (insert l k v) = true := by
  induction l with
  | nil => simp [insert, above, h]
  | cons e t ih =>
    unfold insert
    split_ifs <;> simp_all [above]

theorem above_erase {k j : Nat} {l : List (Nat × α)} (ha : above j l = true) : above j (erase l k) = true := by
  induction l with
  | nil => rfl
  | cons e t ih =>
    unfold erase
    split_ifs <;> simp_all [above]

theorem wf_insert [DecidableEq α] {d : Nat → α} {k : Nat} {v : α} {l : List (Nat × α)} (hv : v ≠ d k) (h : wf d l = true) :
    wf d (insert l k v) = true := by
  induction l with
  | nil => simp [insert, wf, above, hv]
  | cons e t ih =>
    obtain ⟨a, b⟩ := e
    simp only [wf, Bool.and_eq_true, decide_eq_true_eq] at h
    obtain ⟨⟨ha, hb⟩, ht⟩ := h
    unfold insert
    split_ifs with h1 h2
    · simp [wf, above, hv, ha, hb, ht, h1, above_mono (Nat.le_of_lt h1) ha]
    · subst h2; simp [wf, hv, ha, ht]
    · have : a < k := by omega
      simp [wf, hb, ih ht, above_insert this ha]

theorem wf_erase [DecidableEq α] {d : Nat → α} {k : Nat} {l : List (Nat × α)} (h : wf d l = true) : wf d (erase l k) = true := by
  induction l with
  | nil => rfl
  | cons e t ih =>
    obtain ⟨a, b⟩ := e
    simp only [wf, Bool.and_eq_true, decide_eq_true_eq] at h
    obtain ⟨⟨ha, hb⟩, ht⟩ := h
    unfold erase
    split_ifs
    · exact ih ht
    · simp [wf, hb, ih ht, above_erase ha]

/-- A write keeps the canonical form. -/
theorem wf_put [DecidableEq α] {d : Nat → α} {k : Nat} {v : α} {l : List (Nat × α)} (h : wf d l = true) : wf d (put d l k v) = true := by
  unfold put
  split_ifs with hv
  · exact wf_erase h
  · exact wf_insert hv h

end Sys2Proof.Machine.Sparse
end

