-- ==== Sys2Proof/Laws/State.lean ====
section
/-! SUPPORT. What the record updates leave alone, and a read after a write of a register, a byte and a core register. -/

namespace Sys2Proof.Machine

variable (s : State)

/-! ## wr -/

@[simp] theorem State.wr_pending (a : Nat) (v : Word) : (s.wr a v).pending = s.pending := rfl
@[simp] theorem State.wr_shadow (a : Nat) (v : Word) : (s.wr a v).shadow = s.shadow := rfl
@[simp] theorem State.wr_acts (a : Nat) (v : Word) : (s.wr a v).acts = s.acts := rfl
@[simp] theorem State.wr_snap (a : Nat) (v : Word) : (s.wr a v).snap = s.snap := rfl
@[simp] theorem State.wr_snapB (a : Nat) (v : Word) : (s.wr a v).snapB = s.snapB := rfl
@[simp] theorem State.wr_landed (a : Nat) (v : Word) : (s.wr a v).landed = s.landed := rfl
@[simp] theorem State.wr_deferred (a : Nat) (v : Word) : (s.wr a v).deferred = s.deferred := rfl
@[simp] theorem State.wr_mem (a : Nat) (v : Word) : (s.wr a v).mem = s.mem := rfl
@[simp] theorem State.wr_bad (a : Nat) (v : Word) : (s.wr a v).bad = s.bad := rfl
@[simp] theorem State.wr_parBad (a : Nat) (v : Word) : (s.wr a v).parBad = s.parBad := rfl
@[simp] theorem State.wr_parSet (a : Nat) (v : Word) : (s.wr a v).parSet = s.parSet := rfl
@[simp] theorem State.wr_fuses (a : Nat) (v : Word) : (s.wr a v).fuses = s.fuses := rfl
@[simp] theorem State.wr_lt (a : Nat) (v : Word) : (s.wr a v).lt = s.lt := rfl
@[simp] theorem State.wr_aon (a : Nat) (v : Word) : (s.wr a v).aon = s.aon := rfl
@[simp] theorem State.wr_free (a : Nat) (v : Word) : (s.wr a v).free = s.free := rfl
@[simp] theorem State.wr_auxGen (a : Nat) (v : Word) : (s.wr a v).auxGen = s.auxGen := rfl
@[simp] theorem State.wr_trcGen (a : Nat) (v : Word) : (s.wr a v).trcGen = s.trcGen := rfl
@[simp] theorem State.wr_clk (a : Nat) (v : Word) : (s.wr a v).clk = s.clk := rfl
@[simp] theorem State.wr_tck (a : Nat) (v : Word) : (s.wr a v).tck = s.tck := rfl
@[simp] theorem State.wr_pin (a : Nat) (v : Word) : (s.wr a v).pin = s.pin := rfl
@[simp] theorem State.wr_pwr (a : Nat) (v : Word) : (s.wr a v).pwr = s.pwr := rfl
@[simp] theorem State.wr_slf (a : Nat) (v : Word) : (s.wr a v).slf = s.slf := rfl
@[simp] theorem State.wr_lcs (a : Nat) (v : Word) : (s.wr a v).lcs = s.lcs := rfl
@[simp] theorem State.wr_log (a : Nat) (v : Word) : (s.wr a v).log = s.log := rfl
@[simp] theorem State.wr_cyc (a : Nat) (v : Word) : (s.wr a v).cyc = s.cyc := rfl
@[simp] theorem State.wr_pst (a : Nat) (v : Word) : (s.wr a v).pst = s.pst := rfl
@[simp] theorem State.wr_trc (a : Nat) (v : Word) : (s.wr a v).trc = s.trc := rfl
@[simp] theorem State.wr_lnk (a : Nat) (v : Word) : (s.wr a v).lnk = s.lnk := rfl
@[simp] theorem State.wr_isn (a : Nat) (v : Word) : (s.wr a v).isn = s.isn := rfl
@[simp] theorem State.wr_cpu (a : Nat) (v : Word) : (s.wr a v).cpu = s.cpu := rfl
@[simp] theorem State.wr_fmA (a : Nat) (v : Word) : (s.wr a v).fmA = s.fmA := rfl
@[simp] theorem State.wr_fmB (a : Nat) (v : Word) : (s.wr a v).fmB = s.fmB := rfl
@[simp] theorem State.wr_adc (a : Nat) (v : Word) : (s.wr a v).adc = s.adc := rfl
@[simp] theorem State.wr_seq (a : Nat) (v : Word) : (s.wr a v).seq = s.seq := rfl
@[simp] theorem State.wr_ctl (a : Nat) (v : Word) : (s.wr a v).ctl = s.ctl := rfl
@[simp] theorem State.wr_vec (a : Nat) (v : Word) : (s.wr a v).vec = s.vec := rfl
@[simp] theorem State.wr_gens (a : Nat) (v : Word) : (s.wr a v).gens = s.gens := rfl
@[simp] theorem State.wr_rpts (a : Nat) (v : Word) : (s.wr a v).rpts = s.rpts := rfl
@[simp] theorem State.wr_injs (a : Nat) (v : Word) : (s.wr a v).injs = s.injs := rfl
@[simp] theorem State.wr_twn (a : Nat) (v : Word) : (s.wr a v).twn = s.twn := rfl
@[simp] theorem State.wr_mon (a : Nat) (v : Word) : (s.wr a v).mon = s.mon := rfl
@[simp] theorem State.wr_hsp (a : Nat) (v : Word) : (s.wr a v).hsp = s.hsp := rfl
@[simp] theorem State.wr_fls (a : Nat) (v : Word) : (s.wr a v).fls = s.fls := rfl

/-! ## wrB -/

@[simp] theorem State.wrB_pending (a : Nat) (v : Byte) : (s.wrB a v).pending = s.pending := rfl
@[simp] theorem State.wrB_regs (a : Nat) (v : Byte) : (s.wrB a v).regs = s.regs := rfl
@[simp] theorem State.wrB_shadow (a : Nat) (v : Byte) : (s.wrB a v).shadow = s.shadow := rfl
@[simp] theorem State.wrB_acts (a : Nat) (v : Byte) : (s.wrB a v).acts = s.acts := rfl
@[simp] theorem State.wrB_snap (a : Nat) (v : Byte) : (s.wrB a v).snap = s.snap := rfl
@[simp] theorem State.wrB_snapB (a : Nat) (v : Byte) : (s.wrB a v).snapB = s.snapB := rfl
@[simp] theorem State.wrB_landed (a : Nat) (v : Byte) : (s.wrB a v).landed = s.landed := rfl
@[simp] theorem State.wrB_deferred (a : Nat) (v : Byte) : (s.wrB a v).deferred = s.deferred := rfl
@[simp] theorem State.wrB_bad (a : Nat) (v : Byte) : (s.wrB a v).bad = s.bad := rfl
@[simp] theorem State.wrB_parBad (a : Nat) (v : Byte) : (s.wrB a v).parBad = s.parBad := rfl
@[simp] theorem State.wrB_parSet (a : Nat) (v : Byte) : (s.wrB a v).parSet = s.parSet := rfl
@[simp] theorem State.wrB_fuses (a : Nat) (v : Byte) : (s.wrB a v).fuses = s.fuses := rfl
@[simp] theorem State.wrB_lt (a : Nat) (v : Byte) : (s.wrB a v).lt = s.lt := rfl
@[simp] theorem State.wrB_aon (a : Nat) (v : Byte) : (s.wrB a v).aon = s.aon := rfl
@[simp] theorem State.wrB_free (a : Nat) (v : Byte) : (s.wrB a v).free = s.free := rfl
@[simp] theorem State.wrB_auxGen (a : Nat) (v : Byte) : (s.wrB a v).auxGen = s.auxGen := rfl
@[simp] theorem State.wrB_trcGen (a : Nat) (v : Byte) : (s.wrB a v).trcGen = s.trcGen := rfl
@[simp] theorem State.wrB_clk (a : Nat) (v : Byte) : (s.wrB a v).clk = s.clk := rfl
@[simp] theorem State.wrB_tck (a : Nat) (v : Byte) : (s.wrB a v).tck = s.tck := rfl
@[simp] theorem State.wrB_pin (a : Nat) (v : Byte) : (s.wrB a v).pin = s.pin := rfl
@[simp] theorem State.wrB_pwr (a : Nat) (v : Byte) : (s.wrB a v).pwr = s.pwr := rfl
@[simp] theorem State.wrB_slf (a : Nat) (v : Byte) : (s.wrB a v).slf = s.slf := rfl
@[simp] theorem State.wrB_lcs (a : Nat) (v : Byte) : (s.wrB a v).lcs = s.lcs := rfl
@[simp] theorem State.wrB_log (a : Nat) (v : Byte) : (s.wrB a v).log = s.log := rfl
@[simp] theorem State.wrB_cyc (a : Nat) (v : Byte) : (s.wrB a v).cyc = s.cyc := rfl
@[simp] theorem State.wrB_pst (a : Nat) (v : Byte) : (s.wrB a v).pst = s.pst := rfl
@[simp] theorem State.wrB_trc (a : Nat) (v : Byte) : (s.wrB a v).trc = s.trc := rfl
@[simp] theorem State.wrB_lnk (a : Nat) (v : Byte) : (s.wrB a v).lnk = s.lnk := rfl
@[simp] theorem State.wrB_isn (a : Nat) (v : Byte) : (s.wrB a v).isn = s.isn := rfl
@[simp] theorem State.wrB_cpu (a : Nat) (v : Byte) : (s.wrB a v).cpu = s.cpu := rfl
@[simp] theorem State.wrB_fmA (a : Nat) (v : Byte) : (s.wrB a v).fmA = s.fmA := rfl
@[simp] theorem State.wrB_fmB (a : Nat) (v : Byte) : (s.wrB a v).fmB = s.fmB := rfl
@[simp] theorem State.wrB_adc (a : Nat) (v : Byte) : (s.wrB a v).adc = s.adc := rfl
@[simp] theorem State.wrB_seq (a : Nat) (v : Byte) : (s.wrB a v).seq = s.seq := rfl
@[simp] theorem State.wrB_ctl (a : Nat) (v : Byte) : (s.wrB a v).ctl = s.ctl := rfl
@[simp] theorem State.wrB_vec (a : Nat) (v : Byte) : (s.wrB a v).vec = s.vec := rfl
@[simp] theorem State.wrB_gens (a : Nat) (v : Byte) : (s.wrB a v).gens = s.gens := rfl
@[simp] theorem State.wrB_rpts (a : Nat) (v : Byte) : (s.wrB a v).rpts = s.rpts := rfl
@[simp] theorem State.wrB_injs (a : Nat) (v : Byte) : (s.wrB a v).injs = s.injs := rfl
@[simp] theorem State.wrB_twn (a : Nat) (v : Byte) : (s.wrB a v).twn = s.twn := rfl
@[simp] theorem State.wrB_mon (a : Nat) (v : Byte) : (s.wrB a v).mon = s.mon := rfl
@[simp] theorem State.wrB_hsp (a : Nat) (v : Byte) : (s.wrB a v).hsp = s.hsp := rfl
@[simp] theorem State.wrB_fls (a : Nat) (v : Byte) : (s.wrB a v).fls = s.fls := rfl

/-! ## setPc -/

@[simp] theorem State.setPc_pending (v : Word) : (s.setPc v).pending = s.pending := rfl
@[simp] theorem State.setPc_regs (v : Word) : (s.setPc v).regs = s.regs := rfl
@[simp] theorem State.setPc_shadow (v : Word) : (s.setPc v).shadow = s.shadow := rfl
@[simp] theorem State.setPc_acts (v : Word) : (s.setPc v).acts = s.acts := rfl
@[simp] theorem State.setPc_snap (v : Word) : (s.setPc v).snap = s.snap := rfl
@[simp] theorem State.setPc_snapB (v : Word) : (s.setPc v).snapB = s.snapB := rfl
@[simp] theorem State.setPc_landed (v : Word) : (s.setPc v).landed = s.landed := rfl
@[simp] theorem State.setPc_deferred (v : Word) : (s.setPc v).deferred = s.deferred := rfl
@[simp] theorem State.setPc_mem (v : Word) : (s.setPc v).mem = s.mem := rfl
@[simp] theorem State.setPc_bad (v : Word) : (s.setPc v).bad = s.bad := rfl
@[simp] theorem State.setPc_parBad (v : Word) : (s.setPc v).parBad = s.parBad := rfl
@[simp] theorem State.setPc_parSet (v : Word) : (s.setPc v).parSet = s.parSet := rfl
@[simp] theorem State.setPc_fuses (v : Word) : (s.setPc v).fuses = s.fuses := rfl
@[simp] theorem State.setPc_lt (v : Word) : (s.setPc v).lt = s.lt := rfl
@[simp] theorem State.setPc_aon (v : Word) : (s.setPc v).aon = s.aon := rfl
@[simp] theorem State.setPc_free (v : Word) : (s.setPc v).free = s.free := rfl
@[simp] theorem State.setPc_auxGen (v : Word) : (s.setPc v).auxGen = s.auxGen := rfl
@[simp] theorem State.setPc_trcGen (v : Word) : (s.setPc v).trcGen = s.trcGen := rfl
@[simp] theorem State.setPc_clk (v : Word) : (s.setPc v).clk = s.clk := rfl
@[simp] theorem State.setPc_tck (v : Word) : (s.setPc v).tck = s.tck := rfl
@[simp] theorem State.setPc_pin (v : Word) : (s.setPc v).pin = s.pin := rfl
@[simp] theorem State.setPc_pwr (v : Word) : (s.setPc v).pwr = s.pwr := rfl
@[simp] theorem State.setPc_slf (v : Word) : (s.setPc v).slf = s.slf := rfl
@[simp] theorem State.setPc_lcs (v : Word) : (s.setPc v).lcs = s.lcs := rfl
@[simp] theorem State.setPc_log (v : Word) : (s.setPc v).log = s.log := rfl
@[simp] theorem State.setPc_cyc (v : Word) : (s.setPc v).cyc = s.cyc := rfl
@[simp] theorem State.setPc_pst (v : Word) : (s.setPc v).pst = s.pst := rfl
@[simp] theorem State.setPc_trc (v : Word) : (s.setPc v).trc = s.trc := rfl
@[simp] theorem State.setPc_lnk (v : Word) : (s.setPc v).lnk = s.lnk := rfl
@[simp] theorem State.setPc_isn (v : Word) : (s.setPc v).isn = s.isn := rfl
@[simp] theorem State.setPc_fmA (v : Word) : (s.setPc v).fmA = s.fmA := rfl
@[simp] theorem State.setPc_fmB (v : Word) : (s.setPc v).fmB = s.fmB := rfl
@[simp] theorem State.setPc_adc (v : Word) : (s.setPc v).adc = s.adc := rfl
@[simp] theorem State.setPc_seq (v : Word) : (s.setPc v).seq = s.seq := rfl
@[simp] theorem State.setPc_ctl (v : Word) : (s.setPc v).ctl = s.ctl := rfl
@[simp] theorem State.setPc_vec (v : Word) : (s.setPc v).vec = s.vec := rfl
@[simp] theorem State.setPc_gens (v : Word) : (s.setPc v).gens = s.gens := rfl
@[simp] theorem State.setPc_rpts (v : Word) : (s.setPc v).rpts = s.rpts := rfl
@[simp] theorem State.setPc_injs (v : Word) : (s.setPc v).injs = s.injs := rfl
@[simp] theorem State.setPc_twn (v : Word) : (s.setPc v).twn = s.twn := rfl
@[simp] theorem State.setPc_mon (v : Word) : (s.setPc v).mon = s.mon := rfl
@[simp] theorem State.setPc_hsp (v : Word) : (s.setPc v).hsp = s.hsp := rfl
@[simp] theorem State.setPc_fls (v : Word) : (s.setPc v).fls = s.fls := rfl

/-! ## setPsr -/

@[simp] theorem State.setPsr_pending (p : Psr) : (s.setPsr p).pending = s.pending := rfl
@[simp] theorem State.setPsr_regs (p : Psr) : (s.setPsr p).regs = s.regs := rfl
@[simp] theorem State.setPsr_shadow (p : Psr) : (s.setPsr p).shadow = s.shadow := rfl
@[simp] theorem State.setPsr_acts (p : Psr) : (s.setPsr p).acts = s.acts := rfl
@[simp] theorem State.setPsr_snap (p : Psr) : (s.setPsr p).snap = s.snap := rfl
@[simp] theorem State.setPsr_snapB (p : Psr) : (s.setPsr p).snapB = s.snapB := rfl
@[simp] theorem State.setPsr_landed (p : Psr) : (s.setPsr p).landed = s.landed := rfl
@[simp] theorem State.setPsr_deferred (p : Psr) : (s.setPsr p).deferred = s.deferred := rfl
@[simp] theorem State.setPsr_mem (p : Psr) : (s.setPsr p).mem = s.mem := rfl
@[simp] theorem State.setPsr_bad (p : Psr) : (s.setPsr p).bad = s.bad := rfl
@[simp] theorem State.setPsr_parBad (p : Psr) : (s.setPsr p).parBad = s.parBad := rfl
@[simp] theorem State.setPsr_parSet (p : Psr) : (s.setPsr p).parSet = s.parSet := rfl
@[simp] theorem State.setPsr_fuses (p : Psr) : (s.setPsr p).fuses = s.fuses := rfl
@[simp] theorem State.setPsr_lt (p : Psr) : (s.setPsr p).lt = s.lt := rfl
@[simp] theorem State.setPsr_aon (p : Psr) : (s.setPsr p).aon = s.aon := rfl
@[simp] theorem State.setPsr_free (p : Psr) : (s.setPsr p).free = s.free := rfl
@[simp] theorem State.setPsr_auxGen (p : Psr) : (s.setPsr p).auxGen = s.auxGen := rfl
@[simp] theorem State.setPsr_trcGen (p : Psr) : (s.setPsr p).trcGen = s.trcGen := rfl
@[simp] theorem State.setPsr_clk (p : Psr) : (s.setPsr p).clk = s.clk := rfl
@[simp] theorem State.setPsr_tck (p : Psr) : (s.setPsr p).tck = s.tck := rfl
@[simp] theorem State.setPsr_pin (p : Psr) : (s.setPsr p).pin = s.pin := rfl
@[simp] theorem State.setPsr_pwr (p : Psr) : (s.setPsr p).pwr = s.pwr := rfl
@[simp] theorem State.setPsr_slf (p : Psr) : (s.setPsr p).slf = s.slf := rfl
@[simp] theorem State.setPsr_lcs (p : Psr) : (s.setPsr p).lcs = s.lcs := rfl
@[simp] theorem State.setPsr_log (p : Psr) : (s.setPsr p).log = s.log := rfl
@[simp] theorem State.setPsr_cyc (p : Psr) : (s.setPsr p).cyc = s.cyc := rfl
@[simp] theorem State.setPsr_pst (p : Psr) : (s.setPsr p).pst = s.pst := rfl
@[simp] theorem State.setPsr_trc (p : Psr) : (s.setPsr p).trc = s.trc := rfl
@[simp] theorem State.setPsr_lnk (p : Psr) : (s.setPsr p).lnk = s.lnk := rfl
@[simp] theorem State.setPsr_isn (p : Psr) : (s.setPsr p).isn = s.isn := rfl
@[simp] theorem State.setPsr_fmA (p : Psr) : (s.setPsr p).fmA = s.fmA := rfl
@[simp] theorem State.setPsr_fmB (p : Psr) : (s.setPsr p).fmB = s.fmB := rfl
@[simp] theorem State.setPsr_adc (p : Psr) : (s.setPsr p).adc = s.adc := rfl
@[simp] theorem State.setPsr_seq (p : Psr) : (s.setPsr p).seq = s.seq := rfl
@[simp] theorem State.setPsr_ctl (p : Psr) : (s.setPsr p).ctl = s.ctl := rfl
@[simp] theorem State.setPsr_vec (p : Psr) : (s.setPsr p).vec = s.vec := rfl
@[simp] theorem State.setPsr_gens (p : Psr) : (s.setPsr p).gens = s.gens := rfl
@[simp] theorem State.setPsr_rpts (p : Psr) : (s.setPsr p).rpts = s.rpts := rfl
@[simp] theorem State.setPsr_injs (p : Psr) : (s.setPsr p).injs = s.injs := rfl
@[simp] theorem State.setPsr_twn (p : Psr) : (s.setPsr p).twn = s.twn := rfl
@[simp] theorem State.setPsr_mon (p : Psr) : (s.setPsr p).mon = s.mon := rfl
@[simp] theorem State.setPsr_hsp (p : Psr) : (s.setPsr p).hsp = s.hsp := rfl
@[simp] theorem State.setPsr_fls (p : Psr) : (s.setPsr p).fls = s.fls := rfl

/-! ## setKey -/

@[simp] theorem State.setKey_pending (k : Nat) (v : Word) : (s.setKey k v).pending = s.pending := rfl
@[simp] theorem State.setKey_regs (k : Nat) (v : Word) : (s.setKey k v).regs = s.regs := rfl
@[simp] theorem State.setKey_shadow (k : Nat) (v : Word) : (s.setKey k v).shadow = s.shadow := rfl
@[simp] theorem State.setKey_acts (k : Nat) (v : Word) : (s.setKey k v).acts = s.acts := rfl
@[simp] theorem State.setKey_snap (k : Nat) (v : Word) : (s.setKey k v).snap = s.snap := rfl
@[simp] theorem State.setKey_snapB (k : Nat) (v : Word) : (s.setKey k v).snapB = s.snapB := rfl
@[simp] theorem State.setKey_landed (k : Nat) (v : Word) : (s.setKey k v).landed = s.landed := rfl
@[simp] theorem State.setKey_deferred (k : Nat) (v : Word) : (s.setKey k v).deferred = s.deferred := rfl
@[simp] theorem State.setKey_mem (k : Nat) (v : Word) : (s.setKey k v).mem = s.mem := rfl
@[simp] theorem State.setKey_bad (k : Nat) (v : Word) : (s.setKey k v).bad = s.bad := rfl
@[simp] theorem State.setKey_parBad (k : Nat) (v : Word) : (s.setKey k v).parBad = s.parBad := rfl
@[simp] theorem State.setKey_parSet (k : Nat) (v : Word) : (s.setKey k v).parSet = s.parSet := rfl
@[simp] theorem State.setKey_fuses (k : Nat) (v : Word) : (s.setKey k v).fuses = s.fuses := rfl
@[simp] theorem State.setKey_lt (k : Nat) (v : Word) : (s.setKey k v).lt = s.lt := rfl
@[simp] theorem State.setKey_aon (k : Nat) (v : Word) : (s.setKey k v).aon = s.aon := rfl
@[simp] theorem State.setKey_free (k : Nat) (v : Word) : (s.setKey k v).free = s.free := rfl
@[simp] theorem State.setKey_auxGen (k : Nat) (v : Word) : (s.setKey k v).auxGen = s.auxGen := rfl
@[simp] theorem State.setKey_trcGen (k : Nat) (v : Word) : (s.setKey k v).trcGen = s.trcGen := rfl
@[simp] theorem State.setKey_clk (k : Nat) (v : Word) : (s.setKey k v).clk = s.clk := rfl
@[simp] theorem State.setKey_tck (k : Nat) (v : Word) : (s.setKey k v).tck = s.tck := rfl
@[simp] theorem State.setKey_pin (k : Nat) (v : Word) : (s.setKey k v).pin = s.pin := rfl
@[simp] theorem State.setKey_pwr (k : Nat) (v : Word) : (s.setKey k v).pwr = s.pwr := rfl
@[simp] theorem State.setKey_slf (k : Nat) (v : Word) : (s.setKey k v).slf = s.slf := rfl
@[simp] theorem State.setKey_lcs (k : Nat) (v : Word) : (s.setKey k v).lcs = s.lcs := rfl
@[simp] theorem State.setKey_log (k : Nat) (v : Word) : (s.setKey k v).log = s.log := rfl
@[simp] theorem State.setKey_cyc (k : Nat) (v : Word) : (s.setKey k v).cyc = s.cyc := rfl
@[simp] theorem State.setKey_pst (k : Nat) (v : Word) : (s.setKey k v).pst = s.pst := rfl
@[simp] theorem State.setKey_trc (k : Nat) (v : Word) : (s.setKey k v).trc = s.trc := rfl
@[simp] theorem State.setKey_lnk (k : Nat) (v : Word) : (s.setKey k v).lnk = s.lnk := rfl
@[simp] theorem State.setKey_isn (k : Nat) (v : Word) : (s.setKey k v).isn = s.isn := rfl
@[simp] theorem State.setKey_fmA (k : Nat) (v : Word) : (s.setKey k v).fmA = s.fmA := rfl
@[simp] theorem State.setKey_fmB (k : Nat) (v : Word) : (s.setKey k v).fmB = s.fmB := rfl
@[simp] theorem State.setKey_adc (k : Nat) (v : Word) : (s.setKey k v).adc = s.adc := rfl
@[simp] theorem State.setKey_seq (k : Nat) (v : Word) : (s.setKey k v).seq = s.seq := rfl
@[simp] theorem State.setKey_ctl (k : Nat) (v : Word) : (s.setKey k v).ctl = s.ctl := rfl
@[simp] theorem State.setKey_vec (k : Nat) (v : Word) : (s.setKey k v).vec = s.vec := rfl
@[simp] theorem State.setKey_gens (k : Nat) (v : Word) : (s.setKey k v).gens = s.gens := rfl
@[simp] theorem State.setKey_rpts (k : Nat) (v : Word) : (s.setKey k v).rpts = s.rpts := rfl
@[simp] theorem State.setKey_injs (k : Nat) (v : Word) : (s.setKey k v).injs = s.injs := rfl
@[simp] theorem State.setKey_twn (k : Nat) (v : Word) : (s.setKey k v).twn = s.twn := rfl
@[simp] theorem State.setKey_mon (k : Nat) (v : Word) : (s.setKey k v).mon = s.mon := rfl
@[simp] theorem State.setKey_hsp (k : Nat) (v : Word) : (s.setKey k v).hsp = s.hsp := rfl
@[simp] theorem State.setKey_fls (k : Nat) (v : Word) : (s.setKey k v).fls = s.fls := rfl

@[simp] theorem State.setPc_cpu_gpr (v : Word) : (s.setPc v).cpu.gpr = s.cpu.gpr := rfl
@[simp] theorem State.setPc_cpu_psr (v : Word) : (s.setPc v).cpu.psr = s.cpu.psr := rfl
@[simp] theorem State.setPc_cpu_epc (v : Word) : (s.setPc v).cpu.epc = s.cpu.epc := rfl
@[simp] theorem State.setPc_cpu_estat (v : Word) : (s.setPc v).cpu.estat = s.cpu.estat := rfl
@[simp] theorem State.setPc_cpu_cause (v : Word) : (s.setPc v).cpu.cause = s.cpu.cause := rfl
@[simp] theorem State.setPc_cpu_eaddr (v : Word) : (s.setPc v).cpu.eaddr = s.cpu.eaddr := rfl
@[simp] theorem State.setPc_cpu_vbase (v : Word) : (s.setPc v).cpu.vbase = s.cpu.vbase := rfl
@[simp] theorem State.setPc_cpu_sett (v : Word) : (s.setPc v).cpu.sett = s.cpu.sett := rfl
@[simp] theorem State.setPc_cpu_ssp (v : Word) : (s.setPc v).cpu.ssp = s.cpu.ssp := rfl
@[simp] theorem State.setPc_cpu_screeBase (v : Word) : (s.setPc v).cpu.screeBase = s.cpu.screeBase := rfl
@[simp] theorem State.setPc_cpu_screeLimit (v : Word) : (s.setPc v).cpu.screeLimit = s.cpu.screeLimit := rfl
@[simp] theorem State.setPc_cpu_ftop (v : Word) : (s.setPc v).cpu.ftop = s.cpu.ftop := rfl
@[simp] theorem State.setPc_cpu_res (v : Word) : (s.setPc v).cpu.res = s.cpu.res := rfl
@[simp] theorem State.setPc_cpu_long (v : Word) : (s.setPc v).cpu.long = s.cpu.long := rfl
@[simp] theorem State.setPc_cpu_ovrct (v : Word) : (s.setPc v).cpu.ovrct = s.cpu.ovrct := rfl
@[simp] theorem State.setPc_cpu_ovrThis (v : Word) : (s.setPc v).cpu.ovrThis = s.cpu.ovrThis := rfl
@[simp] theorem State.setPc_cpu_parked (v : Word) : (s.setPc v).cpu.parked = s.cpu.parked := rfl
@[simp] theorem State.setPc_cpu_held (v : Word) : (s.setPc v).cpu.held = s.cpu.held := rfl
@[simp] theorem State.setPc_cpu_wb (v : Word) : (s.setPc v).cpu.wb = s.cpu.wb := rfl
@[simp] theorem State.setPc_cpu_late (v : Word) : (s.setPc v).cpu.late = s.cpu.late := rfl
@[simp] theorem State.setPc_cpu_expire (v : Word) : (s.setPc v).cpu.expire = s.cpu.expire := rfl
@[simp] theorem State.setPc_cpu_critLeft (v : Word) : (s.setPc v).cpu.critLeft = s.cpu.critLeft := rfl
@[simp] theorem State.setPc_cpu_lines (v : Word) : (s.setPc v).cpu.lines = s.cpu.lines := rfl
@[simp] theorem State.setPc_cpu_pref (v : Word) : (s.setPc v).cpu.pref = s.cpu.pref := rfl
@[simp] theorem State.setPc_cpu_fetched (v : Word) : (s.setPc v).cpu.fetched = s.cpu.fetched := rfl
@[simp] theorem State.setPc_cpu_longPc (v : Word) : (s.setPc v).cpu.longPc = s.cpu.longPc := rfl

@[simp] theorem State.setPsr_cpu_gpr (p : Psr) : (s.setPsr p).cpu.gpr = s.cpu.gpr := rfl
@[simp] theorem State.setPsr_cpu_epc (p : Psr) : (s.setPsr p).cpu.epc = s.cpu.epc := rfl
@[simp] theorem State.setPsr_cpu_estat (p : Psr) : (s.setPsr p).cpu.estat = s.cpu.estat := rfl
@[simp] theorem State.setPsr_cpu_cause (p : Psr) : (s.setPsr p).cpu.cause = s.cpu.cause := rfl
@[simp] theorem State.setPsr_cpu_eaddr (p : Psr) : (s.setPsr p).cpu.eaddr = s.cpu.eaddr := rfl
@[simp] theorem State.setPsr_cpu_vbase (p : Psr) : (s.setPsr p).cpu.vbase = s.cpu.vbase := rfl
@[simp] theorem State.setPsr_cpu_sett (p : Psr) : (s.setPsr p).cpu.sett = s.cpu.sett := rfl
@[simp] theorem State.setPsr_cpu_ssp (p : Psr) : (s.setPsr p).cpu.ssp = s.cpu.ssp := rfl
@[simp] theorem State.setPsr_cpu_screeBase (p : Psr) : (s.setPsr p).cpu.screeBase = s.cpu.screeBase := rfl
@[simp] theorem State.setPsr_cpu_screeLimit (p : Psr) : (s.setPsr p).cpu.screeLimit = s.cpu.screeLimit := rfl
@[simp] theorem State.setPsr_cpu_pc (p : Psr) : (s.setPsr p).cpu.pc = s.cpu.pc := rfl
@[simp] theorem State.setPsr_cpu_ftop (p : Psr) : (s.setPsr p).cpu.ftop = s.cpu.ftop := rfl
@[simp] theorem State.setPsr_cpu_res (p : Psr) : (s.setPsr p).cpu.res = s.cpu.res := rfl
@[simp] theorem State.setPsr_cpu_long (p : Psr) : (s.setPsr p).cpu.long = s.cpu.long := rfl
@[simp] theorem State.setPsr_cpu_ovrct (p : Psr) : (s.setPsr p).cpu.ovrct = s.cpu.ovrct := rfl
@[simp] theorem State.setPsr_cpu_ovrThis (p : Psr) : (s.setPsr p).cpu.ovrThis = s.cpu.ovrThis := rfl
@[simp] theorem State.setPsr_cpu_parked (p : Psr) : (s.setPsr p).cpu.parked = s.cpu.parked := rfl
@[simp] theorem State.setPsr_cpu_held (p : Psr) : (s.setPsr p).cpu.held = s.cpu.held := rfl
@[simp] theorem State.setPsr_cpu_wb (p : Psr) : (s.setPsr p).cpu.wb = s.cpu.wb := rfl
@[simp] theorem State.setPsr_cpu_late (p : Psr) : (s.setPsr p).cpu.late = s.cpu.late := rfl
@[simp] theorem State.setPsr_cpu_expire (p : Psr) : (s.setPsr p).cpu.expire = s.cpu.expire := rfl
@[simp] theorem State.setPsr_cpu_critLeft (p : Psr) : (s.setPsr p).cpu.critLeft = s.cpu.critLeft := rfl
@[simp] theorem State.setPsr_cpu_lines (p : Psr) : (s.setPsr p).cpu.lines = s.cpu.lines := rfl
@[simp] theorem State.setPsr_cpu_pref (p : Psr) : (s.setPsr p).cpu.pref = s.cpu.pref := rfl
@[simp] theorem State.setPsr_cpu_fetched (p : Psr) : (s.setPsr p).cpu.fetched = s.cpu.fetched := rfl
@[simp] theorem State.setPsr_cpu_longPc (p : Psr) : (s.setPsr p).cpu.longPc = s.cpu.longPc := rfl

@[simp] theorem State.setKey_cpu_psr (k : Nat) (v : Word) : (s.setKey k v).cpu.psr = s.cpu.psr := rfl
@[simp] theorem State.setKey_cpu_epc (k : Nat) (v : Word) : (s.setKey k v).cpu.epc = s.cpu.epc := rfl
@[simp] theorem State.setKey_cpu_estat (k : Nat) (v : Word) : (s.setKey k v).cpu.estat = s.cpu.estat := rfl
@[simp] theorem State.setKey_cpu_cause (k : Nat) (v : Word) : (s.setKey k v).cpu.cause = s.cpu.cause := rfl
@[simp] theorem State.setKey_cpu_eaddr (k : Nat) (v : Word) : (s.setKey k v).cpu.eaddr = s.cpu.eaddr := rfl
@[simp] theorem State.setKey_cpu_vbase (k : Nat) (v : Word) : (s.setKey k v).cpu.vbase = s.cpu.vbase := rfl
@[simp] theorem State.setKey_cpu_sett (k : Nat) (v : Word) : (s.setKey k v).cpu.sett = s.cpu.sett := rfl
@[simp] theorem State.setKey_cpu_ssp (k : Nat) (v : Word) : (s.setKey k v).cpu.ssp = s.cpu.ssp := rfl
@[simp] theorem State.setKey_cpu_screeBase (k : Nat) (v : Word) : (s.setKey k v).cpu.screeBase = s.cpu.screeBase := rfl
@[simp] theorem State.setKey_cpu_screeLimit (k : Nat) (v : Word) : (s.setKey k v).cpu.screeLimit = s.cpu.screeLimit := rfl
@[simp] theorem State.setKey_cpu_pc (k : Nat) (v : Word) : (s.setKey k v).cpu.pc = s.cpu.pc := rfl
@[simp] theorem State.setKey_cpu_ftop (k : Nat) (v : Word) : (s.setKey k v).cpu.ftop = s.cpu.ftop := rfl
@[simp] theorem State.setKey_cpu_res (k : Nat) (v : Word) : (s.setKey k v).cpu.res = s.cpu.res := rfl
@[simp] theorem State.setKey_cpu_long (k : Nat) (v : Word) : (s.setKey k v).cpu.long = s.cpu.long := rfl
@[simp] theorem State.setKey_cpu_ovrct (k : Nat) (v : Word) : (s.setKey k v).cpu.ovrct = s.cpu.ovrct := rfl
@[simp] theorem State.setKey_cpu_ovrThis (k : Nat) (v : Word) : (s.setKey k v).cpu.ovrThis = s.cpu.ovrThis := rfl
@[simp] theorem State.setKey_cpu_parked (k : Nat) (v : Word) : (s.setKey k v).cpu.parked = s.cpu.parked := rfl
@[simp] theorem State.setKey_cpu_held (k : Nat) (v : Word) : (s.setKey k v).cpu.held = s.cpu.held := rfl
@[simp] theorem State.setKey_cpu_wb (k : Nat) (v : Word) : (s.setKey k v).cpu.wb = s.cpu.wb := rfl
@[simp] theorem State.setKey_cpu_late (k : Nat) (v : Word) : (s.setKey k v).cpu.late = s.cpu.late := rfl
@[simp] theorem State.setKey_cpu_expire (k : Nat) (v : Word) : (s.setKey k v).cpu.expire = s.cpu.expire := rfl
@[simp] theorem State.setKey_cpu_critLeft (k : Nat) (v : Word) : (s.setKey k v).cpu.critLeft = s.cpu.critLeft := rfl
@[simp] theorem State.setKey_cpu_lines (k : Nat) (v : Word) : (s.setKey k v).cpu.lines = s.cpu.lines := rfl
@[simp] theorem State.setKey_cpu_pref (k : Nat) (v : Word) : (s.setKey k v).cpu.pref = s.cpu.pref := rfl
@[simp] theorem State.setKey_cpu_fetched (k : Nat) (v : Word) : (s.setKey k v).cpu.fetched = s.cpu.fetched := rfl
@[simp] theorem State.setKey_cpu_longPc (k : Nat) (v : Word) : (s.setKey k v).cpu.longPc = s.cpu.longPc := rfl

@[simp] theorem State.setPc_pc (v : Word) : (s.setPc v).cpu.pc = v := rfl
@[simp] theorem State.setPsr_psr (p : Psr) : (s.setPsr p).cpu.psr = p := rfl

/-! ## Reads after writes -/

/-- A register reads what was last written to it. -/
theorem State.rd_wr (a b : Nat) (v : Word) : (s.wr a v).rd b = if b = a then v else s.rd b :=
  Sparse.get_put resetVal s.regs a b v

@[simp] theorem State.rd_wr_self (a : Nat) (v : Word) : (s.wr a v).rd a = v := by simp [State.rd_wr]

theorem State.rd_wr_ne {a b : Nat} (v : Word) (h : b ≠ a) : (s.wr a v).rd b = s.rd b := by simp [State.rd_wr, h]

/-- A byte reads what was last written to it. -/
theorem State.rdB_wrB (a b : Nat) (v : Byte) : (s.wrB a v).rdB b = if b = a then v else s.rdB b :=
  Sparse.get_put (ramByte s.auxGen) s.mem a b v

/-- A core register of a bank reads what was last written to it. -/
theorem State.key_setKey (k j : Nat) (v : Word) : (s.setKey k v).key j = if j = k then v else s.key j :=
  Sparse.get_put (fun _ => 0#32) s.cpu.gpr k j v

@[simp] theorem State.key_setPc (v : Word) (k : Nat) : (s.setPc v).key k = s.key k := rfl
@[simp] theorem State.key_wr (a : Nat) (v : Word) (k : Nat) : (s.wr a v).key k = s.key k := rfl
@[simp] theorem State.rd_setKey (k a : Nat) (v : Word) : (s.setKey k v).rd a = s.rd a := rfl
@[simp] theorem State.rd_setPc (v : Word) (a : Nat) : (s.setPc v).rd a = s.rd a := rfl
@[simp] theorem State.rd_setPsr (p : Psr) (a : Nat) : (s.setPsr p).rd a = s.rd a := rfl
@[simp] theorem State.rdB_wr (a b : Nat) (v : Word) : (s.wr a v).rdB b = s.rdB b := rfl
@[simp] theorem State.rd_wrB (a b : Nat) (v : Byte) : (s.wrB a v).rd b = s.rd b := rfl
@[simp] theorem State.rdB_setKey (k a : Nat) (v : Word) : (s.setKey k v).rdB a = s.rdB a := rfl
@[simp] theorem State.rdB_setPc (v : Word) (a : Nat) : (s.setPc v).rdB a = s.rdB a := rfl

/-! ## Canonical forms -/

/-- A register write keeps the registers' canonical form. -/
theorem State.wr_regsWf {s : State} (h : Sparse.wf resetVal s.regs = true) (a : Nat) (v : Word) : Sparse.wf resetVal (s.wr a v).regs = true :=
  Sparse.wf_put h

/-- A byte write keeps memory's canonical form. -/
theorem State.wrB_memWf {s : State} (h : s.memWf = true) (a : Nat) (v : Byte) : (s.wrB a v).memWf = true :=
  Sparse.wf_put h

/-- A write of any width keeps memory's canonical form. -/
theorem State.wrN_memWf {s : State} (h : s.memWf = true) (a v w : Nat) : (s.wrN a v w).memWf = true := by
  induction w generalizing s a v with
  | zero => exact h
  | succ w ih => exact ih (State.wrB_memWf h a _) _ _

/-- A write of `w` bytes leaves every other byte alone. -/
theorem State.rdB_wrN (s : State) (a v w b : Nat) (h : b < a ∨ a + w ≤ b) : (s.wrN a v w).rdB b = s.rdB b := by
  induction w generalizing s a v with
  | zero => rfl
  | succ w ih =>
    rw [State.wrN, ih _ _ _ (by omega), State.rdB_wrB, if_neg (by omega)]

end Sys2Proof.Machine
end

