-- ==== Sys2Proof/Laws/Raise.lean ====
section
/-! SUPPORT. What raising an event can change, and what it leaves alone. -/

namespace Sys2Proof.Machine

/-! ## Everything but the registers -/

@[simp] theorem quiet_wr (s : State) (a : Nat) (v : Word) : (s.wr a v).quiet = s.quiet := rfl
@[simp] theorem quiet_setF (s : State) (a lo w n : Nat) : (s.setF a lo w n).quiet = s.quiet := rfl
@[simp] theorem quiet_inc (s : State) (a : Nat) : (s.inc a).quiet = s.quiet := rfl
@[simp] theorem quiet_clearRel (s : State) : s.clearRel.quiet = s.quiet := rfl

@[simp] theorem quiet_askSafe (s : State) (c : Nat) : (s.askSafe c).quiet = s.quiet := by
  unfold State.askSafe; split_ifs <;> rfl

@[simp] theorem quiet_trcTry (s : State) (r : BitVec 64) : (s.trcTry r).1.quiet = s.quiet := by
  unfold State.trcTry; split_ifs <;> rfl

@[simp] theorem quiet_logTry (s : State) (k p : Nat) (a b : Word) : (s.logTry k p a b).1.quiet = s.quiet := by
  unfold State.logTry; split_ifs <;> rfl

section routes
variable {up : Up} (h : ∀ s p n, (up s p n).quiet = s.quiet)
include h

theorem quiet_queueRoute (s : State) (p n l : Nat) : (s.queueRoute up p n l).quiet = s.quiet := by
  unfold State.queueRoute
  split_ifs
  · rfl
  · exact (h _ _ _).trans rfl
  · rfl

theorem quiet_logRoute (s : State) (p n l : Nat) : (s.logRoute up p n l).quiet = s.quiet := by
  unfold State.logRoute
  simp only
  split_ifs <;> simp [h]

theorem quiet_traceRoute (s : State) (p n l : Nat) : (s.traceRoute up p n l).quiet = s.quiet := by
  unfold State.traceRoute
  simp only
  split_ifs <;> simp [h]

theorem quiet_trigRoute (s : State) (p n : Nat) : (s.trigRoute up p n).quiet = s.quiet := by
  unfold State.trigRoute
  simp only
  split_ifs
  · rw [h]; exact (show _ = (up (s.trcTry _).1 P.TRC 2).quiet from rfl).trans (by simp [h])
  · rw [h]; exact (show _ = (s.trcTry _).1.quiet from rfl).trans (by simp)
  · rfl

theorem quiet_safetyRoute (s : State) (l : Nat) : (s.safetyRoute up l).quiet = s.quiet := by
  unfold State.safetyRoute
  simp only
  split_ifs
  · rw [h]; exact (show _ = (s.clearRel.askSafe 4).quiet from rfl).trans (by simp)
  · exact (show _ = (s.clearRel.askSafe 4).quiet from rfl).trans (by simp)
  · rfl

theorem quiet_routes (s : State) (p n l : Nat) : (s.routes up p n l).quiet = s.quiet := by
  simp [State.routes, quiet_queueRoute h, quiet_logRoute h, quiet_traceRoute h]

end routes

theorem quiet_raiseN (k : Nat) (s : State) (p n : Nat) : (s.raiseN k p n).quiet = s.quiet := by
  induction k generalizing s p n with
  | zero => rfl
  | succ k ih =>
    unfold State.raiseN
    simp only
    split_ifs
    · rfl
    · simp [quiet_trigRoute ih]
    · rw [quiet_safetyRoute ih]; exact (show _ = (State.trigRoute (State.raiseN k) _ p n).quiet from rfl).trans (by simp [quiet_trigRoute ih])
    · simp [quiet_safetyRoute ih, quiet_routes ih, quiet_trigRoute ih]

/-- Raising an event touches nothing outside `quiet`'s list. -/
@[simp] theorem quiet_raise (s : State) (p n : Nat) : (s.raise p n).quiet = s.quiet := quiet_raiseN 8 s p n

@[simp] theorem quiet_raiseIf (s : State) (c : Bool) (p n : Nat) : (s.raiseIf c p n).quiet = s.quiet := by
  unfold State.raiseIf; split_ifs <;> simp

@[simp] theorem quiet_logPush (s : State) (k p : Nat) (a b : Word) : (s.logPush k p a b).quiet = s.quiet := by
  unfold State.logPush; simp only; split_ifs <;> simp

@[simp] theorem quiet_trcPush (s : State) (r : BitVec 64) : (s.trcPush r).quiet = s.quiet := by
  unfold State.trcPush; simp only; split_ifs <;> simp

@[simp] theorem quiet_setFlt (s : State) (p n : Nat) : (s.setFlt p n).quiet = s.quiet := by
  unfold State.setFlt; split_ifs <;> simp

/-! ## Registers, queues, the release -/

theorem Keeps.refl (p : Nat) (s : State) : Keeps p s s := ⟨fun _ _ => rfl, fun _ _ h => h, .inl rfl, List.Sublist.refl _, List.prefix_rfl, id⟩

theorem Keeps.trans {p : Nat} {s t u : State} (h : Keeps p s t) (k : Keeps p t u) : Keeps p s u where
  rd a ha := (k.rd a ha).trans (h.rd a ha)
  evt q n hb := k.evt q n (h.evt q n hb)
  trc := by
    rcases h.trc with e | ⟨e, e'⟩ <;> rcases k.trc with f | ⟨f, f'⟩
    · exact .inl (f.trans e)
    · exact .inr ⟨e ▸ f, f'⟩
    · exact .inr ⟨e, f.trans e'⟩
    · rw [e'] at f; simp at f
  trcq := h.trcq.trans k.trcq
  logq := h.logq.trans k.logq
  rel hr := k.rel (h.rel hr)

/-- Where the registers stand, the queues grow and the release is not given, all is kept. -/
theorem Keeps.of_regs {p : Nat} {s t : State} (h : t.regs = s.regs) (ht : t.trc.state = s.trc.state ∨ (s.trc.state = .armed ∧ t.trc.state = .post) := by exact .inl rfl)
    (hq : s.trc.queue.Sublist t.trc.queue := by exact List.Sublist.refl _) (hl : s.log.queue <+: t.log.queue := by exact List.prefix_rfl)
    (hr : s.pst.rel = false → t.pst.rel = false := by exact id) : Keeps p s t :=
  ⟨fun a _ => by simp only [State.rd, h], fun p n hb => by simpa only [State.bit, State.rd, h] using hb, ht, hq, hl, hr⟩

/-- The events an event's own routes raise lie on four pages. -/
theorem Keeps.up {p q : Nat} {s t : State} (h : Keeps q s t) (hq : q = P.QUE ∨ q = P.LOG ∨ q = P.TRC ∨ q = P.PST) : Keeps p s t where
  rd a ha := h.rd a (by
    unfold raiseTouches at *
    rcases hq with rfl | rfl | rfl | rfl <;> simp_all)
  evt := h.evt
  trc := h.trc
  trcq := h.trcq
  logq := h.logq
  rel := h.rel

theorem bitOf_setBit (v : Word) (n m : Nat) (b : Bool) (hn : n < 32) (hm : m < 32) : bitOf (setBit v n b) m = if m = n then b else bitOf v m := by
  have h2 : (2 : Nat) ^ 1 - 1 = 1 := rfl
  simp only [bitOf, setBit, setFld, maskOf, BitVec.getLsbD_or, BitVec.getLsbD_and, BitVec.getLsbD_not, BitVec.getLsbD_ofNat, hm, decide_true, Bool.true_and,
    Nat.testBit_shiftLeft, h2]
  by_cases h : m = n
  · subst h; cases b <;> simp
  · rcases Nat.lt_or_gt_of_ne h with h' | h'
    · simp [h, Nat.not_le.mpr h']
    · have : Nat.testBit 1 (m - n) = false := by
        rw [show (1 : Nat) = 2 ^ 0 from rfl, Nat.testBit_two_pow]; simp; omega
      have hb : Nat.testBit (b.toNat % 2) (m - n) = false := by
        cases b <;> simp [this]
      simp [h, h'.le, this, hb]

theorem bitOf_setBit_true (v : Word) (n m : Nat) (h : bitOf v m = true) : bitOf (setBit v n true) m = true := by
  by_cases hm : m < 32
  · by_cases hn : n < 32
    · rw [bitOf_setBit v n m true hn hm]; split_ifs <;> simp [h]
    · have : m ≠ n := by omega
      have h1 : ¬ n ≤ m := by omega
      simp_all [bitOf, setBit, setFld, maskOf]
  · simp [bitOf, BitVec.getLsbD_of_ge v m (by omega)] at h

theorem rEVT_inj {p q : Nat} (h : rEVT p = rEVT q) : p = q := by simp [rEVT] at h; omega

/-- A write of a register the event touches, which clears no EVT bit. -/
theorem keeps_wr {p : Nat} {s : State} {a : Nat} (v : Word) (ht : raiseTouches p a = true) (he : ∀ q n, rEVT q = a → s.bit a n = true → bitOf v n = true) :
    Keeps p s (s.wr a v) where
  rd b hb := State.rd_wr_ne _ _ (by rintro rfl; simp [ht] at hb)
  evt q n hb := by
    by_cases h : rEVT q = a
    · rw [h] at hb ⊢; simpa [State.bit] using he q n h hb
    · simpa [State.bit, State.rd_wr_ne _ _ h] using hb
  trc := .inl rfl
  trcq := List.Sublist.refl _
  logq := List.prefix_rfl
  rel := id

theorem keeps_evt (s : State) (p n : Nat) : Keeps p s (s.wr (rEVT p) (setBit (s.rd (rEVT p)) n true)) :=
  keeps_wr _ (by simp [raiseTouches]) fun _ m _ hb => bitOf_setBit_true _ _ _ hb

theorem keeps_count {p : Nat} {s : State} {a : Nat} (v : Word) (h : a = R.QUE_EVLOSTCT ∨ a = R.LOG_LOSTCT ∨ a = R.TRC_LOST) : Keeps p s (s.wr a v) := by
  refine keeps_wr v (by unfold raiseTouches; rcases h with rfl | rfl | rfl <;> simp) fun q n hq _ => ?_
  have e : rEVT q % 256 = 12 := by unfold rEVT; omega
  rw [hq] at e
  rcases h with rfl | rfl | rfl <;> exact absurd e (by decide)

/-- What stands in a queue keeps its order where an entry is put among it. -/
theorem sublist_put {α : Type} (l : List α) (n : Nat) (x : α) : l.Sublist (l.take n ++ x :: l.drop n) := by
  conv_lhs => rw [← List.take_append_drop n l]
  exact (List.Sublist.refl _).append (List.sublist_cons_self _ _)

theorem keeps_trcTry (p : Nat) (s : State) (r : BitVec 64) : Keeps p s (s.trcTry r).1 := by
  unfold State.trcTry
  split_ifs
  · exact .refl p s
  · exact (keeps_count _ (.inr (.inr rfl))).trans (.of_regs rfl)
  · exact .of_regs rfl (hq := sublist_put _ _ _)

theorem keeps_logTry (q : Nat) (s : State) (k p : Nat) (a b : Word) : Keeps q s (s.logTry k p a b).1 := by
  unfold State.logTry
  split_ifs
  · exact keeps_count _ (.inr (.inl rfl))
  · exact .of_regs rfl (hl := List.prefix_append _ _)

theorem askSafe_regs (s : State) (c : Nat) : (s.askSafe c).regs = s.regs := by
  unfold State.askSafe; split_ifs <;> rfl

theorem keeps_askSafe (p : Nat) (s : State) (c : Nat) : Keeps p s (s.askSafe c) := by
  unfold State.askSafe; split_ifs <;> exact .of_regs rfl

theorem keeps_clearRel (p : Nat) (s : State) : Keeps p s s.clearRel := .of_regs rfl (hr := fun _ => rfl)

section routes
variable {up : Up} (h : ∀ s p n, Keeps p s (up s p n))
include h

theorem keeps_queueRoute (q : Nat) (s : State) (p n l : Nat) : Keeps q s (s.queueRoute up p n l) := by
  unfold State.queueRoute
  split_ifs
  · exact .refl q s
  · exact Keeps.trans (t := { s.inc R.QUE_EVLOSTCT with cyc := { (s.inc R.QUE_EVLOSTCT).cyc with evlost := true } })
      ((keeps_count _ (.inl rfl)).trans (.of_regs rfl)) ((h _ _ _).up (.inl rfl))
  · exact .of_regs rfl

theorem keeps_logRoute (q : Nat) (s : State) (p n l : Nat) : Keeps q s (s.logRoute up p n l) := by
  unfold State.logRoute
  simp only
  split_ifs
  · exact .refl q s
  · exact (keeps_logTry _ _ _ _ _ _).trans ((h _ _ _).up (.inr (.inl rfl)))
  · exact keeps_logTry _ _ _ _ _ _

theorem keeps_traceRoute (q : Nat) (s : State) (p n l : Nat) : Keeps q s (s.traceRoute up p n l) := by
  unfold State.traceRoute
  simp only
  split_ifs
  · exact (keeps_trcTry _ _ _).trans ((h _ _ _).up (.inr (.inr (.inl rfl))))
  · exact keeps_trcTry _ _ _
  · exact .refl q s

omit h in
/-- A trigger takes trace from ARMED to POST. -/
theorem keeps_post {q : Nat} {s t : State} (ha : s.trc.state = .armed) (k : Keeps q s t) (b : Bool) (i c : Nat) :
    Keeps q s { t with trc := { t.trc with state := .post, trigv := b, trigidx := i, postCount := c } } :=
  ⟨k.rd, k.evt, .inr ⟨ha, rfl⟩, k.trcq, k.logq, k.rel⟩

theorem keeps_trigRoute (q : Nat) (s : State) (p n : Nat) : Keeps q s (s.trigRoute up p n) := by
  unfold State.trigRoute
  simp only
  by_cases hh : s.trigHit p n = true
  · have ha : s.trc.state = .armed := by
      unfold State.trigHit at hh; simp at hh; exact hh.1.1.1.1
    rw [if_pos hh]
    have k : Keeps q s (if (s.trcTry (trcRec 6 s.tck.now 2)).2 then up (s.trcTry (trcRec 6 s.tck.now 2)).1 P.TRC 2 else (s.trcTry (trcRec 6 s.tck.now 2)).1) := by
      split_ifs
      · exact (keeps_trcTry _ _ _).trans ((h _ _ _).up (.inr (.inr (.inl rfl))))
      · exact keeps_trcTry _ _ _
    refine Keeps.trans ?_ ((h _ _ _).up (.inr (.inr (.inl rfl))))
    exact keeps_post ha k _ _ _
  · rw [if_neg hh]; exact .refl q s

theorem keeps_safetyRoute (q : Nat) (s : State) (l : Nat) : Keeps q s (s.safetyRoute up l) := by
  unfold State.safetyRoute
  simp only
  have k : Keeps q s (s.clearRel.askSafe 4) := (keeps_clearRel q s).trans (keeps_askSafe _ _ _)
  have k' (o : OutState) : Keeps q s { s.clearRel.askSafe 4 with pst := { (s.clearRel.askSafe 4).pst with out := o } } :=
    ⟨k.rd, k.evt, k.trc, k.trcq, k.logq, k.rel⟩
  split_ifs
  · exact Keeps.trans (k' _) ((h _ _ _).up (.inr (.inr (.inr rfl))))
  · exact k' _
  · exact .refl q s

theorem keeps_routes (q : Nat) (s : State) (p n l : Nat) : Keeps q s (s.routes up p n l) :=
  ((keeps_queueRoute h _ _ _ _ _).trans (keeps_logRoute h _ _ _ _ _)).trans (keeps_traceRoute h _ _ _ _ _)

end routes

theorem keeps_raiseN (k : Nat) (s : State) (p n : Nat) : Keeps p s (s.raiseN k p n) := by
  induction k generalizing s p n with
  | zero => exact keeps_evt s p n
  | succ k ih =>
    unfold State.raiseN
    simp only
    have k0 := (keeps_evt s p n).trans (keeps_trigRoute ih p _ p n)
    split_ifs
    · exact .refl p s
    · exact k0
    · refine Keeps.trans ?_ (keeps_safetyRoute ih _ _ _)
      exact ⟨k0.rd, k0.evt, k0.trc, k0.trcq, k0.logq, k0.rel⟩
    · exact (k0.trans (keeps_routes ih _ _ _ _ _)).trans (keeps_safetyRoute ih _ _ _)

/-- What raising an event keeps. -/
theorem keeps_raise (s : State) (p n : Nat) : Keeps p s (s.raise p n) := keeps_raiseN 8 s p n

theorem keeps_raiseIf (s : State) (c : Bool) (p n : Nat) : Keeps p s (s.raiseIf c p n) := by
  unfold State.raiseIf; split_ifs
  · exact keeps_raise s p n
  · exact .refl p s

theorem keeps_logPush (q : Nat) (s : State) (k p : Nat) (a b : Word) : Keeps q s (s.logPush k p a b) := by
  unfold State.logPush; simp only; split_ifs
  · exact (keeps_logTry _ _ _ _ _ _).trans ((keeps_raise _ _ _).up (.inr (.inl rfl)))
  · exact keeps_logTry _ _ _ _ _ _

theorem keeps_trcPush (q : Nat) (s : State) (r : BitVec 64) : Keeps q s (s.trcPush r) := by
  unfold State.trcPush; simp only; split_ifs
  · exact (keeps_trcTry _ _ _).trans ((keeps_raise _ _ _).up (.inr (.inr (.inl rfl))))
  · exact keeps_trcTry _ _ _

/-- An event that is raised stands in EVT. -/
theorem bit_raiseN (k : Nat) (s : State) (p n : Nat) (hn : n < 32) : (s.raiseN k p n).bit (rEVT p) n = true := by
  have hw : (s.wr (rEVT p) (setBit (s.rd (rEVT p)) n true)).bit (rEVT p) n = true := by
    simp [State.bit, bitOf_setBit _ _ _ _ hn hn]
  cases k with
  | zero => exact hw
  | succ k =>
    have ih := keeps_raiseN k
    unfold State.raiseN
    simp only
    have k0 := (keeps_trigRoute ih p (s.wr (rEVT p) (setBit (s.rd (rEVT p)) n true)) p n).evt _ _ hw
    split_ifs with h1
    · exact h1
    · exact k0
    · exact (keeps_safetyRoute ih p _ _).evt _ _ k0
    · exact ((keeps_routes ih p _ _ _ _).trans (keeps_safetyRoute ih _ _ _)).evt _ _ k0

theorem bit_raise (s : State) (p n : Nat) (hn : n < 32) : (s.raise p n).bit (rEVT p) n = true := bit_raiseN 8 s p n hn

end Sys2Proof.Machine
end

