-- ==== Sys2Proof/Laws/Settle.lean ====
section
/-! SUPPORT. What the settling of the output state at the end of a command can change: the stage, its faults, the reports they make, and nothing else. -/

namespace Sys2Proof.Machine

theorem calm_of_quiet {s t : State} (h : t.quiet = s.quiet) : t.calm = s.calm :=
  congrArg (fun q : State =>
    { q with
      pst := { q.pst with brake := false, subst := false, cond := 0, drove := false, braked := false, brakeIn := none }
      slf := { q.slf with sys := resetLane, lastLasting := none }
      pin := { q.pin with fext := false }
      fmA := { q.fmA with safety := false }
      fmB := { q.fmB with safety := false } }) h

theorem Calms.refl (s : State) : Calms s s :=
  ⟨rfl, fun _ _ => rfl, fun _ _ h => h, fun _ _ h => h, .inl rfl, List.Sublist.refl _, List.prefix_rfl, id, fun _ _ => rfl⟩

theorem Calms.trans {s t u : State} (h : Calms s t) (k : Calms t u) : Calms s u where
  calm := k.calm.trans h.calm
  rd a ha := (k.rd a ha).trans (h.rd a ha)
  evt q n hb := k.evt q n (h.evt q n hb)
  flt q n hb := k.flt q n (h.flt q n hb)
  trc := by
    rcases h.trc with e | ⟨e, e'⟩ <;> rcases k.trc with f | ⟨f, f'⟩
    · exact .inl (f.trans e)
    · exact .inr ⟨e ▸ f, f'⟩
    · exact .inr ⟨e, f.trans e'⟩
    · rw [e'] at f; simp at f
  trcq := h.trcq.trans k.trcq
  logq := h.logq.trans k.logq
  rel hr := k.rel (h.rel hr)
  cond n hn := (k.cond n hn).trans (h.cond n hn)

theorem rFLT_touch (p q : Nat) : raiseTouches p (rFLT q) = false := by
  have e : rFLT q % 256 = 0x18 := by unfold rFLT; omega
  have n (a : Nat) (ha : a % 256 ≠ 0x18) : (rFLT q == a) = false := by
    rw [beq_eq_false_iff_ne]; rintro h; rw [h] at e; exact ha e
  have m (r : Nat) : rEVT r % 256 ≠ 0x18 := by unfold rEVT; omega
  simp only [raiseTouches, n _ (m _), n R.QUE_EVLOSTCT (by decide), n R.LOG_LOSTCT (by decide), n R.TRC_LOST (by decide), Bool.or_self]

theorem Calms.of_keeps {p : Nat} {s t : State} (q : t.quiet = s.quiet) (k : Keeps p s t) (hp : p = P.SYS ∨ p = P.SLF ∨ p = P.PST) : Calms s t where
  calm := calm_of_quiet q
  rd a ha := k.rd a (by unfold settleTouches at ha; rcases hp with rfl | rfl | rfl <;> simp_all)
  evt := k.evt
  flt q n hb := by simpa only [State.bit, k.rd _ (rFLT_touch p q)] using hb
  trc := k.trc
  trcq := k.trcq
  logq := k.logq
  rel := k.rel
  cond n _ := by have e := congrArg (fun q : State => q.condOn n) q; exact e

theorem Calms.of_regs {s t : State} (c : t.calm = s.calm) (h : t.regs = s.regs) (ht : t.trc = s.trc) (hl : t.log = s.log)
    (hr : s.pst.rel = false → t.pst.rel = false) (hc : ∀ n, n < 10 → t.condOn n = s.condOn n) : Calms s t :=
  ⟨c, fun a _ => by simp only [State.rd, h], fun p n hb => by simpa only [State.bit, State.rd, h] using hb,
    fun p n hb => by simpa only [State.bit, State.rd, h] using hb, .inl (by rw [ht]), by rw [ht], by rw [hl], hr, hc⟩

theorem calms_raise (s : State) {p : Nat} (n : Nat) (hp : p = P.SYS ∨ p = P.SLF ∨ p = P.PST) : Calms s (s.raise p n) :=
  .of_keeps (quiet_raise s p n) (keeps_raise s p n) hp

theorem calms_raiseIf (s : State) (c : Bool) (n : Nat) : Calms s (s.raiseIf c P.PST n) :=
  .of_keeps (quiet_raiseIf s c _ n) (keeps_raiseIf s c _ n) (.inr (.inr rfl))

theorem calms_logPush (s : State) (k p : Nat) (a b : Word) : Calms s (s.logPush k p a b) :=
  .of_keeps (quiet_logPush s k p a b) (keeps_logPush P.SYS s k p a b) (.inl rfl)

/-- A write of a register that is settled, and no EVT or FLT word. -/
theorem calms_wr (s : State) {a : Nat} (v : Word) (h : settleTouches a = true) (he : a % 256 ≠ 0x0C) (hf : a % 256 ≠ 0x18) : Calms s (s.wr a v) where
  calm := rfl
  rd b hb := State.rd_wr_ne _ _ (by rintro rfl; simp [h] at hb)
  evt p n hb := by
    have : rEVT p ≠ a := by rintro rfl; exact he (by unfold rEVT; omega)
    simpa [State.bit, State.rd_wr_ne _ _ this] using hb
  flt p n hb := by
    have : rFLT p ≠ a := by rintro rfl; exact hf (by unfold rFLT; omega)
    simpa [State.bit, State.rd_wr_ne _ _ this] using hb
  trc := .inl rfl
  trcq := List.Sublist.refl _
  logq := List.prefix_rfl
  rel := id
  cond _ _ := rfl

theorem calms_setFlt (s : State) {p : Nat} (n : Nat) (h : p = P.SLF ∨ p = P.PST) : Calms s (s.setFlt p n) := by
  unfold State.setFlt
  split_ifs
  · exact .refl s
  · refine Calms.trans ?_ (calms_logPush _ _ _ _ _)
    refine ⟨rfl, fun b hb => State.rd_wr_ne _ _ ?_, fun q m hb => ?_, fun q m hb => ?_, .inl rfl, List.Sublist.refl _, List.prefix_rfl, id, fun _ _ => rfl⟩
    · rintro rfl; rcases h with rfl | rfl <;> exact absurd hb (by decide)
    · have : rEVT q ≠ rFLT p := by unfold rEVT rFLT; omega
      simpa [State.bit, State.rd_wr_ne _ _ this] using hb
    · by_cases e : rFLT q = rFLT p
      · rw [e] at hb ⊢; simpa [State.bit] using bitOf_setBit_true _ n m hb
      · simpa [State.bit, State.rd_wr_ne _ _ e] using hb

theorem calms_clearRel (s : State) : Calms s s.clearRel := .of_regs rfl rfl rfl rfl (fun _ => rfl) (fun _ _ => rfl)

theorem calms_syncOut (s : State) : Calms s s.syncOut := by
  have k (t : State) (h : Calms s t) (o : OutState) : Calms s { t with pst := { t.pst with out := o } } :=
    h.trans (.of_regs rfl rfl rfl rfl id (fun _ _ => rfl))
  unfold State.syncOut
  simp only
  split_ifs
  · exact (k _ (calms_clearRel s) _).trans (calms_raise _ _ (.inr (.inr rfl)))
  · exact k _ (calms_clearRel s) _
  · exact (k _ (.refl s) _).trans (calms_raise _ _ (.inr (.inr rfl)))
  · exact k _ (.refl s) _

theorem calms_stageSafe (s : State) : Calms s s.stageSafe := (calms_clearRel s).trans (calms_syncOut _)

theorem calms_safetyOwn (s : State) : Calms s s.safetyOwn := .of_regs rfl rfl rfl rfl id (fun _ _ => rfl)

theorem calms_setSys (s : State) (x : Lane) : Calms s (s.setLane 2 x) := .of_regs rfl rfl rfl rfl id (fun _ _ => rfl)

theorem calms_bucket (s : State) : Calms s (s.incBucket 6) := calms_wr s _ (by decide) (by decide) (by decide)

theorem calms_noteLast (s : State) (j : Job) (d0 : Word) : Calms s (s.noteLast j d0) :=
  (((calms_wr s _ (by decide) (by decide) (by decide)).trans (calms_wr _ _ (by decide) (by decide) (by decide))).trans
    (calms_wr _ _ (by decide) (by decide) (by decide))).trans (calms_raise _ _ (.inr (.inl rfl)))

theorem calms_noteNoTest (s : State) : Calms s s.noteNoTest :=
  (calms_raise _ _ (.inr (.inl rfl))).trans (calms_wr _ _ (by decide) (by decide) (by decide))

theorem calms_noteRepair (s : State) (u : Word) (k : Nat) : Calms s (s.noteRepair u k) :=
  (calms_raise _ _ (.inr (.inl rfl))).trans (calms_logPush _ _ _ _ _)

theorem calms_noteLasting (s : State) : Calms s s.noteLasting := by
  refine Calms.trans ?_ (calms_setFlt _ _ (.inl rfl))
  refine Calms.trans ?_ (calms_raise _ _ (.inr (.inl rfl)))
  exact .of_regs rfl rfl rfl rfl id (fun _ _ => rfl)

/-- Where both branches keep, the choice keeps. -/
theorem Calms.ite {s t u : State} {c : Prop} [Decidable c] (h : Calms s t) (k : Calms s u) : Calms s (if c then t else u) := by
  split_ifs <;> assumption

/-- A verdict that is not of the twin's. -/
theorem calms_verdict (s : State) (j : Job) (res spare : Nat) (h : ¬(j.src = 0xD ∨ j.src = 0xE)) (h4 : j.test ≠ 4) (h9 : j.test ≠ 9) : Calms s (s.verdict j res spare) := by
  unfold State.verdict
  simp only
  have h1 (c : Bool) : Calms s ((s.noteLast j (verdictWord j res (s.bucket j.test) c)).inc (if c then R.SLF_LASTCT else R.SLF_TRANCT)) :=
    (calms_noteLast _ _ _).trans (by cases c <;> exact calms_wr _ _ (by decide) (by decide) (by decide))
  have h2 (t : State) : Calms t (if res = 3 then t.noteNoTest else t) := .ite (calms_noteNoTest t) (.refl t)
  have h3 (t : State) : Calms t (if res = 2 then t.noteRepair j.unit spare else t) := .ite (calms_noteRepair _ _ _) (.refl t)
  have h5 (t : State) (c : Bool) : Calms t (if c then t.noteLasting else t) := .ite (calms_noteLasting _) (.refl t)
  rw [if_neg h9, if_neg (fun c => c.elim (fun d => h (.inl d)) fun c => c.elim (fun e => h (.inr e)) fun c => h4 c.1)]
  exact ((((h1 _).trans (h2 _)).trans (h3 _)).trans (calms_logPush _ _ _ _ _)).trans (h5 _ _)

/-- The report of a gate or charge-pump fault. -/
theorem calms_detect (s : State) (page : Nat) (u : Word) : Calms s (s.detect 7 page u) := by
  unfold State.detect
  simp only [show testOf 7 = 6 from rfl, show laneOf 6 = 2 from rfl]
  have h0 : Calms s ((((s.raise P.SLF 0).inc R.SLF_DETCT).logPush 3 page (detWord 7 6) u).incBucket 6) :=
    (((calms_raise _ _ (.inr (.inl rfl))).trans (calms_wr _ _ (by decide) (by decide) (by decide))).trans (calms_logPush _ _ _ _ _)).trans (calms_bucket _)
  generalize ((((s.raise P.SLF 0).inc R.SLF_DETCT).logPush 3 page (detWord 7 6) u).incBucket 6) = t at h0 ⊢
  refine Calms.trans h0 ?_
  have v (j : Job) (hj : j.src = 7) (h4 : j.test ≠ 4) (ht : j.test ≠ 9) : Calms t (t.verdict j 3 0) := calms_verdict t j 3 0 (by rw [hj]; decide) h4 ht
  split_ifs
  · exact v _ rfl (by show (6 : Nat) ≠ 4; decide) (by show (6 : Nat) ≠ 9; decide)
  · exact absurd ‹(6 : Nat) = 10› (by decide)
  · exact absurd ‹(7 : Nat) = 0xE› (by decide)
  · exact .refl t
  · exact calms_setSys _ _
  · exact calms_setSys _ _
  · exact v _ rfl (by show (6 : Nat) ≠ 4; decide) (by show (6 : Nat) ≠ 9; decide)

theorem calms_latch (s : State) (n : Nat) : Calms s (s.latch n) := by
  unfold State.latch
  simp only
  refine .ite (.refl s) ?_
  have w (t : State) (a : Nat) (v : Word) (h : settleTouches a = true) (he : a % 256 ≠ 0x0C) (hf : a % 256 ≠ 0x18) : Calms t (t.wr a v) := calms_wr t v h he hf
  have h : Calms s ((((((s.setFlt P.PST n).inc R.PST_TRIPCT).wr R.PST_LAST (setBit 0#32 n true)).wr R.PST_LASTTICK ((s.setFlt P.PST n).tck.now)).stageSafe.raise P.PST 0).safetyOwn) :=
    ((((((calms_setFlt s n (.inr rfl)).trans (w _ _ _ (by decide) (by decide) (by decide))).trans (w _ _ _ (by decide) (by decide) (by decide))).trans
      (w _ _ _ (by decide) (by decide) (by decide))).trans (calms_stageSafe _)).trans (calms_raise _ _ (.inr (.inr rfl)))).trans (calms_safetyOwn _)
  exact .ite (h.trans (calms_detect _ _ _)) h

theorem testBit_ten (c : Nat) (on : Bool) (n : Nat) (hn : n < 10) : ((setBit (wd c) 10 on).toNat).testBit n = c.testBit n := by
  have e := bitOf_setBit (wd c) 10 n on (by omega) (by omega)
  rw [if_neg (by omega)] at e
  unfold bitOf at e
  rw [show ((setBit (wd c) 10 on).toNat).testBit n = (setBit (wd c) 10 on).getLsbD n from rfl, e, wd, BitVec.getLsbD_ofNat]
  simp [show n < 32 by omega]

theorem calms_pullLatch (s : State) : Calms s s.pullLatch := by
  unfold State.pullLatch
  simp only
  have h : Calms s (({ s with pin := { s.pin with fext := s.extLow } } : State).setCond 10 s.extLow) :=
    .of_regs rfl rfl rfl rfl id (fun n hn => testBit_ten _ _ _ hn)
  exact .ite ((h.trans (calms_raise _ _ (.inl rfl))).trans (calms_latch _ _)) h

theorem calms_relTick (s : State) : Calms s s.relTick := .ite (.refl s) (calms_clearRel s)

theorem calms_applySafe (s : State) : Calms s s.applySafe := by
  unfold State.applySafe
  simp only
  have h := calms_raiseIf s (s.bit R.PST_SAFE 0 && s.coastForced && s.pst.out == .safe && !s.pst.subst) 5
  refine h.trans ?_
  exact .of_regs rfl rfl rfl rfl id (fun _ _ => rfl)

/-- What the settling of the output state keeps. -/
theorem calms_settleOut (s : State) : Calms s s.settleOut :=
  (((calms_pullLatch s).trans (calms_relTick _)).trans (calms_syncOut _)).trans (calms_applySafe _)

/-- After the settling the output state is the one the conditions give. -/
theorem out_settleOut (s : State) : s.settleOut.pst.out = s.settleOut.outState := by
  have h : ∀ t : State, t.applySafe.pst.out = t.applySafe.outState := fun _ => rfl
  exact h _

/-- The queue of commands is no part of what settles. -/
theorem Calms.withPending {s t : State} (h : Calms s t) (l : List Instr) : Calms s { { t with pending := l } with pending := s.pending } where
  calm := congrArg (fun q : State => { q with pending := s.pending }) h.calm
  rd := h.rd
  evt := h.evt
  flt := h.flt
  trc := h.trc
  trcq := h.trcq
  logq := h.logq
  rel := h.rel
  cond := h.cond

theorem ended_done (s t : State) : ∃ u, s.done t = .next u ∧ Ended s t u :=
  ⟨_, rfl, rfl, (calms_settleOut t).withPending _, out_settleOut t⟩

theorem out_steady (t : State) : t.steady.OutFollows := by
  unfold State.steady
  split_ifs with h
  · exact h
  · exact out_settleOut t

theorem calms_steady (t : State) : Calms t t.steady := .ite (.refl t) (calms_settleOut t)

theorem ended_ran (s t : State) : ∃ u, s.ran t = .next u ∧ Ended s t u :=
  ⟨_, rfl, rfl, (calms_steady t).withPending _, out_steady t⟩

namespace Ended
variable {s t u : State} (h : Ended s t u)
include h

theorem rd {a : Nat} (ha : settleTouches a = false) : u.rd a = t.rd a := h.calms.rd a ha

theorem fd {a lo w : Nat} (ha : settleTouches a = false) : u.fd a lo w = t.fd a lo w := by simp only [State.fd, h.rd ha]

theorem bit {a n : Nat} (ha : settleTouches a = false) : u.bit a n = t.bit a n := by simp only [State.bit, h.rd ha]

theorem evt {p n : Nat} (hb : t.bit (rEVT p) n = true) : u.bit (rEVT p) n = true := h.calms.evt p n hb

theorem shadow : u.shadow = t.shadow := by have e := congrArg State.shadow h.calms.calm; exact e
theorem acts : u.acts = t.acts := by have e := congrArg State.acts h.calms.calm; exact e
theorem snap : u.snap = t.snap := by have e := congrArg State.snap h.calms.calm; exact e
theorem snapB : u.snapB = t.snapB := by have e := congrArg State.snapB h.calms.calm; exact e
theorem landed : u.landed = t.landed := by have e := congrArg State.landed h.calms.calm; exact e
theorem mem : u.mem = t.mem := by have e := congrArg State.mem h.calms.calm; exact e
theorem bad : u.bad = t.bad := by have e := congrArg State.bad h.calms.calm; exact e
theorem parBad : u.parBad = t.parBad := by have e := congrArg State.parBad h.calms.calm; exact e
theorem parSet : u.parSet = t.parSet := by have e := congrArg State.parSet h.calms.calm; exact e
theorem fuses : u.fuses = t.fuses := by have e := congrArg State.fuses h.calms.calm; exact e
theorem lt : u.lt = t.lt := by have e := congrArg State.lt h.calms.calm; exact e
theorem aon : u.aon = t.aon := by have e := congrArg State.aon h.calms.calm; exact e
theorem free : u.free = t.free := by have e := congrArg State.free h.calms.calm; exact e
theorem auxGen : u.auxGen = t.auxGen := by have e := congrArg State.auxGen h.calms.calm; exact e
theorem trcGen : u.trcGen = t.trcGen := by have e := congrArg State.trcGen h.calms.calm; exact e
theorem clk : u.clk = t.clk := by have e := congrArg State.clk h.calms.calm; exact e
theorem pwr : u.pwr = t.pwr := by have e := congrArg State.pwr h.calms.calm; exact e
theorem lcs : u.lcs = t.lcs := by have e := congrArg State.lcs h.calms.calm; exact e
theorem lnk : u.lnk = t.lnk := by have e := congrArg State.lnk h.calms.calm; exact e
theorem isn : u.isn = t.isn := by have e := congrArg State.isn h.calms.calm; exact e
theorem cpu : u.cpu = t.cpu := by have e := congrArg State.cpu h.calms.calm; exact e
theorem adc : u.adc = t.adc := by have e := congrArg State.adc h.calms.calm; exact e
theorem seq : u.seq = t.seq := by have e := congrArg State.seq h.calms.calm; exact e
theorem ctl : u.ctl = t.ctl := by have e := congrArg State.ctl h.calms.calm; exact e
theorem vec : u.vec = t.vec := by have e := congrArg State.vec h.calms.calm; exact e
theorem gens : u.gens = t.gens := by have e := congrArg State.gens h.calms.calm; exact e
theorem rpts : u.rpts = t.rpts := by have e := congrArg State.rpts h.calms.calm; exact e
theorem injs : u.injs = t.injs := by have e := congrArg State.injs h.calms.calm; exact e
theorem mon : u.mon = t.mon := by have e := congrArg State.mon h.calms.calm; exact e
theorem hsp : u.hsp = t.hsp := by have e := congrArg State.hsp h.calms.calm; exact e
theorem fls : u.fls = t.fls := by have e := congrArg State.fls h.calms.calm; exact e
theorem tck_state : u.tck.state = t.tck.state := by have e := congrArg (fun q : State => q.tck.state) h.calms.calm; exact e
theorem tck_synth : u.tck.synth = t.tck.synth := by have e := congrArg (fun q : State => q.tck.synth) h.calms.calm; exact e
theorem tck_pend : u.tck.pend = t.tck.pend := by have e := congrArg (fun q : State => q.tck.pend) h.calms.calm; exact e
theorem tck_pnum : u.tck.pnum = t.tck.pnum := by have e := congrArg (fun q : State => q.tck.pnum) h.calms.calm; exact e
theorem tck_pedge : u.tck.pedge = t.tck.pedge := by have e := congrArg (fun q : State => q.tck.pedge) h.calms.calm; exact e
theorem tck_lat : u.tck.lat = t.tck.lat := by have e := congrArg (fun q : State => q.tck.lat) h.calms.calm; exact e
theorem tck_cause : u.tck.cause = t.tck.cause := by have e := congrArg (fun q : State => q.tck.cause) h.calms.calm; exact e
theorem tck_now : u.tck.now = t.tck.now := by have e := congrArg (fun q : State => q.tck.now) h.calms.calm; exact e
theorem tck_edge : u.tck.edge = t.tck.edge := by have e := congrArg (fun q : State => q.tck.edge) h.calms.calm; exact e
theorem tck_inTick : u.tck.inTick = t.tck.inTick := by have e := congrArg (fun q : State => q.tck.inTick) h.calms.calm; exact e
theorem tck_phase : u.tck.phase = t.tck.phase := by have e := congrArg (fun q : State => q.tck.phase) h.calms.calm; exact e
theorem tck_stopReq : u.tck.stopReq = t.tck.stopReq := by have e := congrArg (fun q : State => q.tck.stopReq) h.calms.calm; exact e
theorem tck_e1 : u.tck.e1 = t.tck.e1 := by have e := congrArg (fun q : State => q.tck.e1) h.calms.calm; exact e
theorem tck_ran : u.tck.ran = t.tck.ran := by have e := congrArg (fun q : State => q.tck.ran) h.calms.calm; exact e
theorem tck_budget : u.tck.budget = t.tck.budget := by have e := congrArg (fun q : State => q.tck.budget) h.calms.calm; exact e
theorem tck_step : u.tck.step = t.tck.step := by have e := congrArg (fun q : State => q.tck.step) h.calms.calm; exact e
theorem tck_evals : u.tck.evals = t.tck.evals := by have e := congrArg (fun q : State => q.tck.evals) h.calms.calm; exact e
theorem cyc_seqv : u.cyc.seqv = t.cyc.seqv := by have e := congrArg (fun q : State => q.cyc.seqv) h.calms.calm; exact e
theorem cyc_hmacv : u.cyc.hmacv = t.cyc.hmacv := by have e := congrArg (fun q : State => q.cyc.hmacv) h.calms.calm; exact e
theorem cyc_staged : u.cyc.staged = t.cyc.staged := by have e := congrArg (fun q : State => q.cyc.staged) h.calms.calm; exact e
theorem cyc_fifo : u.cyc.fifo = t.cyc.fifo := by have e := congrArg (fun q : State => q.cyc.fifo) h.calms.calm; exact e
theorem cyc_waited : u.cyc.waited = t.cyc.waited := by have e := congrArg (fun q : State => q.cyc.waited) h.calms.calm; exact e
theorem cyc_cmdq : u.cyc.cmdq = t.cyc.cmdq := by have e := congrArg (fun q : State => q.cyc.cmdq) h.calms.calm; exact e
theorem cyc_rspq : u.cyc.rspq = t.cyc.rspq := by have e := congrArg (fun q : State => q.cyc.rspq) h.calms.calm; exact e
theorem cyc_txbuf : u.cyc.txbuf = t.cyc.txbuf := by have e := congrArg (fun q : State => q.cyc.txbuf) h.calms.calm; exact e
theorem cyc_txNow : u.cyc.txNow = t.cyc.txNow := by have e := congrArg (fun q : State => q.cyc.txNow) h.calms.calm; exact e
theorem cyc_cdrop : u.cyc.cdrop = t.cyc.cdrop := by have e := congrArg (fun q : State => q.cyc.cdrop) h.calms.calm; exact e
theorem cyc_rejWhy : u.cyc.rejWhy = t.cyc.rejWhy := by have e := congrArg (fun q : State => q.cyc.rejWhy) h.calms.calm; exact e
theorem cyc_handover : u.cyc.handover = t.cyc.handover := by have e := congrArg (fun q : State => q.cyc.handover) h.calms.calm; exact e
theorem pin_vbatOk : u.pin.vbatOk = t.pin.vbatOk := by have e := congrArg (fun q : State => q.pin.vbatOk) h.calms.calm; exact e
theorem pin_vioOk : u.pin.vioOk = t.pin.vioOk := by have e := congrArg (fun q : State => q.pin.vioOk) h.calms.calm; exact e
theorem pin_vioLvl5 : u.pin.vioLvl5 = t.pin.vioLvl5 := by have e := congrArg (fun q : State => q.pin.vioLvl5) h.calms.calm; exact e
theorem pin_nresLow : u.pin.nresLow = t.pin.nresLow := by have e := congrArg (fun q : State => q.pin.nresLow) h.calms.calm; exact e
theorem pin_faultExt : u.pin.faultExt = t.pin.faultExt := by have e := congrArg (fun q : State => q.pin.faultExt) h.calms.calm; exact e
theorem pin_twsel : u.pin.twsel = t.pin.twsel := by have e := congrArg (fun q : State => q.pin.twsel) h.calms.calm; exact e
theorem pin_boot : u.pin.boot = t.pin.boot := by have e := congrArg (fun q : State => q.pin.boot) h.calms.calm; exact e
theorem pin_twselS : u.pin.twselS = t.pin.twselS := by have e := congrArg (fun q : State => q.pin.twselS) h.calms.calm; exact e
theorem pin_bootS : u.pin.bootS = t.pin.bootS := by have e := congrArg (fun q : State => q.pin.bootS) h.calms.calm; exact e
theorem pin_gpioIn : u.pin.gpioIn = t.pin.gpioIn := by have e := congrArg (fun q : State => q.pin.gpioIn) h.calms.calm; exact e
theorem pin_gpioS : u.pin.gpioS = t.pin.gpioS := by have e := congrArg (fun q : State => q.pin.gpioS) h.calms.calm; exact e
theorem pin_wake : u.pin.wake = t.pin.wake := by have e := congrArg (fun q : State => q.pin.wake) h.calms.calm; exact e
theorem pin_hspLow : u.pin.hspLow = t.pin.hspLow := by have e := congrArg (fun q : State => q.pin.hspLow) h.calms.calm; exact e
theorem pin_monLow : u.pin.monLow = t.pin.monLow := by have e := congrArg (fun q : State => q.pin.monLow) h.calms.calm; exact e
theorem pin_told : u.pin.told = t.pin.told := by have e := congrArg (fun q : State => q.pin.told) h.calms.calm; exact e
theorem pin_nresOut : u.pin.nresOut = t.pin.nresOut := by have e := congrArg (fun q : State => q.pin.nresOut) h.calms.calm; exact e
theorem twn : u.twn = t.twn := by have e := congrArg (fun q : State => q.twn) h.calms.calm; exact e
theorem pst_cprdy : u.pst.cprdy = t.pst.cprdy := by have e := congrArg (fun q : State => q.pst.cprdy) h.calms.calm; exact e
theorem pst_relWhy : u.pst.relWhy = t.pst.relWhy := by have e := congrArg (fun q : State => q.pst.relWhy) h.calms.calm; exact e
theorem pst_relReq : u.pst.relReq = t.pst.relReq := by have e := congrArg (fun q : State => q.pst.relReq) h.calms.calm; exact e
theorem pst_cbcA : u.pst.cbcA = t.pst.cbcA := by have e := congrArg (fun q : State => q.pst.cbcA) h.calms.calm; exact e
theorem pst_cbcB : u.pst.cbcB = t.pst.cbcB := by have e := congrArg (fun q : State => q.pst.cbcB) h.calms.calm; exact e
theorem pst_tripA : u.pst.tripA = t.pst.tripA := by have e := congrArg (fun q : State => q.pst.tripA) h.calms.calm; exact e
theorem pst_tripB : u.pst.tripB = t.pst.tripB := by have e := congrArg (fun q : State => q.pst.tripB) h.calms.calm; exact e
theorem pst_otw : u.pst.otw = t.pst.otw := by have e := congrArg (fun q : State => q.pst.otw) h.calms.calm; exact e
theorem pst_condL : u.pst.condL = t.pst.condL := by have e := congrArg (fun q : State => q.pst.condL) h.calms.calm; exact e
theorem pst_point : u.pst.point = t.pst.point := by have e := congrArg (fun q : State => q.pst.point) h.calms.calm; exact e
theorem pst_past : u.pst.past = t.pst.past := by have e := congrArg (fun q : State => q.pst.past) h.calms.calm; exact e
theorem pst_cmpF : u.pst.cmpF = t.pst.cmpF := by have e := congrArg (fun q : State => q.pst.cmpF) h.calms.calm; exact e
theorem pst_tripKA : u.pst.tripKA = t.pst.tripKA := by have e := congrArg (fun q : State => q.pst.tripKA) h.calms.calm; exact e
theorem pst_tripKB : u.pst.tripKB = t.pst.tripKB := by have e := congrArg (fun q : State => q.pst.tripKB) h.calms.calm; exact e
theorem slf_mem : u.slf.mem = t.slf.mem := by have e := congrArg (fun q : State => q.slf.mem) h.calms.calm; exact e
theorem slf_ana : u.slf.ana = t.slf.ana := by have e := congrArg (fun q : State => q.slf.ana) h.calms.calm; exact e
theorem slf_busy : u.slf.busy = t.slf.busy := by have e := congrArg (fun q : State => q.slf.busy) h.calms.calm; exact e
theorem slf_refWhy : u.slf.refWhy = t.slf.refWhy := by have e := congrArg (fun q : State => q.slf.refWhy) h.calms.calm; exact e
theorem slf_decayCt : u.slf.decayCt = t.slf.decayCt := by have e := congrArg (fun q : State => q.slf.decayCt) h.calms.calm; exact e
theorem slf_spares : u.slf.spares = t.slf.spares := by have e := congrArg (fun q : State => q.slf.spares) h.calms.calm; exact e
theorem slf_sRow : u.slf.sRow = t.slf.sRow := by have e := congrArg (fun q : State => q.slf.sRow) h.calms.calm; exact e
theorem slf_fBlk : u.slf.fBlk = t.slf.fBlk := by have e := congrArg (fun q : State => q.slf.fBlk) h.calms.calm; exact e
theorem slf_lPos : u.slf.lPos = t.slf.lPos := by have e := congrArg (fun q : State => q.slf.lPos) h.calms.calm; exact e
theorem slf_regf : u.slf.regf = t.slf.regf := by have e := congrArg (fun q : State => q.slf.regf) h.calms.calm; exact e
theorem trc_wrapped : u.trc.wrapped = t.trc.wrapped := by have e := congrArg (fun q : State => q.trc.wrapped) h.calms.calm; exact e
theorem trc_retd : u.trc.retd = t.trc.retd := by have e := congrArg (fun q : State => q.trc.retd) h.calms.calm; exact e
theorem trc_disarmed : u.trc.disarmed = t.trc.disarmed := by have e := congrArg (fun q : State => q.trc.disarmed) h.calms.calm; exact e
theorem trc_ram : u.trc.ram = t.trc.ram := by have e := congrArg (fun q : State => q.trc.ram) h.calms.calm; exact e
theorem trc_wptr : u.trc.wptr = t.trc.wptr := by have e := congrArg (fun q : State => q.trc.wptr) h.calms.calm; exact e
theorem trc_start : u.trc.start = t.trc.start := by have e := congrArg (fun q : State => q.trc.start) h.calms.calm; exact e
theorem trc_armCount : u.trc.armCount = t.trc.armCount := by have e := congrArg (fun q : State => q.trc.armCount) h.calms.calm; exact e
theorem trc_prev : u.trc.prev = t.trc.prev := by have e := congrArg (fun q : State => q.trc.prev) h.calms.calm; exact e
theorem log_ring : u.log.ring = t.log.ring := by have e := congrArg (fun q : State => q.log.ring) h.calms.calm; exact e
theorem log_wptr : u.log.wptr = t.log.wptr := by have e := congrArg (fun q : State => q.log.wptr) h.calms.calm; exact e
theorem log_wrapped : u.log.wrapped = t.log.wrapped := by have e := congrArg (fun q : State => q.log.wrapped) h.calms.calm; exact e
theorem log_held : u.log.held = t.log.held := by have e := congrArg (fun q : State => q.log.held) h.calms.calm; exact e
theorem log_pbuf : u.log.pbuf = t.log.pbuf := by have e := congrArg (fun q : State => q.log.pbuf) h.calms.calm; exact e
theorem trc_ramS : u.trc.ramS = t.trc.ramS := by have e := congrArg (fun q : State => q.trc.ramS) h.calms.calm; exact e
theorem log_ringS : u.log.ringS = t.log.ringS := by have e := congrArg (fun q : State => q.log.ringS) h.calms.calm; exact e
theorem log_pbusy : u.log.pbusy = t.log.pbusy := by have e := congrArg (fun q : State => q.log.pbusy) h.calms.calm; exact e
theorem fmA_owner : u.fmA.owner = t.fmA.owner := by have e := congrArg (fun q : State => q.fmA.owner) h.calms.calm; exact e
theorem fmA_incomp : u.fmA.incomp = t.fmA.incomp := by have e := congrArg (fun q : State => q.fmA.incomp) h.calms.calm; exact e
theorem fmA_neg : u.fmA.neg = t.fmA.neg := by have e := congrArg (fun q : State => q.fmA.neg) h.calms.calm; exact e
theorem fmA_irng : u.fmA.irng = t.fmA.irng := by have e := congrArg (fun q : State => q.fmA.irng) h.calms.calm; exact e
theorem fmA_vrng : u.fmA.vrng = t.fmA.vrng := by have e := congrArg (fun q : State => q.fmA.vrng) h.calms.calm; exact e
theorem fmA_comprun : u.fmA.comprun = t.fmA.comprun := by have e := congrArg (fun q : State => q.fmA.comprun) h.calms.calm; exact e
theorem fmA_revrun : u.fmA.revrun = t.fmA.revrun := by have e := congrArg (fun q : State => q.fmA.revrun) h.calms.calm; exact e
theorem fmA_dwI : u.fmA.dwI = t.fmA.dwI := by have e := congrArg (fun q : State => q.fmA.dwI) h.calms.calm; exact e
theorem fmA_dwV : u.fmA.dwV = t.fmA.dwV := by have e := congrArg (fun q : State => q.fmA.dwV) h.calms.calm; exact e
theorem fmA_goodI : u.fmA.goodI = t.fmA.goodI := by have e := congrArg (fun q : State => q.fmA.goodI) h.calms.calm; exact e
theorem fmA_goodV : u.fmA.goodV = t.fmA.goodV := by have e := congrArg (fun q : State => q.fmA.goodV) h.calms.calm; exact e
theorem fmA_blank : u.fmA.blank = t.fmA.blank := by have e := congrArg (fun q : State => q.fmA.blank) h.calms.calm; exact e
theorem fmA_reqs : u.fmA.reqs = t.fmA.reqs := by have e := congrArg (fun q : State => q.fmA.reqs) h.calms.calm; exact e
theorem fmA_losing : u.fmA.losing = t.fmA.losing := by have e := congrArg (fun q : State => q.fmA.losing) h.calms.calm; exact e
theorem fmB_owner : u.fmB.owner = t.fmB.owner := by have e := congrArg (fun q : State => q.fmB.owner) h.calms.calm; exact e
theorem fmB_incomp : u.fmB.incomp = t.fmB.incomp := by have e := congrArg (fun q : State => q.fmB.incomp) h.calms.calm; exact e
theorem fmB_neg : u.fmB.neg = t.fmB.neg := by have e := congrArg (fun q : State => q.fmB.neg) h.calms.calm; exact e
theorem fmB_irng : u.fmB.irng = t.fmB.irng := by have e := congrArg (fun q : State => q.fmB.irng) h.calms.calm; exact e
theorem fmB_vrng : u.fmB.vrng = t.fmB.vrng := by have e := congrArg (fun q : State => q.fmB.vrng) h.calms.calm; exact e
theorem fmB_comprun : u.fmB.comprun = t.fmB.comprun := by have e := congrArg (fun q : State => q.fmB.comprun) h.calms.calm; exact e
theorem fmB_revrun : u.fmB.revrun = t.fmB.revrun := by have e := congrArg (fun q : State => q.fmB.revrun) h.calms.calm; exact e
theorem fmB_dwI : u.fmB.dwI = t.fmB.dwI := by have e := congrArg (fun q : State => q.fmB.dwI) h.calms.calm; exact e
theorem fmB_dwV : u.fmB.dwV = t.fmB.dwV := by have e := congrArg (fun q : State => q.fmB.dwV) h.calms.calm; exact e
theorem fmB_goodI : u.fmB.goodI = t.fmB.goodI := by have e := congrArg (fun q : State => q.fmB.goodI) h.calms.calm; exact e
theorem fmB_goodV : u.fmB.goodV = t.fmB.goodV := by have e := congrArg (fun q : State => q.fmB.goodV) h.calms.calm; exact e
theorem fmB_blank : u.fmB.blank = t.fmB.blank := by have e := congrArg (fun q : State => q.fmB.blank) h.calms.calm; exact e
theorem fmB_reqs : u.fmB.reqs = t.fmB.reqs := by have e := congrArg (fun q : State => q.fmB.reqs) h.calms.calm; exact e
theorem fmB_losing : u.fmB.losing = t.fmB.losing := by have e := congrArg (fun q : State => q.fmB.losing) h.calms.calm; exact e
theorem flt {p n : Nat} (hb : t.bit (rFLT p) n = true) : u.bit (rFLT p) n = true := h.calms.flt p n hb
theorem trcq : t.trc.queue.Sublist u.trc.queue := h.calms.trcq
theorem logq : t.log.queue <+: u.log.queue := h.calms.logq
theorem rel (hr : t.pst.rel = false) : u.pst.rel = false := h.calms.rel hr
theorem cond {n : Nat} (hn : n < 10) : u.condOn n = t.condOn n := h.calms.cond n hn

end Ended

end Sys2Proof.Machine
end

