-- ==== Sys2Proof/Laws/Write.lean ====
section
/-! SUPPORT. What the landing of a write does beside the effect of its register: the twin's record, WRITE_SHADOWED and the settling of the output state. -/

namespace Sys2Proof.Machine

/-! ## Words -/

/-- A field given its own value stands. -/
theorem setFld_fld (v : Word) (lo w : Nat) : setFld v lo w (fld v lo w) = v := by
  ext i hi
  have h : ((fld v lo w % 2 ^ w) <<< lo).testBit i = (decide (lo ≤ i) && decide (i - lo < w) && v[i]) := by
    rw [Nat.testBit_shiftLeft, fld, Nat.mod_mod, Nat.testBit_mod_two_pow, Nat.testBit_shiftRight]
    by_cases hl : lo ≤ i
    · rw [show lo + (i - lo) = i by omega]
      simp [hl, BitVec.getElem_eq_testBit_toNat]
    · simp [hl]
  have m : ((2 ^ w - 1) <<< lo).testBit i = (decide (lo ≤ i) && decide (i - lo < w)) := by
    rw [Nat.testBit_shiftLeft, Nat.testBit_two_pow_sub_one]
  have g (x : Nat) : (BitVec.ofNat 32 x)[i] = x.testBit i := by rw [← BitVec.getLsbD_eq_getElem, BitVec.getLsbD_ofNat]; simp [hi]
  simp only [setFld, maskOf, BitVec.getElem_or, BitVec.getElem_and, BitVec.getElem_not, g, h, m]
  cases decide (lo ≤ i) <;> cases decide (i - lo < w) <;> cases v[i] <;> rfl

/-- The action bits of a command that writes `b` under `k` are those bits. -/
theorem modBits (v m b k : Word) : ((v &&& ~~~m &&& ~~~k) ||| (b &&& k)) &&& m = (b &&& k) &&& m := by
  ext i hi
  simp only [BitVec.getElem_and, BitVec.getElem_or, BitVec.getElem_not]
  cases v[i] <;> cases m[i] <;> cases b[i] <;> cases k[i] <;> rfl

/-- A command that writes action bits leaves the stored bits of its register. -/
theorem mergeBits (v m b k w : Word) (hmw : m &&& w = 0#32) (hkw : k &&& w = 0#32) : mergeMask v ((v &&& ~~~m &&& ~~~k) ||| (b &&& k)) w = v := by
  unfold mergeMask
  ext i hi
  have h1 : (m &&& w)[i] = false := by rw [hmw]; simp
  have h2 : (k &&& w)[i] = false := by rw [hkw]; simp
  simp only [BitVec.getElem_and] at h1 h2
  simp only [BitVec.getElem_and, BitVec.getElem_or, BitVec.getElem_not]
  revert h1 h2
  cases v[i] <;> cases m[i] <;> cases b[i] <;> cases k[i] <;> cases w[i] <;> simp

/-! ## What the landing leaves -/

theorem Near.refl (s : State) : Near s s :=
  ⟨rfl, fun _ _ => rfl, fun _ _ h => h, fun _ _ h => h, .inl rfl, List.Sublist.refl _, List.prefix_rfl, id, fun _ _ => rfl, List.prefix_rfl, List.prefix_rfl, le_rfl⟩

theorem Near.trans {s t u : State} (h : Near s t) (k : Near t u) : Near s u where
  shape := k.shape.trans h.shape
  rd a ha := (k.rd a ha).trans (h.rd a ha)
  evt q n hb := k.evt q n (h.evt q n hb)
  flt q n hb := k.flt q n (h.flt q n hb)
  trc := by
    rcases h.trc with e | ⟨e, e'⟩ <;> rcases k.trc with f | ⟨f, f'⟩
    · exact .inl (f.trans e)
    · exact .inr ⟨e ▸ f, f'⟩
    · exact .inr ⟨e, f.trans e'⟩
    · rw [e'] at f; simp at f
  trcq := h.trcq.trans k.trcq
  logq := h.logq.trans k.logq
  rel hr := k.rel (h.rel hr)
  cond n hn := (k.cond n hn).trans (h.cond n hn)
  rspq := h.rspq.trans k.rspq
  fifo := h.fifo.trans k.fifo
  phase := h.phase.trans k.phase

theorem shape_of_calm {s t : State} (h : t.calm = s.calm) : t.shape = s.shape :=
  congrArg (fun q : State => { q with
    landed := [], snap := [], twn := { q.twn with digq := [], digKeys := [], digMark := none, dirty := [] }
    cyc := { q.cyc with rspq := [] }, hsp := { q.hsp with fifo := [] }, tck := { q.tck with phase := 0 } }) h

theorem Near.of_calms {s t : State} (h : Calms s t) : Near s t where
  shape := shape_of_calm h.calm
  rd a ha := h.rd a (by unfold landTouches at ha; simp only [Bool.or_eq_false_iff] at ha; exact ha.1)
  evt := h.evt
  flt := h.flt
  trc := h.trc
  trcq := h.trcq
  logq := h.logq
  rel := h.rel
  cond := h.cond
  rspq := by have e := congrArg (fun q : State => q.cyc.rspq) h.calm; exact (show t.cyc.rspq = s.cyc.rspq from e) ▸ List.prefix_rfl
  fifo := by have e := congrArg (fun q : State => q.hsp.fifo) h.calm; exact (show t.hsp.fifo = s.hsp.fifo from e) ▸ List.prefix_rfl
  phase := by have e := congrArg (fun q : State => q.tck.phase) h.calm; exact (show t.tck.phase = s.tck.phase from e).ge

theorem Near.of_regs {s t : State} (c : t.shape = s.shape) (h : t.regs = s.regs) (ht : t.trc = s.trc) (hl : t.log = s.log) (hp : t.pst = s.pst)
    (hc : t.cyc = s.cyc) (hh : t.hsp = s.hsp) (hk : t.tck = s.tck) : Near s t :=
  ⟨c, fun a _ => by simp only [State.rd, h], fun p n hb => by simpa only [State.bit, State.rd, h] using hb,
    fun p n hb => by simpa only [State.bit, State.rd, h] using hb, .inl (by rw [ht]), by rw [ht], by rw [hl], by rw [hp]; exact id,
    fun _ _ => by simp only [State.condOn, hp], by rw [hc], by rw [hh], by rw [hk]⟩

/-- An event of the page of a path. -/
theorem near_raise (s : State) {p : Nat} (n : Nat) (hp : p = P.CYC ∨ p = P.HSP ∨ p = P.CPU ∨ p = P.MON) : Near s (s.raise p n) where
  shape := shape_of_calm (calm_of_quiet (quiet_raise s p n))
  rd a ha := (keeps_raise s p n).rd a (by
    unfold landTouches at ha
    simp only [List.any_cons, List.any_nil, Bool.or_eq_false_iff] at ha
    rcases hp with rfl | rfl | rfl | rfl
    · exact ha.2.1.1
    · exact ha.2.2.1.1
    · exact ha.2.2.2.1.1
    · exact ha.2.2.2.2.1.1)
  evt := (keeps_raise s p n).evt
  flt q m hb := by simpa only [State.bit, (keeps_raise s p n).rd _ (rFLT_touch p q)] using hb
  trc := (keeps_raise s p n).trc
  trcq := (keeps_raise s p n).trcq
  logq := (keeps_raise s p n).logq
  rel := (keeps_raise s p n).rel
  cond m _ := by have e := congrArg (fun q : State => q.condOn m) (quiet_raise s p n); exact e
  rspq := by have e := congrArg (fun q : State => q.cyc.rspq) (quiet_raise s p n); exact (show (s.raise p n).cyc.rspq = s.cyc.rspq from e) ▸ List.prefix_rfl
  fifo := by have e := congrArg (fun q : State => q.hsp.fifo) (quiet_raise s p n); exact (show (s.raise p n).hsp.fifo = s.hsp.fifo from e) ▸ List.prefix_rfl
  phase := by have e := congrArg (fun q : State => q.tck.phase) (quiet_raise s p n); exact (show (s.raise p n).tck.phase = s.tck.phase from e).ge

theorem near_markDirty (s : State) (p : Nat) : Near s (s.markDirty p) := by
  unfold State.markDirty; split_ifs <;> exact .of_regs rfl rfl rfl rfl rfl rfl rfl rfl

theorem near_note (s : State) (w a : Nat) (d : Word) (cls : Nat) : Near s (s.note w a d cls) := by
  unfold State.note
  simp only
  have h : Near s (s.digPut (digKey cls a) (w, a, d)) := .of_regs rfl rfl rfl rfl rfl rfl rfl rfl
  split_ifs
  · split
    · exact h.trans (near_markDirty _ _)
    · exact h
  · split
    · exact h.trans (near_markDirty _ _)
    · exact .refl s
  · exact .refl s

theorem pathPage_cases (p : Path) : pathPage p = P.CYC ∨ pathPage p = P.HSP ∨ pathPage p = P.CPU ∨ pathPage p = P.MON := by
  cases p <;> decide

theorem near_shadowWr (s : State) {p : Nat} (v : Word) (hp : p = P.CYC ∨ p = P.HSP ∨ p = P.CPU ∨ p = P.MON) : Near s (s.wr (256 * p + 0xFC) v) where
  shape := rfl
  rd b hb := State.rd_wr_ne _ _ (by rintro rfl; rcases hp with rfl | rfl | rfl | rfl <;> exact absurd hb (by decide))
  evt q n hb := by
    have : rEVT q ≠ 256 * p + 0xFC := by unfold rEVT; omega
    simpa [State.bit, State.rd_wr_ne _ _ this] using hb
  flt q n hb := by
    have : rFLT q ≠ 256 * p + 0xFC := by unfold rFLT; omega
    simpa [State.bit, State.rd_wr_ne _ _ this] using hb
  trc := .inl rfl
  trcq := List.Sublist.refl _
  logq := List.prefix_rfl
  rel := id
  cond _ _ := rfl
  rspq := List.prefix_rfl
  fifo := List.prefix_rfl
  phase := le_rfl

theorem near_shadowed (s : State) (a : Nat) (w l : Path) : Near s (s.shadowed a w l) :=
  (near_shadowWr s _ (pathPage_cases l)).trans (near_raise _ _ (pathPage_cases l))

theorem near_foldl {α : Type} (l : List α) (f : State → α → State) (h : ∀ s x, Near s (f s x)) (s : State) : Near s (l.foldl f s) := by
  induction l generalizing s with
  | nil => exact .refl s
  | cons x l ih => exact (h s x).trans (ih _)

theorem near_markLanded (s : State) (p : Path) (a : Nat) : Near s (s.markLanded p a) := by
  unfold State.markLanded
  split_ifs
  · exact .refl s
  · have h (l : List Path) : Near s (l.foldl (fun s q => s.shadowed a p q) s) := near_foldl l _ (fun s q => near_shadowed s a p q) s
    have e (t : State) (x : List (Nat × Path)) (k : Near s t) : Near s { t with landed := x } := k.trans (.of_regs rfl rfl rfl rfl rfl rfl rfl rfl)
    exact e _ _ (h _)

/-- The state a write leaves is the one its register's effect leaves, but for what every landing adds. -/
theorem near_landWrite {s : State} {p : Path} {a : Nat} {v : Word} {d : RegDesc} (hw : s.wrStatus p a = 0) (hd : regDesc a = some d)
    (hf : (s.frozen && !localPage (a / 256)) = false) : Near (s.landReg p a d v).1 (s.landWrite p a v).1 := by
  unfold State.landWrite
  simp only [hw, ne_eq, not_true_eq_false, ite_false, hd, hf, Bool.false_eq_true]
  refine Near.trans ?_ (.of_calms (calms_settleOut _))
  have n1 : Near (s.landReg p a d v).1 (if (s.landReg p a d v).2 = 0 ∧ d.acc ≠ .ro then (s.landReg p a d v).1.note 4 (0x40000000 + a) v else (s.landReg p a d v).1) := by
    split_ifs
    · exact near_note _ _ _ _ _
    · exact .refl _
  have n3 (t : State) (h : Near (s.landReg p a d v).1 t) (c : Prop) [Decidable c] :
      Near (s.landReg p a d v).1 (if c then { t with snap := Sparse.erase t.snap a } else t) := by
    split_ifs
    · exact h.trans (.of_regs rfl rfl rfl rfl rfl rfl rfl rfl)
    · exact h
  have n2 (t : State) (h : Near (s.landReg p a d v).1 t) : Near (s.landReg p a d v).1 (if ((s.landReg p a d v).2 = 0 && shadowable a d) = true then t.markLanded p a else t) := by
    split_ifs
    · exact h.trans (near_markLanded _ _ _)
    · exact h
  exact n2 _ (n3 _ n1 _)

/-! ## The whole of a write command -/

theorem near_answered (s : State) (c : Cmd) (w : Nat) (v : Word) : Near s (s.answered c w v) := by
  have same {t : State} (e : t.shape = s.shape) (hr : t.regs = s.regs) (ht : t.trc = s.trc) (hl : t.log = s.log) (hp : t.pst = s.pst)
      (h1 : s.cyc.rspq <+: t.cyc.rspq) (h2 : s.hsp.fifo <+: t.hsp.fifo) (h3 : s.tck.phase ≤ t.tck.phase) : Near s t :=
    ⟨e, fun a _ => by simp only [State.rd, hr], fun p n hb => by simpa only [State.bit, State.rd, hr] using hb, fun p n hb => by simpa only [State.bit, State.rd, hr] using hb,
      .inl (by rw [ht]), by rw [ht], by rw [hl], by rw [hp]; exact id, fun _ _ => by simp only [State.condOn, hp], h1, h2, h3⟩
  unfold State.answered
  split
  · unfold State.monSpend
    split_ifs <;> first | exact .refl s | exact same rfl rfl rfl rfl rfl List.prefix_rfl List.prefix_rfl (Nat.le_add_right _ _)
  · unfold State.respond
    dsimp only
    split
    · split_ifs <;> first | exact .refl s | exact same rfl rfl rfl rfl rfl (List.prefix_append _ _) List.prefix_rfl le_rfl
    · split_ifs <;> first | exact .refl s | exact same rfl rfl rfl rfl rfl List.prefix_rfl (List.prefix_append _ _) le_rfl
    · exact .refl s

theorem Near.withPending {s t : State} (h : Near s t) (l : List Instr) : Near s { { t with pending := l } with pending := s.pending } where
  shape := congrArg (fun q : State => { q with pending := s.pending }) h.shape
  rd := h.rd
  evt := h.evt
  flt := h.flt
  trc := h.trc
  trcq := h.trcq
  logq := h.logq
  rel := h.rel
  cond := h.cond
  rspq := h.rspq
  fifo := h.fifo
  phase := h.phase

theorem landed_done {r t : State} (s : State) (h : Near r t) : ∃ u, s.done t = .next u ∧ Landed s r u :=
  ⟨_, rfl, rfl, (h.trans (.of_calms (calms_settleOut t))).withPending _, out_settleOut t⟩

/-- A write command leaves what its register's effect leaves, but for what every landing adds. -/
theorem landed_word {s : State} {path : Path} {a : Nat} {v : Word} {d : RegDesc} (h : s.Takes path a) (hd : regDesc a = some d) :
    ∃ u, s.done (s.writeWord path a v) = .next u ∧ Landed s (s.landReg path a d v).1 u := by
  have e : s.writeWord path a v = (s.landWrite path a v).1.answered ⟨path, 2, 0, a % 65536, v, 0#32⟩ (s.landWrite path a v).2 v := by simp [State.writeWord, h.1, h.2.1]
  rw [e]
  exact landed_done s ((near_landWrite h.2.2.1 hd h.2.2.2).trans (near_answered _ _ _ _))

theorem landed_bits {s : State} {path : Path} {a : Nat} {b m : Word} {d : RegDesc} (h : s.Takes path a) (hd : regDesc a = some d) (hf : s.fetchReg a = (s, s.readReg a)) :
    ∃ u, s.done (s.writeBits path a b m) = .next u ∧ Landed s (s.landReg path a d (s.modWord a b m)).1 u := by
  have e : s.writeBits path a b m = (s.landWrite path a (s.modWord a b m)).1.answered ⟨path, 3, 0, a % 65536, b, m⟩ (s.landWrite path a (s.modWord a b m)).2 (s.readReg a) := by
    simp [State.writeBits, State.landModify, h.1, h.2.1, hf]
  rw [e]
  exact landed_done s ((near_landWrite h.2.2.1 hd h.2.2.2).trans (near_answered _ _ _ _))

/-- The registers whose every write is acted on, also one that leaves their value: an idle port's settings, and LQI's threshold. -/
def rewrites (a : Nat) : Bool := a == R.LNK_PLCA || a == R.LNK_BURST || a == R.LNK_TXCFG || a == R.LNK_RXCFG || a == R.ISN_LQCFG

/-- Any other register that keeps its value starts nothing. -/
theorem putReg_self (s : State) {a : Nat} (h : rewrites a = false) : s.putReg a (s.rd a) = s := by
  unfold rewrites at h
  simp only [Bool.or_eq_false_iff, beq_eq_false_iff_ne] at h
  obtain ⟨⟨⟨⟨h1, h2⟩, h3⟩, h4⟩, h5⟩ := h
  unfold State.putReg; simp [h1, h2, h3, h4, h5]

/-- An offset of the block's own registers. -/
def ownOff (a : Nat) : Bool := a % 256 != 0x1C && a % 256 != 0x0C && a % 256 != 0x18 && a % 256 != 0x10 && a % 256 != 0x14

theorem landReg_own {s : State} {path : Path} {a : Nat} {d : RegDesc} {v : Word} (h : ownOff a = true) : s.landReg path a d v = s.landBlock path a d v := by
  unfold ownOff at h
  simp only [Bool.and_eq_true, bne_iff_ne, ne_eq] at h
  obtain ⟨⟨⟨⟨h1, h2⟩, h3⟩, h4⟩, h5⟩ := h
  simp only [State.landReg, h1, h2, h3, h4, h5, or_self, ite_false]

theorem mergeMask_zero (v w : Word) : mergeMask v w 0#32 = v := by
  ext i hi; simp only [mergeMask, BitVec.getElem_or, BitVec.getElem_and, BitVec.getElem_not, BitVec.getElem_zero]; simp

theorem keepFld_self (v : Word) (lo w : Nat) (bad : Nat → Bool) : keepFld v lo w bad v = v := by
  have e : setFld v lo w (fld v lo w) = v := setFld_fld v lo w
  unfold keepFld; split_ifs <;> simp [e]

/-- What a page accepts of a register that a command leaves as it stands. -/
def accepts (s : State) (path : Path) (a : Nat) : Prop := ∀ raw, s.accept path a (s.rd a) (s.rd a) raw = (s.rd a, none)

/-- A command that writes action bits has the action and leaves the register as it stands. -/
theorem landReg_act {s : State} {path : Path} {a : Nat} {d : RegDesc} (b k : Word) (hd : regDesc a = some d) (ho : ownOff a = true) (hw : isWindow a = false) (hp : rewrites a = false)
    (hacc : d.acc = .rw ∨ (d.acc = .lk ∧ s.openTo path (a / 256) = true)) (hm : wd d.amask &&& wd d.wmask = 0#32) (hb : k &&& wd d.wmask = 0#32)
    (ha : d.amask ≠ 0) (hr : s.readReg a = s.rd a ∨ d.wmask = 0) (hac : accepts s path a) :
    (s.landReg path a d (s.modWord a b k)).1 = s.act path a (b &&& k &&& wd d.amask) := by
  have hne : ¬(d.acc = .w1c ∨ d.acc = .wo) := by rcases hacc with e | ⟨e, _⟩ <;> simp [e]
  have em : s.modWord a b k = (s.readReg a &&& ~~~(wd d.amask) &&& ~~~k) ||| (b &&& k) := by
    unfold State.modWord; rw [hd]; simp only [if_neg hne]
  have ew : mergeMask (s.rd a) (s.modWord a b k) (wd d.wmask) = s.rd a := by
    rcases hr with e | e
    · rw [em, e]; exact mergeBits _ _ _ _ _ hm hb
    · rw [e]; exact mergeMask_zero _ _
  have en : s.landNow path a d (s.modWord a b k) = s := by
    unfold State.landNow
    have e := hac (s.modWord a b k)
    simp only [ew, e, hw, Bool.false_eq_true, ite_false, putReg_self s hp, ite_self]
  have eb : s.modWord a b k &&& wd d.amask = b &&& k &&& wd d.amask := by rw [em]; exact modBits _ _ _ _
  rw [landReg_own ho]
  unfold State.landBlock
  rcases hacc with e | ⟨e, o⟩
  · simp only [e, if_neg ha, en, eb]
  · simp only [e, o, ite_true, if_neg ha, en, eb]

/-- The same where the register is write-only. -/
theorem landReg_wo {s : State} {path : Path} {a : Nat} {d : RegDesc} (b k : Word) (hd : regDesc a = some d) (ho : ownOff a = true) (hacc : d.acc = .wo)
    (ha : d.amask ≠ 0) : (s.landReg path a d (s.modWord a b k)).1 = s.act path a (b &&& k &&& wd d.amask) := by
  have em : s.modWord a b k = b &&& k := by
    unfold State.modWord; rw [hd]; simp [hacc]
  rw [landReg_own ho, em]
  unfold State.landBlock
  simp only [hacc, if_neg ha]

theorem landReg_woWord {s : State} {path : Path} {a : Nat} {d : RegDesc} (v : Word) (ho : ownOff a = true) (hacc : d.acc = .wo)
    (ha : d.amask ≠ 0) : (s.landReg path a d v).1 = s.act path a (v &&& wd d.amask) := by
  rw [landReg_own ho]
  unfold State.landBlock
  simp only [hacc, if_neg ha]

end Sys2Proof.Machine
end

