-- ==== Sys2Proof/Laws/Command.lean ====
section
/-! SUPPORT. The commands that write action bits: each has its register's action and leaves the register as it stands. -/

namespace Sys2Proof.Machine

theorem rngFld_self (old : Word) (lo w mn mx : Nat) (b : Bool) : (rngFld old lo w mn mx (old, b)).1 = old := by
  unfold rngFld; simp only; split_ifs <;> simp [setFld_fld]

section accepts
variable (s : State) (path : Path)

theorem accepts_rstreq : accepts s path R.SYS_RSTREQ := fun _ => rfl
theorem accepts_pwr : accepts s path (rCTRL P.PWR) := fun _ => rfl
theorem accepts_lns : accepts s path (rCTRL P.LNS) := fun _ => rfl
theorem accepts_own0 : accepts s path (R.FM_OWN 0) := fun _ => rfl
theorem accepts_own1 : accepts s path (R.FM_OWN 1) := fun _ => rfl
theorem accepts_adc : accepts s path (rCTRL P.ADC) := fun _ => rfl
theorem accepts_slf : accepts s path (rCTRL P.SLF) := fun _ => rfl
theorem accepts_fls : accepts s path (rCTRL P.FLS) := fun _ => rfl
theorem accepts_pst : accepts s path (rCTRL P.PST) := fun _ => rfl
theorem accepts_cal : accepts s path (rCTRL P.CAL) := fun _ => by
  show (keepFld _ 4 2 (· == 3) _, none) = _
  rw [keepFld_self]
theorem accepts_que : accepts s path (rCTRL P.QUE) := fun _ => by
  show (if _ ∧ fld (s.rd _) 8 5 ≠ fld (s.rd _) 8 5 ∧ _ then _ else _) = _
  simp
theorem accepts_tck : accepts s path (rCTRL P.TCK) := fun _ => by
  show (if fld (keepFld (s.rd _) 0 2 (· == 3) (s.rd _)) 0 2 ≠ fld (s.rd _) 0 2 ∧ _ then _ else (keepFld _ 0 2 (· == 3) _, none)) = _
  simp [keepFld_self]
theorem accepts_lnk : accepts s path (rCTRL P.LNK) := fun _ => by
  show refuseAs P.LNK 8 (if (fld (s.rd _) 0 2 != fld (s.rd _) 0 2 || bitOf (s.rd _) 4 != bitOf (s.rd _) 4) && _ then _ else _) = _
  simp [refuseAs]
theorem accepts_isn : accepts s path (rCTRL P.ISN) := fun _ => by
  show refuseAs P.ISN 12 (if bitOf (s.rd _) 0 != bitOf (s.rd _) 0 && _ then _ else _) = _
  simp [refuseAs]
theorem accepts_seq : accepts s path (rCTRL P.SEQ) := fun _ => by
  show (if s.seqActive && keepFld _ 16 3 (decide <| 6 ≤ ·) (keepFld _ 8 2 (· == 3) (s.rd _)) != s.rd _ then _ else (keepFld _ 16 3 (decide <| 6 ≤ ·) (keepFld _ 8 2 (· == 3) (s.rd _)), none)) = _
  simp [keepFld_self]

end accepts

/-- A read of a register that may be written, the window of the sweep lists apart, moves nothing on. -/
theorem fetchReg_plain (s : State) {a : Nat} {d : RegDesc} (hd : regDesc a = some d) (hr : d.acc ≠ .ro) (hw : isWindow a = false ∨ d.acc = .wo) :
    s.fetchReg a = (s, s.readReg a) := by
  have ne (c : Nat) (hc : (regDesc c).map (·.acc) = some .ro) : a ≠ c := by
    rintro rfl
    rw [hd] at hc
    exact hr (Option.some.inj hc)
  have nw (c : Nat) (hc : isWindow c = true) (hc' : (regDesc c).map (·.acc) = some .rw) : a ≠ c := by
    rintro rfl
    rw [hd] at hc'
    rcases hw with h | h
    · simp [h] at hc
    · simp [h] at hc'
  unfold State.fetchReg
  simp only [ne R.CLK_LT_LO rfl, ne R.CLK_LT_HI rfl, ne R.CLK_HOLDT rfl, ne R.PWR_AONCNT rfl, ne (256 * P.GDR + 0x34) rfl, ne R.SYS_GPIN rfl,
    nw R.SEQ_PLO rfl rfl, nw R.SEQ_PHI rfl rfl, or_false, false_and, ite_false]

/-- A command of action bits on a register that may be read and written, or on a locked one that is open. -/
theorem landed_act {s t : State} {path : Path} {a : Nat} {b k w : Word} {d : RegDesc} (h : s.Takes path a) (hd : regDesc a = some d)
    (hacc : d.acc = .rw ∨ (d.acc = .lk ∧ s.openTo path (a / 256) = true)) (hm : wd d.amask &&& wd d.wmask = 0#32) (hb : k &&& wd d.wmask = 0#32)
    (ha : d.amask ≠ 0) (hr : s.readReg a = s.rd a ∨ d.wmask = 0) (hac : accepts s path a) (ho : ownOff a = true) (hw : isWindow a = false) (hp : rewrites a = false)
    (hv : b &&& k &&& wd d.amask = w) (hx : s.act path a w = t) :
    ∃ u, s.done (s.writeBits path a b k) = .next u ∧ Landed s t u := by
  have e := landed_bits (b := b) (m := k) h hd (fetchReg_plain s hd (by rcases hacc with e | ⟨e, _⟩ <;> simp [e]) (.inl hw))
  rwa [landReg_act b k hd ho hw hp hacc hm hb ha hr hac, hv, hx] at e

theorem landed_wo {s t : State} {path : Path} {a : Nat} {b k w : Word} {d : RegDesc} (h : s.Takes path a) (hd : regDesc a = some d)
    (hacc : d.acc = .wo) (ha : d.amask ≠ 0) (ho : ownOff a = true) (hv : b &&& k &&& wd d.amask = w) (hx : s.act path a w = t) :
    ∃ u, s.done (s.writeBits path a b k) = .next u ∧ Landed s t u := by
  have e := landed_bits (b := b) (m := k) h hd (fetchReg_plain s hd (by simp [hacc]) (.inr hacc))
  rwa [landReg_wo b k hd ho hacc ha, hv, hx] at e

theorem landed_woWord {s t : State} {path : Path} {a : Nat} {v w : Word} {d : RegDesc} (h : s.Takes path a) (hd : regDesc a = some d)
    (hacc : d.acc = .wo) (ha : d.amask ≠ 0) (ho : ownOff a = true) (hv : v &&& wd d.amask = w) (hx : s.act path a w = t) :
    ∃ u, s.done (s.writeWord path a v) = .next u ∧ Landed s t u := by
  have e := landed_word (v := v) h hd
  rwa [landReg_woWord v ho hacc ha, hv, hx] at e

/-! ## Command by command -/

theorem and_ones (v : Word) : v &&& wd 4294967295 = v := BitVec.and_allOnes

section commands
variable {s : State} {path : Path}

theorem exec_softwareReset (h : s.Opens path (R.SYS_RSTREQ)) : ∃ u, exec (.softwareReset path) s = .next u ∧ Landed s (s.sysReset 4 false false) u :=
  landed_act (b := 1#32) (k := 3#32) (w := 1#32) (d := _) h.1 rfl (.inr ⟨rfl, h.2⟩) (by decide) (by decide) (by decide) (.inl rfl) (accepts_rstreq s path) rfl rfl rfl (by decide) (rfl)

theorem exec_coreResetRequest (h : s.Opens path (R.SYS_RSTREQ)) : ∃ u, exec (.coreResetRequest path) s = .next u ∧ Landed s (s.coreResetReq) u :=
  landed_act (b := 2#32) (k := 3#32) (w := 2#32) (d := _) h.1 rfl (.inr ⟨rfl, h.2⟩) (by decide) (by decide) (by decide) (.inl rfl) (accepts_rstreq s path) rfl rfl rfl (by decide) (rfl)

theorem exec_tckArm (h : s.Takes path (rCTRL P.TCK)) : ∃ u, exec (.tckArm path) s = .next u ∧ Landed s (if s.follows then s else s.tckArm) u :=
  landed_act (b := 16#32) (k := 16#32) (w := 16#32) (d := _) h rfl (.inl rfl) (by decide) (by decide) (by decide) (.inl rfl) (accepts_tck s path) rfl rfl rfl (by decide) (rfl)

theorem exec_tckStop (h : s.Takes path (rCTRL P.TCK)) : ∃ u, exec (.tckStop path) s = .next u ∧ Landed s (if s.follows then s else s.tckStop) u :=
  landed_act (b := 32#32) (k := 32#32) (w := 32#32) (d := _) h rfl (.inl rfl) (by decide) (by decide) (by decide) (.inl rfl) (accepts_tck s path) rfl rfl rfl (by decide) (rfl)

theorem exec_mclr (h : s.Takes path (rCTRL P.TCK)) : ∃ u, exec (.mclr path) s = .next u ∧ Landed s (s.mclr) u :=
  landed_act (b := 512#32) (k := 512#32) (w := 512#32) (d := _) h rfl (.inl rfl) (by decide) (by decide) (by decide) (.inl rfl) (accepts_tck s path) rfl rfl rfl (by decide) (ite_self _)

theorem exec_safenow (h : s.Takes path (rCTRL P.PST)) : ∃ u, exec (.safenow path) s = .next u ∧ Landed s (s.stageSafe) u :=
  landed_act (b := 32#32) (k := 32#32) (w := 32#32) (d := _) h rfl (.inl rfl) (by decide) (by decide) (by decide) (.inl rfl) (accepts_pst s path) rfl rfl rfl (by decide) (rfl)

theorem exec_release (h : s.Takes path (rCTRL P.PST)) : ∃ u, exec (.release path) s = .next u ∧ Landed s (s.relAsk) u :=
  landed_act (b := 16#32) (k := 16#32) (w := 16#32) (d := _) h rfl (.inl rfl) (by decide) (by decide) (by decide) (.inl rfl) (accepts_pst s path) rfl rfl rfl (by decide) (rfl)

theorem exec_restart (h : s.Opens path (rCTRL P.LNK)) : ∃ u, exec (.restart path) s = .next u ∧ Landed s (s.portRestart) u :=
  landed_act (b := 256#32) (k := 256#32) (w := 256#32) (d := _) h.1 rfl (.inr ⟨rfl, h.2⟩) (by decide) (by decide) (by decide) (.inl rfl) (accepts_lnk s path) rfl rfl rfl (by decide) (rfl)

theorem exec_lnsClr (h : s.Takes path (rCTRL P.LNS)) : ∃ u, exec (.lnsClr path) s = .next u ∧ Landed s (s.lnsClear) u :=
  landed_act (b := 1#32) (k := 1#32) (w := 1#32) (d := _) h rfl (.inl rfl) (by decide) (by decide) (by decide) (.inl rfl) (accepts_lns s path) rfl rfl rfl (by decide) (rfl)

theorem exec_cdgStart (h : s.Takes path (rCTRL P.CDG)) : ∃ u, exec (.cdgStart path) s = .next u ∧ Landed s (s.cdgStart) u :=
  landed_wo (b := 1#32) (k := 1#32) (w := 1#32) (d := _) h rfl rfl (by decide) rfl (by decide) (rfl)

theorem exec_cdgAbort (h : s.Takes path (rCTRL P.CDG)) : ∃ u, exec (.cdgAbort path) s = .next u ∧ Landed s (s.cdgStop false) u :=
  landed_wo (b := 2#32) (k := 2#32) (w := 2#32) (d := _) h rfl rfl (by decide) rfl (by decide) (rfl)

theorem exec_loadnow (h : s.Opens path (rCTRL P.ISN)) : ∃ u, exec (.loadnow path) s = .next u ∧ Landed s (s.loadNow) u :=
  landed_act (b := 64#32) (k := 64#32) (w := 64#32) (d := _) h.1 rfl (.inr ⟨rfl, h.2⟩) (by decide) (by decide) (by decide) (.inl rfl) (accepts_isn s path) rfl rfl rfl (by decide) (rfl)

theorem exec_rcv (h : s.Opens path (rCTRL P.ISN)) : ∃ u, exec (.rcv path) s = .next u ∧ Landed s (s.rcvTrigger) u :=
  landed_act (b := 16#32) (k := 16#32) (w := 16#32) (d := _) h.1 rfl (.inr ⟨rfl, h.2⟩) (by decide) (by decide) (by decide) (.inl rfl) (accepts_isn s path) rfl rfl rfl (by decide) (rfl)

theorem exec_retrain (h : s.Opens path (rCTRL P.ISN)) : ∃ u, exec (.retrain path) s = .next u ∧ Landed s (s.portRestart) u :=
  landed_act (b := 32#32) (k := 32#32) (w := 32#32) (d := _) h.1 rfl (.inr ⟨rfl, h.2⟩) (by decide) (by decide) (by decide) (.inl rfl) (accepts_isn s path) rfl rfl rfl (by decide) (rfl)

theorem exec_iscClr (h : s.Takes path (rCTRL P.ISC)) : ∃ u, exec (.iscClr path) s = .next u ∧ Landed s (s.iscClear) u :=
  landed_wo (b := 1#32) (k := 1#32) (w := 1#32) (d := _) h rfl rfl (by decide) rfl (by decide) (rfl)

theorem exec_flush (h : s.Takes path (rCTRL P.QUE)) : ∃ u, exec (.flush path) s = .next u ∧ Landed s (s.flush) u :=
  landed_act (b := 1#32) (k := 1#32) (w := 1#32) (d := _) h rfl (.inl rfl) (by decide) (by decide) (by decide) (.inl rfl) (accepts_que s path) rfl rfl rfl (by decide) (rfl)

theorem exec_hwmclr (h : s.Takes path (rCTRL P.CPU)) : ∃ u, exec (.hwmclr path) s = .next u ∧ Landed s (s.wr R.CPU_SCREE_HWM (s.rd R.CPU_SCREE_PTR)) u :=
  landed_wo (b := 1#32) (k := 1#32) (w := 1#32) (d := _) h rfl rfl (by decide) rfl (by decide) (rfl)

theorem exec_ovrclr (h : s.Takes path (rCTRL P.CPU)) : ∃ u, exec (.ovrclr path) s = .next u ∧ Landed s ({ s with cpu := { s.cpu with ovrct := 0 } }) u :=
  landed_wo (b := 2#32) (k := 2#32) (w := 2#32) (d := _) h rfl rfl (by decide) rfl (by decide) (rfl)

theorem exec_pstart (h : s.Takes path (rCTRL P.ADC)) : ∃ u, exec (.pstart path) s = .next u ∧ Landed s (if s.seq.pwin then s.raise P.ADC 2 else s.precStart (s.fd R.ADC_PCFG 16 13)) u :=
  landed_act (b := 1#32) (k := 1#32) (w := 1#32) (d := _) h rfl (.inl rfl) (by decide) (by decide) (by decide) (.inl rfl) (accepts_adc s path) rfl rfl rfl (by decide) (rfl)

theorem exec_pstop (h : s.Takes path (rCTRL P.ADC)) : ∃ u, exec (.pstop path) s = .next u ∧ Landed s (if s.seq.pwin then s.raise P.ADC 2 else s.precStop) u :=
  landed_act (b := 2#32) (k := 2#32) (w := 2#32) (d := _) h rfl (.inl rfl) (by decide) (by decide) (by decide) (.inl rfl) (accepts_adc s path) rfl rfl rfl (by decide) (rfl)

theorem exec_calLoad (h : s.Takes path (rCTRL P.CAL)) : ∃ u, exec (.calLoad path) s = .next u ∧ Landed s (if s.direct then s.calLoad (s.rd R.CAL_LADDR).toNat false else s.raise P.CAL 2) u :=
  landed_act (b := 1#32) (k := 1#32) (w := 1#32) (d := _) h rfl (.inl rfl) (by decide) (by decide) (by decide) (.inl rfl) (accepts_cal s path) rfl rfl rfl (by decide) (rfl)

theorem exec_seqArm (h : s.Takes path (rCTRL P.SEQ)) : ∃ u, exec (.seqArm path) s = .next u ∧ Landed s (let t := s.seqArm; { t with seq := { t.seq with go := t.seq.go || (false && t.seq.state == 1), pause := t.seq.pause || false, resume := t.seq.resume || false, abort := t.seq.abort || false } }) u :=
  landed_act (b := 1#32) (k := 1#32) (w := 1#32) (d := _) h rfl (.inl rfl) (by decide) (by decide) (by decide) (.inl rfl) (accepts_seq s path) rfl rfl rfl (by decide) (rfl)

theorem exec_go (h : s.Takes path (rCTRL P.SEQ)) : ∃ u, exec (.go path) s = .next u ∧ Landed s ({ s with seq := { s.seq with go := s.seq.go || (true && s.seq.state == 1), pause := s.seq.pause || false, resume := s.seq.resume || false, abort := s.seq.abort || false } }) u :=
  landed_act (b := 2#32) (k := 2#32) (w := 2#32) (d := _) h rfl (.inl rfl) (by decide) (by decide) (by decide) (.inl rfl) (accepts_seq s path) rfl rfl rfl (by decide) (rfl)

theorem exec_pause (h : s.Takes path (rCTRL P.SEQ)) : ∃ u, exec (.pause path) s = .next u ∧ Landed s ({ s with seq := { s.seq with go := s.seq.go || (false && s.seq.state == 1), pause := s.seq.pause || true, resume := s.seq.resume || false, abort := s.seq.abort || false } }) u :=
  landed_act (b := 4#32) (k := 4#32) (w := 4#32) (d := _) h rfl (.inl rfl) (by decide) (by decide) (by decide) (.inl rfl) (accepts_seq s path) rfl rfl rfl (by decide) (rfl)

theorem exec_resume (h : s.Takes path (rCTRL P.SEQ)) : ∃ u, exec (.resume path) s = .next u ∧ Landed s ({ s with seq := { s.seq with go := s.seq.go || (false && s.seq.state == 1), pause := s.seq.pause || false, resume := s.seq.resume || true, abort := s.seq.abort || false } }) u :=
  landed_act (b := 8#32) (k := 8#32) (w := 8#32) (d := _) h rfl (.inl rfl) (by decide) (by decide) (by decide) (.inl rfl) (accepts_seq s path) rfl rfl rfl (by decide) (rfl)

theorem exec_abort (h : s.Takes path (rCTRL P.SEQ)) : ∃ u, exec (.abort path) s = .next u ∧ Landed s ({ s with seq := { s.seq with go := s.seq.go || (false && s.seq.state == 1), pause := s.seq.pause || false, resume := s.seq.resume || false, abort := s.seq.abort || true } }) u :=
  landed_act (b := 16#32) (k := 16#32) (w := 16#32) (d := _) h rfl (.inl rfl) (by decide) (by decide) (by decide) (.inl rfl) (accepts_seq s path) rfl rfl rfl (by decide) (rfl)

theorem exec_trcArm (h : s.Takes path (rCTRL P.TRC)) : ∃ u, exec (.trcArm path) s = .next u ∧ Landed s (s.trcArm) u :=
  landed_wo (b := 1#32) (k := 1#32) (w := 1#32) (d := _) h rfl rfl (by decide) rfl (by decide) (rfl)

theorem exec_trcStop (h : s.Takes path (rCTRL P.TRC)) : ∃ u, exec (.trcStop path) s = .next u ∧ Landed s (s.trcStop) u :=
  landed_wo (b := 2#32) (k := 2#32) (w := 2#32) (d := _) h rfl rfl (by decide) rfl (by decide) (rfl)

theorem exec_force (h : s.Takes path (rCTRL P.TRC)) : ∃ u, exec (.force path) s = .next u ∧ Landed s (s.trgFire 0) u :=
  landed_wo (b := 4#32) (k := 4#32) (w := 4#32) (d := _) h rfl rfl (by decide) rfl (by decide) (rfl)

theorem exec_user (h : s.Takes path (R.TRC_USER)) (v : Word) : ∃ u, exec (.user path v) s = .next u ∧ Landed s (s.trcUser path v) u :=
  landed_woWord (v := v) (w := v) (d := _) h rfl rfl (by decide) rfl (and_ones v) (rfl)

theorem exec_pair (h : s.Takes path (rCTRL P.TWN)) : ∃ u, exec (.pair path) s = .next u ∧ Landed s (s.pair) u :=
  landed_wo (b := 1#32) (k := 1#32) (w := 1#32) (d := _) h rfl rfl (by decide) rfl (by decide) (rfl)

theorem exec_unpair (h : s.Takes path (rCTRL P.TWN)) : ∃ u, exec (.unpair path) s = .next u ∧ Landed s (s.unpair) u :=
  landed_wo (b := 2#32) (k := 2#32) (w := 2#32) (d := _) h rfl rfl (by decide) rfl (by decide) (rfl)

theorem exec_resign (h : s.Takes path (rCTRL P.TWN)) : ∃ u, exec (.resign path) s = .next u ∧ Landed s (s.resign) u :=
  landed_wo (b := 4#32) (k := 4#32) (w := 4#32) (d := _) h rfl rfl (by decide) rfl (by decide) (rfl)

theorem exec_clrbkt (h : s.Takes path (rCTRL P.SLF)) : ∃ u, exec (.clrbkt path) s = .next u ∧ Landed s (((s.wr R.SLF_BKT0 0#32).wr R.SLF_BKT1 0#32).wr R.SLF_BKT2 0#32) u :=
  landed_act (b := 1024#32) (k := 1024#32) (w := 1024#32) (d := _) h rfl (.inl rfl) (by decide) (by decide) (by decide) (.inl rfl) (accepts_slf s path) rfl rfl rfl (by decide) (rfl)

theorem exec_fuse (h : s.Takes path (rCTRL P.SLF)) : ∃ u, exec (.fuse path) s = .next u ∧ Landed s (s.fuseBurn) u :=
  landed_act (b := 512#32) (k := 512#32) (w := 512#32) (d := _) h rfl (.inl rfl) (by decide) (by decide) (by decide) (.inl rfl) (accepts_slf s path) rfl rfl rfl (by decide) (rfl)

theorem exec_chreq (h : s.Takes path (rCTRL P.LCS)) : ∃ u, exec (.chreq path) s = .next u ∧ Landed s (s.newChallenge) u :=
  landed_wo (b := 1#32) (k := 1#32) (w := 1#32) (d := _) h rfl rfl (by decide) rfl (by decide) (rfl)

theorem exec_lcsCmd (h : s.Takes path (R.LCS_CMD)) (v : Word) : ∃ u, exec (.lcsCmd path v) s = .next u ∧ Landed s (s.lcsCmd path (v &&& 0xFFFF0007#32)) u :=
  landed_woWord (v := v) (w := v &&& 0xFFFF0007#32) (d := _) h rfl rfl (by decide) rfl (rfl) (rfl)

theorem exec_logClr (h : s.Takes path (rCTRL P.LOG)) : ∃ u, exec (.logClr path) s = .next u ∧ Landed s (s.logClear) u :=
  landed_wo (b := 1#32) (k := 1#32) (w := 1#32) (d := _) h rfl rfl (by decide) rfl (by decide) (rfl)

theorem exec_pflush (h : s.Takes path (rCTRL P.LOG)) : ∃ u, exec (.pflush path) s = .next u ∧ Landed s (s.pflush) u :=
  landed_wo (b := 2#32) (k := 2#32) (w := 2#32) (d := _) h rfl rfl (by decide) rfl (by decide) (rfl)

theorem exec_logUser (h : s.Takes path (R.LOG_USER)) (v : Word) : ∃ u, exec (.logUser path v) s = .next u ∧ Landed s (s.logUser path v) u :=
  landed_woWord (v := v) (w := v) (d := _) h rfl rfl (by decide) rfl (and_ones v) (rfl)

theorem exec_resync (h : s.Takes path (rCTRL P.MON)) : ∃ u, exec (.resync path) s = .next u ∧ Landed s ({ s with mon := { s.mon with synced := false } }) u :=
  landed_wo (b := 1#32) (k := 1#32) (w := 1#32) (d := _) h rfl rfl (by decide) rfl (by decide) (rfl)

theorem exec_program (h : s.Opens path (rCTRL P.FLS)) : ∃ u, exec (.program path) s = .next u ∧ Landed s (s.flsOp 1) u :=
  landed_act (b := 1#32) (k := 3#32) (w := 1#32) (d := _) h.1 rfl (.inr ⟨rfl, h.2⟩) (by decide) (by decide) (by decide) (.inl rfl) (accepts_fls s path) rfl rfl rfl (by decide) (rfl)

theorem exec_erase (h : s.Opens path (rCTRL P.FLS)) : ∃ u, exec (.erase path) s = .next u ∧ Landed s (s.flsOp 2) u :=
  landed_act (b := 2#32) (k := 3#32) (w := 2#32) (d := _) h.1 rfl (.inr ⟨rfl, h.2⟩) (by decide) (by decide) (by decide) (.inl rfl) (accepts_fls s path) rfl rfl rfl (by decide) (rfl)

theorem exec_ownReq0 (h : s.Takes path (R.FM_OWN 0)) : ∃ u, exec (.ownReq path 0) s = .next u ∧ Landed s (s.ownReq 0 path) u :=
  landed_act (b := 1#32) (k := 1#32) (w := 1#32) (d := _) h rfl (.inl rfl) (by decide) (by decide) (by decide) (.inl rfl) (accepts_own0 s path) rfl rfl rfl (by decide) (rfl)

theorem exec_ownRel0 (h : s.Takes path (R.FM_OWN 0)) : ∃ u, exec (.ownRel path 0) s = .next u ∧ Landed s (s.ownRel 0 path) u :=
  landed_act (b := 2#32) (k := 2#32) (w := 2#32) (d := _) h rfl (.inl rfl) (by decide) (by decide) (by decide) (.inl rfl) (accepts_own0 s path) rfl rfl rfl (by decide) (rfl)

theorem exec_ownReq1 (h : s.Takes path (R.FM_OWN 1)) : ∃ u, exec (.ownReq path 1) s = .next u ∧ Landed s (s.ownReq 1 path) u :=
  landed_act (b := 1#32) (k := 1#32) (w := 1#32) (d := _) h rfl (.inl rfl) (by decide) (by decide) (by decide) (.inl rfl) (accepts_own1 s path) rfl rfl rfl (by decide) (rfl)

theorem exec_ownRel1 (h : s.Takes path (R.FM_OWN 1)) : ∃ u, exec (.ownRel path 1) s = .next u ∧ Landed s (s.ownRel 1 path) u :=
  landed_act (b := 2#32) (k := 2#32) (w := 2#32) (d := _) h rfl (.inl rfl) (by decide) (by decide) (by decide) (.inl rfl) (accepts_own1 s path) rfl rfl rfl (by decide) (rfl)

theorem exec_jumpClear (h : s.Takes path (R.SEQ_JUMP)) : ∃ u, exec (.jumpClear path) s = .next u ∧ Landed s ({ s with seq := { s.seq with jreq := some .clear } }) u :=
  landed_woWord (v := 0x40000000#32) (w := 0x40000000#32) (d := _) h rfl rfl (by decide) rfl (rfl) (rfl)

end commands

end Sys2Proof.Machine
end

