-- ==== Sys2Proof/Laws/Issue.lean ====
section
/-! SUPPORT. What issuing an instruction does beside the instruction's effect. -/

namespace Sys2Proof.Machine

/-! ## The output state stays as Table 9-3 gives it -/

theorem out_congr {s t : State} (o : s.OutFollows) (hp : t.pst = s.pst) (hw : t.pwr = s.pwr) (h1 : t.tck.state = s.tck.state) (h2 : t.tck.inTick = s.tck.inTick)
    (hb : t.rd (rCTRL P.TCK) = s.rd (rCTRL P.TCK)) : t.OutFollows := by
  unfold State.OutFollows State.outState State.ticking State.bench State.fd at *
  rw [hp, hw, h1, h2, hb, o]

section routes
variable {up : Up} (h : ∀ s p n, State.OutFollows s → (up s p n).OutFollows)
include h

theorem out_queueRoute (s : State) (p n l : Nat) (o : s.OutFollows) : (s.queueRoute up p n l).OutFollows := by
  unfold State.queueRoute
  split_ifs
  · exact o
  · exact h _ _ _ (out_congr o rfl rfl rfl rfl (State.rd_wr_ne _ _ (by decide)))
  · exact out_congr o rfl rfl rfl rfl rfl

omit h in
theorem out_logTry (s : State) (k p : Nat) (a b : Word) (o : s.OutFollows) : (s.logTry k p a b).1.OutFollows := by
  unfold State.logTry; split_ifs
  · exact out_congr o rfl rfl rfl rfl (State.rd_wr_ne _ _ (by decide))
  · exact out_congr o rfl rfl rfl rfl rfl

omit h in
theorem out_trcTry (s : State) (r : BitVec 64) (o : s.OutFollows) : (s.trcTry r).1.OutFollows := by
  unfold State.trcTry; split_ifs
  · exact o
  · exact out_congr o rfl rfl rfl rfl (State.rd_wr_ne _ _ (by decide))
  · exact out_congr o rfl rfl rfl rfl rfl

theorem out_logRoute (s : State) (p n l : Nat) (o : s.OutFollows) : (s.logRoute up p n l).OutFollows := by
  unfold State.logRoute
  simp only
  split_ifs
  · exact o
  · exact h _ _ _ (out_logTry _ _ _ _ _ o)
  · exact out_logTry _ _ _ _ _ o

theorem out_traceRoute (s : State) (p n l : Nat) (o : s.OutFollows) : (s.traceRoute up p n l).OutFollows := by
  unfold State.traceRoute
  simp only
  split_ifs
  · exact h _ _ _ (out_trcTry _ _ o)
  · exact out_trcTry _ _ o
  · exact o

theorem out_trigRoute (s : State) (p n : Nat) (o : s.OutFollows) : (s.trigRoute up p n).OutFollows := by
  unfold State.trigRoute
  simp only
  by_cases hh : s.trigHit p n = true
  · rw [if_pos hh]
    have k : (if (s.trcTry (trcRec 6 s.tck.now 2)).2 then up (s.trcTry (trcRec 6 s.tck.now 2)).1 P.TRC 2 else (s.trcTry (trcRec 6 s.tck.now 2)).1).OutFollows := by
      split_ifs
      · exact h _ _ _ (out_trcTry _ _ o)
      · exact out_trcTry _ _ o
    exact h _ _ _ (out_congr k rfl rfl rfl rfl rfl)
  · rw [if_neg hh]; exact o

theorem out_safetyRoute (s : State) (l : Nat) (o : s.OutFollows) : (s.safetyRoute up l).OutFollows := by
  unfold State.safetyRoute
  simp only
  have k : ({ s.clearRel.askSafe 4 with pst := { (s.clearRel.askSafe 4).pst with out := (s.clearRel.askSafe 4).outState } } : State).OutFollows := rfl
  split_ifs
  · exact h _ _ _ k
  · exact k
  · exact o

end routes

theorem out_raiseN (k : Nat) (s : State) (p n : Nat) (o : s.OutFollows) : (s.raiseN k p n).OutFollows := by
  have w (s : State) (p : Nat) (v : Word) (o : s.OutFollows) : (s.wr (rEVT p) v).OutFollows :=
    out_congr o rfl rfl rfl rfl (State.rd_wr_ne _ _ (by unfold rEVT rCTRL; omega))
  induction k generalizing s p n with
  | zero => exact w _ _ _ o
  | succ k ih =>
    unfold State.raiseN
    simp only
    have k0 := out_trigRoute ih _ p n (w s p (setBit (s.rd (rEVT p)) n true) o)
    split_ifs
    · exact o
    · exact k0
    · exact out_safetyRoute ih _ _ (out_congr k0 rfl rfl rfl rfl rfl)
    · exact out_safetyRoute ih _ _ (out_traceRoute ih _ _ _ _ (out_logRoute ih _ _ _ _ (out_queueRoute ih _ _ _ _ k0)))

/-- Raising an event leaves the output state as Table 9-3 gives it. -/
theorem out_raise {s : State} (o : s.OutFollows) (p n : Nat) : (s.raise p n).OutFollows := out_raiseN 8 s p n o

/-! ## Time -/

theorem Keeps.of_eq {p : Nat} {s t : State} (hr : t.regs = s.regs) (ht : t.trc = s.trc) (hl : t.log = s.log) (hp : t.pst = s.pst) : Keeps p s t :=
  .of_regs hr (.inl (by rw [ht])) (by rw [ht]) (by rw [hl]) (by rw [hp]; exact id)

/-- A change of the core's own lines and of the phase. -/
theorem timed_own {s : State} (c : CpuSt) (ph : Nat) (hc : c.own = s.cpu.own) : s.Timed { s with cpu := c, tck := { s.tck with phase := ph } } where
  still := congrArg (fun c : CpuSt => ({ s.quiet with cpu := c, tck := { s.quiet.tck with phase := 0 } } : State)) hc
  keeps := .of_eq rfl rfl rfl rfl
  out o := out_congr o rfl rfl rfl rfl rfl
  calm _ := rfl

theorem State.Timed.refl (s : State) : s.Timed s := timed_own s.cpu s.tck.phase rfl

/-- The core keeps all but its own lines. -/
theorem State.Timed.psr {s t : State} (h : s.Timed t) : t.cpu.psr = s.cpu.psr := by have e := congrArg (fun q : State => q.cpu.psr) h.still; exact e
theorem State.Timed.gpr {s t : State} (h : s.Timed t) : t.cpu.gpr = s.cpu.gpr := by have e := congrArg (fun q : State => q.cpu.gpr) h.still; exact e
theorem State.Timed.pc {s t : State} (h : s.Timed t) : t.cpu.pc = s.cpu.pc := by have e := congrArg (fun q : State => q.cpu.pc) h.still; exact e
theorem State.Timed.ftop {s t : State} (h : s.Timed t) : t.cpu.ftop = s.cpu.ftop := by have e := congrArg (fun q : State => q.cpu.ftop) h.still; exact e
theorem State.Timed.res {s t : State} (h : s.Timed t) : t.cpu.res = s.cpu.res := by have e := congrArg (fun q : State => q.cpu.res) h.still; exact e
theorem State.Timed.held {s t : State} (h : s.Timed t) : t.cpu.held = s.cpu.held := by have e := congrArg (fun q : State => q.cpu.held) h.still; exact e

/-- The entries of the write buffer stand, but for the cycles they still drain. -/
theorem State.Timed.wb {s t : State} (h : s.Timed t) : t.cpu.wb.map (fun e => { e with left := 0 }) = s.cpu.wb.map (fun e => { e with left := 0 }) := by
  have e := congrArg (fun q : State => q.cpu.wb) h.still; exact e

theorem State.Timed.wb_nil {s t : State} (h : s.Timed t) (e : s.cpu.wb = []) : t.cpu.wb = [] := by
  have k := h.wb; rw [e] at k; exact List.map_eq_nil_iff.mp k
theorem State.Timed.mem {s t : State} (h : s.Timed t) : t.mem = s.mem := by have e := congrArg State.mem h.still; exact e
theorem State.Timed.pending {s t : State} (h : s.Timed t) : t.pending = s.pending := by have e := congrArg State.pending h.still; exact e

theorem State.Timed.gr {s t : State} (h : s.Timed t) (r : Fin 16) : t.gr r = s.gr r := by
  simp only [State.gr, State.grKey, State.bank, State.key, h.psr, h.gpr, h.ftop]

theorem State.Timed.trans {s t u : State} (h : s.Timed t) (k : t.Timed u) : s.Timed u where
  still := k.still.trans h.still
  keeps := h.keeps.trans k.keeps
  out o := k.out (h.out o)
  calm c := by
    have e := h.calm c
    have f := k.calm (h.psr ▸ c)
    have e1 : t.tck = { s.tck with phase := t.tck.phase } := by have x := congrArg State.tck e; exact x
    rw [f, e1]
    conv_lhs => rw [e]

theorem timed_fetch (s : State) : s.Timed s.fetchNow.1 := by
  unfold State.fetchNow
  simp only
  have own (c : CpuSt) (hc : c.own = s.cpu.own) : s.Timed { s with cpu := c } := timed_own c s.tck.phase hc
  split_ifs
  all_goals try split
  all_goals try split_ifs
  all_goals exact own _ rfl

theorem timed_resumed (s : State) : s.Timed s.resumed := timed_own { s.cpu with long := s.cpu.long && !(s.cpu.psr.lp && s.cpu.pc == s.cpu.longPc) } s.tck.phase rfl

theorem timed_overrun (s : State) (h : s.cpu.psr.crit = true) : s.Timed s.overrun := by
  unfold State.overrun
  split_ifs
  · exact .refl s
  · have k : s.Timed { s with cpu := { s.cpu with ovrThis := true, ovrct := Min.min 255 (s.cpu.ovrct + 1) } } :=
      timed_own { s.cpu with ovrThis := true, ovrct := Min.min 255 (s.cpu.ovrct + 1) } s.tck.phase rfl
    have h' : ({ s with cpu := { s.cpu with ovrThis := true, ovrct := Min.min 255 (s.cpu.ovrct + 1) } } : State).cpu.psr.crit = true := h
    generalize ({ s with cpu := { s.cpu with ovrThis := true, ovrct := Min.min 255 (s.cpu.ovrct + 1) } } : State) = t at k h' ⊢
    refine k.trans ⟨?_, keeps_raise t P.CPU 0, fun o => out_raise o _ _, fun c => by rw [h'] at c; cases c⟩
    exact congrArg (fun q : State => ({ q with cpu := q.cpu.own, tck := { q.tck with phase := 0 } } : State)) (quiet_raise t P.CPU 0)

theorem drainBy_own (l : List BufStore) (n : Nat) : (drainBy l n).map (fun e => { e with left := 0 }) = l.map fun e => { e with left := 0 } := by
  induction l generalizing n with
  | nil => rfl
  | cons e l ih => unfold drainBy; split_ifs <;> simp [ih]

theorem prefetch_own (c : CpuSt) (n : Nat) : ({ c.prefetch n with wb := drainBy c.wb n } : CpuSt).own = c.own := by
  unfold CpuSt.prefetch CpuSt.own; split
  · simp [drainBy_own]
  · split_ifs <;> simp [drainBy_own]

theorem timed_spend (s : State) (n : Nat) : s.Timed (s.spend n) := by
  unfold State.spend
  simp only
  have own : ∀ t : State, s.Timed t → s.Timed { t with cpu := { t.cpu with critLeft := t.cpu.critLeft - n } } := fun t h =>
    h.trans (timed_own { t.cpu with critLeft := t.cpu.critLeft - n } t.tck.phase rfl)
  have ho := prefetch_own s.cpu n
  generalize ({ s.cpu.prefetch n with wb := drainBy s.cpu.wb n } : CpuSt) = c at ho ⊢
  have h2 : s.Timed (if (State.budgeted { s with cpu := c }) then { s with cpu := c, tck := { s.tck with phase := s.tck.phase + n } } else { s with cpu := c }) := by
    split_ifs
    · exact timed_own c (s.tck.phase + n) ho
    · exact timed_own c s.tck.phase ho
  generalize (if (State.budgeted { s with cpu := c }) then { s with cpu := c, tck := { s.tck with phase := s.tck.phase + n } } else { s with cpu := c } : State) = t at h2 ⊢
  split_ifs with c1 c2
  · exact (own t h2).trans (timed_overrun _ c1)
  · exact own t h2
  · exact h2

/-! ## Issue -/

theorem timed_stall (s : State) (hit : Option Region) : s.Timed (s.stall hit) := by
  unfold State.stall
  split
  · exact .refl s
  · next e rest he =>
    split_ifs
    · exact timed_own { s.cpu with wb := { e with left := e.left + 1 } :: rest } s.tck.phase (by simp [CpuSt.own, he])
    · exact .refl s

/-- The write buffer after some cycles. -/
theorem spend_wb (s : State) (n : Nat) : (s.spend n).cpu.wb = drainBy s.cpu.wb n := by
  have w (t : State) : t.overrun.cpu.wb = t.cpu.wb := by
    unfold State.overrun
    split_ifs
    · rfl
    · have e := congrArg (fun q : State => q.cpu.wb) (quiet_raise ({ t with cpu := { t.cpu with ovrThis := true, ovrct := min 255 (t.cpu.ovrct + 1) } } : State) P.CPU 0)
      exact e
  unfold State.spend
  simp only
  split_ifs <;> first | rfl | exact w _

/-- Where the entry in front drains for longer, no store leaves in `n` cycles, and the entry in front drains on for the rest. -/
theorem pass_holds {s : State} {n m : Nat} (h : s.holdsStores (n + m) = true) : s.pass n = s.spend n ∧ (s.pass n).holdsStores m = true := by
  have w := spend_wb s n
  have e : s.pass n = s.spend n := by
    unfold State.pass State.storesOut
    rw [w]
    unfold State.holdsStores at h
    revert h
    cases hb : s.cpu.wb with
    | nil => intro _; rfl
    | cons x l =>
      simp only [decide_eq_true_eq]
      intro hx
      rw [hb, drainBy, if_neg (by omega)] at w
      rw [drainBy, if_neg (by omega)]
      simp only [List.length_cons, State.landDue, w]
      rw [if_neg (by omega)]
  refine ⟨e, ?_⟩
  rw [e]
  unfold State.holdsStores at h ⊢
  rw [w]
  revert h
  cases s.cpu.wb with
  | nil => intro _; rfl
  | cons x l =>
    simp only [decide_eq_true_eq]
    intro hx
    rw [drainBy, if_neg (by omega)]
    simp only [decide_eq_true_eq]
    omega

theorem stall_holds {s : State} {n : Nat} (hit : Option Region) (h : s.holdsStores n = true) : (s.stall hit).holdsStores n = true := by
  unfold State.stall
  split
  · exact h
  · next e rest he =>
    split_ifs
    · unfold State.holdsStores at h ⊢
      simp only [he, decide_eq_true_eq] at h ⊢
      omega
    · exact h

theorem fetch_clocks (s : State) (n : Nat) : s.fetchNow.1.overruns n = s.overruns n ∧ s.fetchNow.1.tooLong n = s.tooLong n ∧ s.fetchNow.1.holdsStores n = s.holdsStores n := by
  have k (c : CpuSt) (h1 : c.psr = s.cpu.psr) (h2 : c.critLeft = s.cpu.critLeft) (h3 : c.wb = s.cpu.wb) :
      ({ s with cpu := c } : State).overruns n = s.overruns n ∧ ({ s with cpu := c } : State).tooLong n = s.tooLong n ∧
        ({ s with cpu := c } : State).holdsStores n = s.holdsStores n := by
    refine ⟨?_, ?_, ?_⟩
    · show (!c.psr.crit && (s.budgeted && decide (s.tck.phase + n > s.budgetEnd))) = _
      rw [h1]; rfl
    · show (c.psr.crit && decide (n > if s.budgeted then min c.critLeft (s.guardG - 1 - s.tck.phase) else c.critLeft)) = _
      rw [h1, h2]; rfl
    · show (match c.wb with | [] => true | e :: _ => decide (n < e.left)) = _
      rw [h3]; rfl
  unfold State.fetchNow
  simp only
  split_ifs
  all_goals try split
  all_goals try split_ifs
  all_goals exact k _ rfl rfl rfl

theorem overruns_mono {s : State} {m n : Nat} (h : s.overruns n = false) (k : m ≤ n) : s.overruns m = false := by
  unfold State.overruns State.past at h ⊢
  rw [Bool.and_eq_false_iff, Bool.and_eq_false_iff] at h ⊢
  refine h.imp id fun h => h.imp id fun h => ?_
  simp only [decide_eq_false_iff_not] at h ⊢
  omega

theorem tooLong_mono {s : State} {m n : Nat} (h : s.tooLong n = false) (k : m ≤ n) : s.tooLong m = false := by
  unfold State.tooLong at h ⊢
  rw [Bool.and_eq_false_iff] at h ⊢
  refine h.imp id fun h => ?_
  simp only [decide_eq_false_iff_not] at h ⊢
  omega

theorem held_of_canIssue {s : State} (h : s.canIssue = true) : s.cpu.held = false := by
  unfold State.canIssue at h
  simp only [Bool.and_eq_true, decide_eq_true_eq] at h
  unfold State.boundary at h
  by_contra hh
  have : s.coreOn = false := by unfold State.coreOn; simp [hh]
  simp [this] at h

/-- Work that retires has its effect on a state in which only its time has passed, where no store leaves meanwhile. -/
theorem retire_run {s : State} {w n : Nat} {hit : Option Region} {drop : Nat → State → State} {f : State → State} (h0 : s.cpu.held = false) (h1 : s.overruns (w + n) = false)
    (h2 : s.tooLong (w + n) = false) (h3 : s.holdsStores (w + n) = true) : ∃ t, s.Timed t ∧ s.retire w n hit drop f = f t := by
  have a := timed_resumed s
  have p0 := pass_holds (s := s.resumed) (n := w) (m := n) h3
  have b : s.Timed (s.resumed.pass w) := a.trans (by rw [p0.1]; exact timed_spend _ _)
  have p1 := pass_holds (s := (s.resumed.pass w).stall hit) (n := n) (m := 0) (by exact stall_holds hit p0.2)
  have c : s.Timed (((s.resumed.pass w).stall hit).pass n) := (b.trans (timed_stall _ hit)).trans (by rw [p1.1]; exact timed_spend _ _)
  refine ⟨_, c, ?_⟩
  unfold State.retire
  have d0 : (s.resumed.pass w).cpu.held = false := b.held.trans h0
  have d1 : (((s.resumed.pass w).stall hit).pass n).cpu.held = false := c.held.trans h0
  simp only [h1, h2, State.unlessReset, d0, d1, Bool.false_eq_true, ite_false]

theorem holdsStores_mono {s : State} {m n : Nat} (h : s.holdsStores n = true) (k : m ≤ n) : s.holdsStores m = true := by
  unfold State.holdsStores at h ⊢
  split at h
  · rfl
  · simp only [decide_eq_true_eq] at h ⊢; omega

/-- An instruction that issues and retires has its effect on a state in which only its time has passed. -/
theorem issue_run {s : State} {plan : State → Act} {cyc : Nat} {sp : Bool} {f : State → State} (h : s.Runs cyc) (hp : plan s = .run cyc sp f) :
    ∃ t, s.Timed t ∧ s.issue plan = f t := by
  obtain ⟨⟨h1, h2, h3⟩, h4⟩ := h
  have k := fetch_clocks s (s.fetchNow.2 + cyc)
  obtain ⟨t, ht, e⟩ := retire_run (s := s.fetchNow.1) (w := 0) (n := s.fetchNow.2 + cyc) (hit := none) (drop := fun n t => t.dropSpill sp (n - s.fetchNow.2)) (f := f)
    (by rw [(timed_fetch s).held]; exact held_of_canIssue h1) (by rw [Nat.zero_add, k.1]; exact h2) (by rw [Nat.zero_add, k.2.1]; exact h3)
    (by rw [Nat.zero_add, k.2.2]; exact h4)
  refine ⟨t, (timed_fetch s).trans ht, ?_⟩
  rw [← e]
  unfold State.issue
  simp only [h1, ite_true, overruns_mono h2 (Nat.le_add_right _ _), tooLong_mono h3 (Nat.le_add_right _ _), holdsStores_mono h4 (Nat.le_add_right _ _), hp, State.perform, Bool.false_eq_true, ite_false]

/-- An instruction that first waits for the write buffer has its effect likewise, where it has nothing to wait for. -/
theorem issue_after {s : State} {plan : State → Act} {cyc : Nat} {hit : Option Region} {lg : Bool} {f : State → State} (h : s.Runs cyc)
    (hp : plan s = .after 0 cyc hit lg f) : ∃ t, s.Timed t ∧ s.issue plan = f t := by
  obtain ⟨⟨h1, h2, h3⟩, h4⟩ := h
  have k := fetch_clocks s (s.fetchNow.2 + cyc)
  obtain ⟨t, ht, e⟩ := retire_run (s := s.fetchNow.1) (w := s.fetchNow.2) (n := cyc) (hit := hit) (drop := fun _ t => if lg then t.longHeld else t) (f := f)
    (by rw [(timed_fetch s).held]; exact held_of_canIssue h1) (by rw [k.1]; exact h2) (by rw [k.2.1]; exact h3) (by rw [k.2.2]; exact h4)
  refine ⟨t, (timed_fetch s).trans ht, ?_⟩
  rw [← e]
  unfold State.issue
  simp only [h1, ite_true, overruns_mono h2 (Nat.le_add_right _ _), tooLong_mono h3 (Nat.le_add_right _ _), holdsStores_mono h4 (Nat.le_add_right _ _), hp, State.perform, Nat.max_zero, Bool.false_eq_true, ite_false]

/-- A command of the core answers its effect with the output state settled. -/
theorem ended_issue {s : State} {plan : State → Act} {cyc : Nat} {sp : Bool} {f : State → State} (h : s.Runs cyc) (hp : plan s = .run cyc sp f) :
    ∃ t, s.Timed t ∧ ∃ u, s.ran (s.issue plan) = .next u ∧ Ended s (f t) u := by
  obtain ⟨t, ht, e⟩ := issue_run h hp
  exact ⟨t, ht, by rw [e]; exact ended_ran s (f t)⟩

/-- Where the output state stays as Table 9-3 gives it, the effect is all. -/
theorem ran_steady {s t : State} (o : t.OutFollows) (hp : t.pending = s.pending) : s.ran t = .next t := by
  have e : t.steady = t := if_pos o
  unfold State.ran
  rw [e, ← hp]

/-- An effect on the core alone leaves the output state. -/
theorem out_cpu {t : State} (o : t.OutFollows) (c : CpuSt) : ({ t with cpu := c } : State).OutFollows := out_congr o rfl rfl rfl rfl rfl

/-- An instruction whose effect is on the core alone answers just that effect. -/
theorem ran_issue {s : State} {plan : State → Act} {cyc : Nat} {sp : Bool} {f : State → State} (o : s.OutFollows) (h : s.Runs cyc) (hp : plan s = .run cyc sp f)
    (hf : ∀ t, f t = { t with cpu := (f t).cpu }) : ∃ t, s.Timed t ∧ s.ran (s.issue plan) = .next (f t) := by
  obtain ⟨t, ht, e⟩ := issue_run h hp
  refine ⟨t, ht, ?_⟩
  rw [e]
  have ho : (f t).OutFollows := by rw [hf t]; exact out_cpu (ht.out o) _
  exact ran_steady ho (by rw [hf t]; exact ht.pending)

end Sys2Proof.Machine
end

