-- ==== Sys2Proof/Laws/Memory.lean ====
section
/-! SUPPORT. Every operation on memory keeps its canonical form, and a read after a store. -/

namespace Sys2Proof.Machine

theorem Sparse.above_filter {α : Type} (k : Nat) (f : Nat × α → Bool) (l : List (Nat × α)) (h : Sparse.above k l = true) : Sparse.above k (l.filter f) = true := by
  induction l with
  | nil => rfl
  | cons e t ih =>
    simp only [Sparse.above, Bool.and_eq_true] at h
    rw [List.filter_cons]
    split_ifs
    · simp [Sparse.above, h.1, ih h.2]
    · exact ih h.2

/-- What is left of a canonical list is canonical, also for another default that agrees where entries are left. -/
theorem Sparse.wf_filter {α : Type} [DecidableEq α] {d e : Nat → α} {f : Nat × α → Bool} {l : List (Nat × α)} (h : Sparse.wf d l = true)
    (hd : ∀ k v, f (k, v) = true → e k = d k) : Sparse.wf e (l.filter f) = true := by
  induction l with
  | nil => rfl
  | cons x t ih =>
    obtain ⟨k, v⟩ := x
    simp only [Sparse.wf, Bool.and_eq_true, decide_eq_true_eq] at h
    rw [List.filter_cons]
    split_ifs with hf
    · simp [Sparse.wf, Sparse.above_filter k f t h.1.1, ih h.2, hd k v hf, h.1.2]
    · exact ih h.2

/-- A key that is kept is found as before. -/
theorem Sparse.find_filter {α : Type} {f : Nat × α → Bool} {l : List (Nat × α)} {k : Nat} (h : ∀ v, f (k, v) = true) :
    Sparse.find (l.filter f) k = Sparse.find l k := by
  induction l with
  | nil => rfl
  | cons x t ih =>
    obtain ⟨j, v⟩ := x
    rw [List.filter_cons]
    by_cases hj : j = k
    · subst hj; simp [h v, Sparse.find]
    · split_ifs <;> simp [Sparse.find, hj, ih]

variable {s : State}

theorem quiet_mem {s t : State} (h : t.quiet = s.quiet) : t.mem = s.mem ∧ t.auxGen = s.auxGen :=
  ⟨by have e := congrArg State.mem h; exact e, by have e := congrArg State.auxGen h; exact e⟩

theorem memWf_congr {s t : State} (hm : t.mem = s.mem) (ha : t.auxGen = s.auxGen) (h : s.memWf = true) : t.memWf = true := by
  unfold State.memWf at *; rwa [hm, ha]

theorem memWf_note (h : s.memWf = true) (w a : Nat) (d : Word) (cls : Nat) : (s.note w a d cls).memWf = true := by
  have m (t : State) (p : Nat) : (t.markDirty p).mem = t.mem ∧ (t.markDirty p).auxGen = t.auxGen := by
    unfold State.markDirty; split_ifs <;> exact ⟨rfl, rfl⟩
  unfold State.note
  simp only
  split_ifs
  · split
    · exact memWf_congr (m _ _).1 (m _ _).2 h
    · exact h
  · split
    · exact memWf_congr (m _ _).1 (m _ _).2 h
    · exact h
  · exact h

theorem memWf_putMem (h : s.memWf = true) (a w : Nat) (v : Word) (cls : Nat) : (s.putMem a w v cls).memWf = true := by
  unfold State.putMem
  simp only
  have h1 := State.wrN_memWf h a v.toNat w
  apply memWf_note
  split_ifs <;> exact h1

theorem memWf_memStore (h : s.memWf = true) (a w : Nat) (v : Word) : (s.memStore a w v).memWf = true :=
  memWf_putMem (s := { s with snapB := (List.range w).foldl (fun l i => Sparse.erase l (a + i)) s.snapB }) h a w _ 2

theorem memWf_hwStore (h : s.memWf = true) (a : Nat) (v : Word) : (s.hwStore a v).memWf = true := by
  unfold State.hwStore
  simp only
  apply memWf_putMem
  split_ifs <;> exact h

theorem memWf_wrW (h : s.memWf = true) (a : Nat) (v : Word) : (s.wrW a v).memWf = true := State.wrN_memWf h a _ 4

theorem memWf_eraseFlash (h : s.memWf = true) (a n : Nat) : (s.eraseFlash a n).memWf = true := Sparse.wf_filter h fun _ _ _ => rfl

theorem memWf_programLine (h : s.memWf = true) (a : Nat) (l : List Word) : (s.programLine a l).memWf = true := by
  unfold State.programLine
  have g (l : List Word) (p : State × Nat) (h : p.1.memWf = true) :
      (l.foldl (fun (p : State × Nat) w => (p.1.wrW p.2 w, p.2 + 4)) p).1.memWf = true := by
    induction l generalizing p with
    | nil => exact h
    | cons w l ih => exact ih _ (memWf_wrW h _ _)
  exact g l _ h

/-- Flash, SRAM that is kept and RAM whose content is not lost read as before when the generation of lost contents moves on. -/
theorem ramByte_kept (g g' a : Nat) (h : inPflash a = true ∨ inDflash a = true ∨ inSram a = true ∨ g' = g) : ramByte g' a = ramByte g a := by
  rcases h with h | h | h | rfl
  · unfold ramByte; simp [h]
  · unfold ramByte; simp [h]
  · unfold ramByte; simp [h]
  · rfl

theorem fuseLoad_mem (s : State) : s.fuseLoad.mem = s.mem ∧ s.fuseLoad.auxGen = s.auxGen := by
  unfold State.fuseLoad
  simp only
  split_ifs
  · have q (t : State) (d0 d1 : Word) : ((t.raise P.LCS 2).logPush 8 P.LCS d0 d1).mem = t.mem ∧ ((t.raise P.LCS 2).logPush 8 P.LCS d0 d1).auxGen = t.auxGen :=
      quiet_mem ((quiet_logPush _ _ _ _ _).trans (quiet_raise _ _ _))
    exact q _ _ _
  · exact ⟨rfl, rfl⟩

theorem flashCut_mem (s : State) : s.flashCut.mem = s.mem ∧ s.flashCut.auxGen = s.auxGen := by
  unfold State.flashCut
  split <;> exact ⟨rfl, rfl⟩

/-- The memory a system reset keeps reads as before. -/
theorem rdB_sysReset (s : State) (c : Nat) (por wake : Bool) (a : Nat)
    (h : inPflash a = true ∨ inDflash a = true ∨ (inSram a = true ∧ wake = true ∧ s.bit (rCTRL P.PWR) 4 = true) ∨
      ((inList a = true ∨ inBin a = true) ∧ por = false ∧ wake = false)) :
    (s.sysReset c por wake).rdB a = s.rdB a := by
  have hb : s.flashCut.bit (rCTRL P.PWR) 4 = s.bit (rCTRL P.PWR) 4 := by unfold State.flashCut; split <;> rfl
  unfold State.sysReset State.rdB Sparse.get
  simp only [fuseLoad_mem]
  have hk : ∀ x : Byte, (inPflash a || inDflash a || (inSram a && (wake && s.flashCut.bit (rCTRL P.PWR) 4)) || (inList a || inBin a) && !(por || wake)) = true := by
    intro _; rw [hb]
    rcases h with h | h | ⟨h, h', h''⟩ | ⟨h | h, h', h''⟩ <;> simp [*]
  have hg : ramByte (s.flashCut.auxGen + (por || wake).toNat) a = ramByte s.auxGen a := by
    rw [(flashCut_mem s).2]
    apply ramByte_kept
    rcases h with h | h | ⟨h, _⟩ | ⟨_, h', h''⟩
    · exact .inl h
    · exact .inr (.inl h)
    · exact .inr (.inr (.inl h))
    · exact .inr (.inr (.inr (by simp [h', h''])))
  split_ifs <;> (
    show (Sparse.find (List.filter _ s.flashCut.mem) a).getD (ramByte (s.flashCut.auxGen + (por || wake).toNat) a) = _
    rw [Sparse.find_filter hk, hg, (flashCut_mem s).1])

/-- A system reset keeps memory's canonical form. -/
theorem memWf_sysReset (h : s.memWf = true) (c : Nat) (por wake : Bool) : (s.sysReset c por wake).memWf = true := by
  have hc : s.flashCut.memWf = true := memWf_congr (flashCut_mem s).1 (flashCut_mem s).2 h
  unfold State.sysReset
  refine memWf_congr (fuseLoad_mem _).1 (fuseLoad_mem _).2 ?_
  have g : ∀ f : Nat × Byte → Bool,
      (∀ k v, f (k, v) = true → inPflash k = true ∨ inDflash k = true ∨ inSram k = true ∨ s.flashCut.auxGen + (por || wake).toNat = s.flashCut.auxGen) →
      Sparse.wf (ramByte (s.flashCut.auxGen + (por || wake).toNat)) (s.flashCut.mem.filter f) = true :=
    fun f hf => Sparse.wf_filter hc fun k v hv => ramByte_kept _ _ _ (hf k v hv)
  simp only
  split_ifs <;> (
    refine g _ fun k v hv => ?_
    simp only [Bool.or_eq_true, Bool.and_eq_true] at hv
    rcases hv with ((hv | hv) | ⟨hv, _⟩) | ⟨_, hv⟩
    · exact .inl hv
    · exact .inr (.inl hv)
    · exact .inr (.inr (.inl hv))
    · refine .inr (.inr (.inr ?_)); revert hv; cases por <;> cases wake <;> simp)

theorem reset_memWf : State.reset.memWf = true := rfl

end Sys2Proof.Machine
end

