-- ==== Sys2Proof/Machine/Wave.lean ====
section
/-! DEFINITION. The Isinasia signal of the symbols State holds (R215 to R218, R250, R279): samples at 40 MS/s as real numbers, from the carrier values the last superframe was
sent with. No command reads a sample, so that nothing here runs; the definitions say what stands on the line. -/

namespace Sys2Proof.Machine

/-- Line-time units from the start of a superframe to its sample `n`: 2 samples in 5 units (Table 5-1). -/
def sampleUnits (n : Nat) : Nat := 5 * n / 2

/-- The launch constant A in µV: 20.9 to 25.5 mV (Table 17-8); where in that range it lies is a free value. -/
def launchMicrovolts : Nat := 20900 + Config.launch % 4601

/-- A in volts. -/
noncomputable def launch : ℝ := (launchMicrovolts : ℝ) / 1000000

/-- The divisor of a carrier's levels, sqrt((M_I² − 1 + M_Q² − 1) ÷ 3) (R218). -/
noncomputable def Carr.norm (c : Carr) : ℝ := Real.sqrt ((c.n : ℝ) / 3)

/-- The real part of X_k × e^(j2πkn/128). -/
noncomputable def Carr.wave (c : Carr) (k n : Nat) : ℝ :=
  ((c.i : ℝ) * Real.cos (2 * Real.pi * k * n / 128) - (c.q : ℝ) * Real.sin (2 * Real.pi * k * n / 128)) / c.norm

/-- x[n] of a symbol whose list gives carriers 3 to 60 (R216). -/
noncomputable def sampleAt (sym : List Carr) (n : Nat) : ℝ :=
  launch * ((usable.zip sym).map fun e => 2 * e.2.wave e.1 n).sum

/-- The 160 samples of a symbol: the cyclic prefix x[96] to x[127], then x[0] to x[127] (R216). -/
noncomputable def symbolSamples (sym : List Carr) : List ℝ :=
  ((List.range 32).map fun i => sampleAt sym (96 + i)) ++ (List.range 128).map (sampleAt sym)

/-- Symbols abut with no windowing and no overlap (R217). -/
noncomputable def stream (syms : List (List Carr)) : List ℝ := syms.flatMap symbolSamples

/-- The samples of the last superframe sent: 800 of a superframe of five symbols, none where the transmitter was silent. -/
noncomputable def State.txStream (s : State) : List ℝ := stream s.isn.txLevels

/-- The lead's samples as its shadow regenerates them from a tap record (R280). -/
noncomputable def State.tapStream (s : State) (r : TapRec) : List ℝ := stream (s.tapLevels r)

/-- A canceller coefficient as a real number. -/
noncomputable def tapValue (w : BitVec 32) : ℝ := (w.toInt : ℝ) / 2 ^ 31

/-- The estimate of a 96-tap time-domain canceller at sample `n` of a superframe, whose signal follows the 800 samples of the one before (R250). -/
noncomputable def cancelAt (tap : Nat → BitVec 32) (was own : List ℝ) (n : Nat) : ℝ :=
  ((List.range 96).map fun i => tapValue (tap i) * (if i ≤ n then own.getD (n - i) 0 else was.getD (800 + n - i) 0)).sum

/-- A received sample less the estimate of the own transmitted samples (R250), and at a shadow less that of the lead's (R279). -/
noncomputable def State.residual (s : State) (leadWas lead rx : List ℝ) (n : Nat) : ℝ :=
  rx.getD n 0 - cancelAt s.ecTap (stream s.isn.txWas) s.txStream n - (if s.tapMode then cancelAt s.tcTap leadWas lead n else 0)

end Sys2Proof.Machine
end

