-- ==== Sys2Proof/Laws/Wave.lean ====
section
/-! SUPPORT. The shape of the Isinasia signal: lengths, the superframe's time, the cyclic prefix and the range of the launch constant (R215 to R217). -/

namespace Sys2Proof.Machine

/-- A symbol is 160 samples. -/
@[simp] theorem symbolSamples_length (sym : List Carr) : (symbolSamples sym).length = 160 := by simp [symbolSamples]

/-- Symbols abut: a stream is 160 samples a symbol. -/
theorem stream_length (syms : List (List Carr)) : (stream syms).length = 160 * syms.length := by
  induction syms with
  | nil => rfl
  | cons a t ih => simp [stream] at *; omega

/-- The 800 samples of a superframe last 2,000 line-time units. -/
theorem superframe_units : sampleUnits 800 = 2000 := rfl

/-- A stays in the range Table 17-8 gives it. -/
theorem launch_range : 20900 ≤ launchMicrovolts ∧ launchMicrovolts ≤ 25500 := by unfold launchMicrovolts; omega

/-- The cyclic prefix repeats the last 32 samples of its symbol. -/
theorem prefix_repeats (sym : List Carr) (i : Nat) (h : i < 32) : (symbolSamples sym)[i]? = (symbolSamples sym)[i + 128]? := by
  have e : ¬ i + 128 < 32 := by omega
  have f : i + 128 - 32 = 96 + i := by omega
  have g : 96 + i < 128 := by omega
  simp [symbolSamples, List.getElem?_append, h, e, f, g]

end Sys2Proof.Machine
end

