-- ==== Sys2Proof/WellFormed.lean ====
section
/-! DEFINITION. Which commands are well formed: operands in the ranges the spec gives what they stand for. `exec` is total on the others too. -/

namespace Sys2Proof

/-- The levels of GPIO0 to GPIO5 (R822). -/
def wfGpio (l : List (Option Bool)) : Bool := l.length == 6

/-- A register address of a command is 16 bits wide (Table 6-2). -/
def wfAddr (a : Nat) : Bool := decide (a < 65536)

/-- A page number is 8 bits wide (R122). -/
def wfPage (p : Nat) : Bool := decide (p < 256)

/-- A monitor address is 32 bits wide and SEQ 8 (Table 16-7). -/
def wfMon (seq addr : Nat) : Bool := decide (seq < 256) && decide (addr < 2 ^ 32)

/-- The well-formedness of a command. -/
def wellFormed (i : Instr) : Bool :=
  match i with
  | .resetRelease l => wfGpio l.gpio
  | .wakePin also _ => decide (also < 128)
  | .wakeLine also _ _ => decide (also < 128)
  | .wakeTimer also _ => decide (also < 128)
  | .wakeHsp also _ => decide (also < 128)
  | .wakeMon also _ => decide (also < 128)
  | .wakeTwin also _ => decide (also < 128)
  | .tickEdge gates gpio => decide (gates < 256) && wfGpio gpio
  | .syntheticTick gates gpio => decide (gates < 256) && wfGpio gpio
  | .slotStrobe raws hall => raws.length == 6 && decide (hall < 8)
  | .encoderEdge chan => decide (chan < 2)
  | .lockWrite _ page _ => wfPage page
  | .fltClear _ page _ => wfPage page
  | .evtClear _ page _ => wfPage page
  | .evenWrite _ page _ => wfPage page
  | .registerWrite _ addr _ => wfAddr addr
  | .spiNop _ _ code tag addr => decide (code < 256) && decide (tag < 256) && wfAddr addr
  | .spiRead _ _ tag addr _ _ => decide (tag < 256) && wfAddr addr
  | .spiWrite _ _ tag addr _ _ => decide (tag < 256) && wfAddr addr
  | .spiModify _ _ tag addr _ _ => decide (tag < 256) && wfAddr addr
  | .spiFlushmark _ _ tag addr _ _ => decide (tag < 256) && wfAddr addr
  | .monRead seq _ addr _ _ => wfMon seq addr
  | .monWrite seq _ addr _ _ => wfMon seq addr
  | .monModify seq _ addr _ _ _ => wfMon seq addr
  | .monGo seq _ addr => wfMon seq addr
  | _ => true

end Sys2Proof
end

