-- ==== Sys2Proof/Tests/Slice0.lean ====
section
/-! SUPPORT. Tests: for each statement that has hypotheses a state and operands that meet them, clause by clause, with what the command then does; the worked words of the core; a command
that is not well formed for each check. -/

namespace Sys2Proof.Tests

open Sys2Proof Sys2Proof.Machine

set_option Elab.async false

/-! ## Helpers -/

/-- What a test asks of the next state. -/
def onNext (s : State) (c : Instr) (p : State → Bool) : Bool :=
  match exec c s with
  | .next u => p u
  | _ => false

/-- The block released from reset, in TEST, TCK in IDLE, the stage safe. -/
def up : State :=
  { State.reset with
    pwr := { resetPwr with inReset := false }
    lcs := { resetLcs with state := 1 }
    pin := { resetPin with vioOk := true, vbatOk := true }
    pst := { resetPst with out := .safe }
    cpu := { resetCpu with held := false, pc := 0x20000100#32, sett := 0x20004000#32 }
    clk := { resetClk with pllok := true, state := .search } }

/-- The same with TCK in RUN, in a tick at a phase, with a budget of 1,000 cycles. -/
def run (ph : Nat) : State := { up with tck := { resetTck with state := .run, inTick := true, phase := ph, budget := 1000, now := 7#32, edge := 1000#48, ran := true, step := if ph < 64 then 0 else 1 } }

/-- The same between ticks. -/
def idle : State := { run 2000 with tck := { (run 2000).tck with inTick := false } }

/-- Every slot of the tick has run, and part `k` of Table 1-2 has begun. -/
def late (s : State) (k : Nat) : State := { s with tck := { s.tck with step := k, evals := s.slots }, adc := { s.adc with slot := s.slots } }

/-- TCK in ARMED. -/
def armed : State := { up with tck := { resetTck with state := .armed } }

/-- A register set. -/
def put (s : State) (a : Nat) (v : Nat) : State := s.wr a (wd v)

/-- A page open to the network path. -/
def opened (s : State) (p : Nat) : State := put s (rLOCK p) (0x30000 + 0xA500 + p)

/-! ## Queue, reset, events -/

theorem test_states_settled : up.OutFollows ∧ (run 100).OutFollows ∧ idle.OutFollows ∧ armed.OutFollows := by
  unfold State.OutFollows; decide +kernel

theorem test_step_front : step { up with pending := [.detectorSettled, .pllLock] } = exec .detectorSettled { up with pending := [.pllLock] } := rfl

theorem test_step_idle : step up = .next up := rfl

/-- A step from a state whose output follows, with the gates off outside RUN after it. -/
theorem test_gates_off : (match step { up with pending := [.pinReset] } with | .next u => u.pwr.inReset && u.gates 0 3 == (false, false) | _ => false) = true := by decide +kernel

theorem test_reset_values : State.reset.tck.state = .idle ∧ State.reset.tck.now = 0xFFFFFFFF#32 ∧ State.reset.clk.state = .osc ∧ State.reset.pst.out = .off ∧ State.reset.pst.rel = false ∧
    State.reset.pwr.inReset = true ∧ State.reset.lcs.state = 0 ∧ State.reset.twn.pstate = 0 ∧ State.reset.cpu.psr.sup = true ∧ State.reset.cpu.parked = false ∧ State.reset.regs = [] ∧
    State.reset.mem = [] ∧ State.reset.pending = [] ∧ State.reset.rdB 0x08000000 = 0xFF#8 ∧ State.reset.rdB 0x0C000000 = 0xFF#8 ∧ State.reset.rdB 0x20000000 = 0#8 ∧
    State.reset.OutFollows := by
  unfold State.OutFollows; decide +kernel

theorem test_raise : (up.raise P.CLK 6).bit (rEVT P.CLK) 6 = true ∧ up.bit (rEVT P.CLK) 6 = false ∧ up.bit (rEVEN P.CLK) 6 = false ∧ up.trigHit P.CLK 6 = false := by decide +kernel
/-! ## Supplies, resets, power modes -/

theorem test_resets : onNext up .powerOnReset (fun u => u.rd R.SYS_RSTCAUSE == 1#32 && u.pwr.inReset) ∧ onNext up .powerFail (fun u => u.pwr.mode == .por) ∧ up.supplied
    ∧ onNext up .vdd5BrownOut (fun u => u.bit R.SYS_RSTCAUSE 1) ∧ onNext (run 100) .vdd1BrownOut (fun u => u.bit R.SYS_RSTCAUSE 2 && u.tck.state == .idle) ∧ onNext up
    .pinReset (fun u => u.bit R.SYS_RSTCAUSE 3) ∧ up.awake ∧ onNext up .supervisorReset (fun u => u.bit R.SYS_RSTCAUSE 5 && u.pst.out == .off) := by
  decide +kernel

theorem test_software_reset : (opened up P.SYS).Opens .network R.SYS_RSTREQ ∧ onNext (opened up P.SYS) (.softwareReset .network) (fun u => u.bit R.SYS_RSTCAUSE 4 &&
    u.pwr.inReset) := by
  unfold State.Opens State.Takes; decide +kernel

theorem test_core_reset : (opened up P.SYS).Opens .network R.SYS_RSTREQ ∧ (opened up P.SYS).direct ∧ onNext (opened up P.SYS) (.coreResetRequest .network) (fun u =>
    u.cpu == { resetCpu with parked := false } && u.bit R.SYS_RSTCAUSE 7) := by
  unfold State.Opens State.Takes; decide +kernel

theorem test_core_release : ({ up with cpu := resetCpu } : State).cpu.held ∧ up.ticking = false ∧ up.slf.regf = none ∧ onNext { up with cpu := resetCpu }
    (.coreResetRelease true) (fun u => !u.cpu.held) := by
  decide +kernel

/-- Levels at the release of reset. -/
def high : Levels := ⟨true, true, true, false, [none, none, none, none, none, none], 9, []⟩

theorem test_release : State.reset.pwr.inReset ∧ State.reset.pwr.mode ≠ .por := by
  decide +kernel

theorem test_supplies : up.pwr.inReset = false ∧ up.pin.vbatOk ∧ onNext up .vbatLow (fun u => !u.pin.vbatOk && u.bit (rEVT P.PWR) 0) ∧ onNext { up with pin := { up.pin
    with vbatOk := false } } .vbatOk (fun u => u.pin.vbatOk && u.bit (rEVT P.PWR) 1) ∧ onNext up .vioLoss (fun u => !u.pin.vioOk && u.bit (rEVT P.PWR) 2) ∧ onNext { up
    with pin := { up.pin with vioOk := false } } .vioOk (fun u => u.pin.vioOk && u.bit (rEVT P.PWR) 3) ∧ ({ put up R.SYS_FCFG 16 with pin := { up.pin with faultExt :=
    true } } : State).extLow ∧ up.pin.fext = false ∧ onNext (put up R.SYS_FCFG 16) .faultNExternalPull (fun u => u.bit (rEVT P.SYS) 0 && u.bit (rFLT P.PST) 10 &&
    u.pin.faultExt) ∧ onNext { up with pin := { up.pin with faultExt := true } } .faultNRelease (fun u => !u.pin.faultExt) := by
  decide +kernel

/-- The pins at rest. -/
def rest : WakePins := ⟨false, false, false⟩

theorem test_low_power : (up.wakePins rest 3).Takes .network (rCTRL P.PWR) ∧ (up.wakePins rest 3).modeWhy true = 0 ∧ (up.wakePins rest 3).modeWhy false = 0 ∧ onNext up
    (.dozeRequest .network rest 3) (fun u => u.pwr.mode == .doze && u.aon == 3#32) ∧ onNext up (.sleepRequest .network rest 3 true false) (fun u => u.pwr.mode == .sleep
    && u.cpu.held && u.lnk.link == .down) := by
  unfold State.Takes; decide +kernel

/-- The part in DOZE and in SLEEP, every source enabled. -/
def asleep (m : PowerMode) : State := put (put { up with pwr := { up.pwr with mode := m } } R.PWR_WAKEEN 0x7F) R.PWR_WTIMER 5

theorem test_wakes : (asleep .doze).rd R.PWR_WTIMER ≠ 0#32 ∧ (asleep .doze).pwr.inReset = false ∧ 1 &&& (asleep .doze).wakeMask &&& (asleep .doze).fd R.PWR_WAKEEN 0 7 ≠
    0 ∧ 16 &&& (asleep .doze).wakeMask &&& (asleep .doze).fd R.PWR_WAKEEN 0 7 ≠ 0 ∧ 4 &&& (asleep .sleep).wakeMask &&& (asleep .sleep).fd R.PWR_WAKEEN 0 7 ≠ 0 ∧ onNext
    (asleep .doze) (.wakePin 0 6) (fun u => u.pwr.mode == .run && u.rd R.PWR_WAKESRC == 1#32 && u.bit (rEVT P.PWR) 5 && u.aon == 6#32) ∧ onNext (asleep .doze)
    (.wakeLine 0 0 true) (fun u => u.pwr.mode == .run) ∧ onNext (asleep .doze) (.wakeMon 0 0) (fun u => u.pwr.mode == .run) ∧ onNext (asleep .doze) (.wakeTwin 0 0) (fun
    u => u.pwr.mode == .run) ∧ onNext (asleep .doze) (.wakeHsp 0 0) (fun u => u.pwr.mode == .run && u.hsp.last == 1) ∧ (asleep .doze).lineCounts true ∧ (asleep
    .sleep).withTimer 4 5 &&& (asleep .sleep).wakeMask &&& (asleep .sleep).fd R.PWR_WAKEEN 0 7 ≠ 0 ∧ onNext (asleep .sleep) (.wakeTimer 0 5) (fun u => u.pwr.inReset &&
    u.bit R.SYS_RSTCAUSE 6) := by
  decide +kernel


/-! ## Clock and line-time -/

/-- CLK in a state, with bits of CLK.CTRL. -/
def clk (s : State) (c : ClkState) (src : Nat) : State := put { s with clk := { s.clk with state := c } } (rCTRL P.CLK) src

theorem test_pll : up.lineOn ∧ onNext (clk up .locked 0) .pllLock (fun u => u.clk.state == .locked) ∧ onNext up .pllUnlock (fun u => !u.clk.pllok && u.bit (rEVT P.CLK)
    5 && u.tck.state == .idle) ∧ ({ up with pwr := { up.pwr with inReset := true } } : State).supplied ∧ onNext { up with pwr := { up.pwr with inReset := true }, clk :=
    { up.clk with pllok := false, state := .osc } } .pllLock (fun u => u.clk.pllok && u.clk.state == .osc) ∧ onNext { up with pwr := { up.pwr with inReset := true } }
    .pllUnlock (fun u => !u.clk.pllok && !u.bit (rEVT P.CLK) 5) ∧ onNext armed .pllUnlock (fun u => u.tck.state == .safe && u.tck.cause == 3 && u.bit (rFLT P.TCK) 1) ∧
    onNext (run 100) .pllUnlock (fun u => u.tck.state == .safe && u.tck.cause == 3 && !u.tck.inTick && u.bit (rEVT P.TCK) 5) := by
  decide +kernel

theorem test_host_frames_stop : up.lineOn ∧ onNext (clk up .locked 0) (.clkLossGap 50#48) (fun u => u.clk.state == .hold && u.clk.holdAt == 50#48 && u.bit (rEVT P.CLK)
    1 && u.rd R.CLK_LOSSCT == 1#32) ∧ (put (clk idle .hold 0) (rCTRL P.TCK) 2).ticking ∧ (put (clk idle .hold 0) (rCTRL P.TCK) 2).tck.inTick = false ∧ (put (clk idle
    .hold 0) (rCTRL P.TCK) 2).bench := by
  decide +kernel

theorem test_refin : onNext (clk up .search 1) (.refokSet 5#48) (fun u => u.clk.state == .ref && u.clk.refok) ∧ onNext (clk up .search 0) (.refokSet 5#48) (fun u =>
    u.clk.state == .search && u.clk.refok) ∧ onNext (clk up .ref 1) (.refLoss 5#48) (fun u => u.clk.state == .osc && u.clk.afterLoss && u.bit (rEVT P.CLK) 4 && u.lt ==
    5#48) ∧ onNext (clk up .pull 0) (.refLoss 5#48) (fun u => u.clk.state == .pull) := by
  decide +kernel

theorem test_clock_source : up.Takes .network (rCTRL P.CLK) ∧ up.direct ∧ onNext (clk { up with clk := { up.clk with refok := true } } .search 0) (.clkSrcWrite .network
    true 5#48) (fun u => u.clk.state == .ref && u.bit (rCTRL P.CLK) 0) ∧ onNext (clk { up with clk := { up.clk with refok := true } } .ref 1) (.clkSrcWrite .network
    false 5#48) (fun u => u.clk.state == .search && u.rd R.CLK_DCOW == 0#32) ∧ onNext (clk up .search 0) (.clkSrcWrite .network false 5#48) (fun u => u.clk == (clk up
    .search 0).clk) ∧ armed.direct = false ∧ armed.Takes .monitor (rCTRL P.CLK) ∧ onNext armed (.clkSrcWrite .monitor true 5#48) (fun u => !u.bit (rCTRL P.CLK) 0 &&
    u.bit (rEVT P.CLK) 6) := by
  unfold State.Takes; decide +kernel

theorem test_line_time_read : up.coreOn ∧ onNext up (.ltLoRead 0x123456789A#48) (fun u => u.clk.ltHi == some 0x12#16 && (u.coreRead R.CLK_LT_HI).2 == 0x12#32) := by
  decide +kernel

/-! ## Ticks -/

/-- A state that may arm: the clock locked. -/
def armable : State := put (put (clk up .locked 0) R.TCK_STROBE 100) R.TCK_PERIOD 1000

theorem test_arming : armable.Takes .network (rCTRL P.TCK) ∧ armable.follows = false ∧ armable.armOk ∧ (put (clk armable .osc 0) (rCTRL P.TCK) 2).bench ∧ (put up
    R.TCK_STROBE 63).armOk = false ∧ onNext (put up R.TCK_STROBE 63) (.tckArm .network) (fun u => u.tck.state == .idle && u.bit (rEVT P.TCK) 9) := by
  unfold State.Takes; decide +kernel

/-- The shadow of a joined pair. -/
def shadow (s : State) : State := { s with twn := { s.twn with pstate := 3, role := false } }

theorem test_stopping : (shadow (run 100)).follows ∧ (shadow (run 100)).Takes .coreSup (rCTRL P.TCK) ∧ onNext (shadow (run 100)) (.tckStop .coreSup) (fun u =>
    !u.tck.stopReq) ∧ armed.Takes .monitor (rCTRL P.TCK) ∧ onNext armed (.tckStop .monitor) (fun u => u.tck.state == .idle && !u.cpu.parked) ∧ (run 100).Takes .coreSup
    (rCTRL P.TCK) ∧ onNext (run 100) (.tckStop .coreSup) (fun u => u.tck.state == .run && u.tck.stopReq) ∧ (put idle (rCTRL P.TCK) 2).Takes .monitor (rCTRL P.TCK) ∧
    onNext (put idle (rCTRL P.TCK) 2) (.tckStop .monitor) (fun u => u.tck.state == .idle) ∧ onNext (put up R.TCK_MINMARG 5) (.mclr .network) (fun u => u.fd
    R.TCK_MINMARG 0 20 == 0xFFFFF) := by
  unfold State.Takes; decide +kernel

/-- TCK armed with an authorisation pending. -/
def authorised : State := { armed with tck := { armed.tck with pend := some ⟨9#32, 5000#48⟩ } }

/-- GPIO levels no one holds. -/
def open6 : List (Option Bool) := [none, none, none, none, none, none]

theorem test_tick_edge : authorised.awake ∧ authorised.tck.inTick = false ∧ authorised.cyc.cmdq = [] ∧ authorised.mon.stepping = false ∧ onNext (put authorised
    R.TCK_BUDGET 1) (.tickEdge 0 open6) (fun u => u.tck.state == .run && u.tck.now == 9#32 && u.tck.edge == 5000#48 && u.lt == 5000#48 && u.tck.inTick && u.tck.phase ==
    63 && u.cpu.parked && u.tck.pend == none && decide (256 ≤ u.tck.budget)) ∧ armed.tck.pend = none ∧ onNext armed (.tickEdge 0 open6) (fun u => u.tck.state == .armed
    && !u.tck.inTick) := by
  decide +kernel

/-- The end of a tick. -/
def ending : State := late (clk (run 100) .locked 0) 6

theorem test_tick_end : ending.turn 7 ending.tickLen ∧ onNext ending .tickEnd (fun u => u.tck.state == .run && !u.tck.inTick && u.lt == 1000#48 + BitVec.ofNat 48
    ending.periodLt) ∧ onNext { ending with tck := { ending.tck with stopReq := true } } .tickEnd (fun u => u.tck.state == .idle && !u.cpu.parked) ∧ onNext { ending
    with tck := { ending.tck with safeReq := [4, 3] } } .tickEnd (fun u => u.tck.state == .safe && u.bit (rFLT P.TCK) (safeFlt 3) && u.bit (rFLT P.TCK) (safeFlt 4) &&
    u.bit (rEVT P.TCK) 5) ∧ (run 100).turn 7 (run 100).tickLen = false ∧ onNext (run 100) .tickEnd (fun u => u.tck.inTick) := by
  decide +kernel

/-- TCK in HOLDOVER between ticks, with 4 synthetic ticks allowed. -/
def hold : State := put { clk idle .locked 0 with tck := { idle.tck with state := .holdover, e1 := 2000#48 } } R.TCK_HOLD 4

theorem test_holdover : idle.tck.state = .run ∧ idle.tck.pend = none ∧ idle.bench = false ∧ onNext idle .holdoverEntry (fun u => u.tck.state == .holdover && u.tck.e1 ==
    idle.tck.edge + BitVec.ofNat 48 idle.periodLt && u.bit (rEVT P.TCK) 3) ∧ hold.fd R.TCK_HCOUNT 0 7 < hold.synthMax ∧ hold.pendAt (hold.coastEdge (hold.fd
    R.TCK_HCOUNT 0 7)) = false ∧ hold.shadow = [] ∧ onNext hold (.syntheticTick 0 open6) (fun u => u.tck.synth && u.tck.now == 8#32 && u.tck.inTick && u.fd R.TCK_HCOUNT
    0 7 == 1 && u.tck.phase == 63) ∧ (put hold R.TCK_HCOUNT 127).exhausted ∧ onNext (put hold R.TCK_HCOUNT 127) .holdoverExhausted (fun u => u.tck.state == .safe &&
    u.bit (rFLT P.TCK) 0 && u.bit (rEVT P.TCK) 5) := by
  decide +kernel

/-- The core parked in a tick. -/
def parked : State := { run 63 with cpu := { (run 63).cpu with parked := true } }

/-- The core in an open critical window. -/
def crit (s : State) : State := { s with cpu := { s.cpu with psr := { s.cpu.psr with crit := true }, critLeft := 40 } }

theorem test_core_in_tick : parked.turn 1 64 ∧ parked.romWaits = false ∧ parked.frozen = false ∧ ({ parked.partTo 1 64 with cpu := { parked.cpu with parked := false } }
    : State).boundary = .issue ∧ onNext parked .coreResume (fun u => !u.cpu.parked && u.tck.phase == 64 && u.tck.step == 1) ∧ (run 1064).coreOn ∧ (run 1064).budgeted ∧
    onNext (run 1064) .budgetEnd (fun u => u.cpu.parked && u.rd R.CPU_PARKPC == u.cpu.pc && u.rd R.CPU_LASTUSE == 1000#32) ∧ (crit (run 1064)).coreOn ∧ onNext (crit
    (run 1064)) .budgetEnd (fun u => !u.cpu.parked && u.cpu.ovrThis && u.cpu.ovrct == 1 && u.bit (rEVT P.CPU) 0) := by
  decide +kernel

theorem test_tick_windows : (run 100).strobeDue ∧ onNext (run 100) (.slotStrobe [1, 2, 3, 4, 5, 6] 5) (fun u => u.adc.slot == 1 && u.vec.hallL == 5 && u.tck.phase ==
    max 100 (u.fd R.TCK_STROBE 0 18)) ∧ (late (run 100) 2).turn 3 ((run 100).guardG + 64) ∧ (late (shadow (run 100)) 2).turn 3 ((run 100).guardG + 64) ∧ onNext (late
    (run 100) 2) .digestClose (fun u => u.twn == (run 100).twn && u.tck.step == 3) ∧ onNext (late (shadow (run 100)) 2) .digestClose (fun u => u.rd R.TWN_DIGTICK ==
    7#32 && u.twn.digq == []) := by
  decide +kernel

/-! ## Engine, vector unit, injectors -/

/-- A tick whose first strobe has been. -/
def struck : State := { run 100 with adc := { (run 100).adc with slot := 1 } }

theorem test_engine_evaluation : struck.evalDue ∧ struck.frozen = false ∧ onNext (put struck R.CTL_SP0 77) .engineEvaluation (fun u => u.node 0x20 == 77 && u.node 0x30
    == 0 && u.node 0x3F == 0 && u.adc.vals == struck.adc.vals && u.tck.evals == 1) := by
  decide +kernel

/-- A loop with limits that leave 0 out. -/
def bounded : State := put (put (put up (R.LP_OUTMAX 0) 1000) (R.LP_OUTMIN 0) 5) (rCTRL (P.LP 0)) 1

theorem test_engine_bounds : (bounded.rd (R.LP_OUTMIN 0)).toInt ≤ (bounded.rd (R.LP_OUTMAX 0)).toInt ∧ 5 ≤ (bounded.loopRun 0 true).node 0x30 ∧ (bounded.loopRun 0
    true).node 0x30 ≤ 1000 ∧ vstep 0 0 100 3 10 = 3 ∧ -3 ≤ vstep 0 0 100 3 10 ∧ vstep 0 10 100 3 10 ≤ 10 ∧ vstep 0 (-10) (-100) 3 10 ≥ -10 := by
  decide +kernel

/-- The vector unit on, in a sector, with the encoder's index enabled. -/
def vec (s : State) : State := put (put { s with vec := { s.vec with sector := some 2, slots := 9 } } (rCTRL P.VEC) 0x81) R.VEC_HTIMEOUT 9

theorem test_vector_inputs : (vec idle).vec.sector = some 2 ∧ (vec idle).ticking ∧ (vec idle).bit (rCTRL P.VEC) 0 ∧ (vec idle).fd R.VEC_HTIMEOUT 0 16 ≤ (vec
    idle).vec.slots ∧ onNext (vec idle) .hallTimeout (fun u => u.vec.omega == 0 && u.vec.theta == wrap32 (2 * sect + sect / 2) && u.bit (rEVT P.VEC) 1) ∧ up.awake ∧
    onNext up (.encoderEdge 0) (fun u => u.vec.hall == 1) ∧ onNext up (.encoderEdge 1) (fun u => u.vec.hall == 2) ∧ (vec up).bit (rCTRL P.VEC) 7 ∧ onNext { vec up with
    vec := { (vec up).vec with enc := 5 } } .encZ (fun u => u.vec.enc == 0 && u.bit (rEVT P.VEC) 5) ∧ onNext { up with vec := { up.vec with enc := 5 } } .encZ (fun u =>
    u.vec.enc == 5 && u.vec.hall == 4) := by
  decide +kernel

/-- An injector that runs, at a count. -/
def inj (k : Nat) : State := put { idle with injs := [{ idle.inj 0 with run := true, k := k }, idle.inj 1] } R.INJ_LEN0 8

theorem test_injector_end : (inj 8).frozen = false ∧ ((inj 8).inj 0).run ∧ (inj 8).rd R.INJ_LEN0 = 8#32 ∧ onNext (inj 8) .injectorRunEnd (fun u => !(u.inj 0).run &&
    u.bit (rEVT P.INJ) 2) ∧ onNext (inj 7) .injectorRunEnd (fun u => (u.inj 0).run) := by
  decide +kernel

/-! ## Power stage -/

theorem test_pwm_updates : (run 1000).pointNext true = 0 ∧ onNext (run 1000) (.pwmUpdate true) (fun u => u.rd R.PST_CMP1 == wd (compareOf ((run 1000).legDuty 1) ((run
    1000).slotLen / 2)) && !u.pst.tripA && u.pst.point == 1) ∧ (put (run 1000) R.PST_CFG 8).pointNext false = 1 ∧ onNext (put (run 1000) R.PST_CFG 8) (.pwmUpdate false)
    (fun u => u.rd R.PST_CMP2 == wd (compareOf ((run 1000).legDuty 2) ((run 1000).slotLen / 2)) && u.pst.point == 2) ∧ onNext up (.pwmUpdate true) (fun u => u.regs ==
    up.regs) ∧ onNext (run 1000) (.pwmUpdate false) (fun u => u.regs == (run 1000).regs && u.pst.point == 2) := by
  decide +kernel

/-- The charge pump on. -/
def guarded : State := put up (rCTRL P.PST) 1

/-- Both overcurrent channels in cycle mode. -/
def cycle : State := put guarded R.PST_OCCFG 0x30000

theorem test_stage_protection : guarded.monArmed 0 ∧ guarded.monArmed 9 ∧ guarded.monMet 0 100 ∧ guarded.monMet 0 0 = false ∧ guarded.monDgl 0 ≤ 500 ∧ (guarded.elapse
    0#48).monClear 0 ∧ (guarded.elapse 0#48).monClear 9 ∧ 0 < guarded.monDgl 0 ∧ onNext guarded (.protectionTrip 0 100 500) (fun u => u.condOn 0 && u.bit (rFLT P.PST) 0
    && u.bit (rEVT P.PST) 0 && !u.pst.rel) ∧ onNext guarded (.protectionTrip 0 100 0) (fun u => u.condOn 0 && !u.bit (rFLT P.PST) 0) ∧ onNext guarded (.protectionTrip 0
    0 500) (fun u => !u.condOn 0) ∧ onNext guarded (.protectionTrip 9 0 4000) (fun u => u.condOn 9 && u.bit (rFLT P.PST) 9) ∧ onNext guarded (.protectionTrip 9 0 4000)
    (fun u => onNext u (.monitorConditionEnd 9) fun w => !w.condOn 9 && w.bit (rFLT P.PST) 9) ∧ cycle.monArmed 0 = false ∧ onNext cycle (.protectionTrip 0 100 500) (fun
    u => !u.condOn 0) ∧ cycle.bit R.PST_OCCFG 16 ∧ cycle.bit R.PST_OCCFG 17 ∧ cycle.monMet 0 100 ∧ cycle.monMet 1 100 ∧ onNext cycle (.cbcTrip false 100 500) (fun u =>
    u.pst.tripA && u.rd R.PST_CBCCT == 1#32 && u.bit (rEVT P.PST) 1) ∧ onNext cycle (.cbcTrip true 100 500) (fun u => u.pst.tripB) ∧ onNext cycle (.cbcTrip true 100 0)
    (fun u => !u.pst.tripB && u.condOn 1) ∧ guarded.bit R.PST_OCCFG 16 = false ∧ onNext guarded (.cbcTrip false 100 500) (fun u => !u.pst.tripA) ∧ onNext guarded
    .cpReady (fun u => u.pst.cprdy) ∧ onNext up .cpReady (fun u => !u.pst.cprdy) ∧ onNext up (.otWarning true) (fun u => u.pst.otw && u.bit (rEVT P.SUP) 0) ∧ onNext {
    up with pst := { up.pst with otw := true } } (.otWarning false) (fun u => !u.pst.otw && u.bit (rEVT P.SUP) 1) := by
  decide +kernel

/-- A request of release held. -/
def asked (s : State) : State := { s with pst := { s.pst with relReq := true } }

theorem test_release_of_stage : up.Takes .network (rCTRL P.PST) ∧ onNext { up with pst := { up.pst with rel := true } } (.safenow .network) (fun u => !u.pst.rel) ∧
    up.direct ∧ onNext up (.release .network) (fun u => u.pst.relWhy == 1 && u.bit (rEVT P.PST) 4 && !u.pst.relReq) ∧ armed.Takes .monitor (rCTRL P.PST) ∧ armed.direct
    = false ∧ onNext armed (.release .monitor) (fun u => u.pst.relReq) ∧ (asked idle).relWhy false ≠ 0 ∧ ((asked idle).relEval false).pst.relWhy = (asked idle).relWhy
    false ∧ ((asked idle).relEval false).bit (rEVT P.PST) 4 := by
  unfold State.Takes; decide +kernel

/-- The stage in DRIVE in cycle `ph` of its slot, leg 1 in COMP with a compare of 1,000, its high side on since cycle 1,000 before the slot. -/
def drives (ph : Nat) : State := { put (put (put (late (run ph) 1) R.TCK_PERIOD 50) R.PST_CFG 0x100) R.PST_CMP1 1000 with
  lt := BitVec.ofNat 48 (1000 + ph * 5 / 8)
  pst := { resetPst with out := .drive, rel := true, drove := true, cmpF := [1000, 0, 0, 0], past := [⟨some true, -1000, -968⟩] } }

/-- Channel A tripped in cycle `k`. -/
def tripAt (s : State) (k : Nat) : State := { s with pst := { s.pst with tripA := true, tripKA := k } }

/-- BRAKE in its stead, all its low sides on before. -/
def brakes : State := { drives 0 with pst := { (drives 0).pst with out := .safe, drove := false, braked := true, brake := true, brakeIn := some (0#48, [true, true, true, true]) } }

/-- The slot after BRAKE. -/
def afterBrake : State := { drives 40 with pst := { (drives 40).pst with past := [brakes.legLeaves 1] } }

theorem test_stage_drive : (drives 0).slotLen = 8000 ∧ (drives 500).gates 1 500 = (true, false) ∧ (drives 0).gates 1 1010 = (false, false) ∧ (drives 0).gates 1 1032 =
    (false, true) ∧ (tripAt (drives 510) 500).gates 1 510 = (false, false) ∧ (tripAt (drives 540) 500).gates 1 540 = (false, true) ∧ (tripAt (drives 7010) 2000).gates 1
    7010 = (false, true) ∧ (tripAt (drives 7995) 7930).gates 1 7970 = (false, true) ∧ (tripAt (drives 7995) 7960).gates 1 7995 = (false, false) ∧ (drives 500).monClear
    0 ∧ (drives 1050).monClear 0 = false ∧ (drives 1140).monClear 0 ∧ (drives 500).monArmed 3 = false ∧ (drives 1140).monArmed 3 ∧ afterBrake.gates 1 31 = (false,
    false) ∧ afterBrake.gates 1 32 = (true, false) ∧ onNext (drives 1050) (.protectionTrip 0 100 500) (fun u => u.condOn 0 && !u.bit (rFLT P.PST) 0) ∧ onNext (drives
    1050) (.protectionTrip 0 100 500 100#48) (fun u => u.condOn 0 && u.bit (rFLT P.PST) 0) := by
  decide +kernel

/-- A stage that no condition of Table 9-8 withholds. -/
def ready : State := { guarded with
  pst := { (asked guarded).pst with cprdy := true }
  tck := idle.tck
  clk := { guarded.clk with state := .locked } }

theorem test_release_granted : ready.relWhy true = 0 ∧ ready.bit (rEVEN P.PST) 3 = false ∧ (ready.relEval true).pst.rel := by
  decide +kernel

/-! ## Line, PLCA, cable diagnostics -/

/-- The port on the line with the 10BASE-T1S profile. -/
def line (s : State) : State := { s with lnk := { s.lnk with profact := 1, link := .up } }

/-- A frame of 64 octets, with its FCS and without. -/
def good : List Byte := withFcs (List.replicate 60 0#8)
def bad : List Byte := List.replicate 64 0#8

theorem test_line_receive : (line up).lineOn ∧ (line up).rxOn ∧ good.length = 64 ∧ fcsOk good ∧ fcsOk bad = false ∧ onNext (line up) (.rxFrame good 10#48 4#48 0 0 0)
    (fun u => u.lnk.link == .up && u.lt == 10#48 && u.cyc.handover == [⟨good, 6#48, 10#48, 0, u.mac, 0, u.fd R.CYC_ETYPE 0 16⟩] && u.lnk.gain == 7 && u.rd
    R.LNK_STAMP_LO == 6#32) ∧ onNext (line up) (.rxFrame bad 10#48 4#48 0 0 0) (fun u => u.cyc.handover == [] && u.rd R.LNS_RXFCS == 1#32) ∧ (List.replicate 1522
    0#8).length ≤ 1522 := by
  decide +kernel

/-- The link at energy. -/
def warm (e : Bool) : State := { line up with lnk := { (line up).lnk with link := .energy, energy := e } }

theorem test_line_link : (line up).t1s ∧ onNext (line up) (.linkWindowExpiry true) (fun u => u.lnk.link == .down) ∧ onNext (line up) (.linkWindowExpiry false) (fun u =>
    u.lnk.link == .energy) ∧ onNext (warm false) (.linkWindowExpiry true) (fun u => u.lnk.link == .down) ∧ (line up).portIdle ∧ onNext (put (line up) R.LNK_PLCA
    0x1000003) .lnkConfigApply (fun u => u.lnk.plca == 0x1000003#32) ∧ onNext { line up with lnk := { (line up).lnk with link := .down } } (.lineEnergy 101 3 0 true)
    (fun u => u.lnk.energy && u.lnk.link == .energy && u.lnk.gain == 3) ∧ (line up).edThr = 100 ∧ onNext (warm true) (.lineEnergy 100 3 0 true) (fun u => !u.lnk.energy
    && u.lnk.gain == 7) ∧ onNext (line up) .detectorSettled (fun u => !u.lnk.settling) ∧ onNext (line up) .jabberRx (fun u => u.lnk.jabRx && u.bit (rEVT P.LNK) 3) := by
  decide +kernel

/-- PLCA with an identifier, in a state, and a frame that waits. -/
def plca (id : Nat) (p : PlcaState) : State :=
  { line up with
    lnk := { (line up).lnk with plca := wd (0x1000000 + id), plcaStat := p }
    clk := { up.clk with state := .ref }
    cyc := { up.cyc with txbuf := some (List.replicate 60 1#8) } }

theorem test_line_plca : (plca 3 .searching).rxOn ∧ (plca 3 .searching).plcaOn ∧ (plca 3 .searching).coordinator = false ∧ onNext (plca 3 .searching) (.beaconRx 5#48)
    (fun u => u.lnk.plcaStat == .follower && u.bit (rEVT P.LNK) 4 && u.lnk.opp == 0) ∧ onNext (plca 3 .follower) .plcaLoss (fun u => u.lnk.plcaStat == .searching &&
    u.bit (rEVT P.LNK) 5) ∧ onNext (plca 3 .searching) .plcaLoss (fun u => u.lnk == (plca 3 .searching).lnk) ∧ (plca 0 .searching).coordinator ∧ (plca 0
    .searching).txsil = false ∧ (plca 0 .searching).testing = false ∧ ((plca 0 .searching).elapse 5#48).cycleDue ∧ onNext (plca 0 .searching) (.beaconTx 5#48) (fun u =>
    u.lnk.plcaStat == .coordinator && u.bit (rEVT P.LNK) 4) ∧ (plca 3 .follower).plcaActive ∧ (plca 3 .follower).plcaTx ∧ ((plca 3 .follower).elapse 9#48).ownDue ∧
    (plca 3 .follower).txFront = some (List.replicate 60 1#8) ∧ onNext (plca 3 .follower) (.plcaTxOpportunity 9#48) (fun u => u.lnk.lastTx == stamped (List.replicate 60
    1#8) 9#48 && u.cyc.txbuf == none) ∧ onNext (put (plca 3 .follower) (rCTRL P.LNK) 0x20) (.plcaTxOpportunity 9#48) (fun u => u.lnk.lastTx == [] && u.cyc.txbuf.isSome)
    ∧ (put (plca 3 .follower) (rCTRL P.LNK) 0x20).txsil ∧ (plca 3 .follower).lnk.oppNo ≤ (plca 3 .follower).plcaId ∧ onNext (plca 3 .follower) .idClash (fun u =>
    u.lnk.clash == 1 && u.bit (rEVT P.LNK) 10 && !u.lnk.silent) ∧ onNext { plca 3 .follower with lnk := { (plca 3 .follower).lnk with clash := 2 } } .idClash (fun u =>
    u.lnk.silent && u.bit (rFLT P.LNK) 2 && u.lnk.clash == 0) := by
  decide +kernel

/-- A burst with a frame left to it. -/
def burst : State := { plca 3 .follower with lnk := { (plca 3 .follower).lnk with opp := 2 } }

/-- CSMA/CD with a frame that waits, after some attempts. -/
def csma (n : Nat) : State := { line up with lnk := { (line up).lnk with attempts := n }, cyc := { up.cyc with txbuf := some (List.replicate 60 1#8) } }

theorem test_line_csma : (csma 0).csmaOk ∧ (csma 0).txFront.isSome ∧ (csma 0).txsil = false ∧ onNext (csma 2) (.txFrame 9#48) (fun u => u.lnk.lastTx == stamped
    (List.replicate 60 1#8) 9#48 && u.lnk.attempts == 0 && u.cyc.txbuf == none && u.rd R.LNS_TXOK == 1#32) ∧ (csma 15).csmaOk ∧ burst.csmaOk = false ∧ (burst.elapse
    9#48).burstOk ∧ onNext burst (.txFrame 9#48) (fun u => u.lnk.lastTx == stamped (List.replicate 60 1#8) 9#48 && u.lnk.opp == 1) ∧ onNext (csma 0) (.collision 513)
    (fun u => u.bit (rEVT P.LNK) 7 && u.lnk.attempts == 0) ∧ onNext (csma 15) (.collision 512) (fun u => u.bit (rEVT P.LNK) 6 && u.lnk.attempts == 0) ∧ onNext (csma 14)
    (.collision 512) (fun u => u.lnk.attempts == 15 && u.lnk.backoff && u.txFront.isSome) ∧ onNext { csma 0 with lnk := { (csma 0).lnk with backoff := true } }
    .backoffEnd (fun u => !u.lnk.backoff) ∧ onNext (csma 0) .jabberTx (fun u => u.lnk.silent && u.bit (rFLT P.LNK) 0 && u.bit (rEVT P.SLF) 0 && u.bit (rEVT P.LNK) 2) ∧
    onNext (csma 0) .driverFault (fun u => u.lnk.silent && u.bit (rFLT P.LNK) 1 && u.bit (rEVT P.SLF) 0) := by
  decide +kernel

theorem test_line_commands : (opened (line up) P.LNK).Opens .network (rCTRL P.LNK) ∧ onNext (opened (line up) P.LNK) (.restart .network) (fun u => u.lnk.link == .down
    && u.isn.stage == 7 && u.lnk.attempts == 0) ∧ up.Takes .network (rCTRL P.LNS) ∧ onNext (put up R.LNS_TXOK 5) (.lnsClr .network) (fun u => u.rd R.LNS_TXOK == 0#32) ∧
    onNext up (.lnsFreeze .network true) (fun u => u.bit (rCTRL P.LNS) 1) ∧ onNext (put { up with lnk := { up.lnk with held := [(R.LNS_TXOK, 2)] } } (rCTRL P.LNS) 2)
    (.lnsFreeze .network false) (fun u => u.rd R.LNS_TXOK == 2#32 && u.lnk.held == []) ∧ (line up).Takes .network (rCTRL P.CDG) ∧ (line up).cdgRefusal = 0 ∧ onNext
    (line up) (.cdgStart .network) (fun u => u.lnk.cdg == .quiet && u.lnk.profact == 0 && u.lnk.link == .up && u.lnk.plcaStat == .off) ∧ armed.Takes .monitor (rCTRL
    P.CDG) ∧ armed.cdgRefusal = 1 ∧ onNext armed (.cdgStart .monitor) (fun u => u.lnk.cdgRefuse == 1 && u.bit (rEVT P.CDG) 1) := by
  unfold State.Opens State.Takes; decide +kernel

/-- A measurement in a step. -/
def cdg (c : CdgStep) : State := { up with lnk := { up.lnk with cdg := c } }

theorem test_line_measurement : (cdg .quiet).Takes .network (rCTRL P.CDG) ∧ (cdg .quiet).cdgBusy ∧ onNext (cdg .quiet) (.cdgAbort .network) (fun u => u.lnk.cdg == .none
    && u.lnk.cdgDone && u.lnk.cdgRes == 0) ∧ onNext (cdg .quiet) .cdgPulseTrain (fun u => u.lnk.cdg == .pulses && u.lnk.pulses == 2 ^ u.fd R.CDG_CFG 24 4) ∧ onNext {
    cdg .quiet with lnk := { (cdg .quiet).lnk with energy := true } } .cdgPulseTrain (fun u => u.lnk.cdg == .quiet) ∧ onNext (cdg .pulses) (.cdgDone []) (fun u =>
    u.lnk.cdg == .none && u.lnk.cdgDone && u.bit (rEVT P.CDG) 0) ∧ onNext (cdg .pulses) .disturbed (fun u => u.lnk.cdg == .none && u.lnk.cdgDone && u.bit (rEVT P.CDG)
    2) := by
  unfold State.Takes; decide +kernel

/-! ## Isinasia -/

/-- The Isinasia profile in a training stage, as master. -/
def isn (stage : Nat) : State := put { up with lnk := { up.lnk with profact := 3 }, isn := { up.isn with stage := stage, left := 0 } } (rCTRL P.ISN) 1

/-- The same as slave. -/
def slave (stage : Nat) : State := put (isn stage) (rCTRL P.ISN) 0

/-- A port that negotiates, its page sent. -/
def nego : State := { up with lnk := { up.lnk with nego := true }, isn := { up.isn with negPage := 0x18000000#32, negOut := [.base true true, .message 5#24, .unformatted 0x18000000#32] } }

theorem test_isinasia_training : nego.lineOn ∧ onNext nego .negotiation (fun u => u.isn.negPage == nego.ownPage) ∧ masterOf 0x18000000#32 0x1E000000#32 = some false ∧
    onNext nego (.negDone 0x1E000000#32 (some 5#24) false 0) (fun u => u.lnk.profact == 3 && u.isn.negd == some ⟨false, 0, false⟩ && !u.lnk.nego && u.rd R.ISN_NEGRES ==
    0x1E000000#32 && u.bit (rEVT P.ISN) 8) ∧ onNext nego (.negDone 7#32 (some 6#24) true 0) (fun u => u.lnk.profact == 2 && !u.lnk.nego && u.rd R.ISN_NEGRES == 7#32) ∧
    nego.sameId (some 5#24) ∧ nego.sameId (some 6#24) = false ∧ nego.sameId none = false ∧ onNext nego (.negDone 7#32 none false 1) (fun u => u.lnk.nego && u.isn.negOut
    == [] && u.isn.negAcks == 1) ∧ onNext (isn 7) .trainingStart (fun u => u.isn.stage == 5 && u.isn.left == 10 && u.rd R.ISN_TXSEED == 0x7FFFFF#32) ∧ onNext (isn 7)
    .trainingRestart (fun u => u.isn.stage == 5 && u.isn.left == 10) ∧ onNext (isn 5) (.trainingStageEnd 120) (fun u => u.isn.stage == 6) ∧ onNext (isn 6)
    (.trainingStageEnd 120) (fun u => u.isn.stage == 1) ∧ onNext (isn 1) (.trainingStageEnd 120) (fun u => u.isn.stage == 2) ∧ onNext (slave 2) (.trainingStageEnd 120)
    (fun u => u.isn.stage == 3) ∧ onNext (isn 3) (.trainingStageEnd 120) (fun u => u.isn.stage == 4) ∧ (isn 3).isn.done = false ∧ (isn 1).tmaster ∧ (slave 2).tmaster =
    false ∧ onNext (isn 1) (.trainingStageEnd 119) (fun u => u.isn.stage == 7 && u.isn.left == 50 && u.bit (rFLT P.ISN) 0 && u.bit (rEVT P.ISN) 3) ∧ onNext (slave 5)
    (.acqTone true 0) (fun u => u.isn.stage == 6) ∧ onNext (slave 6) (.acqTone false 0) (fun u => u.isn.stage == 1) := by
  decide +kernel

/-- Showtime. -/
def online : State := { isn 0 with isn := { (isn 0).isn with done := true } }

theorem test_isinasia_commands : online.showtime ∧ (opened online P.ISN).Opens .network (rCTRL P.ISN) ∧ onNext (opened online P.ISN) (.loadnow .network) (fun u =>
    u.isn.prop == some ⟨0, true, 0, 0⟩) ∧ onNext (opened online P.ISN) (.rcv .network) (fun u => u.isn.rcvPend) ∧ onNext (opened online P.ISN) (.retrain .network) (fun
    u => u.lnk.link == .down && u.isn.stage == 7) ∧ up.Takes .network (rCTRL P.ISC) ∧ onNext (put up R.ISC_SWAPS 4) (.iscClr .network) (fun u => u.rd R.ISC_SWAPS ==
    0#32) := by
  unfold State.Opens State.Takes; decide +kernel

/-- A message that waits. -/
def told (m : List Byte) : State := { isn 4 with isn := { (isn 4).isn with msgq := [m] } }

/-- A proposal that waits for its answer, sent a number of times. -/
def proposed (n : Nat) (m : List (List Byte)) : State := { online with isn := { online.isn with prop := some ⟨5, true, n, 0⟩, msgq := m } }

theorem test_isinasia_messages : popMsg 1 (told ([1#8, 0#8, 1#8] ++ List.replicate 29 0#8)).isn.msgq ≠ none ∧ onNext (told ([1#8, 0#8, 1#8] ++ List.replicate 29 0#8))
    .loadPropose (fun u => u.isn.msgq == [] && u.isn.cd == 5 && u.isn.cdSlot) ∧ popMsg 2 (proposed 1 [[2#8, 5#8, 0#8]]).isn.msgq ≠ none ∧ onNext (proposed 1 [[2#8, 5#8,
    0#8]]) .ack (fun u => u.isn.prop == some ⟨5, true, 1, 1⟩) ∧ onNext (proposed 1 [[2#8, 5#8, 1#8]]) .ack (fun u => u.isn.prop == some ⟨5, true, 1, 2⟩) ∧ onNext
    (proposed 1 [[2#8, 5#8, 2#8]]) .ack (fun u => u.isn.prop == none && u.bit (rEVT P.ISN) 5) ∧ popMsg 3 (told [3#8, 4#8, 0#8, 0#8, 9#8]).isn.msgq ≠ none ∧ beNat
    (([3#8, 4#8, 0#8, 0#8, 9#8].drop 2).take 3) = 9 ∧ onNext (told [3#8, 4#8, 0#8, 0#8, 9#8]) .seed (fun u => u.isn.rxSeedNext == some 9 && u.isn.seedDone == some (4,
    0)) ∧ popMsg 4 (told [4#8, 7#8, 1#8, 0#8, 0#8]).isn.msgq ≠ none ∧ onNext (told [4#8, 7#8, 1#8, 0#8, 0#8]) .lqiReport (fun u => u.rd R.ISC_FARLQI == wd (7 + 256 *
    256)) ∧ onNext online .lqiReportSend (fun u => u.isn.units.length == 1) ∧ onNext { isn 4 with isn := { (isn 4).isn with cd := 6, cdSlot := true, seed := 77 } }
    .swapFlip (fun u => u.isn.cd == 0 && u.isn.ltTx && u.isn.stage == 0 && u.rd R.ISN_TXSEED == 77#32) ∧ onNext (proposed 2 []) .proposalTimeout (fun u => u.isn.prop ==
    some ⟨5, true, 3, 0⟩) ∧ onNext (proposed 3 []) .proposalTimeout (fun u => u.isn.prop == none && u.bit (rEVT P.ISN) 5) := by
  decide +kernel

/-- Showtime with a loading period and a table that differs. -/
def loading : State := put ((put online R.ISN_NEGCAP 10).wrW (carrAddr 5 2) 200#32) R.ISN_LOADCFG 0x10A00

/-- A superframe's time with one position tested, and with none. -/
def sf (l : List Win) : SfRx := ⟨l, [], [], [], 200, 0, 0#48, 0, [], 0, 0⟩
def hdr : Nat := mkHdr 3 false 0 false false 0 0 0

/-- A position at which the sync pattern stands, and its header. -/
def at' (p : Nat) (h : Option Nat) : Win := ⟨p, 0x5B1EC7A2#32, h⟩

/-- The aligner with a candidate, and in LOCKED. -/
def seeking (p : Nat) (c : Bool) : State := { online with isn := { online.isn with cands := [⟨p, c⟩] } }
def locked (m : Nat) : State := { online with isn := { online.isn with locked := true, expect := 2401, miss := m } }

/-- Low-power idle negotiated and wanted. -/
def lpi : State := put (put online R.ISN_NEGCAP 0x20) (rCTRL P.ISN) 3

theorem test_isinasia_showtime : online.isnSilent = false ∧ (online.elapse 2000#48).sfDue ∧ onNext online (.superframeTx 2000#48) (fun u => u.isn.txSfn == 1 &&
    u.isn.txLevels.length == 5) ∧ (online.elapse 5#48).sfDue = false ∧ onNext online (.superframeTx 5#48) (fun u => u.isn.txSfn == 0) ∧ onNext { online with cyc := {
    online.cyc with txbuf := some (List.replicate 60 1#8) } } (.txFrame 5#48) (fun u => u.isn.units == [(false, List.replicate 60 1#8)] && u.cyc.txbuf == none) ∧ hdrOk
    hdr ∧ online.detected (at' 801 none) ∧ onNext online (.superframeRx (sf [at' 801 none])) (fun u => !u.isn.locked && u.isn.cands == [⟨801, false⟩]) ∧ onNext (seeking
    801 false) (.superframeRx (sf [at' 1601 none])) (fun u => !u.isn.locked && u.isn.cands == [⟨1601, true⟩]) ∧ onNext (seeking 1601 true) (.superframeRx (sf [at' 1601
    (some hdr)])) (fun u => u.isn.locked && u.isn.cands == [] && u.isn.rxHdr == hdr && u.bit (rEVT P.ISN) 0) ∧ (locked 2).detected (at' 2401 (some hdr)) ∧ onNext
    (locked 2) (.superframeRx (sf [at' 2401 (some hdr)])) (fun u => u.isn.locked && u.isn.miss == 0 && u.isn.expect == 3201) ∧ onNext (locked 3) (.superframeRx (sf []))
    (fun u => !u.isn.locked && u.rd R.ISC_LOCKLOSS == 1#32 && u.bit (rEVT P.ISN) 1) ∧ onNext { online with isn := { online.isn with rcvTx := true, rcvRx := true } }
    .reconvergenceStart (fun u => u.isn.stage == 3 && u.isn.left == 50 && !u.isn.rcvPend) ∧ onNext { isn 3 with isn := { (isn 3).isn with done := true, left := 0 } }
    .reconvergenceEnd (fun u => u.isn.stage == 0 && u.rd R.ISC_RECONVS == 1#32 && u.bit (rEVT P.ISN) 6) ∧ lpi.lpiReady ∧ lpi.lpiWanted ∧ onNext lpi .lpiEnter (fun u =>
    u.isn.lpiTx && u.isn.lpiFirst && u.bit (rEVT P.ISN) 9) ∧ onNext { lpi with isn := { lpi.isn with lpiTx := true } } (.superframeTx 2000#48) (fun u => u.isn.txSfn ==
    1 && u.isn.txLevels == [symbolS, symbol0, symbol0, symbol0, symbol0]) ∧ ({ online with isn := { online.isn with lpiTx := true } } : State).lpiReady = false ∧ onNext
    { online with isn := { online.isn with lpiTx := true } } .lpiExit (fun u => !u.isn.lpiTx && u.isn.lpiFirst && u.bit (rEVT P.ISN) 10) ∧ loading.calcTable ≠
    loading.rxTable ∧ onNext loading .loadingPeriod (fun u => u.isn.prop == some ⟨0, true, 0, 0⟩) := by
  decide +kernel

/-! ## Authorisations, frames, queues -/

/-- TCK armed from the line with a frame locked. -/
def ready4 (s : State) : State := clk s .locked 0

/-- TCK in RUN between ticks with an authorisation pending. -/
def waiting : State := { ready4 idle with tck := { idle.tck with pend := some ⟨8#32, 6000#48⟩ } }

theorem test_authorisations : (ready4 armed).authCode 0 8#32 5000#48 10#48 = 0 ∧ ((ready4 armed).authorise 0 8#32 5000#48 10#48).2 ∧ ((ready4 armed).authorise 0 8#32
    5000#48 10#48).1.tck.pend = some ⟨8#32, 5000#48⟩ ∧ ((ready4 armed).authorise 0 8#32 5000#48 10#48).1.rd R.TCK_MARGIN = 4990#32 ∧ (ready4 armed).authCode 0 8#32
    5001#48 10#48 = 5 ∧ (ready4 armed).authCode 0 8#32 5000#48 4600#48 = 0 ∧ (ready4 armed).authCode 0 8#32 5000#48 4601#48 = 7 ∧ (ready4 armed).authCode 1 8#32 5000#48
    10#48 = 1 ∧ ((ready4 armed).authorise 0 8#32 5001#48 10#48).1.fd R.TCK_REJ 24 4 = 5 ∧ ((ready4 armed).authorise 0 8#32 5001#48 10#48).1.bit (rEVT P.TCK) 2 ∧ (ready4
    idle).authCode 0 7#32 5000#48 10#48 = 14 ∧ ((ready4 idle).authorise 0 7#32 5000#48 10#48).1.rd R.TCK_LATE = 1#32 ∧ ((ready4 idle).authorise 0 7#32 5000#48
    10#48).1.bit (rEVT P.TCK) 0 ∧ waiting.authCode 0 8#32 6000#48 10#48 = 15 ∧ (waiting.authorise 0 8#32 6000#48 10#48).1.tck.pend = some ⟨8#32, 6000#48⟩ ∧
    (waiting.authorise 0 8#32 6000#48 10#48).1.bit (rEVT P.TCK) 1 := by
  decide +kernel

/-- A frame of a type, a destination's octet, an opcode, FLAGS, an LNID's octet and an FSEQ. -/
def frame (ty dst op fl id sq : Nat) : List Byte :=
  withFcs (List.replicate 6 (BitVec.ofNat 8 dst) ++ List.replicate 6 0x22#8 ++ beOctets 2 ty ++ beOctets 1 op ++ beOctets 1 fl ++
    List.replicate 2 (BitVec.ofNat 8 id) ++ beOctets 4 9 ++ beOctets 6 5000 ++ beOctets 6 0 ++ beOctets 2 sq ++ List.replicate 22 0#8)

/-- A state to which the frame was handed, an earlier one with FSEQ 5 seen. -/
def handed (f : List Byte) : Handed := ⟨f, 1#48, 2#48, 0, up.mac, up.fd R.CYC_NODE 0 16, up.fd R.CYC_ETYPE 0 16⟩
def got (f : List Byte) : State := put { up with cyc := { up.cyc with handover := [handed f], seqv := true } } R.CYC_FSEQ 5

theorem test_cycle_frames : (got []).awake ∧ (got []).shadow = [] ∧ (got []).cycCheck (handed (frame 0x88B5 0xFF 0x11 0 0xFF 6)) = 0 ∧ (got []).cycCheck (handed (frame
    0x88B6 0xFF 0x11 0 0xFF 6)) = 1 ∧ (got []).cycCheck (handed (frame 0x88B5 0xFE 0x11 0 0xFF 6)) = 2 ∧ (got []).cycCheck (handed (frame 0x88B5 0xFF 0x12 0 0xFF 6)) =
    3 ∧ (got []).cycCheck (handed (frame 0x88B5 0xFF 0x11 0 0xFE 6)) = 4 ∧ (got []).cycCheck (handed (frame 0x88B5 0xFF 0x11 1 0xFF 6)) = 5 ∧ (got []).cycCheck (handed
    (frame 0x88B5 0xFF 0x11 0 0xFF 5)) = 6 ∧ onNext (got (frame 0x88B5 0xFF 0x11 0 0xFF 6)) .cycleFrameRx (fun u => u.cyc.handover == [] && u.rd R.CYC_RXOK == 1#32 &&
    u.fd R.CYC_FSEQ 0 16 == 6 && u.cyc.hmacv && u.rd R.CYC_HMAC_LO == 0x22222222#32) ∧ onNext (got (frame 0x88B6 0xFF 0x11 0 0xFF 6)) .cycleFrameRx (fun u => u.rd
    R.CYC_RXOTHER == 1#32 && u.cyc.handover == []) ∧ onNext (got (frame 0x88B5 0xFE 0x11 0 0xFF 6)) .cycleFrameRx (fun u => u.rd R.CYC_RXADDR == 1#32) ∧ onNext (got
    (frame 0x88B5 0xFF 0x12 0 0xFF 6)) .cycleFrameRx (fun u => u.rd R.CYC_RXFMT == 1#32 && u.bit (rEVT P.CYC) 0) ∧ onNext (got (frame 0x88B5 0xFF 0x11 0 0xFE 6))
    .cycleFrameRx (fun u => u.rd R.CYC_RXADDR == 1#32) ∧ onNext (got (frame 0x88B5 0xFF 0x11 1 0xFF 6)) .cycleFrameRx (fun u => u.rd R.CYC_RXFMT == 1#32) ∧ onNext (got
    (frame 0x88B5 0xFF 0x11 0 0xFF 5)) .cycleFrameRx (fun u => u.rd R.CYC_RXSTALE == 1#32 && u.bit (rEVT P.CYC) 1) := by
  decide +kernel

/-- A command of an operation code at an address, and a queue with it in front. -/
def cmd (op a : Nat) (d m : Word) : Cmd := ⟨.network, op, 3, a, d, m⟩
def queued (c : Cmd) : State := { up with cyc := { up.cyc with cmdq := [c] } }
def section8 (n : Nat) (w : Bool) : State := { up with cyc := { up.cyc with fifo := [List.replicate 8 (cmd 4 0 0 0)], waited := w, rspq := List.replicate n ⟨0, 0, 0, 0#32, 0#32⟩ } }

theorem test_command_queue : (section8 0 false).mayAdmit 8 ∧ onNext (section8 0 false) .sectionAdmit (fun u => u.cyc.cmdq.length == 8 && u.cyc.fifo == []) ∧ (section8
    30 false).mayAdmit 8 = false ∧ onNext (section8 30 false) .sectionAdmit (fun u => u.cyc.waited && u.rd R.QUE_CVIOLCT == 1#32 && u.bit (rEVT P.CYC) 3) ∧ onNext
    (section8 30 true) .sectionAdmit (fun u => u.cyc.waited && u.rd R.QUE_CVIOLCT == 0#32) ∧ (queued (cmd 1 R.TCK_STROBE 0 0)).rdStatus .network R.TCK_STROBE = 0 ∧
    onNext (put (queued (cmd 1 R.TCK_STROBE 0 0)) R.TCK_STROBE 55) .cmdRead (fun u => u.cyc.cmdq == [] && u.cyc.rspq == [⟨3, 0, R.TCK_STROBE, 55#32, 0xFFFFFFFF#32⟩]) ∧
    (queued (cmd 1 0xFF00 0 0)).rdStatus .network 0xFF00 = 1 ∧ onNext (queued (cmd 1 0xFF00 0 0)) .cmdRead (fun u => u.cyc.rspq == [⟨3, 1, 0xFF00, 0#32,
    0xFFFFFFFF#32⟩]) ∧ onNext (queued (cmd 2 R.TRC_USER 9 0)) .cmdWrite (fun u => u.cyc.rspq == [⟨3, 0, R.TRC_USER, 9#32, 0xFFFFFFFF#32⟩]) ∧ (queued (cmd 2 0xFF00 9
    0)).wrStatus .network 0xFF00 ≠ 0 ∧ onNext (queued (cmd 2 0xFF00 9 0)) .cmdWrite (fun u => u.cyc.rspq == [⟨3, 1, 0xFF00, 0#32, 0xFFFFFFFF#32⟩]) ∧ onNext (queued (cmd
    3 0x4024 0xF 0x3)) .cmdModify (fun u => u.rd 0x4024 == 3#32 && u.cyc.rspq == [⟨3, 0, 0x4024, 0#32, 0xFFFFFFFF#32⟩]) ∧ (queued (cmd 3 0x4024 0xF 0x3)).wrStatus
    .network 0x4024 = 0 ∧ (queued (cmd 3 0xFF20 0xF 0x3)).wrStatus .network 0xFF20 ≠ 0 ∧ onNext (queued (cmd 3 0xFF20 0xF 0x3)) .cmdModify (fun u => u.cyc.cmdq == [] &&
    u.cyc.rspq == [⟨3, 1, 0xFF20, 0#32, 0xFFFFFFFF#32⟩]) ∧ onNext (queued (cmd 4 4 0 0)) .cmdFlushmark (fun u => u.cyc.rspq == [⟨3, 0, 4, 0#32, 0xFFFFFFFF#32⟩]) ∧
    up.Takes .network (rCTRL P.QUE) ∧ (queued (cmd 4 4 0 0)).Takes .monitor (rCTRL P.QUE) ∧ onNext (queued (cmd 4 4 0 0)) (.flush .monitor) (fun u => u.cyc.cmdq == []
    && u.cyc.fifo == []) := by
  unfold State.Takes; decide +kernel

/-- Responses that wait, the host's address known. -/
def answering (s : State) : State := { s with cyc := { s.cyc with rspq := List.replicate 3 ⟨1, 0, 4, 0#32, 0#32⟩, hmacv := true } }

/-- The part of a tick in which the response is assembled. -/
def reporting : State := late (run 1900) 5

theorem test_responses : reporting.turn 6 (reporting.guardG + 448) ∧ onNext (answering (put reporting R.CYC_RPTCFG 0x200)) .responseAssembly (fun u => u.cyc.rspq.length
    == 1 && u.fd R.CYC_FSEQ 16 16 == 1 && u.cyc.txbuf.isSome && u.tck.step == 6) ∧ onNext (answering (put up R.CYC_RPTCFG 0x200)) .idleReport (fun u =>
    u.cyc.rspq.length == 1 && u.cyc.txbuf.isSome) ∧ onNext { answering (put armed R.CYC_RPTCFG 0x3F00) with cyc := { (answering armed).cyc with hmacv := false } }
    .idleReport (fun u => u.cyc.rspq == [] && u.cyc.txbuf == none) := by
  decide +kernel

/-! ## Register pages -/

theorem test_common_words : up.Takes .network (rLOCK P.LNK) ∧ onNext up (.lockWrite .network P.LNK (wd (0xA500 + P.LNK))) (fun u => u.openTo .network P.LNK) ∧ (opened
    up P.LNK).openTo .network P.LNK ∧ onNext (opened up P.LNK) (.lockWrite .network P.LNK 0) (fun u => u.fd (rLOCK P.LNK) 16 4 == 0) ∧ onNext (opened up P.LNK)
    (.lockWrite .spi P.LNK 0) (fun u => u.openTo .network P.LNK) ∧ (opened up P.LNK).Takes .network (rFLT P.LNK) ∧ onNext (put (opened up P.LNK) (rFLT P.LNK) 3)
    (.fltClear .network P.LNK 1) (fun u => u.rd (rFLT P.LNK) == 2#32) ∧ onNext (put up (rFLT P.LNK) 3) (.fltClear .network P.LNK 1) (fun u => u.rd (rFLT P.LNK) == 3#32)
    ∧ onNext (put { opened up P.PST with pst := { up.pst with cond := 1 } } (rFLT P.PST) 3) (.fltClear .network P.PST 3) (fun u => u.rd (rFLT P.PST) == 1#32) ∧
    landTouches (rEVT P.TCK) = false ∧ onNext (put up (rEVT P.TCK) 3) (.evtClear .network P.TCK 1) (fun u => u.rd (rEVT P.TCK) == 2#32) ∧ onNext up (.evenWrite .network
    P.TCK 0x15) (fun u => u.rd (rEVEN P.TCK) == 0x15#32) ∧ (put up (rEVRT P.TCK) 3).level P.TCK 0 = 3 ∧ onNext (put (put up (rEVRT P.TCK) 3) (rEVEN P.TCK) 3)
    (.evenWrite .network P.TCK 0) (fun u => u.rd (rEVEN P.TCK) == 1#32) := by
  unfold State.Takes; decide +kernel

theorem test_register_writes : up.wrStatus .network 0xFF00 ≠ 0 ∧ onNext up (.registerWrite .network 0xFF00 1) (fun u => u.regs == up.regs) ∧ up.Takes .network 0x4024 ∧
    (regDesc 0x4024).isSome ∧ landTouches 0x4024 = false ∧ up.accept .network 0x4024 0 5 5 = (5#32, none) ∧ onNext up (.registerWrite .network 0x4024 5) (fun u => u.rd
    0x4024 == 5#32) ∧ (run 100).Takes .coreSup 0x4024 ∧ onNext { run 100 with landed := [(0x4024, .network)] } (.registerWrite .coreSup 0x4024 5) (fun u => u.rd 0x4024
    == 5#32 && u.bit (rEVT P.CYC) 15) ∧ up.accept .network R.CYC_ETYPE 0x88B5 0x1234 0x1234 = (0x1234#32, none) ∧ onNext (opened up P.CYC) (.registerWrite .network
    R.CYC_ETYPE 0x1234) (fun u => u.rd R.CYC_ETYPE == 0x1234#32) ∧ onNext up (.registerWrite .network R.CYC_ETYPE 0x1234) (fun u => u.rd R.CYC_ETYPE == 0x88B5#32) ∧
    onNext up (.registerWrite .network R.SYS_RSTCAUSE 0) (fun u => u.rd R.SYS_RSTCAUSE == up.rd R.SYS_RSTCAUSE) ∧ (run 100).Takes .coreSup R.TCK_BUDGET ∧ (run
    100).direct = false ∧ (run 100).accept .coreSup R.TCK_BUDGET ((run 100).rd R.TCK_BUDGET) 5000 5000 = (5000#32, none) ∧ onNext (run 100) (.registerWrite .coreSup
    R.TCK_BUDGET 5000) (fun u => u.rd R.TCK_BUDGET == (run 100).rd R.TCK_BUDGET && Sparse.find u.shadow R.TCK_BUDGET == some 5000#32) ∧ (run 100).atOnce = false ∧ (run
    100).cfree ≠ 0 ∧ onNext (run 100) (.registerWrite .network R.TCK_BUDGET 5000) (fun u => u.cyc.cmdq == [⟨.network, 2, 0, R.TCK_BUDGET, 5000#32, 0#32⟩]) := by
  unfold State.Takes; decide +kernel

/-! ## The Badger core -/

/-- The core with values in c1 to c3 and words in SRAM. -/
def core : State := ((((up.setGr 1 0x20000200#32).setGr 2 5#32).setGr 3 0xFFFFFFF9#32).wrW 0x20000200 0x8000FF80#32).wrW 0x20000204 7#32

/-- The core at a program counter. -/
def atPc (s : State) (pc : Word) : State := { s with cpu := { s.cpu with pc := pc } }

/-- A status changed. -/
def user (s : State) : State := { s with cpu := { s.cpu with psr := { s.cpu.psr with sup := false }, ssp := 0x20003000#32 } }

theorem test_core_arithmetic : core.OutFollows ∧ core.Runs 1 ∧ core.Runs 2 ∧ core.Runs 3 ∧ core.Runs 18 ∧ onNext core (.add 4 2 3) (fun u => u.gr 4 == 0xFFFFFFFE#32 &&
    u.cpu.pc == 0x20000104#32 && u.gr 2 == 5#32) ∧ onNext core (.add 0 2 3) (fun u => u.gr 0 == 0#32 && u.cpu.pc == 0x20000104#32) ∧ onNext core (.div 4 3 2) (fun u =>
    u.gr 4 == 0xFFFFFFFF#32) ∧ onNext core (.rem 4 3 2) (fun u => u.gr 4 == 0xFFFFFFFE#32) ∧ onNext core (.div 4 3 0) (fun u => u.gr 4 == 0xFFFFFFFF#32) ∧ onNext core
    (.remu 4 3 0) (fun u => u.gr 4 == 0xFFFFFFF9#32) ∧ onNext core (.mulh 4 3 3) (fun u => u.gr 4 == 0#32) ∧ onNext core (.mulhu 4 3 3) (fun u => u.gr 4 ==
    0xFFFFFFF2#32) ∧ onNext core (.srai 4 3 1) (fun u => u.gr 4 == 0xFFFFFFFC#32) ∧ onNext core (.slti 4 3 0) (fun u => u.gr 4 == 1#32) ∧ onNext core (.sltiu 4 2
    0x3FFFF) (fun u => u.gr 4 == 1#32) ∧ onNext core (.andi 4 3 0x3FFFF) (fun u => u.gr 4 == 0x3FFF9#32) ∧ onNext core (.lui 1 0x10000) (fun u => u.gr 1 ==
    0x40000000#32) ∧ onNext core (.clz 4 2) (fun u => u.gr 4 == 29#32) ∧ onNext core (.clz 4 0) (fun u => u.gr 4 == 32#32) ∧ onNext (core.setGr 4 0x7FFFFFFF#32) (.adds
    5 4 2) (fun u => u.gr 5 == 0x7FFFFFFF#32 && u.cpu.psr.sat) ∧ onNext core (.subs 5 3 2) (fun u => u.gr 5 == 0xFFFFFFF4#32 && !u.cpu.psr.sat) ∧ onNext core (.mulsh 5
    3 2 1) (fun u => u.gr 5 == 0xFFFFFFEF#32) := by
  unfold State.Runs State.Retires State.OutFollows; decide +kernel

/-- A store that waits. -/
def buffered (a w : Nat) (v : Word) : State := { core with cpu := { core.cpu with wb := [⟨a, w, v, true, drainCyc .sram w, .ok⟩] } }

/-- A late error that waits. -/
def lateErr : State := { core with cpu := { core.cpu with late := some ⟨4#32, 1, false⟩ } }

theorem test_core_memory : core.OutFollows ∧ core.Runs (loadCyc .sram) ∧ memRegion 0x20000200 = some .sram ∧ core.accessFault .load 4 0x20000200 = none ∧
    core.accessFault .store 1 0x20000200 = none ∧ core.flashWait .sram = false ∧ core.eccAt .sram 0x20000200 .ok ≠ .uncorrectable ∧ onNext core (.lb 4 1 0 .ok) (fun u
    => u.gr 4 == 0xFFFFFF80#32) ∧ onNext core (.lbu 4 1 0 .ok) (fun u => u.gr 4 == 0x80#32) ∧ onNext core (.lh 4 1 2 .ok) (fun u => u.gr 4 == 0xFFFF8000#32) ∧ onNext
    core (.lhu 4 1 0 .corrected) (fun u => u.gr 4 == 0xFF80#32) ∧ onNext core (.lw 4 1 4 .ok) (fun u => u.gr 4 == 7#32 && u.cpu.pc == 0x20000104#32) ∧ onNext core (.lw
    0 1 4 .ok) (fun u => u.gr 0 == 0#32) ∧ core.accessFault .load 4 0x20000201 = some 3 ∧ core.accessFault .store 2 0x20000201 = some 3 ∧ core.canIssue ∧ core.CanTrap
    core.fetchNow.2 ∧ onNext core (.lw 4 1 1 .ok) (fun u => u.cpu.cause == causeWord 0x14 3 false false && u.cpu.eaddr == 0x20000201#32 && u.cpu.epc == 0x20000100#32) ∧
    onNext core (.sh 4 1 1 .ok) (fun u => u.cpu.cause == causeWord 0x15 3 false false && u.cpu.eaddr == 0x20000201#32) ∧ memRegion 0x40000220 = some .regs ∧
    core.accessFault .load 4 0x40000228 = none ∧ onNext (core.setGr 1 0x40000228#32) (.lw 4 1 0 .ok) (fun u => u.gr 4 == 64#32) ∧ onNext core (.sb 2 1 0 .ok) (fun u =>
    u.cpu.wb == [⟨0x20000200, 1, 5#32, true, drainCyc .sram 1, .ok⟩]) ∧ onNext core (.sw 2 1 0) (fun u => u.cpu.wb == [⟨0x20000200, 4, 5#32, true, drainCyc .sram 4,
    .ok⟩] && u.rdW 0x20000200 == 0x8000FF80#32) ∧ (buffered 0x20000202 2 0xABCD1234#32).frozen = false ∧ onNext (buffered 0x20000202 2 0xABCD1234#32) (.storeDrain .ok)
    (fun u => u.cpu.wb == [] && u.rdW 0x20000200 == 0x1234FF80#32) ∧ onNext (buffered 0x20000200 4 9#32) (.storeDrain .uncorrectable) (fun u => u.rdW 0x20000200 ==
    9#32) ∧ (buffered 0x20000202 2 0xABCD1234#32).landsNow .coreSup ∧ (buffered 0x20000202 2 0xABCD1234#32).eccAt .sram 0x20000202 .ok ≠ .uncorrectable ∧ onNext core
    (.storeDrain .ok) (fun u => u.cpu == core.cpu) ∧ memRegion 0x31000010 = some .trace ∧ core.accessFault .load 4 0x31000010 = none ∧ core.eccAt .trace 0x31000010 .ok
    = .ok ∧ core.Retires 3 ∧ onNext (core.setGr 1 0x31000010#32) (.lw 4 1 0 .ok) (fun u => u.gr 4 == core.traceCore 0x10) ∧ ((buffered 0x20000200 4 9#32).drain 1).eccAt
    .sram 0x20000200 .ok = .ok ∧ (buffered 0x20000200 4 9#32).Retires 4 ∧ onNext (buffered 0x20000200 4 9#32) (.lw 4 1 0 .ok) (fun u => u.gr 4 == 9#32 && u.cpu.wb == []
    && u.cpu.pc == 0x20000104#32) ∧ onNext (buffered 0x20000200 4 9#32) .fence (fun u => u.cpu.wb == [] && u.rdW 0x20000200 == 9#32 && u.cpu.pc == 0x20000104#32) ∧
    drainCyc .sram 4 ≤ (buffered 0x20000200 4 9#32).fetchNow.2 + 1 ∧ onNext (buffered 0x20000200 4 9#32) (.addi 0 0 0) (fun u => u.cpu.wb == [] && u.rdW 0x20000200 ==
    9#32 && u.cpu.pc == 0x20000104#32) ∧ lateErr.boundary = .late ∧ lateErr.CanTrap 0 ∧ onNext lateErr .lateStore (fun u => u.cpu.cause == causeWord 0x1D 1 false false
    && u.cpu.eaddr == 4#32 && u.cpu.late == none) := by
  unfold State.Runs State.Retires State.CanTrap State.OutFollows; decide +kernel

theorem test_core_branches : core.CanTrap core.fetchNow.2 ∧ core.Runs 2 ∧ onNext core (.beq 2 2 0x3FFFF) (fun u => u.cpu.pc == 0x200000FC#32) ∧ onNext core (.beq 2 3 8)
    (fun u => u.cpu.pc == 0x20000104#32) ∧ onNext core (.blt 3 2 2) (fun u => u.cpu.pc == 0x20000108#32) ∧ onNext core (.bltu 3 2 2) (fun u => u.cpu.pc ==
    0x20000104#32) ∧ onNext core (.bge 2 2 2) (fun u => u.cpu.pc == 0x20000108#32) ∧ onNext core (.jmp 0x3FFFFFF) (fun u => u.cpu.pc == 0x200000FC#32) ∧ (core.gr
    1).toNat % 4 = 0 ∧ onNext core (.jr 1) (fun u => u.cpu.pc == 0x20000200#32) ∧ (core.gr 3).toNat % 4 ≠ 0 ∧ onNext core (.jr 3) (fun u => u.cpu.cause == causeWord
    0x12 0 false false && u.cpu.eaddr == 0xFFFFFFF9#32) := by
  unfold State.CanTrap State.Runs State.Retires; decide +kernel

/-- The core with frames of the ring resident, one below at the top. -/
def ring (n : Nat) : State := { core.setGr 15 0x20000300#32 with cpu := { (core.setGr 15 0x20000300#32).cpu with res := n, ftop := 3, gpr := core.cpu.gpr } }

/-- A frame with a return address that is current. -/
def frame1 (n : Nat) : State := (ring n).setGr 15 0x20000300#32

/-- A frame spilled to SRAM that a return finds. -/
def spilled : State := (put (frame1 1) R.CPU_SCREE_PTR 0x2001F020).wrW 0x2001F000 0x1234#32

theorem test_core_calls : (ring 16).spillDue ∧ (ring 16).spillBlocked = false ∧ (ring 15).spillDue = false ∧ (ring 16).Runs (2 + (ring 16).spillCyc) ∧ onNext (ring 15)
    (.call 4) (fun u => u.cpu.pc == 0x20000110#32 && u.gr 15 == 0x20000104#32 && u.gr 8 == 0#32 && u.cpu.ftop == 4 && u.cpu.res == 16 && u.gr 2 == 5#32) ∧ onNext ((ring
    16).setBank 4 2 77#32) (.callr 1) (fun u => u.cpu.pc == 0x20000200#32 && u.cpu.res == 16 && u.rd R.CPU_SCREE_PTR == 0x2001F020#32 && u.rdW 0x2001F008 == 77#32) ∧
    onNext { ring 2 with cpu := { (ring 2).cpu with psr := { (ring 2).cpu.psr with tb := true } } } (.call 4) (fun u => u.cpu.psr.eb && !u.cpu.psr.tb && u.cpu.ftop ==
    3) ∧ (frame1 2).backKind .ok 0 = .ok ∧ onNext (frame1 2) (.ret .ok 0) (fun u => u.cpu.pc == 0x20000300#32 && u.cpu.ftop == 2 && u.cpu.res == 1) ∧ spilled.backKind
    .ok 0 = .fill ∧ spilled.Runs 11 ∧ onNext spilled (.ret .ok 0) (fun u => u.cpu.pc == 0x20000300#32 && u.cpu.ftop == 2 && u.cpu.res == 1 && u.rd R.CPU_SCREE_PTR ==
    0x2001F000#32 && u.getBank 2 0 == 0x1234#32) := by
  unfold State.Runs State.Retires; decide +kernel

/-- A long instruction's operands: c4 to, c1 from, c5 the count. -/
def long (n : Nat) : State := (core.setGr 4 0x20000400#32).setGr 5 (wd n)

theorem test_core_long : (long 0).cpu.wb = [] ∧ (long 1).Runs 3 ∧ (long 1).budgeted = false ∧ (long 2).longStop .bmove 0x20000400 0x20000200 .ok .ok = none ∧ onNext
    (long 0) (.bmove 4 1 5 1 .ok) (fun u => u.cpu.pc == 0x20000104#32 && u.gr 4 == 0x20000400#32) ∧ onNext (long 1) (.bmove 4 1 5 1 .ok) (fun u => u.cpu.pc ==
    0x20000104#32 && !u.cpu.psr.lp && u.gr 5 == 0#32 && u.gr 4 == 0x20000404#32 && u.gr 1 == 0x20000204#32 && u.rdW 0x20000400 == 0x8000FF80#32) ∧ onNext (long 2)
    (.bfill 4 1 5 1) (fun u => u.cpu.pc == 0x20000100#32 && u.cpu.psr.lp && u.gr 5 == 1#32 && u.rdW 0x20000400 == 0x20000200#32 && u.gr 1 == 0x20000200#32) ∧ onNext
    ((long 2).wrW 0x20000400 3#32) (.vmac16 4 1 5 1 .ok .ok) (fun u => u.lacc == -384 && u.gr 1 == 0x20000202#32 && u.gr 4 == 0x20000402#32) ∧ onNext ((long 2).wrW
    0x20000400 3#32) (.vmac32 4 1 5 1 .ok .ok) (fun u => u.lacc == 3 * (0x8000FF80#32).toInt && u.gr 4 == 0x20000404#32) ∧ onNext ((long 1).setGr 4 0xFFFFFFFF#32)
    (.bcrc32 4 1 5 1 .ok) (fun u => u.gr 4 == wd (crc32Byte 0xFFFFFFFF 0x80#8) && u.gr 1 == 0x20000201#32) ∧ onNext ((long 1).setGr 4 0xFFFF#32) (.bcrc16 4 1 5 1 .ok)
    (fun u => u.gr 4 == wd (crc16Byte 0xFFFF 0x80#8)) := by
  unfold State.Runs State.Retires; decide +kernel

theorem test_core_special : core.CanTrap core.fetchNow.2 ∧ core.Runs 2 ∧ onNext core (.mfs 4 0) (fun u => u.gr 4 == psrWord core.cpu.psr) ∧ onNext core (.mfs 4 11) (fun
    u => u.gr 4 == 0x20000100#32) ∧ (user core).cpu.psr.sup = false ∧ onNext (core.setGr 4 0xFFFFFFFF#32) (.mts 0 4) (fun u => u.cpu.psr.sup && u.cpu.psr.ie &&
    u.cpu.psr.sat && !u.cpu.psr.tb) ∧ onNext (core.setGr 4 0xFFFFFFFF#32) (.mts 3 4) (fun u => u.cpu.cause == 0x7FFFF#32) ∧ onNext (core.setGr 4 0xFFFFFFFF#32) (.mts 9
    4) (fun u => u.cpu.screeLimit == 0x2001FFE0#32) ∧ onNext (core.setGr 4 0x2001E000#32) (.mts 8 4) (fun u => u.cpu.screeBase == 0x2001E000#32 && u.rd R.CPU_SCREE_PTR
    == 0x2001E000#32) ∧ onNext (core.setGr 4 255#32) (.mts 10 4) (fun u => u.rd R.CPU_CRIT_MAX == 255#32) ∧ onNext core (.mfs 4 12) (fun u => u.cpu.cause == causeWord
    0x10 0 false false) ∧ onNext core (.mts 11 4) (fun u => u.cpu.cause == causeWord 0x10 0 false false) ∧ (user core).canIssue = false := by
  unfold State.CanTrap State.Runs State.Retires; decide +kernel

/-- The core at user level with region 0 of the MPU open over SRAM to it. -/
def lowly : State := user (put (put (put core R.MPU_RBASE0 0x20000000) R.MPU_RLIM0 0x2001FFE0) R.MPU_RATTR0 0xFF)

theorem test_core_privilege : lowly.canIssue ∧ lowly.CanTrap lowly.fetchNow.2 ∧ onNext lowly (.mfs 4 1) (fun u => u.cpu.cause == causeWord 0x11 0 false false &&
    u.cpu.psr.sup && u.cpu.epc == 0x20000100#32 && u.com 7 == 0x20003000#32) ∧ onNext lowly (.mts 0 4) (fun u => u.cpu.cause == causeWord 0x11 0 false false) ∧ onNext
    lowly .critb (fun u => u.cpu.cause == causeWord 0x11 0 false false) ∧ onNext lowly .crite (fun u => u.cpu.cause == causeWord 0x11 0 false false) ∧ onNext lowly
    (.eret .ok 0) (fun u => u.cpu.cause == causeWord 0x11 0 false false) ∧ onNext lowly (.gret .ok .ok 0) (fun u => u.cpu.cause == causeWord 0x11 0 false false) ∧
    onNext lowly (.mfs 4 0) (fun u => u.gr 4 == psrWord lowly.cpu.psr) ∧ onNext lowly (.mfs 4 11) (fun u => u.gr 4 == 0x20000100#32) := by
  unfold State.CanTrap; decide +kernel

theorem test_core_traps : core.CanTrap (core.fetchNow.2 + 1) ∧ onNext core (.trap 0xAB) (fun u => u.cpu.cause == causeWord 0x1A 0xAB false false && u.cpu.epc ==
    0x20000104#32 && u.cpu.pc == 0x100#32 && u.cpu.psr.tb && u.rdW 0x20004000 == (core.settWords 0x20000104#32 (psrWord core.cpu.psr) u.cpu.cause 0#32 0#32).getD 0
    0#32) ∧ onNext core .brk (fun u => u.cpu.cause == causeWord 0x1B 0 false false && u.cpu.epc == 0x20000100#32) ∧ illegalWord 0xFFFFFFFF#32 ∧ onNext core
    (.illegalInstruction 0xFFFFFFFF#32) (fun u => u.cpu.cause == causeWord 0x10 0 false false) ∧ (atPc core 0x30000000#32).boundary = .issue ∧ (atPc core
    0x30000000#32).accessFault .fetch 4 0x30000000 = some 4 ∧ (atPc core 0x20000102#32).accessFault .fetch 4 0x20000102 = some 3 ∧ onNext (atPc core 0x30000000#32)
    (.instructionAccessFault .ok) (fun u => u.cpu.cause == causeWord 0x13 4 false false && u.cpu.eaddr == 0x30000000#32) ∧ (crit core).coreOn ∧ (crit core).budgeted =
    false ∧ (crit core).CanTrap 0 ∧ onNext (crit core) .critExpire (fun u => u.cpu.cause == causeWord 0x1C 0 false false && !u.cpu.psr.crit && u.cpu.epc ==
    0x20000100#32) := by
  unfold State.CanTrap; decide +kernel

/-- A non-maskable event that waits, and a maskable one. -/
def nmEvent : State := put (put (put core (rEVT P.TCK) 1) (rEVEN P.TCK) 1) (rEVRT P.TCK) 3
def maskable : State := put { nmEvent with cpu := { nmEvent.cpu with psr := { nmEvent.cpu.psr with ie := true } } } (rEVRT P.TCK) 0

/-- A return from an event to a place with a status, from the trap bank or from a frame. -/
def returning (s : State) (stat : Nat) (tb : Bool) : State :=
  { s with cpu := { s.cpu with psr := { s.cpu.psr with tb := tb }, epc := 0x20000300#32, estat := wd stat } }

theorem test_core_events : nmEvent.boundary = .event true P.TCK ∧ nmEvent.spillBlocked = false ∧ nmEvent.overruns (3 + nmEvent.spillCyc) = false ∧ nmEvent.holdsStores
    (3 + nmEvent.spillCyc) ∧ maskable.boundary = .event false P.TCK ∧ onNext nmEvent .lightEventEntry (fun u => u.cpu.epc == 0x20000100#32 && u.cpu.cause == 0x202#32 &&
    u.cpu.pc == 0x100#32 && u.cpu.ftop == 1 && !u.cpu.psr.ie) ∧ onNext maskable .lightEventEntry (fun u => u.cpu.cause == 0x201#32 && u.cpu.estat == psrWord
    maskable.cpu.psr && !u.cpu.psr.ie) ∧ core.OutFollows ∧ core.cpu.epc.toNat % 4 = 0 ∧ core.Runs 4 ∧ onNext (returning core 2 true) (.eret .ok 0) (fun u => u.cpu.pc ==
    0x20000300#32 && !u.cpu.psr.tb && u.cpu.psr.ie && !u.cpu.psr.sup) ∧ (frame1 2).backKind .ok 0 = .ok ∧ onNext (returning (frame1 2) 1 false) (.eret .ok 0) (fun u =>
    u.cpu.pc == 0x20000300#32 && u.cpu.ftop == 2 && u.cpu.psr.sup) ∧ onNext core .critb (fun u => u.cpu.psr.crit && u.cpu.critLeft == 64 && u.cpu.pc == 0x20000104#32) ∧
    onNext core .crite (fun u => !u.cpu.psr.crit && u.cpu.pc == 0x20000104#32) ∧ onNext core .yield (fun u => !u.cpu.parked && u.cpu.pc == 0x20000104#32) ∧ (run
    100).Runs 1 ∧ onNext (run 100) .yield (fun u => u.cpu.parked && u.rd R.CPU_PARKPC == 0x20000104#32) ∧ onNext core .fence (fun u => u.cpu.pc == 0x20000104#32) ∧
    up.Takes .network (rCTRL P.CPU) ∧ onNext (put up R.CPU_SCREE_HWM 0x2001F100) (.hwmclr .network) (fun u => u.rd R.CPU_SCREE_HWM == u.rd R.CPU_SCREE_PTR) ∧ onNext {
    up with cpu := { up.cpu with ovrct := 9 } } (.ovrclr .network) (fun u => u.cpu.ovrct == 0) := by
  unfold State.Runs State.Retires State.Takes State.OutFollows; decide +kernel

/-- Gates on, descriptor 5 open to both levels with one pointer to check. -/
def gates : State :=
  ((((put (put core (rCTRL P.GTE) 1) R.GTE_BASE 0x20000800).wrW 0x20000828 0x20000303#32).wrW 0x2000082C 0x00040001#32).setGr 7 0x20003000#32)

/-- The state behind a gate, a link word under the stack pointer. -/
def gated : State := ((frame1 2).setGr 7 0x20003000#32).wrW 0x20003000 0x6A7E0001#32

theorem test_core_gates : gates.gateAddr 5 = 0x20000828 ∧ memRegion 0x20000828 = some .sram ∧ gates.gateEcc 5 .ok ≠ .uncorrectable ∧ gates.pointerOk (gates.com 1).toNat
    4 false ∧ gates.Runs (6 + gates.spillCyc) ∧ onNext gates (.gate 5 .ok) (fun u => u.cpu.pc == 0x20000300#32 && u.cpu.psr.sup && u.gr 15 == 0x20000104#32 && u.com 7
    == 0x20002FFC#32 && u.rd R.GTE_COUNT == 1#32 && u.rdW 0x20002FFC == 0x6A7E0501#32) ∧ core.CanTrap core.fetchNow.2 ∧ onNext core (.gate 5 .ok) (fun u => u.cpu.cause
    == causeWord 0x19 5 false false && u.fd (rSTAT P.GTE) 0 4 == 1 && u.bit (rEVT P.GTE) 0) ∧ inSram (gated.com 7).toNat ∧ gated.eccAt .sram (gated.com 7).toNat .ok ≠
    .uncorrectable ∧ gated.backKind .ok 0 = .ok ∧ gated.Runs 4 ∧ onNext gated (.gret .ok .ok 0) (fun u => u.cpu.pc == 0x20000300#32 && u.cpu.psr.sup && !u.cpu.psr.ie &&
    u.com 7 == 0x20003004#32) ∧ onNext (gated.wrW 0x20003000 0x6A7E0002#32) (.gret .ok .ok 0) (fun u => !u.cpu.psr.sup && u.cpu.psr.ie && u.com 7 == 0#32 && u.cpu.ssp
    == 0x20003004#32) := by
  unfold State.Runs State.Retires State.CanTrap; decide +kernel

theorem test_decoding : decodeCore 0x1C410000#32 = some (.lui 1#4 0x10000#18) ∧ decodeCore 0x5084020C#32 = some (.imm .lw 2#4 1#4 0x20C#18) ∧ decodeCore 0xC0C48004#32 =
    some (.reg .bcrc32 3#4 1#4 2#4) ∧ decodeCore 0xFC000143#32 = some (.gate 5#6) ∧ illegalWord 0#32 = false ∧ (CoreIns.gate 63#6).encode = 0xFC000FC3#32 ∧ decodeCore
    (CoreIns.imm .lw 15#4 15#4 0x3FFFF#18).encode = some (.imm .lw 15#4 15#4 0x3FFFF#18) := by
  decide +kernel

/-! ## Converters, sequencer, trace -/

/-- A precision window in progress whose strobes have come. -/
def window (started : Bool) : State := { run 100 with adc := { (run 100).adc with pbusy := true, pstart := started, left := 4, strobes := 5, nexts := [9, 9] } }

/-- The sequencer's own precision window. -/
def seqWindow : State := { run 100 with seq := { (run 100).seq with pwin := true } }

theorem test_converters : (run 100).Takes .coreSup (R.FM_OWN 0) ∧ onNext (run 100) (.ownReq .coreSup 1) (fun u => (u.fm 1).reqs == [ownCode .coreSup] && (u.fm 1).owner
    == 0) ∧ onNext up (.ownReq .network 1) (fun u => (u.fm 1).reqs == []) ∧ onNext { run 100 with fmA := { (run 100).fmA with owner := ownCode .coreSup } } (.ownRel
    .coreSup 0) (fun u => (u.fm 0).owner == 0) ∧ onNext { run 100 with fmA := { (run 100).fmA with owner := 3 } } (.ownRel .coreSup 0) (fun u => (u.fm 0).owner == 3) ∧
    (run 100).Takes .coreSup (rCTRL P.ADC) ∧ onNext (put (run 100) R.ADC_PCFG 0x50000) (.pstart .coreSup) (fun u => u.adc.pbusy && u.adc.left == 5 && u.adc.pstart) ∧
    onNext seqWindow (.pstart .coreSup) (fun u => u.bit (rEVT P.ADC) 2 && !u.adc.pbusy) ∧ onNext (window false) (.pstart .coreSup) (fun u => !u.adc.pstart) ∧ onNext
    (window false) (.pstop .coreSup) (fun u => !u.adc.pbusy && u.rd R.ADC_PFLG == 0x10#32) ∧ onNext (run 100) (.pstop .coreSup) (fun u => u.rd R.ADC_PFLG == 0#32) ∧
    onNext seqWindow (.pstop .coreSup) (fun u => u.bit (rEVT P.ADC) 2) ∧ (window false).windowOver ∧ onNext (window false) (.precisionWindowEnd 1000 false) (fun u =>
    u.adc.pdone && u.rd R.ADC_PRAW == 1000#32 && u.rd R.ADC_PEND == 7#32 && u.bit (rEVT P.ADC) 0 && !u.adc.pbusy) ∧ onNext (put (window false) (rCTRL P.ADC) 4)
    (.precisionWindowEnd 1000 true) (fun u => u.adc.pbusy && u.adc.strobes == 1 && u.adc.sums == u.adc.nexts && u.bit R.ADC_PFLG 2) ∧ (window true).windowOver = false ∧
    onNext (window true) (.precisionWindowEnd 1000 false) (fun u => u.adc.pbusy && u.adc.pstart) ∧ up.Takes .network (rCTRL P.CAL) ∧ up.calImage (up.rd
    R.CAL_LADDR).toNat = none ∧ onNext up (.calLoad .network) (fun u => u.adc.loadErr && u.bit (rEVT P.CAL) 1) ∧ onNext (run 100) (.calLoad .coreSup) (fun u => u.bit
    (rEVT P.CAL) 2) := by
  unfold State.Takes; decide +kernel

/-- An image of CAL in data flash. -/
def image0 : State := (up.wrW 0x0C003F00 0xCA1B0001#32).wrW 0x0C003F04 26#32
def image : State := image0.wrW (0x0C003F00 + 216) (image0.crcWords 0x0C003F00 54)

set_option maxRecDepth 20000 in
theorem test_cal_load : (image.calImage (image.rd R.CAL_LADDR).toNat).isSome ∧ onNext image (.calLoad .network) (fun u => !u.adc.loadErr && u.adc.fact && u.bit (rEVT
    P.CAL) 0 && u.rd (R.CAL_E0W0 + 4 * 51) == 0xFFFFFFFF#32) := by
  decide +kernel

/-- A sequence of one segment of one point, at phase 48 of a tick. -/
def swept (s : State) : State := s.setSeg 0 0x80020002#32 0x20000000#32
def at48 (arm : Bool) : State := { swept (run 48) with seq := { (swept (run 48)).seq with arm := arm } }

theorem test_sequencer : up.Takes .network (rCTRL P.SEQ) ∧ onNext up (.seqArm .network) (fun u => u.seq.armwhy == 1 && !u.seq.arm && u.bit (rEVT P.SEQ) 9) ∧ onNext {
    run 100 with seq := { (run 100).seq with state := 2 } } (.seqArm .coreSup) (fun u => u.seq.armwhy == 2 && !u.seq.arm) ∧ onNext (run 100) (.seqArm .coreSup) (fun u
    => u.seq.arm) ∧ onNext { run 100 with seq := { (run 100).seq with state := 1 } } (.go .coreSup) (fun u => u.seq.go) ∧ onNext (run 100) (.go .coreSup) (fun u =>
    !u.seq.go) ∧ onNext (run 100) (.pause .coreSup) (fun u => u.seq.pause) ∧ onNext (run 100) (.resume .coreSup) (fun u => u.seq.resume) ∧ onNext (run 100) (.abort
    .coreSup) (fun u => u.seq.abort) ∧ (run 100).Takes .coreSup R.SEQ_JUMP ∧ onNext (run 100) (.jumpRequest .coreSup 255) (fun u => u.seq.jreq == some (.jump 255)) ∧
    onNext (run 100) (.jumpClear .coreSup) (fun u => u.seq.jreq == some .clear) ∧ (at48 true).budgeted ∧ (at48 true).armWhy = 0 ∧ (at48 true).named 0 ∧ (at48
    true).winner 0 true = 3 ∧ onNext (at48 true) .seqArmCheck (fun u => u.seq.state == 1 && !u.seq.arm && u.bit (rEVT P.SEQ) 0 && (u.fm 0).owner == 3 && u.seq.armwhy ==
    0) ∧ onNext { at48 false with fmA := { (at48 false).fmA with reqs := [7, 5] } } .seqArmCheck (fun u => (u.fm 0).owner == 5 && (u.fm 0).reqs == [] && u.seq.state ==
    0) ∧ ({ run 48 with seq := { (run 48).seq with arm := true } } : State).armWhy = 3 ∧ onNext { run 48 with seq := { (run 48).seq with arm := true } } .seqArmCheck
    (fun u => u.seq.armwhy == 3 && u.bit (rEVT P.SEQ) 9 && u.seq.state == 0) ∧ { at48 true with fmA := { (at48 true).fmA with safety := true } }.winner 0 true = 1 ∧
    onNext { at48 true with fmA := { (at48 true).fmA with safety := true } } .seqArmCheck (fun u => u.seq.armwhy == 7 && u.bit (rEVT P.SEQ) 9) := by
  unfold State.Takes; decide +kernel

theorem test_sequencer_windows : up.Takes .network R.SEQ_PHI ∧ onNext (put { up with seq := { up.seq with plo := 5#32 } } R.SEQ_PIDX 16383) (.pointWindowWrite .network
    9) (fun u => u.rdW 0x3001FFF8 == 5#32 && u.rdW 0x3001FFFC == 9#32 && u.fd R.SEQ_PIDX 0 14 == 0) ∧ up.Takes .network R.SEQ_SD1 ∧ onNext (put { up with seq := {
    up.seq with sd0 := 5#32 } } R.SEQ_SIDX 255) (.segmentWindowWrite .network 9) (fun u => u.segW 255 == (5#32, 9#32) && u.fd R.SEQ_SIDX 0 8 == 0) ∧ onNext { up with
    seq := { up.seq with state := 1 } } (.segmentWindowWrite .network 9) (fun u => u.bit (rEVT P.SEQ) 12 && u.segW 0 == (0#32, 0#32)) := by
  unfold State.Takes; decide +kernel

/-- Trace in a state, with its configuration and counts. -/
def trc (st : TrcState) (cfg n : Nat) : State := put (put { up with trc := { up.trc with state := st, armCount := n, postCount := 1 } } R.TRC_CFG cfg) R.TRC_PRE 3

/-- The same with a record that waits. -/
def recorded (st : TrcState) (n : Nat) : State := { trc st 0 n with trc := { (trc st 0 n).trc with queue := [77#64] } }

/-- A tick whose marker is due, with a configuration. -/
def marked (cfg : Nat) : State := put { late (run 1900) 4 with trc := { (run 1900).trc with state := .run } } R.TRC_CFG cfg

theorem test_trace : up.Takes .network (rCTRL P.TRC) ∧ onNext (trc .done 0 3) (.trcArm .network) (fun u => u.trc.state == .run && u.trc.armCount == 0) ∧ onNext (trc
    .idle 1 3) (.trcArm .network) (fun u => u.trc.state == .armed) ∧ onNext (trc .run 0 3) (.trcArm .network) (fun u => u.bit (rEVT P.TRC) 3 && u.trc.armCount == 3) ∧
    onNext (put (put (trc .idle 1 3) R.TRC_PRE 8000) R.TRC_POST 8384) (.trcArm .network) (fun u => u.bit (rEVT P.TRC) 3) ∧ onNext (put (put (trc .idle 1 3) R.TRC_PRE
    8000) R.TRC_POST 8383) (.trcArm .network) (fun u => u.trc.state == .armed) ∧ onNext (trc .run 0 3) (.trcStop .network) (fun u => u.trc.state == .done && u.bit (rEVT
    P.TRC) 1) ∧ onNext (trc .idle 0 3) (.trcStop .network) (fun u => u.trc.state == .idle) ∧ onNext (trc .armed 1 3) (.force .network) (fun u => u.trc.state == .post &&
    u.bit (rEVT P.TRC) 0) ∧ onNext (trc .run 1 3) (.force .network) (fun u => u.trc.state == .run) ∧ up.Takes .network R.TRC_USER ∧ onNext (trc .run 0 3) (.user
    .network 9) (fun u => u.trc.queue == [trcRec 7 9 (pathCode .network + 0xFFFFFF * 16)]) ∧ onNext (trc .idle 0 3) (.user .network 9) (fun u => u.trc.queue == []) ∧
    onNext { trc .run 0 3 with trc := { (trc .run 0 3).trc with queue := List.replicate 16 0#64 } } (.user .network 9) (fun u => u.bit (rEVT P.TRC) 2) ∧ (marked 4).turn
    5 ((marked 4).guardG + 384) ∧ (marked 0).turn 5 ((marked 0).guardG + 384) ∧ onNext (marked 4) .traceTickMarker (fun u => u.trc.queue == [trcRec 2 7 0] && u.tck.step
    == 5) ∧ onNext (marked 0) .traceTickMarker (fun u => u.trc.queue == [] && u.tck.step == 5) ∧ (run 100).turn 5 ((run 100).guardG + 384) = false ∧ onNext (run 100)
    .traceTickMarker (fun u => u.trc.queue == []) ∧ onNext up .traceRecordWrite (fun u => u.trc == up.trc) ∧ onNext (recorded .run 3) .traceRecordWrite (fun u =>
    u.trc.queue == [] && u.trc.wptr == 1 && u.trc.armCount == 4 && Sparse.find u.trc.ram 0 == some 77#64) ∧ onNext (recorded .run 16383) .traceRecordWrite (fun u =>
    u.trc.state == .done) ∧ onNext (recorded .post 16383) .traceRecordWrite (fun u => u.trc.state == .done && u.bit (rEVT P.TRC) 1) ∧ onNext (put (put (trc .armed 1 3)
    R.SYS_GPCFG 0x1000000) R.TRC_TRIG 0x10000003) (.gpio4Edge true) (fun u => u.trc.state == .post && u.bit (rEVT P.TRC) 0) ∧ onNext (put (put (trc .armed 1 3)
    R.SYS_GPCFG 0x1000000) R.TRC_TRIG 0x10000003) (.gpio4Edge false) (fun u => u.trc.state == .armed) := by
  unfold State.Takes; decide +kernel

/-! ## Twin link -/

/-- A pair state and role, with the link up. -/
def twin (st : Nat) (lead : Bool) (s : State) : State := { s with twn := { s.twn with pstate := st, role := lead, linkup := true, upTicks := 64 } }

/-- A partner that says HELLO from a state. -/
def partner (st : Nat) (sel : Bool) : Hello := ⟨7#64, sel, sysVersion, 0#32, up.cfgSum, 0, st, false, true⟩

theorem test_twin_pairing : (twin 0 false up).Takes .network (rCTRL P.TWN) ∧ onNext (twin 0 false up) (.pair .network) (fun u => u.twn.pstate == 1 && !u.twn.role) ∧
    onNext (twin 6 true up) (.pair .network) (fun u => u.twn.pstate == 1 && u.twn.role) ∧ (twin 3 true up).pairOk = false ∧ onNext (twin 3 true up) (.pair .network)
    (fun u => u.bit (rEVT P.TWN) 13 && u.twn.pstate == 3) ∧ onNext (twin 3 true up) (.unpair .network) (fun u => u.twn.pstate == 0 && !u.twn.role && u.bit (rEVT P.TWN)
    5) ∧ onNext (twin 1 true up) (.unpair .network) (fun u => u.twn.pstate == 0 && !u.bit (rEVT P.TWN) 5) ∧ onNext (twin 3 true up) (.resign .network) (fun u =>
    u.twn.resign == 1) ∧ onNext (twin 3 false up) (.resign .network) (fun u => u.twn.resign == 0) ∧ onNext (twin 2 true up) .helloSend (fun u => u.twn.sent == []) ∧
    onNext up .helloTimeout (fun u => u.twn.joinwhy == 0) ∧ onNext (twin 1 false up) .helloTimeout (fun u => u.twn.joinwhy == 1 && u.twn.pstate == 1) ∧ onNext (twin 1
    false up) .twinLinkDown (fun u => !u.twn.linkup && u.twn.upTicks == 0 && u.bit (rEVT P.TWN) 8) ∧ onNext up .twinLinkUp (fun u => u.twn.linkup) ∧ onNext up
    (.ctrlResync false) (fun u => u.rd R.TWN_LINKERR == 1#32) ∧ onNext (put (twin 6 false up) R.TWN_CFG 4) .autoRepair (fun u => u.twn.pstate == 1) := by
  unfold State.Takes; decide +kernel

set_option maxRecDepth 20000 in
theorem test_twin_hello : onNext (twin 1 false up) .helloSend (fun u => u.twn.sent == [twinPkt (twin 1 false up).helloMsg]) ∧ (twin 6 true up).helloWhy (partner 1
    false) = 0 ∧ onNext (twin 6 true up) (.hello (partner 1 false) true) (fun u => u.twn.pstate == 2 && u.twn.role && u.twn.sent == [twinPkt (twin 6 true up).helloMsg])
    ∧ (twin 1 false up).helloWhy (partner 1 true) = 0 ∧ (twin 1 false up).helloRole (partner 1 true) = false ∧ onNext (twin 1 false up) (.hello (partner 1 true) true)
    (fun u => u.twn.pstate == 2 && !u.twn.role && u.bit (rEVT P.TWN) 0 && u.twn.hold && u.cpu.parked && u.rd R.TWN_PUID_LO == 7#32) ∧ (twin 1 true up).helloRole
    (partner 1 false) ∧ onNext (twin 1 true up) (.hello (partner 1 false) true) (fun u => u.twn.role && !u.twn.hold) ∧ (twin 1 false up).helloWhy (partner 2 true) = 7 ∧
    onNext (twin 1 false up) (.hello (partner 2 true) true) (fun u => u.twn.joinwhy == 7 && u.twn.pstate == 1 && u.bit (rEVT P.TWN) 10) := by
  decide +kernel

/-- A lead that transfers with dirty pages. -/
def leading (l : List Nat) (s : State) : State := { twin 2 true s with twn := { (twin 2 true s).twn with dirty := l, cursor := 2 } }

/-- The snapshot point of a tick: the core parked, every slot evaluated. -/
def snapshot : State := { late (run 1900) 2 with cpu := { (run 1900).cpu with parked := true } }

set_option maxRecDepth 20000 in
theorem test_twin_transfer : (leading [1, 3, 2] up).nextDirty = some 2 ∧ onNext (leading [1, 3, 2] up) .pageSend (fun u => u.twn.sent.length == 1 && u.twn.dirty == [1,
    3]) ∧ (twin 2 false up).frozen ∧ inSram ((up.rd R.TWN_MBASE).toNat + 256 * 255 + 255) ∧ onNext (twin 2 false up) (.page 255 (List.replicate 256 9#8) true) (fun u =>
    u.rdB 0x2000FF00 == 9#8 && u.rdB 0x2000FFFF == 9#8 && u.rdB 0x20010000 == 0#8) ∧ onNext (twin 3 false up) (.page 255 (List.replicate 256 9#8) true) (fun u => u.rdB
    0x2000FF00 == 0#8) ∧ onNext (twin 2 false up) (.image (.core { resetCpu with pc := 64#32 } []) true) (fun u => u.cpu.pc == 64#32 && u.cpu.parked) ∧ (leading [256,
    257] snapshot).atSnapshot ∧ onNext (leading [256, 257] snapshot) (.joinCheck true) (fun u => u.twn.join == some 8#32 && u.twn.sent.length == 3 && u.twn.sent.take 1
    == [twinPkt (ctrlPkt 6 (beOctets 4 8))] && u.twn.dirty == [] && u.twn.image.length == 5) ∧ onNext (leading [1, 2, 3, 4, 5] snapshot) (.joinCheck true) (fun u =>
    u.twn.joinwhy == 8 && u.twn.join == none) ∧ onNext (leading [] snapshot) (.joinCheck false) (fun u => u.twn.joinwhy == 8) ∧ (leading [] (run 100)).atSnapshot =
    false ∧ onNext (leading [] (run 100)) (.joinCheck true) (fun u => u.twn.join == none && u.twn.joinwhy == 0) ∧ onNext (twin 2 false up) (.ctrlJoin 9#32 true) (fun u
    => u.twn.join == some 9#32) := by
  decide +kernel

/-- A partner's sample, equal to what the converters hold. -/
def agreed : Sample := ⟨wd (run 100).slotNs, 0, 0, 0#32, List.replicate 6 (0, 0), 0#32, 0⟩

/-- A shadow in JOINED in a tick, with a sample. -/
def joined (x : Option Sample) : State := { twin 3 false (run 100) with twn := { (twin 3 false (run 100)).twn with sample := x, due := true } }

/-- A decision that accepts an authorisation, and a frame held. -/
def accepted : Decision := ⟨5, 6#32, 1, 8#32, 6000#48, 500⟩
def held (s : State) : State := { s with twn := { s.twn with copies := [(5, 6#32, [1#8], 0#48, 0#48)] } }

theorem test_twin_agreement : onNext (twin 3 true (run 100)) (.sampleSend true) (fun u => u.twn.sent == [twinPkt ((twin 3 true (run 100)).sampleMsg true)]) ∧ onNext
    (joined none) (.samplePacket agreed 16 true) (fun u => u.twn.sample == some agreed && u.twn.skewRun == 0) ∧ onNext (joined none) (.samplePacket agreed (-17) true)
    (fun u => u.twn.skewRun == 1) ∧ onNext { joined none with twn := { (joined none).twn with skewRun := 3 } } (.samplePacket agreed 17 true) (fun u => u.twn.skewRun ==
    4 && u.bit (rEVT P.TWN) 9) ∧ (joined none).budgeted ∧ (joined (some agreed)).agree agreed ∧ onNext (joined (some agreed)) .agreementDeadline (fun u => u.twn.sample
    == none && u.adc.vals == agreed.vals && u.twn.disRun == 0 && u.twn.got == 1 && !u.twn.due) ∧ onNext (joined none) .agreementDeadline (fun u => u.twn.unag && u.bit
    (rEVT P.TWN) 2 && u.adc.vals.all fun v => v.2 == 32) ∧ onNext (joined none) (.samplePacket { agreed with slot := 0#32 } 16 true) (fun u => u.twn.sample == none) ∧
    onNext { joined (some agreed) with twn := { (joined (some agreed)).twn with pstate := 5 } } .agreementDeadline (fun u => u.twn.sample == none && u.twn.got == 1 &&
    u.adc == up.adc) ∧ (joined none).follows ∧ onNext (held (joined none)) (.decision accepted true) (fun u => u.tck.pend == some ⟨8#32, 6000#48⟩ && u.rd R.TCK_MARGIN
    == 500#32) ∧ onNext (joined none) (.decision accepted true) (fun u => u.twn.decisions == [accepted] && u.tck.pend == none && u.twn.sent == [twinPkt ([0x07#8] ++
    beOctets 2 5 ++ beOctets 4 6)]) ∧ onNext (held (twin 3 true (run 100))) (.fillRequest 5 true) (fun u => u.twn.sent == [twinPkt [0x08#8, 0#8, 5#8, 1#8]]) ∧ onNext {
    joined none with twn := { (joined none).twn with decisions := [accepted] } } (.content 5 [] true) (fun u => u.twn.decisions == [] && u.tck.pend == some ⟨8#32,
    6000#48⟩) ∧ onNext (joined none) (.tap 1 0 [] true true) (fun u => u.tck == (joined none).tck) ∧ (twin 3 true (late (run 1900) 3)).closed ∧ onNext (twin 3 true
    (late (run 1900) 3)) .tickrecSend (fun u => u.twn.gpio.isSome && u.twn.sent.length == 1) ∧ onNext (joined none) (.tickrec 0x7F 0 [(1, 2)] true) (fun u =>
    u.twn.toList == [(1, 2)] && u.twn.gpio == some 0x3F) := by
  decide +kernel

/-- A digest of the present tick from a partner in JOINED. -/
def digest (d : Nat) : State := { twin 3 true (late (run 1900) 3) with twn := { (twin 3 true (late (run 1900) 3)).twn with pdig := some (7#32, d, 12) } }

/-- A divergence with both verdicts. -/
def verdicts (lead : Bool) (l s : Nat) : State := { twin 4 lead idle with twn := { (twin 4 lead idle).twn with verdL := l, verdS := s } }

/-- A shadow in a tick of which it has some of the samples of the lead. -/
def silent (got promote : Nat) : State :=
  { twin 5 false (late (run 1900) 3) with twn := { (twin 5 false (late (run 1900) 3)).twn with got := got, promote := promote } }

theorem test_twin_verdicts : (twin 3 true (late (run 1900) 3)).closed ∧ onNext (twin 3 true (late (run 1900) 3)) .digestSend (fun u => u.twn.sent == [twinPkt ([0x02#8]
    ++ beOctets 4 0 ++ beOctets 8 0 ++ [14#8])]) ∧ onNext (twin 3 true (run 100)) (.digestPacket 7#32 0x500000006#64 12 true) (fun u => u.twn.pdig == some (7#32,
    0x500000006, 12) && u.rd R.TWN_PDIG_HI == 5#32 && u.rd R.TWN_PDIG_LO == 6#32) ∧ onNext (digest 0) .digestCompare (fun u => u.rd R.TWN_DIGOK == 1#32 &&
    !u.twn.verdict && u.twn.pstate == 3) ∧ onNext (digest 1) .digestCompare (fun u => u.twn.verdict && u.bit (rEVT P.TWN) 4 && u.bit (rFLT P.TWN) 0) ∧ onNext (twin 3
    true idle) (.ctrlVerdict true true) (fun u => u.twn.verdS == 2) ∧ onNext (twin 3 false idle) (.ctrlVerdict false true) (fun u => u.twn.verdL == 1) ∧ onNext
    (verdicts true 1 1) .verdictOutcome (fun u => u.twn.pstate == 2) ∧ onNext (verdicts true 1 2) .verdictOutcome (fun u => u.twn.pstate == 6 && u.twn.role) ∧ onNext
    (verdicts true 2 1) .verdictOutcome (fun u => u.twn.pstate == 6 && !u.twn.role && u.bit (rEVT P.TWN) 7) ∧ onNext (verdicts false 2 1) .verdictOutcome (fun u =>
    u.twn.promote == 1) ∧ onNext (verdicts true 2 2) .verdictOutcome (fun u => u.twn.pstate == 6) ∧ onNext (twin 3 true idle) (.ctrlResync true) (fun u => u.twn.pstate
    == 2) ∧ onNext (twin 3 true idle) (.ctrlVerdictRequest true) (fun u => u.twn.verdict && u.bit (rEVT P.SLF) 0) ∧ onNext (twin 3 false idle) (.ctrlResign true) (fun u
    => u.twn.promote == 1) ∧ (silent 0 0).budgeted ∧ (silent 0 0).closed ∧ onNext (silent up.slots 0) (.failoverDecision 0 false) (fun u => u.twn.pstate == 2 &&
    !u.twn.role && u.twn.sent == [twinPkt (ctrlPkt 2 [])]) ∧ onNext (silent 0 0) (.failoverDecision 0 true) (fun u => u.twn.pstate == 6 && !u.twn.role) ∧ (silent 0
    0).pdigNow = none ∧ (silent 0 0).gateHigh 0 = false ∧ onNext (silent 0 0) (.failoverDecision 0 false) (fun u => u.twn.role && u.twn.promote == 3 && u.bit (rEVT
    P.TWN) 6) ∧ (put (silent 0 2) R.TWN_CFG 2).gateHigh 1 ∧ onNext (put (silent 0 2) R.TWN_CFG 2) (.failoverDecision 1 false) (fun u => u.twn.pstate == 6 &&
    u.twn.promote == 0) ∧ onNext (silent 0 2) (.failoverDecision 0 false) (fun u => u.twn.role && u.twn.promote == 3) := by
  decide +kernel

/-- A shadow in TRACK with its core parked. -/
def following (s : State) : State := { twin 2 false s with cpu := { s.cpu with parked := true } }

theorem test_twin_follow : onNext (following (got (frame 0x88B6 0xFF 0x11 0 0xFF 6))) .cycleFrameRx (fun u => u.rd R.CYC_RXOTHER == 0#32 && u.cyc.handover == [] &&
    u.twn.copies.length == 1) ∧ onNext (held (following up)) (.decision accepted true) (fun u => u.tck.state == .armed && u.tck.pend == some ⟨8#32, 6000#48⟩ && u.fd
    R.CYC_FSEQ 0 16 == 5) ∧ onNext (held (following (run 100))) (.decision { accepted with outcome := 0 } true) (fun u => u.rd R.TCK_LATE == 0#32 && u.tck.pend == none)
    ∧ onNext (following up) (.unpair .network) (fun u => u.twn.pstate == 0 && !u.cpu.parked) ∧ onNext (following idle) (.encoderEdge 0) (fun u => u.vec.enc == 0 &&
    u.vec.hall == 1) ∧ onNext (twin 3 false idle) (.encoderEdge 0) (fun u => u.vec.hall == 1) ∧ onNext (following idle) .encZ (fun u => u.vec.hall == 4 && !u.bit (rEVT
    P.VEC) 5) ∧ onNext (joined none) (.tickrec 0 5 [] true) (fun u => u.tck.stopReq) ∧ ((((twin 3 true (run 100)).hw R.PST_OCCFG 2#32).hw (R.TCK_LATE)
    1#32).twn.digq.map (·.2.1)) = [0x40000000 + R.TCK_LATE, 0x40000000 + R.PST_OCCFG] ∧ (twinPkt (ctrlPkt 2 [])).length + 2 = 8 := by
  decide +kernel

/-! ## Self-test, log, life cycle, flash -/

/-- A job of a test, and a lane that runs it. -/
def job (t : Nat) : Job := ⟨0, t, 0#32, 0, 0#32⟩
def lane (t : Nat) : Lane := ⟨some (job t), 0, none, 0, false, false⟩

/-- Self-test with its memory and analog lanes at their last step. -/
def testing : State := { up with slf := { up.slf with mem := lane 2, ana := lane 4, sys := lane 7 } }

/-- The same in a tick of which part `k` has begun. -/
def stepping (k : Nat) : State := { late (run 1900) k with slf := testing.slf }

theorem test_self_test : testing.slf.mem.run = some (job 2) ∧ testing.ticking = false ∧ (stepping 2).turn 4 ((stepping 2).guardG + 192) = false ∧ (stepping 3).turn 4
    ((stepping 3).guardG + 192) ∧ onNext (stepping 3) (.stepWindow true false true true []) (fun u => u.slf.mem.run == none && u.slf.ana.run == none && u.bit (rEVT
    P.SLF) 1 && u.tck.step == 4) ∧ onNext (stepping 2) (.stepWindow true false true true []) (fun u => u.slf == (stepping 2).slf && u.tck == (stepping 2).tck) ∧
    testing.slf.ana.run = some (job 4) ∧ onNext testing (.stepWindow true false true true []) (fun u => u.slf.mem.run == none && u.slf.ana.run == none && u.bit (rEVT
    P.SLF) 1) ∧ onNext testing (.clkTestEnd true) (fun u => u.slf.sys.run == none && u.bit (rEVT P.SLF) 1 && !u.bit (rFLT P.SLF) 0) ∧ onNext testing (.clkTestEnd false)
    (fun u => u.bit (rFLT P.SLF) 0 && u.bit (rEVT P.SLF) 2) ∧ (run 100).fd R.SLF_CLS 16 16 = 10000 ∧ onNext (put { run 100 with slf := { (run 100).slf with decayCt :=
    10000 } } R.SLF_BKT0 0x30) .bucketDecay (fun u => u.slf.decayCt == 0) ∧ up.Takes .network (rCTRL P.SLF) ∧ onNext (put up R.SLF_BKT1 7) (.clrbkt .network) (fun u =>
    u.rd R.SLF_BKT1 == 0#32) ∧ up.slfWhy = 0 ∧ onNext up (.fuse .network) (fun u => u.bit (rEVT P.SLF) 7) ∧ armed.slfWhy = 1 ∧ armed.Takes .monitor (rCTRL P.SLF) ∧
    onNext armed (.fuse .monitor) (fun u => u.slf.refWhy == 1 && u.bit (rEVT P.SLF) 8) ∧ onNext up (.bist .network 0 0 []) (fun u => u.pwr.inReset && u.bit
    R.SYS_RSTCAUSE 4) ∧ onNext armed (.bist .monitor 0 0 []) (fun u => u.slf.refWhy == 1 && u.bit (rEVT P.SLF) 8 && !u.pwr.inReset) := by
  unfold State.Takes; decide +kernel

/-- Entries of the log that wait, and of the persistent log. -/
def logged (s : State) : State := { s with log := { s.log with queue := [⟨11, P.LOG, 5#32, 6#32⟩], wptr := 255, held := 256, pbuf := [⟨1#32, 2#32, 3#32, 4#32⟩] } }

/-- The queue of the log full. -/
def full8 : State := { up with log := { up.log with queue := List.replicate 8 ⟨11, P.LOG, 5#32, 6#32⟩ } }

theorem test_log : onNext up .logEntryWrite (fun u => u.log == up.log) ∧ onNext (logged up) .logEntryWrite (fun u => u.log.queue == [] && u.log.wptr == 0 && u.log.held
    == 256 && u.rd R.LOG_OVWRCT == 1#32 && (Sparse.find u.log.ring 255).any fun x => x.w0 == 0xFFFFFFFF#32 && fld x.w1 0 4 == 11 && x.w2 == 5#32) ∧ (logged up).log.pbuf
    ≠ [] ∧ onNext (logged up) (.persistWrite true) (fun u => u.log.pbuf == [] && u.bit (rEVT P.LOG) 2) ∧ onNext (logged up) (.persistWrite true) (fun u => !u.needsHalf
    && onNext { u with log := { u.log with pbuf := [⟨5#32, 6#32, 7#32, 8#32⟩] } } (.persistWrite false) fun v => v.log.pbuf == [] && v.bit (rEVT P.LOG) 2) ∧ (logged
    up).needsHalf ∧ onNext (logged up) (.persistWrite false) (fun u => u.log.pbuf.length == 1 && u.bit (rEVT P.LOG) 3 && u.bit (rFLT P.LOG) 0) ∧ up.Takes .network
    (rCTRL P.LOG) ∧ onNext (logged up) (.logClr .network) (fun u => u.log.held == 0 && u.log.wptr == 0 && u.log.pbuf.length == 1) ∧ onNext (logged up) (.pflush
    .network) (fun u => u.log.pbusy) ∧ onNext (logged (run 100)) (.pflush .coreSup) (fun u => !u.log.pbusy) ∧ onNext up (.pflush .network) (fun u => !u.log.pbusy) ∧
    up.Takes .network R.LOG_USER ∧ onNext up (.logUser .network 9) (fun u => u.log.queue == [⟨11, P.LOG, 9#32, wd (pathCode .network)⟩]) ∧ onNext full8 (.logUser
    .network 9) (fun u => u.bit (rEVT P.LOG) 0 && u.log.queue.length == 8) := by
  unfold State.Takes; decide +kernel

/-- A part in BLANK with its UID. -/
def blank : State := { up with lcs := { up.lcs with state := 0 }, fuses := { up.fuses with uid := 5#64 } }

theorem test_life_cycle : up.Takes .monitor (rCTRL P.LCS) ∧ blank.Takes .monitor R.LCS_CMD ∧ blank.lcWhy .monitor 1 none = 0 ∧ onNext blank (.lcsCmd .monitor
    0x4C430001) (fun u => u.lcs.pend) ∧ up.lcWhy .monitor 1 none = 5 ∧ onNext up (.lcsCmd .monitor 0x4C430001) (fun u => u.lcs.cmdWhy == 5 && u.bit (rEVT P.LCS) 0) ∧
    onNext up (.lcsCmd .monitor 0x4C420001) (fun u => u.lcs == up.lcs) := by
  unfold State.Takes; decide +kernel

/-- Flash with an operation in progress. -/
def busy (o : FlsOp) : State := { up with fls := { up.fls with op := some o } }

theorem test_flash : (opened up P.FLS).Opens .network (rCTRL P.FLS) ∧ (opened up P.FLS).flsWhy 1 = 0 ∧ (opened up P.FLS).flsWhy 2 = 0 ∧ onNext (put (opened up P.FLS)
    R.FLS_DATA0 7) (.program .network) (fun u => u.fls.op == some (.program 0x08000000 7 0 0 0) && !u.fls.done) ∧ onNext (opened up P.FLS) (.erase .network) (fun u =>
    u.fls.op == some (.erase 0x08000000)) ∧ (put (opened up P.FLS) R.FLS_ADDR 0x08000004).flsWhy 1 = 4 ∧ onNext (put (opened up P.FLS) R.FLS_ADDR 0x08000004) (.program
    .network) (fun u => u.fls.refwhy == 4 && u.bit (rEVT P.FLS) 1) ∧ onNext up (.flashOpDone true) (fun u => u.fls == up.fls) ∧ onNext (busy (.program 0x08000010 1 2 3
    4)) (.flashOpDone true) (fun u => u.rdW 0x08000010 == 1#32 && u.rdW 0x0800001C == 4#32 && u.rdB 0x08000020 == 0xFF#8 && u.fls.done && u.bit (rEVT P.FLS) 0) ∧ onNext
    (busy (.program 0x08000010 1 2 3 4)) (.flashOpDone false) (fun u => u.bit (rFLT P.FLS) 0 && u.bit (rEVT P.FLS) 2) ∧ onNext ((busy (.erase 0x0C000000)).wrW
    0x0C0003FC 0#32) (.flashOpDone true) (fun u => u.rdW 0x0C0003FC == 0xFFFFFFFF#32) ∧ onNext ((busy (.erase 0x0C000000)).wrW 0x0C000400 0#32) (.flashOpDone true) (fun
    u => u.rdW 0x0C000400 == 0#32) ∧ onNext ((busy (.erase 0x08000000)).wrW 0x08000FFC 0#32) (.flashOpDone true) (fun u => u.rdW 0x08000FFC == 0xFFFFFFFF#32) ∧ up.Takes
    .network (R.FLS_PROT0 + 16) ∧ onNext (put up R.FLS_PROT0 2) (.flashProtect .network 0 0x8001) (fun u => u.rd R.FLS_PROT0 == 0x8003#32) := by
  unfold State.Opens State.Takes; decide +kernel

theorem test_self_test_words : onNext { testing with bad := [(0, 2)] } (.stepWindow true false true true []) (fun u => u.bit (rFLT P.SLF) 0) ∧ onNext { up with slf := {
    up.slf with mem := { lane 1 with run := some ⟨2, 1, 0x20000010#32, 0, 0#32⟩ } } } (.stepWindow true true true true [] [3, 7]) (fun u => u.bad == [(0x2000000C, 1),
    (0x2000001C, 1)]) ∧ onNext (leading [1, 3, 2] up) (.pageSend .corrected 5) (fun u => u.twn.sent.length == 1 && u.bit (rEVT P.SLF) 0 && u.slf.mem.run == some ⟨1, 1,
    0x20000214#32, P.TWN, up.tck.now⟩) ∧ (((up.detect 6 P.ADC 0#32).detect 0xE P.TWN 0#32).stepWindow true false true true [] []).twn.verdS = 1 := by
  decide +kernel

/-! ## Ports -/

/-- The host SPI port with entries that wait. -/
def spi (n : Nat) (s : State) : State := { s with hsp := { s.hsp with fifo := List.replicate n ⟨9, 0, 4, 5#32, 6#32⟩, last := 1 } }

theorem test_host_spi : up.portsOn ∧ onNext (spi 2 up) (.spiNop false false 0 7 0) (fun u => u.hsp.fifo.length == 1 && u.hsp.last == 0 && u.hsp.sdo.length == 16 &&
    u.hsp.removed == some ⟨9, 0, 4, 5#32, 6#32⟩) ∧ onNext (spi 2 up) (.spiNop true false 0 7 0) (fun u => u.hsp.fifo.length == 2) ∧ onNext (put up R.TCK_STROBE 55)
    (.spiRead false false 7 R.TCK_STROBE 0 0) (fun u => u.hsp.fifo == [⟨7, 0, R.TCK_STROBE, 55#32, 0xFFFFFFFF#32⟩] && u.hsp.last == 0) ∧ onNext up (.spiWrite false
    false 7 0x4024 5 0) (fun u => u.rd 0x4024 == 5#32 && u.hsp.fifo == [⟨7, 0, 0x4024, 5#32, 0xFFFFFFFF#32⟩]) ∧ onNext up (.spiModify false false 7 0x4024 0xF 3) (fun u
    => u.rd 0x4024 == 3#32) ∧ onNext up (.spiFlushmark false false 7 4 0 0) (fun u => u.hsp.fifo == [⟨7, 0, 4, 0#32, 0xFFFFFFFF#32⟩]) ∧ onNext (put idle (rCTRL P.QUE)
    0x100) (.spiRead false false 7 R.TCK_STROBE 0 0) (fun u => u.cyc.cmdq == [⟨.spi, 1, 7, R.TCK_STROBE, 0#32, 0#32⟩] && u.hsp.last == 0) ∧ onNext idle (.spiWrite false
    false 7 R.TCK_STROBE 0 0) (fun u => u.cyc.cmdq == [] && u.hsp.last == 2 && u.rd R.HSP_BUSYCT == 1#32 && u.bit (rEVT P.HSP) 1) ∧ (queued (cmd 4 4 0 0)).atOnce =
    false ∧ (put (queued (cmd 4 4 0 0)) (rCTRL P.QUE) 0x100).spiBusy = false ∧ onNext (put (queued (cmd 4 4 0 0)) (rCTRL P.QUE) 0x100) (.spiRead false false 7
    R.TCK_STROBE 0 0) (fun u => u.cyc.cmdq == [cmd 4 4 0 0, ⟨.spi, 1, 7, R.TCK_STROBE, 0#32, 0#32⟩] && u.hsp.fifo == []) ∧ onNext (spi 17 up) (.spiRead false false 7
    R.TCK_STROBE 0 0) (fun u => u.hsp.last == 2 && u.hsp.fifo.length == 16) ∧ onNext (spi 16 up) (.spiRead false false 7 R.TCK_STROBE 0 0) (fun u => u.hsp.last == 0 &&
    u.hsp.fifo.length == 16) ∧ onNext (spi 2 up) (.frameErr false false) (fun u => u.hsp.fifo.length == 2 && u.hsp.last == 1 && u.rd R.HSP_FRAMECT == 1#32 && u.bit
    (rEVT P.HSP) 0) ∧ ({ up with pin := { up.pin with vioOk := false } } : State).portsOn = false ∧ onNext { up with pin := { up.pin with vioOk := false } } (.frameErr
    false false) (fun u => u.hsp == up.hsp) ∧ onNext (put (clk armed .ref 1) (rCTRL P.TCK) 1) (.spiTick false false 8 5000 10) (fun u => u.hsp.last == 0 && u.tck.pend
    == some ⟨8#32, 5000#48⟩ && u.lt == 10#48) ∧ onNext armed (.spiTick false false 8 5000 10) (fun u => u.hsp.last == 3 && u.rd R.HSP_TICKWHY == 1#32 && u.bit (rEVT
    P.HSP) 2 && u.tck.pend == none) := by
  decide +kernel

/-- The monitor synchronised, in a life-cycle state. -/
def mon (s : State) (lc : Nat) : State := { s with mon := { s.mon with synced := true }, lcs := { s.lcs with state := lc } }

/-- A request that waits, and one behind it. -/
def waits (b : Bool) : State := { mon up 1 with mon := { (mon up 1).mon with wait := some ⟨.halt, 9, true⟩, buf := if b then some ⟨.halt, 10, true⟩ else none } }

theorem test_monitor_link : up.portsOn ∧ onNext up (.monSync 9600) (fun u => u.mon.synced && u.mon.answer == [0x55#8] && u.rd R.MON_BAUD == 9600#32 && u.bit (rEVT
    P.MON) 0) ∧ onNext up (.monSync 3000000) (fun u => u.mon.synced) ∧ onNext up (.monSync 9599) (fun u => !u.mon.synced) ∧ onNext up (.monSync 3000001) (fun u =>
    !u.mon.synced) ∧ (mon up 1).Takes .monitor (rCTRL P.MON) ∧ onNext (mon up 1) (.resync .monitor) (fun u => !u.mon.synced) ∧ (mon up 1).monOn ∧ onNext (mon up 1)
    .framingErrors (fun u => !u.mon.synced) ∧ onNext (mon up 1) .crcErr (fun u => u.mon.synced && u.rd R.MON_CRCCT == 1#32 && u.bit (rEVT P.MON) 1) ∧ onNext { mon up 1
    with mon := { (mon up 1).mon with prev := some (6, 5, [7#8]) } } (.halt 5 true) (fun u => u.mon.answer == [7#8]) ∧ onNext (waits false) (.ping 5 true) (fun u =>
    u.mon.buf == some ⟨.ping, 5, true⟩) ∧ onNext (waits true) (.ping 5 true) (fun u => u.mon == (waits true).mon && u.rd R.MON_OVRCT == 1#32 && u.bit (rEVT P.MON) 2) := by
  unfold State.Takes; decide +kernel

theorem test_hears : (mon up 2).Hears 7 5 := ⟨by decide +kernel, by decide +kernel, fun p h => by rw [show (mon up 2).mon.prev = none from rfl] at h; cases h⟩

theorem test_monitor_answers : (mon up 2).monOn ∧ (mon up 2).mon.prev = none ∧ monAvail 7 2 = false ∧ onNext (mon up 2) (.monGo 5 true 0x20000100) (fun u =>
    u.mon.answer == 0xA5#8 :: [3#8, 0x87#8, 5#8, 4#8] ++ beOctets 2 (crc16 [3#8, 0x87#8, 5#8, 4#8])) ∧ monAvail 2 2 ∧ onNext (mon up 2) (.monRead 5 false 0x20000100 1
    []) (fun u => u.mon.answer == 0xA5#8 :: [3#8, 0x82#8, 5#8, 5#8] ++ beOctets 2 (crc16 [3#8, 0x82#8, 5#8, 5#8])) ∧ onNext (mon up 2) (.monRead 5 true 0x20000100 61
    []) (fun u => u.mon.answer == 0xA5#8 :: [3#8, 0x82#8, 5#8, 5#8] ++ beOctets 2 (crc16 [3#8, 0x82#8, 5#8, 5#8])) := by
  decide +kernel

/-- The octets of an answer before its CRC. -/
def body (cmd seq st : Nat) (l : List Byte) : List Byte := beOctets 1 (l.length + 3) ++ beOctets 1 (cmd + 0x80) ++ beOctets 1 seq ++ beOctets 1 st ++ l

/-- Whether the monitor answered with this. -/
def said (u : State) (cmd seq st : Nat) (l : List Byte) : Bool := u.mon.answer == 0xA5#8 :: body cmd seq st l ++ beOctets 2 (crc16 (body cmd seq st l))

/-- The monitor in bench mode, able to step. -/
def bench (s : State) : State := clk (put (mon s 1) (rCTRL P.TCK) 2) .ref 0

/-- The monitor with the boot ROM waiting for it. -/
def waitsGo : State := put (mon up 1) R.MON_BOOT 1

/-- A write that waits for the guard window of its tick, the core parked. -/
def heldBack : State :=
  { mon (late (run 1900) 1) 1 with cpu := { (run 1900).cpu with parked := true }, mon := { (mon up 1).mon with wait := some ⟨.write 0x20000200 1 [9], 5, true⟩ } }

theorem test_monitor_commands : onNext (mon up 1) (.ping 5 true) (fun u => u.mon.prev.isSome && u.mon.answer.length == 27) ∧ inSram (0x2001FFFC + 4 * 1 - 1) ∧ (mon core
    1).badWord 0x20000200 = false ∧ onNext (mon core 1) (.monRead 5 true 0x20000200 2 []) (fun u => said u 2 5 0 (beOctets 4 0xFFFFFFFF ++ beOctets 4 0x8000FF80 ++
    beOctets 4 7)) ∧ (mon up 1).monMemDenied 0x20000200 = false ∧ (mon up 1).monOpen 1 ∧ onNext (mon up 1) (.monWrite 5 true 0x20000200 1 [9]) (fun u => u.rdW
    0x20000200 == 9#32 && said u 3 5 0 (beOctets 4 0xFFFFFFFF)) ∧ onNext (mon up 1) (.monWrite 5 true 0x4000101C 2 [0xA510, 0x88B6]) (fun u => said u 3 5 2 [] && u.rd
    R.CYC_ETYPE == 0x88B5#32 && !u.bit 0x101C 16) ∧ (mon (run 100) 1).monOpen 1 = false ∧ onNext (mon (run 100) 1) (.monWrite 5 true 0x20000200 1 [9]) (fun u =>
    u.mon.wait == some ⟨.write 0x20000200 1 [9], 5, true⟩ && u.rdW 0x20000200 == 0#32) ∧ heldBack.turn 2 heldBack.guardG ∧ onNext heldBack .monitorWriteLanding (fun u
    => u.rdW 0x20000200 == 9#32 && u.mon.wait == none && said u 3 5 0 (beOctets 4 7) && u.tck.step == 2) ∧ onNext (mon core 1) (.monModify 5 true 0x20000204 0xFF 0xF0
    .ok) (fun u => u.rdW 0x20000204 == 0xF7#32 && said u 4 5 0 (beOctets 4 0xFFFFFFFF ++ beOctets 4 7)) ∧ onNext (bench armed) (.step 5 true 3 10) (fun u => u.fd
    R.MON_STEPREM 0 16 == 3 && u.mon.stepping && u.tck.pend == some ⟨0#32, 1010#48⟩ && said u 5 5 0 (beOctets 4 0 ++ beOctets 6 1010)) ∧ onNext (mon up 1) (.step 5 true
    3 10) (fun u => said u 5 5 7 (beOctets 1 1) && u.tck.pend == none) ∧ onNext { up with mon := { up.mon with stepping := true } } .stepDone (fun u => !u.mon.stepping
    && u.bit (rEVT P.MON) 3) ∧ onNext { put (bench armed) R.MON_STEPREM 2 with mon := { (bench armed).mon with stepping := true } } (.halt 5 true) (fun u => u.fd
    R.MON_STEPREM 0 16 == 0 && u.tck.pend == none && !u.mon.stepping) ∧ onNext (mon up 1) (.halt 5 true) (fun u => u.fd R.MON_STEPREM 0 16 == 0 && said u 6 5 0
    (beOctets 4 0xFFFFFFFF)) ∧ waitsGo.direct ∧ onNext waitsGo (.monGo 5 true 0x20000100) (fun u => said u 7 5 0 [] && u.rd R.MON_GOADDR == 0x20000101#32 && u.cpu == {
    resetCpu with parked := false } && u.bit R.SYS_RSTCAUSE 7) ∧ onNext (mon up 1) (.monReset 5 true 1) (fun u => u.pwr.inReset && u.bit R.SYS_RSTCAUSE 4 && said u 8 5
    0 []) ∧ (mon up 2).lcWhy .monitor 3 (some true) = 0 ∧ ({ mon up 2 with lcs := { (mon up 2).lcs with lockout := true } } : State).lcWhy .monitor 3 (some true) = 9 ∧
    onNext { mon up 2 with lcs := { (mon up 2).lcs with lockout := true } } (.returnReq 5 true (List.replicate 64 0#8)) (fun u => said u 9 5 8 [9#8] && u.lcs.cmdWhy ==
    9 && u.bit (rEVT P.LCS) 0) := by
  decide +kernel

/-! ## Commands that are not well formed -/

theorem test_well_formed : wellFormed (.tickEdge 255 open6) ∧ wellFormed (.tickEdge 256 open6) = false ∧ wellFormed (.tickEdge 0 []) = false ∧ wellFormed
    (.syntheticTick 256 open6) = false ∧ wellFormed (.resetRelease ⟨true, true, true, false, [], 0, []⟩) = false ∧ ([Instr.wakePin 128 0, .wakeLine 128 0 true,
    .wakeTimer 128 0, .wakeHsp 128 0, .wakeMon 128 0, .wakeTwin 128 0].any wellFormed) = false ∧ wellFormed (.slotStrobe [] 0) = false ∧ wellFormed (.slotStrobe [0, 0,
    0, 0, 0, 0] 8) = false ∧ wellFormed (.encoderEdge 2) = false ∧ ([Instr.lockWrite .network 256 0, .fltClear .network 256 0, .evtClear .network 256 0, .evenWrite
    .network 256 0].any wellFormed) = false ∧ wellFormed (.registerWrite .network 65536 0) = false ∧ ([Instr.spiNop false false 256 0 0, .spiNop false false 0 256 0,
    .spiNop false false 0 0 65536, .spiRead false false 256 0 0 0, .spiWrite false false 0 65536 0 0, .spiModify false false 256 0 0 0, .spiFlushmark false false 256 0
    0 0].any wellFormed) = false ∧ ([Instr.monRead 256 true 0 0 [], .monWrite 0 true (2 ^ 32) 0 [], .monModify 256 true 0 0 0 .ok, .monGo 0 true (2 ^ 32)].any
    wellFormed) = false := by
  decide +kernel


end Sys2Proof.Tests
end

namespace Sys2Proof.Machine

/-! ## The spine of a state: what the engine, the commits, the sequencer and the events leave alone

Line-time, clock and tick blocks (but for requests for SAFE), the core, the power mode, the monitor, the shadows that stand, the commands that wait, the samples of the slot and the
role in a pair. -/

/-- The fields of the spine. -/
structure Spine where
  lt : LineTime
  clk : ClkSt
  tck : TckSt
  cpu : CpuSt
  pwr : PwrSt
  mon : MonSt
  shadow : List (Nat × Word)
  acts : List (Nat × Word)
  cmdq : List Cmd
  slot : Nat
  vals : List (Int × Nat)
  pstate : Nat
  role : Bool

/-- The spine of a state. -/
def State.spine (s : State) : Spine :=
  ⟨s.lt, s.clk, { s.tck with safeReq := [] }, s.cpu, s.pwr, s.mon, s.shadow, s.acts, s.cyc.cmdq, s.adc.slot, s.adc.vals, s.twn.pstate, s.twn.role⟩

theorem spine_of_quiet {s t : State} (h : t.quiet = s.quiet) : t.spine = s.spine := by
  have e := congrArg State.spine h; exact e

theorem spine_of_calm {s t : State} (h : t.calm = s.calm) : t.spine = s.spine := by
  have e := congrArg State.spine h; exact e

/-! What two states with one spine share. -/

section spine
variable {s t : State} (h : t.spine = s.spine)
include h

theorem spine_lt : t.lt = s.lt := by have e := congrArg Spine.lt h; exact e
theorem spine_clk : t.clk = s.clk := by have e := congrArg Spine.clk h; exact e
theorem spine_cpu : t.cpu = s.cpu := by have e := congrArg Spine.cpu h; exact e
theorem spine_pwr : t.pwr = s.pwr := by have e := congrArg Spine.pwr h; exact e
theorem spine_mon : t.mon = s.mon := by have e := congrArg Spine.mon h; exact e
theorem spine_shadow : t.shadow = s.shadow := by have e := congrArg Spine.shadow h; exact e
theorem spine_cmdq : t.cyc.cmdq = s.cyc.cmdq := by have e := congrArg Spine.cmdq h; exact e
theorem spine_slot : t.adc.slot = s.adc.slot := by have e := congrArg Spine.slot h; exact e
theorem spine_vals : t.adc.vals = s.adc.vals := by have e := congrArg Spine.vals h; exact e
theorem spine_pstate : t.twn.pstate = s.twn.pstate := by have e := congrArg Spine.pstate h; exact e
theorem spine_role : t.twn.role = s.twn.role := by have e := congrArg Spine.role h; exact e
theorem spine_state : t.tck.state = s.tck.state := by have e := congrArg (fun q : Spine => q.tck.state) h; exact e
theorem spine_cause : t.tck.cause = s.tck.cause := by have e := congrArg (fun q : Spine => q.tck.cause) h; exact e
theorem spine_synth : t.tck.synth = s.tck.synth := by have e := congrArg (fun q : Spine => q.tck.synth) h; exact e
theorem spine_pend : t.tck.pend = s.tck.pend := by have e := congrArg (fun q : Spine => q.tck.pend) h; exact e
theorem spine_now : t.tck.now = s.tck.now := by have e := congrArg (fun q : Spine => q.tck.now) h; exact e
theorem spine_edge : t.tck.edge = s.tck.edge := by have e := congrArg (fun q : Spine => q.tck.edge) h; exact e
theorem spine_inTick : t.tck.inTick = s.tck.inTick := by have e := congrArg (fun q : Spine => q.tck.inTick) h; exact e
theorem spine_phase : t.tck.phase = s.tck.phase := by have e := congrArg (fun q : Spine => q.tck.phase) h; exact e
theorem spine_stopReq : t.tck.stopReq = s.tck.stopReq := by have e := congrArg (fun q : Spine => q.tck.stopReq) h; exact e
theorem spine_e1 : t.tck.e1 = s.tck.e1 := by have e := congrArg (fun q : Spine => q.tck.e1) h; exact e
theorem spine_step : t.tck.step = s.tck.step := by have e := congrArg (fun q : Spine => q.tck.step) h; exact e
theorem spine_evals : t.tck.evals = s.tck.evals := by have e := congrArg (fun q : Spine => q.tck.evals) h; exact e
theorem spine_budget : t.tck.budget = s.tck.budget := by have e := congrArg (fun q : Spine => q.tck.budget) h; exact e
theorem spine_ticking : t.ticking = s.ticking := by simp only [State.ticking, spine_state h]
theorem spine_direct : t.direct = s.direct := by simp only [State.direct, spine_state h]
theorem spine_frozen : t.frozen = s.frozen := by simp only [State.frozen, spine_pstate h, spine_role h]

end spine

/-- Where both branches keep the spine, the choice keeps it. -/
theorem spine_ite {s t u : State} {c : Prop} [Decidable c] (h : t.spine = s.spine) (k : u.spine = s.spine) : (if c then t else u).spine = s.spine := by
  split_ifs <;> assumption

theorem spine_foldl {α : Type} {f : State → α → State} (h : ∀ s x, (f s x).spine = s.spine) (l : List α) (s : State) : (l.foldl f s).spine = s.spine := by
  induction l generalizing s with
  | nil => rfl
  | cons x l ih => exact (ih _).trans (h s x)

@[simp] theorem spine_wr (s : State) (a : Nat) (v : Word) : (s.wr a v).spine = s.spine := rfl
@[simp] theorem spine_raise (s : State) (p n : Nat) : (s.raise p n).spine = s.spine := spine_of_quiet (quiet_raise s p n)
@[simp] theorem spine_raiseIf (s : State) (c : Bool) (p n : Nat) : (s.raiseIf c p n).spine = s.spine := spine_of_quiet (quiet_raiseIf s c p n)

/-! ## Steady changes

A steady change keeps the spine, clears no bit of EVT or FLT, gives no release, and leaves the registers below and the nodes of a set `N`. -/

/-- Registers that neither an evaluation, a commit without values nor an event writes: CLK.CTRL, TCK.CTRL, TCK.HCOUNT, CTL.PROBE, CTL.PVAL and the CTRL words of the loops. -/
def heldReg (a : Nat) : Bool :=
  a == rCTRL P.CLK || a == rCTRL P.TCK || a == R.TCK_HCOUNT || a == R.CTL_PROBE || a == R.CTL_PVAL || (List.range 8).any fun n => a == rCTRL (P.LP n)

/-- What a steady change keeps; of the engine's nodes those of `N`. -/
structure Steady (N : Nat → Prop) (s t : State) : Prop where
  spine : t.spine = s.spine
  node : ∀ n, N n → t.node n = s.node n
  rd : ∀ a, heldReg a = true → t.rd a = s.rd a
  evt : ∀ q n, s.bit (rEVT q) n = true → t.bit (rEVT q) n = true
  flt : ∀ q n, s.bit (rFLT q) n = true → t.bit (rFLT q) n = true
  rel : s.pst.rel = false → t.pst.rel = false

namespace Steady
variable {N : Nat → Prop}

theorem refl (s : State) : Steady N s s := ⟨rfl, fun _ _ => rfl, fun _ _ => rfl, fun _ _ => id, fun _ _ => id, id⟩

theorem trans {s t u : State} (h : Steady N s t) (k : Steady N t u) : Steady N s u :=
  ⟨k.spine.trans h.spine, fun n hn => (k.node n hn).trans (h.node n hn), fun a ha => (k.rd a ha).trans (h.rd a ha), fun q n hb => k.evt q n (h.evt q n hb), fun q n hb => k.flt q n (h.flt q n hb),
    fun hr => k.rel (h.rel hr)⟩

/-- A change of fields outside spine, registers, release and nodes. -/
theorem of_regs {s t : State} (h : t.spine = s.spine := by exact rfl) (hr : t.regs = s.regs := by exact rfl) (hp : t.pst.rel = s.pst.rel := by exact rfl)
    (hn : t.ctl.nodes = s.ctl.nodes := by exact rfl) : Steady N s t :=
  ⟨h, fun n _ => by simp only [State.node, hn], fun a _ => by simp only [State.rd, hr], fun q n => by simp only [State.bit, State.rd, hr, imp_self], fun q n => by simp only [State.bit, State.rd, hr, imp_self],
    by rw [hp]; exact id⟩

theorem ite {s t u : State} {c : Prop} [Decidable c] (h : Steady N s t) (k : Steady N s u) : Steady N s (if c then t else u) := by
  split_ifs <;> assumption

theorem foldl {α : Type} {f : State → α → State} {l : List α} {s t : State} (k : Steady N s t) (h : ∀ t, ∀ x ∈ l, Steady N s t → Steady N s (f t x)) :
    Steady N s (l.foldl f t) := by
  induction l generalizing t with
  | nil => exact k
  | cons x l ih => exact ih (h t x (.head l) k) fun t y hy => h t y (.tail x hy)

end Steady

theorem heldReg_mod {a : Nat} (h : heldReg a = true) : a % 256 ≠ 0x0C ∧ a % 256 ≠ 0x18 := by
  simp only [heldReg, Bool.or_eq_true, beq_iff_eq, List.any_eq_true, List.mem_range] at h
  rcases h with ((((rfl | rfl) | rfl) | rfl) | rfl) | ⟨n, -, rfl⟩
  · decide
  · decide
  · decide
  · decide
  · decide
  · simp only [rCTRL]; omega

/-- A register a steady change may write: not held, and no EVT or FLT word. -/
def plainReg (a : Nat) : Bool := !heldReg a && a % 256 != 0x0C && a % 256 != 0x18

theorem Steady.wr {N : Nat → Prop} {s t : State} (k : Steady N s t) {a : Nat} {v : Word} (h : plainReg a = true := by decide) : Steady N s (t.wr a v) := by
  simp only [plainReg, Bool.and_eq_true, Bool.not_eq_true', bne_iff_ne, ne_eq] at h
  obtain ⟨⟨hh, he⟩, hf⟩ := h
  refine k.trans ⟨rfl, fun _ _ => rfl, fun b hb => State.rd_wr_ne _ _ (by rintro rfl; simp [hh] at hb), fun p n hb => ?_, fun p n hb => ?_, id⟩
  · have : rEVT p ≠ a := by rintro rfl; exact he (by unfold rEVT; omega)
    simpa [State.bit, State.rd_wr_ne _ _ this] using hb
  · have : rFLT p ≠ a := by rintro rfl; exact hf (by unfold rFLT; omega)
    simpa [State.bit, State.rd_wr_ne _ _ this] using hb

theorem heldReg_touch {a : Nat} (p : Nat) (h : heldReg a = true) : raiseTouches p a = false := by
  have m := (heldReg_mod h).1
  have e (q : Nat) : (a == rEVT q) = false := by rw [beq_eq_false_iff_ne]; rintro rfl; exact m (by unfold rEVT; omega)
  have c : a ≠ R.QUE_EVLOSTCT ∧ a ≠ R.LOG_LOSTCT ∧ a ≠ R.TRC_LOST := by
    refine ⟨?_, ?_, ?_⟩ <;> (rintro rfl; exact absurd h (by decide))
  simp [raiseTouches, e, c]

/-- What an event and its routes keep is steady. -/
theorem Steady.of_keeps {N : Nat → Prop} {p : Nat} {s t : State} (q : t.quiet = s.quiet) (k : Keeps p s t) : Steady N s t where
  spine := spine_of_quiet q
  node n _ := by have e := congrArg (fun q : State => q.node n) q; exact e
  rd a ha := k.rd a (heldReg_touch p ha)
  evt := k.evt
  flt q n hb := by simpa only [State.bit, k.rd _ (rFLT_touch p q)] using hb
  rel := k.rel

theorem heldReg_settle {a : Nat} (h : heldReg a = true) : settleTouches a = false := by
  have t := fun p => heldReg_touch p h
  have m := (heldReg_mod h).2
  have f (q : Nat) : (a == rFLT q) = false := by rw [beq_eq_false_iff_ne]; rintro rfl; exact m (by unfold rFLT; omega)
  have n (b : Nat) (hb : heldReg b = false) : (a == b) = false := by rw [beq_eq_false_iff_ne]; rintro rfl; simp [hb] at h
  simp [settleTouches, t, f, n R.PST_TRIPCT rfl, n R.PST_LAST rfl, n R.PST_LASTTICK rfl, n R.SLF_LASTV rfl, n R.SLF_LASTU rfl, n R.SLF_LASTTICK rfl, n R.SLF_LASTCT rfl,
    n R.SLF_TRANCT rfl, n R.SLF_NOTESTCT rfl, n R.SLF_DETCT rfl, n R.SLF_BKT1 rfl]

/-- What the settling of the output state keeps is steady. -/
theorem Steady.of_calms {N : Nat → Prop} {s t : State} (k : Calms s t) : Steady N s t :=
  ⟨spine_of_calm k.calm, fun n _ => by have e := congrArg (fun q : State => q.node n) k.calm; exact e, fun a ha => k.rd a (heldReg_settle ha), k.evt, k.flt, k.rel⟩

namespace Steady
variable {N : Nat → Prop} {s t : State} (h : Steady N s t)
include h

theorem raise {p n : Nat} : Steady N s (t.raise p n) := h.trans (.of_keeps (quiet_raise t p n) (keeps_raise t p n))
theorem raiseIf {c : Bool} {p n : Nat} : Steady N s (t.raiseIf c p n) := h.trans (.of_keeps (quiet_raiseIf t c p n) (keeps_raiseIf t c p n))
theorem logPush {k p : Nat} {a b : Word} : Steady N s (t.logPush k p a b) := h.trans (.of_keeps (quiet_logPush t k p a b) (keeps_logPush 0 t k p a b))
theorem trcPush {r : BitVec 64} : Steady N s (t.trcPush r) := h.trans (.of_keeps (quiet_trcPush t r) (keeps_trcPush 0 t r))
theorem askSafe {c : Nat} : Steady N s (t.askSafe c) := h.trans (.of_keeps (quiet_askSafe t c) (keeps_askSafe 0 t c))
theorem clearRel : Steady N s t.clearRel := h.trans (.of_calms (calms_clearRel t))
theorem stageSafe : Steady N s t.stageSafe := h.trans (.of_calms (calms_stageSafe t))
theorem settleOut : Steady N s t.settleOut := h.trans (.of_calms (calms_settleOut t))
theorem safetyOwn : Steady N s t.safetyOwn := h.trans .of_regs

theorem setFlt {p n : Nat} : Steady N s (t.setFlt p n) := by
  have set : Steady N t (t.wr (rFLT p) (setBit (t.rd (rFLT p)) n true)) := by
    refine ⟨rfl, fun _ _ => rfl, fun b hb => State.rd_wr_ne _ _ ?_, fun q m hb => ?_, fun q m hb => ?_, id⟩
    · rintro rfl; exact (heldReg_mod hb).2 (by unfold rFLT; omega)
    · have : rEVT q ≠ rFLT p := by unfold rEVT rFLT; omega
      simpa [State.bit, State.rd_wr_ne _ _ this] using hb
    · by_cases e : rFLT q = rFLT p
      · rw [e] at hb ⊢; simpa [State.bit] using bitOf_setBit_true _ n m hb
      · simpa [State.bit, State.rd_wr_ne _ _ e] using hb
  exact .ite h (h.trans set).logPush

end Steady

/-- A sticky fault that is set stands in FLT. -/
theorem bit_setFlt (s : State) (p : Nat) {n : Nat} (hn : n < 32) : (s.setFlt p n).bit (rFLT p) n = true := by
  unfold State.setFlt
  split_ifs with h
  · exact h
  · refine (Steady.refl (N := fun _ => False) _).logPush.flt _ _ ?_
    simp [State.bit, bitOf_setBit _ _ _ _ hn hn]

end Sys2Proof.Machine

namespace Sys2Proof.Machine

/-! ## Steady changes: the shared operations -/

theorem testOf_le (src : Nat) : testOf src ≤ 10 := by unfold testOf; split <;> decide

theorem plainReg_bucket {test : Nat} (h : test ≤ 10) : plainReg (R.SLF_BKT0 + 4 * ((test - 1) / 4)) = true := by
  have c : (test - 1) / 4 < 3 := by omega
  generalize (test - 1) / 4 = k at c
  interval_cases k <;> decide

/-- A node reads what was last stored in it. -/
theorem node_setNode (s : State) (n m : Nat) (v : Int) : (s.setNode n v).node m = if m = n then v else s.node m := Sparse.get_put _ _ _ _ _

namespace Steady
variable {N : Nat → Prop} {s t : State} (h : Steady N s t)
include h

theorem inc {a : Nat} (ha : plainReg a = true := by decide) : Steady N s (t.inc a) := h.wr ha
theorem setF {a lo w n : Nat} (ha : plainReg a = true := by decide) : Steady N s (t.setF a lo w n) := h.wr ha

/-! ### The twin's records, memory -/

theorem sendTwin {l : List Byte} : Steady N s (t.sendTwin l) := h.trans .of_regs
theorem digPut {k : Nat} {e : Nat × Nat × Word} : Steady N s (t.digPut k e) := h.trans .of_regs
theorem markDirty {p : Nat} : Steady N s (t.markDirty p) := .ite (h.trans .of_regs) h

/-- The digest stream and the dirty pages are no part of what is steady. -/
theorem note {w a : Nat} {d : Word} {cls : Nat} : Steady N s (t.note w a d cls) := by
  unfold State.note
  refine .ite ?_ h
  split
  · exact h.digPut.markDirty
  · exact .ite h.digPut h

theorem keepReg {a : Nat} : Steady N s (t.keepReg a) := .ite (h.trans .of_regs) h
theorem hw {a : Nat} {v : Word} (ha : plainReg a = true := by decide) : Steady N s (t.hw a v) := (h.keepReg.wr ha).note
theorem hwF {a lo w n : Nat} (ha : plainReg a = true := by decide) : Steady N s (t.hwF a lo w n) := h.hw ha

theorem wrN {a v w : Nat} : Steady N s (t.wrN a v w) := by
  induction w generalizing t a v with
  | zero => exact h
  | succ w ih => exact ih (h.trans .of_regs)

theorem putMem {a w : Nat} {v : Word} {cls : Nat} : Steady N s (t.putMem a w v cls) := by
  unfold State.putMem
  refine .note ?_
  have sound : Steady N s (if w = 4 then (t.wrN a v.toNat w).soundWord a else t.wrN a v.toNat w) := .ite (h.wrN.trans .of_regs) h.wrN
  exact .ite (sound.trans .of_regs) sound

theorem memStore {a w : Nat} {v : Word} : Steady N s (t.memStore a w v) := .putMem (h.trans .of_regs)
theorem hwStore {a : Nat} {v : Word} : Steady N s (t.hwStore a v) := .putMem (.ite (h.trans .of_regs) h)

/-! ### Self-test's reports -/

theorem setLane {l : Nat} {x : Lane} : Steady N s (t.setLane l x) := h.trans (.ite .of_regs (.ite .of_regs .of_regs))
theorem incBucket {test : Nat} (ht : test ≤ 10) : Steady N s (t.incBucket test) := h.setF (plainReg_bucket ht)
theorem tellTwin {v : Nat} : Steady N s (t.tellTwin v) := .sendTwin (h.trans .of_regs)

theorem verdict {j : Job} {res spare : Nat} : Steady N s (t.verdict j res spare) := by
  unfold State.verdict
  extract_lets b lasting d0 s1 s2 s3 s4 s5 _ s6
  have h0 : Steady N s (t.noteLast j d0) := h.trans (.of_calms (calms_noteLast t j d0))
  have h1 : Steady N s s1 := by unfold s1; cases lasting <;> exact h0.inc
  have h2 : Steady N s s2 := .ite (h1.trans (.of_calms (calms_noteNoTest s1))) h1
  have h3 : Steady N s s3 := .ite (h2.trans (.of_calms (calms_noteRepair s2 _ _))) h2
  have h4 : Steady N s s4 := h3.logPush
  have h5 : Steady N s s5 := .ite (h4.trans (.of_calms (calms_noteLasting s4))) h4
  have h6 : Steady N s s6 := .ite (h5.trans .of_regs) h5
  exact .ite (.tellTwin (h6.trans .of_regs)) h6

theorem detect {src page : Nat} {u : Word} : Steady N s (t.detect src page u) := by
  unfold State.detect
  extract_lets test j s1 s2 s3
  have counted : Steady N s s3 := .incBucket (.logPush (.inc h.raise)) (testOf_le src)
  exact .ite counted.verdict (.ite (counted.trans .of_regs) (.ite (.ite (counted.trans .of_regs) counted) (.ite counted.setLane (.ite counted.setLane counted.verdict))))

/-! ### Routes that waited -/

theorem routes {p n l : Nat} : Steady N s (t.routes State.raise p n l) :=
  h.trans (.of_keeps (quiet_routes quiet_raise t p n l) (keeps_routes keeps_raise p t p n l))

theorem presentAll : Steady N s t.presentAll := .foldl (h.trans .of_regs) fun _ _ _ k => k.routes

/-! ### Channels, loops, nodes, injectors -/

theorem setFm {c : Nat} {x : FmSt} : Steady N s (t.setFm c x) := h.trans (.ite .of_regs .of_regs)
theorem setNode {n : Nat} {v : Int} (hn : ¬ N n) : Steady N s (t.setNode n v) :=
  h.trans { Steady.refl (N := N) t with node := fun m hm => by rw [node_setNode, if_neg (by rintro rfl; exact hn hm)], spine := rfl }
theorem putNode {n : Nat} {v : Int} (hn : ¬ N n) : Steady N s (t.putNode n v) := h.setNode hn
theorem setLoop {n : Nat} {x : LoopSt} : Steady N s (t.setLoop n x) := h.trans .of_regs
theorem setGen {j : Nat} {g : GenSt} : Steady N s (t.setGen j g) := h.trans .of_regs
theorem setInj {k : Nat} {x : InjSt} : Steady N s (t.setInj k x) := h.trans .of_regs
theorem setRpt {c : Nat} {x : RptSt} : Steady N s (t.setRpt c x) := h.trans .of_regs
theorem loopRestart {n : Nat} : Steady N s (t.loopRestart n) := h.trans .of_regs
theorem loopOff {n : Nat} (ho : ¬ N (0x30 + n)) (he : ¬ N (0x38 + n)) : Steady N s (t.loopOff n) := .setNode (.setNode (h.trans .of_regs) ho) he

theorem injStop {k : Nat} {done : Bool} : Steady N s (t.injStop k done) := .ite h.setInj.raiseIf h
theorem precStop : Steady N s t.precStop := .ite (h.wr (a := R.ADC_PFLG) (v := 0x10#32) |>.trans .of_regs) h

theorem fmOff {c : Nat} (hc : c < 2) : Steady N s (t.fmOff c) := by
  interval_cases c <;> exact h.hwF

theorem fmLeave : Steady N s t.fmLeave := by
  unfold State.fmLeave
  extract_lets one s1
  have h1 : Steady N s s1 := .setFm (.fmOff (.setFm (.fmOff h (by decide))) (by decide))
  exact .ite h1 h1.precStop

theorem dropStaged : Steady N s t.dropStaged := by
  unfold State.dropStaged
  split
  · exact h
  · exact .raise (.inc (h.trans .of_regs))

/-! ### The sequencer's records and aborts -/

theorem capWrite {i v : Word} {w2 : Nat} : Steady N s (t.capWrite i v w2) := by
  unfold State.capWrite
  extract_lets len wrap first s1 _ s2 full s3 r a s4
  have h1 : Steady N s s1 := h.inc
  have h4 : Steady N s s4 := .hwStore (.hwStore (.hwStore (.hwStore h.raiseIf)))
  clear_value s4
  exact .ite (.raiseIf (h1.trans .of_regs)) (h4.trans .of_regs)

theorem seqPrecStop : Steady N s t.seqPrecStop := .ite h.precStop h

theorem seqAbort {why : Nat} : Steady N s (t.seqAbort why) := by
  have stopped : Steady N s (if t.seq.prec.isSome then t else t.seqPrecStop) := .ite h h.seqPrecStop
  exact .raise (stopped.trans .of_regs)

theorem precLost : Steady N s t.precLost := by
  unfold State.precLost
  split
  · exact h
  · exact .raise (.seqPrecStop (.capWrite (h.trans .of_regs)))

theorem seqTckLeave : Steady N s t.seqTckLeave := .ite h.precLost.seqAbort h.precLost

end Steady

end Sys2Proof.Machine

namespace Sys2Proof.Machine

/-! ## Steady changes: force and measure, generators, injectors, repetitive controllers -/

namespace Steady
variable {N : Nat → Prop} {s t : State} (h : Steady N s t)
include h

theorem fmRestart {c : Nat} : Steady N s (t.fmRestart c) := h.loopRestart.loopRestart

theorem setLevel {c : Nat} {v : Word} (hc : c < 2) : Steady N s (t.setLevel c v) := by
  have level : Steady N s (t.hw (R.FM_LEVEL c) v) := h.hw (by interval_cases c <;> decide)
  exact .ite level.setFm.fmRestart level.setFm

theorem setRange {c : Nat} {v : Bool} {r : Nat} (hc : c < 2) : Steady N s (t.setRange c v r) := by
  unfold State.setRange
  extract_lets x old sel x' s1 s2 src _ s3 s4
  have h2 : Steady N s s2 := .inc h.setFm (by interval_cases c <;> decide)
  have h3 : Steady N s s3 := .ite (h2.trans .of_regs) h2
  have h4 : Steady N s s4 := .ite h3.hwF h3
  exact .ite h h4.raise

theorem rangeManual {c : Nat} (hc : c < 2) : Steady N s (t.rangeManual c) := by
  have first : Steady N s (if t.bit (rCTRL (P.FM c)) 5 then t else t.setRange c false (fld (t.rd (R.FM_RANGE c)) 0 3)) := .ite h (h.setRange hc)
  exact .ite first (first.setRange hc)

theorem rangeStep {c : Nat} (hc : c < 2) : Steady N s (t.rangeStep c) := by
  have asked {t : State} (k : Steady N s t) (v : Bool) (o : Option Nat) : Steady N s (match o with | some r => t.setRange c v r | none => t) := by
    cases o
    · exact k
    · exact k.setRange hc
  unfold State.rangeStep
  extract_lets x ra dwell blanked dI _ s1 dV _ s2
  have h1 : Steady N s s1 := .ite (.ite h (asked h.setFm _ _)) (h.setFm.setRange hc)
  exact .ite (.ite h1 (asked h1.setFm _ _)) (h1.setFm.setRange hc)

theorem fmTrip {c n : Nat} : Steady N s (t.fmTrip c n) := h.setFlt.raise.stageSafe.safetyOwn

theorem compliance {c : Nat} {inc : Bool} : Steady N s (t.compliance c inc) := by
  unfold State.compliance
  extract_lets x force inc' run rev rrun tripn s1 s2 s3 s4
  have h4 : Steady N s s4 := .ite h.setFm.raiseIf.raiseIf.fmTrip h.setFm.raiseIf.raiseIf
  exact .ite h4.setFm.fmTrip h4

theorem arbitrate {c : Nat} {arm : Bool} (hc : c < 2) : Steady N s (t.arbitrate c arm) := by
  have own : plainReg (R.FM_OWN c) = true := by interval_cases c <;> decide
  unfold State.arbitrate
  extract_lets x w st lostOne lostStand s1 s2 displaced s3 s4
  have h1 : Steady N s s1 := h.foldl fun _ _ _ k => (k.setF own).raise
  have h3 : Steady N s s3 := .ite (h1.raiseIf.setF own).raise h1.raiseIf
  exact .ite (h3.setFm.fmOff hc) h3.setFm

/-! ### Generators and injectors -/

theorem setTarget {j : Nat} {x : Int} : Steady N s (t.setTarget j x) := h.setGen

theorem latchTargets : Steady N s t.latchTargets :=
  h.foldl fun _ _ _ k => .ite k (.ite (.ite k.setTarget k) k.setTarget)

theorem genLoad {j : Nat} : Steady N s (t.genLoad j) := h.setGen.raiseIf
theorem genMode {j was : Nat} : Steady N s (t.genMode j was) := .ite h.setGen h
theorem prfLimit {old : State} {j : Nat} : Steady N s (t.prfLimit old j) := h.raiseIf
theorem injStart {k : Nat} : Steady N s (t.injStart k) := h.setInj
theorem rptEnable {c : Nat} : Steady N s (t.rptEnable c) := h.setRpt
theorem rptClear {c : Nat} : Steady N s (t.rptClear c) := h.foldl fun _ _ _ k => k.memStore

/-! ### A commit's actions -/

theorem commitAct {a : Nat} {v : Word} : Steady N s (t.commitAct a v) := by
  unfold State.commitAct
  refine .ite (.ite (h.foldl fun _ _ _ k => k.loopRestart) h) (.ite (.ite h.loopRestart h) (.ite (h.foldl fun t j _ k => ?_) (.ite ?_ (.ite ?_ h))))
  · have load : Steady N s (if bitOf v j then t.genLoad j else t) := .ite k.genLoad k
    exact .ite load.setGen load
  · have clear : Steady N s (if bitOf v 0 then t.rptClear 0 else t) := .ite h.rptClear h
    exact .ite clear.rptClear clear
  · have one {t : State} (k : Steady N s t) (n : Nat) :
        Steady N s (if bitOf v n then (if bitOf v (4 + n) then t.injStop n true else t).injStart n else if bitOf v (4 + n) then t.injStop n true else t) :=
      .ite (.injStart (.ite k.injStop k)) (.ite k.injStop k)
    exact one (one h 0) 1

theorem groupNone {m : Nat} (hm : ¬ N (0x40 + m)) : Steady N s (t.groupNone m) := .ite (.setNode (h.trans .of_regs) hm) h
theorem winFall : Steady N s t.winFall := h.trans .of_regs

end Steady

end Sys2Proof.Machine

namespace Sys2Proof.Machine

/-! ## A commit keeps the spine, and is steady where it carries no values -/

/-- No node is asked to stand. -/
abbrev noNode : Nat → Prop := fun _ => False

theorem spine_setFm (s : State) (c : Nat) (x : FmSt) : (s.setFm c x).spine = s.spine := ((Steady.refl (N := noNode) s).setFm).spine

theorem spine_commitFm (s : State) (l : List (Nat × Word)) (c : Nat) : (s.commitFm l c).spine = s.spine := by
  have put (t : State) (a : Nat) : (match Sparse.find l a with | some v => t.wr a v | none => t).spine = t.spine := by split <;> rfl
  unfold State.commitFm
  extract_lets put' s1 old s2 s3 sig
  have h1 : s1.spine = s.spine := (put _ _).trans (put _ _)
  have h2 : s2.spine = s.spine := by
    refine Eq.trans ?_ h1
    unfold s2; split
    · rfl
    · exact (spine_raiseIf _ _ _ _).trans rfl
  have h3 : s3.spine = s.spine := by
    refine Eq.trans ?_ h2
    unfold s3; split
    · rfl
    · exact spine_ite rfl (spine_raise _ _ _)
  refine Eq.trans ?_ h3
  split
  · rfl
  · have level (v : Word) (x : FmSt) : ((s3.wr (R.FM_LEVEL c) v).setFm c x).spine = s3.spine := spine_setFm _ _ _
    exact spine_ite (spine_raise _ _ _) (spine_ite (level _ _) (level _ _))

/-- What follows the writes and the refusals of a commit made of `old`: duplicate members, generators, controllers, loops, groups, and the action bits. -/
def State.commitRest (s old : State) (acts : List (Nat × Word)) : State :=
  let s := s.raiseIf (s.dupSlots.any fun e => !old.dupSlots.contains e) P.CTL 4
  let s := (List.range 4).foldl (fun (s : State) j => (s.genMode j (old.genCfg j).1).prfLimit old j) s
  let s := [0, 1].foldl (fun (s : State) c => if s.bit (R.RPT_CFG0 + 0x20 * c) 0 && !old.bit (R.RPT_CFG0 + 0x20 * c) 0 then s.rptEnable c else s) s
  let s := (List.range 8).foldl (fun (s : State) n =>
    if s.bit (rCTRL (P.LP n)) 0 && !old.bit (rCTRL (P.LP n)) 0 then s.loopRestart n
    else if !s.bit (rCTRL (P.LP n)) 0 && old.bit (rCTRL (P.LP n)) 0 then s.loopOff n else s) s
  let s := (([0, 1, 2] : List Nat).foldl State.groupNone s).winFall
  acts.foldl (fun (s : State) e => s.commitAct e.1 e.2) s

theorem Steady.commitRest {s t : State} (h : Steady noNode s t) (old : State) (acts : List (Nat × Word)) : Steady noNode s (t.commitRest old acts) := by
  refine .foldl (.winFall (.foldl (.foldl (.foldl (.foldl h.raiseIf ?_) ?_) ?_) ?_)) ?_
  · exact fun _ _ _ k => k.genMode.prfLimit
  · exact fun _ _ _ k => .ite k.rptEnable k
  · exact fun _ _ _ k => .ite k.loopRestart (.ite (k.loopOff id id) k)
  · exact fun _ _ _ k => k.groupNone id
  · exact fun _ _ _ k => k.commitAct

theorem spine_commit (s : State) (l acts : List (Nat × Word)) : (s.commit l acts).spine = s.spine := by
  unfold State.commit
  extract_lets old isFm bad good _ s1 s2 s3 s4 s5
  have h1 : s1.spine = s.spine := spine_ite rfl rfl
  have h2 : s2.spine = s.spine := (spine_foldl (fun _ _ => spine_wr _ _ _) _ _).trans h1
  have h3 : s3.spine = s.spine := (spine_foldl (fun s e => spine_raise s _ _) _ _).trans h2
  have h4 : s4.spine = s.spine := (spine_foldl (fun _ _ => spine_ite rfl (spine_commitFm _ _ _)) _ _).trans h3
  have h5 : s5.spine = s.spine := (spine_ite ((Steady.refl (N := noNode) s4).rangeManual (c := 0) (by decide) |>.rangeManual (c := 1) (by decide)).spine rfl).trans h4
  exact (((Steady.refl s5).commitRest old acts).spine).trans h5

/-- A commit without values is its actions. -/
theorem Steady.commit_nil {s t : State} (h : Steady noNode s t) {acts : List (Nat × Word)} : Steady noNode s (t.commit [] acts) := by
  unfold State.commit
  extract_lets old isFm bad good _ s1 s2 s3 s4 s5
  have h1 : Steady noNode s s1 := .ite (h.trans .of_regs) h
  have h2 : Steady noNode s s2 := h1.foldl fun _ _ hx => absurd hx List.not_mem_nil
  have h3 : Steady noNode s s3 := h2.foldl fun _ _ _ k => k.raise
  have h4 : Steady noNode s s4 := h3.foldl fun _ _ _ k => .ite k k
  have h5 : Steady noNode s s5 := .ite ((h4.rangeManual (by decide)).rangeManual (by decide)) h4
  exact h5.commitRest old acts

/-! ### At an edge, and at an entry to SAFE or IDLE -/

/-- No value and no action bit stands in the shadows. -/
def State.unshadowed (s : State) : State := { s with shadow := [], acts := [] }

theorem spine_commitEdge (s : State) : s.commitEdge.spine = s.unshadowed.spine := spine_ite (spine_commit _ _ _) (spine_commit _ _ _)

/-- Where no value stands in the shadows, what commits at an edge is the action bits. -/
theorem steady_commitEdge {s : State} (h : s.shadow = []) : Steady noNode s.unshadowed s.commitEdge := by
  unfold State.commitEdge State.commitAll
  extract_lets keep l acts l' acts'
  have hl : l = [] := by simp [l, h]
  have hl' : l' = [] := h
  rw [hl, hl']
  exact .ite (Steady.refl s.unshadowed).commit_nil (Steady.refl s.unshadowed).commit_nil

end Sys2Proof.Machine

namespace Sys2Proof.Machine

/-! ## Moves of the clock block

A move of CLK changes the clock block and the line-time, and is steady beside them. -/

/-- What a move of CLK keeps. -/
structure Clocked (s t : State) : Prop where
  rest : Steady noNode { s with clk := t.clk, lt := t.lt } t
  pllok : t.clk.pllok = s.clk.pllok
  refok : t.clk.refok = s.clk.refok

namespace Clocked

theorem refl (s : State) : Clocked s s := ⟨.refl s, rfl, rfl⟩

variable {s t u : State} (h : Clocked s t)
include h

theorem steady (k : Steady noNode t u) : Clocked s u := by
  have hc := spine_clk k.spine
  have hl := spine_lt k.spine
  exact ⟨by rw [hc, hl]; exact h.rest.trans k, by rw [hc, h.pllok], by rw [hc, h.refok]⟩

/-- The clock block and the line-time may take any value that keeps PLLOK and REFOK. -/
theorem moved (c : ClkSt) (lt : LineTime) (hp : c.pllok = t.clk.pllok := by exact rfl) (hr : c.refok = t.clk.refok := by exact rfl) : Clocked s { t with clk := c, lt := lt } :=
  ⟨⟨congrArg (fun q : Spine => { q with clk := c, lt := lt }) h.rest.spine, h.rest.node, h.rest.rd, h.rest.evt, h.rest.flt, h.rest.rel⟩, hp.trans h.pllok, hr.trans h.refok⟩

theorem trans (k : Clocked t u) : Clocked s u :=
  ⟨(h.moved u.clk u.lt k.pllok k.refok).rest.trans k.rest, k.pllok.trans h.pllok, k.refok.trans h.refok⟩

omit h in
theorem ite {c : Prop} [Decidable c] (h : Clocked s t) (k : Clocked s u) : Clocked s (if c then t else u) := by
  split_ifs <;> assumption

theorem loadLt {v : LineTime} : Clocked s (t.loadLt v) := (h.moved t.clk v).steady (.raise (.refl _))

/-! ### What it keeps, by name -/

theorem tck_state : t.tck.state = s.tck.state := (spine_state h.rest.spine :)
theorem tck_cause : t.tck.cause = s.tck.cause := (spine_cause h.rest.spine :)
theorem tck_pend : t.tck.pend = s.tck.pend := (spine_pend h.rest.spine :)
theorem tck_now : t.tck.now = s.tck.now := (spine_now h.rest.spine :)
theorem tck_inTick : t.tck.inTick = s.tck.inTick := (spine_inTick h.rest.spine :)
theorem tck_stopReq : t.tck.stopReq = s.tck.stopReq := (spine_stopReq h.rest.spine :)
theorem cpu : t.cpu = s.cpu := (spine_cpu h.rest.spine :)
theorem pwr : t.pwr = s.pwr := (spine_pwr h.rest.spine :)
theorem shadow : t.shadow = s.shadow := (spine_shadow h.rest.spine :)
theorem direct : t.direct = s.direct := (spine_direct h.rest.spine :)
theorem ticking : t.ticking = s.ticking := (spine_ticking h.rest.spine :)
theorem rd {a : Nat} (ha : heldReg a = true) : t.rd a = s.rd a := h.rest.rd a ha
theorem bit {a n : Nat} (ha : heldReg a = true) : t.bit a n = s.bit a n := by rw [State.bit, State.bit, h.rd ha]
theorem evt {p n : Nat} (hb : s.bit (rEVT p) n = true) : t.bit (rEVT p) n = true := h.rest.evt p n hb
theorem flt {p n : Nat} (hb : s.bit (rFLT p) n = true) : t.bit (rFLT p) n = true := h.rest.flt p n hb
theorem rel (hr : s.pst.rel = false) : t.pst.rel = false := h.rest.rel hr

end Clocked

/-! ### A state entered (Table 1-3) -/

/-- The clock block in a new state `st`: the counts of frames start afresh, and a step that was put off is dropped where the counter is invalid. -/
def ClkSt.afresh (c : ClkSt) (st : ClkState) : ClkSt :=
  let c := { c with state := st, good := 0, bad := 0, benchZero := false }
  if st = .osc ∨ st = .search then { c with stepDue := false, stepLoad := none } else c

/-- The clock block as it enters state `st` at line-time `lt`: HOLD keeps the time of its entry. -/
def ClkSt.entering (c : ClkSt) (st : ClkState) (lt : LineTime) : ClkSt :=
  if st = .hold then { c.afresh st with holdAt := lt } else c.afresh st

theorem clkTo_same {s : State} {st : ClkState} (h : s.clk.state = st) : s.clkTo st = s := if_pos h

theorem steady_coordLost {N : Nat → Prop} {s t : State} (h : Steady N s t) : Steady N s t.coordLost := .ite (.raise (h.trans .of_regs)) h

theorem steady_dcoStart {N : Nat → Prop} {s t : State} (h : Steady N s t) : Steady N s t.dcoStart := .wr (h.trans .of_regs)

/-- A change of the clock block beside which all is steady. -/
theorem Steady.withClk {N : Nat → Prop} {s t : State} (h : Steady N s t) (c : ClkSt) : Steady N { s with clk := c } { t with clk := c } :=
  ⟨congrArg (fun q : Spine => { q with clk := c }) h.spine, h.node, h.rd, h.evt, h.flt, h.rel⟩

theorem clkTo_moves (s : State) (st : ClkState) (h : s.clk.state ≠ st) : Steady noNode { s with clk := s.clk.entering st s.lt } (s.clkTo st) := by
  unfold State.clkTo
  extract_lets was s1 _ s2 _ s3 _ s4 _ s5 s6 s7 s8
  rw [if_neg h]
  have h1 : Steady noNode s s1 := .ite (.wr (.refl s)) (.refl s)
  have e1 : s1.clk = s.clk := spine_clk h1.spine
  have e1' : s1.lt = s.lt := spine_lt h1.spine
  clear_value s1
  have h3 : Steady noNode { s with clk := s3.clk } s3 := by unfold s3; split_ifs <;> exact h1.withClk _
  have h4 : Steady noNode { s with clk := s4.clk } s4 := by
    unfold s4; split_ifs
    · exact (h3.withClk _).wr
    · exact h3
  have e3 : s3.clk = s.clk.afresh st := by rw [← e1]; unfold s3 ClkSt.afresh; dsimp only; split_ifs <;> rfl
  have l3 : s3.lt = s.lt := by unfold s3; split_ifs <;> exact e1'
  have e4 : s4.clk = s.clk.entering st s.lt := by
    unfold ClkSt.entering; rw [← e3, ← l3]; unfold s4; split_ifs <;> rfl
  rw [e4] at h4
  have h5 : Steady noNode { s with clk := s.clk.entering st s.lt } s5 := .ite (h4.trans .of_regs) h4
  have h6 : Steady noNode { s with clk := s.clk.entering st s.lt } s6 := .ite (.ite h5.wr (steady_dcoStart h5)) h5
  have h7 : Steady noNode { s with clk := s.clk.entering st s.lt } s7 := .ite (.raise (.inc h6)) h6
  exact .ite (steady_coordLost h7.raiseIf) h7.raiseIf

@[simp] theorem entering_state (c : ClkSt) (st : ClkState) (lt : LineTime) : (c.entering st lt).state = st := by
  unfold ClkSt.entering ClkSt.afresh; dsimp only; split_ifs <;> rfl

theorem entering_pllok (c : ClkSt) (st : ClkState) (lt : LineTime) : (c.entering st lt).pllok = c.pllok := by
  unfold ClkSt.entering ClkSt.afresh; dsimp only; split_ifs <;> rfl

theorem entering_refok (c : ClkSt) (st : ClkState) (lt : LineTime) : (c.entering st lt).refok = c.refok := by
  unfold ClkSt.entering ClkSt.afresh; dsimp only; split_ifs <;> rfl

theorem entering_afterLoss (c : ClkSt) (st : ClkState) (lt : LineTime) : (c.entering st lt).afterLoss = c.afterLoss := by
  unfold ClkSt.entering ClkSt.afresh; dsimp only; split_ifs <;> rfl

/-- The clock block after a move. -/
theorem clkTo_clk {s : State} {st : ClkState} (h : s.clk.state ≠ st) : (s.clkTo st).clk = s.clk.entering st s.lt := spine_clk (clkTo_moves s st h).spine

/-- A move leaves the line-time. -/
theorem clkTo_lt (s : State) (st : ClkState) : (s.clkTo st).lt = s.lt := by
  by_cases h : s.clk.state = st
  · rw [clkTo_same h]
  · exact (spine_lt (clkTo_moves s st h).spine :)

theorem clkTo_state (s : State) (st : ClkState) : (s.clkTo st).clk.state = st := by
  by_cases h : s.clk.state = st
  · rw [clkTo_same h, h]
  · rw [clkTo_clk h, entering_state]

theorem Clocked.clkTo {s t : State} (h : Clocked s t) {st : ClkState} : Clocked s (t.clkTo st) := by
  by_cases e : t.clk.state = st
  · rw [clkTo_same e]; exact h
  · exact (h.moved (t.clk.entering st t.lt) t.lt (entering_pllok _ _ _) (entering_refok _ _ _)).steady (clkTo_moves t st e)

theorem rd_raise (s : State) {p n a : Nat} (h : raiseTouches p a = false := by decide) : (s.raise p n).rd a = s.rd a := (keeps_raise s p n).rd a h
theorem rd_raiseIf (s : State) {c : Bool} {p n a : Nat} (h : raiseTouches p a = false := by decide) : (s.raiseIf c p n).rd a = s.rd a := (keeps_raiseIf s c p n).rd a h
theorem seqv_raise (s : State) (p n : Nat) : (s.raise p n).cyc.seqv = s.cyc.seqv := by
  have e := congrArg (fun q : State => q.cyc.seqv) (quiet_raise s p n); exact e

theorem rd_coordLost (s : State) {a : Nat} (h : raiseTouches P.LNK a = false := by decide) : s.coordLost.rd a = s.rd a := by
  unfold State.coordLost; split_ifs
  · exact rd_raise _ h
  · rfl

/-- What SEARCH begins with: no valid counter, so no sequence of frames (R305). -/
theorem clkTo_search_seqv {s : State} (h : s.clk.state ≠ .search) : (s.clkTo .search).cyc.seqv = false := by
  unfold State.clkTo
  extract_lets was s1 _ s2 _ s3 _ s4 _ s5 s6 s7 s8
  rw [if_neg h]
  have h5 : s5.cyc.seqv = false := by exact congrArg (fun t : State => t.cyc.seqv) (if_pos rfl)
  have h6 : s6.cyc.seqv = false := by unfold s6; split_ifs <;> exact h5
  have h7 : s7.cyc.seqv = false := (congrArg (fun t : State => t.cyc.seqv) (if_neg (by simp))).trans h6
  have h8 : s8.cyc.seqv = false := h7
  split_ifs
  · unfold State.coordLost; split_ifs
    · exact (seqv_raise _ _ _).trans h8
    · exact h8
  · exact h8

/-- From REF the DCO starts at the rate of REFIN (R814). -/
theorem clkTo_search_dcow {s : State} (h : s.clk.state = .ref) : (s.clkTo .search).rd R.CLK_DCOW = 0#32 := by
  unfold State.clkTo
  extract_lets was s1 _ s2 _ s3 _ s4 _ s5 s6 s7 s8
  have hr : was = .ref := h
  have h6 : s6.rd R.CLK_DCOW = 0#32 := by unfold s6; rw [if_pos rfl, if_pos hr, State.rd_wr_self]
  have h8 : s8.rd R.CLK_DCOW = 0#32 := by unfold s8 s7; rw [rd_raiseIf, if_neg (by simp [hr]), h6]
  rw [if_neg (by simp [hr]), if_pos hr, rd_coordLost, h8]

/-- A loss of the host is counted. -/
theorem clkTo_lossct {s : State} (st : ClkState) (h : s.clk.state ≠ st) :
    (s.clkTo st).rd R.CLK_LOSSCT = if s.clk.state = .locked ∧ (st = .hold ∨ st = .pull) then incSat (s.rd R.CLK_LOSSCT) else s.rd R.CLK_LOSSCT := by
  unfold State.clkTo
  extract_lets was s1 _ s2 _ s3 _ s4 _ s5 s6 s7 s8
  rw [if_neg h]
  have h1 : s1.rd R.CLK_LOSSCT = s.rd R.CLK_LOSSCT := by
    unfold s1; split_ifs
    · exact State.rd_wr_ne _ _ (by decide)
    · rfl
  have h3 : s3.rd R.CLK_LOSSCT = s.rd R.CLK_LOSSCT := by unfold s3; split_ifs <;> exact h1
  have h4 : s4.rd R.CLK_LOSSCT = s.rd R.CLK_LOSSCT := by
    unfold s4; split_ifs
    · exact (State.rd_wr_ne _ _ (by decide)).trans h3
    · exact h3
  have h5 : s5.rd R.CLK_LOSSCT = s.rd R.CLK_LOSSCT := by unfold s5; split_ifs <;> exact h4
  have h6 : s6.rd R.CLK_LOSSCT = s.rd R.CLK_LOSSCT := by
    unfold s6; split_ifs
    · exact (State.rd_wr_ne _ _ (by decide)).trans h5
    · exact (State.rd_wr_ne _ _ (by decide)).trans h5
    · exact h5
  have h8 : s8.rd R.CLK_LOSSCT = if was = .locked ∧ (st = .hold ∨ st = .pull) then incSat (s.rd R.CLK_LOSSCT) else s.rd R.CLK_LOSSCT := by
    unfold s8 s7; rw [rd_raiseIf]; split_ifs
    · rw [rd_raise, State.inc, State.rd_wr_self, h6]
    · exact h6
  rw [← h8]; split_ifs
  · exact rd_coordLost _
  · rfl

/-- A loss of the host is an event. -/
theorem clkTo_hold_evt {s : State} (h : s.clk.state = .locked) : (s.clkTo .hold).bit (rEVT P.CLK) 1 = true := by
  unfold State.clkTo
  extract_lets was s1 _ s2 _ s3 _ s4 _ s5 s6 s7 s8
  have hl : was = .locked := h
  have h7 : s7.bit (rEVT P.CLK) 1 = true := by unfold s7; rw [if_pos ⟨hl, .inl rfl⟩]; exact bit_raise _ _ _ (by decide)
  rw [if_neg (by simp [hl]), if_neg (by simp [hl])]
  exact h7

theorem Clocked.enterRef {s t : State} (h : Clocked s t) : Clocked s t.enterRef := by
  unfold State.enterRef
  extract_lets s1 _ s2
  have h2 : Clocked s s2 := h.clkTo.moved _ _
  exact .ite (h2.moved _ _) (.loadLt (h2.moved _ _))

theorem enterRef_state (s : State) : s.enterRef.clk.state = .ref := by
  have e : (s.clkTo .ref).clk.state = .ref := clkTo_state s .ref
  unfold State.enterRef
  extract_lets s1 _ s2
  have load (t : State) (v : LineTime) : (t.loadLt v).clk = t.clk := (spine_clk (spine_raise _ _ _) :)
  split_ifs
  · exact e
  · exact (congrArg ClkSt.state (load _ _)).trans e

theorem Clocked.clkEval {s t : State} (h : Clocked s t) : Clocked s t.clkEval := by
  unfold State.clkEval
  extract_lets src
  split
  · exact .ite h (.ite h.clkTo (.ite h.enterRef h))
  · exact h
  · exact .ite h.enterRef h

/-- Out of OSC, with SRC 0 (R817). -/
theorem clkEval_osc {s : State} (hs : s.clk.state = .osc) (hp : s.clk.pllok = true) (hr : s.pwr.inReset = false) (hc : s.bit (rCTRL P.CLK) 0 = false) : s.clkEval = s.clkTo .search := by
  unfold State.clkEval; simp [hs, hp, hr, hc]

/-- With SRC 0 the states but OSC stand. -/
theorem clkEval_source0 {s : State} (hs : s.clk.state ≠ .osc) (hc : s.bit (rCTRL P.CLK) 0 = false) : s.clkEval = s := by
  unfold State.clkEval; split <;> simp_all

/-- With SRC 1 and REFOK the states but OSC give way to REF (R38). -/
theorem clkEval_ref {s : State} (hs : s.clk.state ≠ .osc) (hc : s.bit (rCTRL P.CLK) 0 = true) (hr : s.clk.refok = true) : s.clkEval.clk.state = .ref := by
  unfold State.clkEval
  split
  · contradiction
  · assumption
  · simp [hc, hr, enterRef_state]

end Sys2Proof.Machine

namespace Sys2Proof.Machine

/-! ## Entries to SAFE and IDLE (R49, R51, R82) -/

/-- No tick, no authorisation, no request is left. -/
def State.cleared (s : State) : State :=
  { s with tck := { s.tck with pend := none, synth := false, inTick := false, stopReq := false, safeReq := [], phase := 0 } }

/-- The core runs, but at a shadow in TRACK, and no bench tick is stepped. -/
def State.freed (s : State) : State := { s with cpu := { s.cpu with parked := s.frozen }, mon := { s.mon with stepping := false } }

/-- What follows the commit at an entry to SAFE or IDLE from state `was`. -/
def State.leaveRest (s : State) (was : TckState) : State :=
  let s := s.presentAll.dropStaged
  let s := if s.frozen then s else s.seqTckLeave
  let s := if !s.frozen && (was == .run || was == .holdover) then ((s.fmLeave).injStop 0 false).injStop 1 false else s
  { s with cpu := { s.cpu with parked := s.frozen }, landed := [], mon := { s.mon with stepping := false } }

theorem steady_leaveRest {s t : State} (h : Steady noNode s t) (was : TckState) : Steady noNode s.freed (t.leaveRest was) := by
  unfold State.leaveRest
  extract_lets s1 s2 s3
  have h1 : Steady noNode s s1 := h.presentAll.dropStaged
  have h2 : Steady noNode s s2 := .ite h1 h1.seqTckLeave
  have h3 : Steady noNode s s3 := .ite h2.fmLeave.injStop.injStop h2
  exact ⟨congrArg (fun q : Spine => { q with cpu := { q.cpu with parked := q.pstate == 2 && !q.role }, mon := { q.mon with stepping := false } }) h3.spine,
    h3.node, h3.rd, h3.evt, h3.flt, h3.rel⟩

/-- The state whose spine an entry to SAFE or IDLE leaves. -/
def State.left (s : State) : State := s.cleared.unshadowed.freed

theorem spine_tckLeave (s : State) (was : TckState) : (s.tckLeave was).spine = s.left.spine :=
  ((steady_leaveRest (.refl s.cleared.commitEdge) was).spine).trans
    (congrArg (fun q : Spine => { q with cpu := { q.cpu with parked := q.pstate == 2 && !q.role }, mon := { q.mon with stepping := false } }) (spine_commitEdge s.cleared))

theorem steady_tckLeave {s : State} (h : s.shadow = []) (was : TckState) : Steady noNode s.left (s.tckLeave was) :=
  steady_leaveRest (steady_commitEdge (s := s.cleared) h) was

/-! ### The stage's release and the pages -/

theorem rel_stageSafe (s : State) : s.stageSafe.pst.rel = false := (calms_syncOut s.clearRel).rel rfl

theorem plainReg_lock : ∀ p ∈ allPages, plainReg (rLOCK p) = true := by decide

theorem Steady.closePages {N : Nat → Prop} {s t : State} (h : Steady N s t) : Steady N s t.closePages :=
  h.foldl fun _ p hp k => .ite k (k.setF (plainReg_lock p hp))

/-! ### SAFE -/

/-- The cause of an entry to SAFE among those that fall due together (R82). -/
def safeCause (causes : List Nat) : Nat := ([3, 2, 4, 1].find? (· ∈ causes)).getD 4

theorem safeCause_three {causes : List Nat} (h : 3 ∈ causes) : safeCause causes = 3 := by simp [safeCause, List.find?, h]

/-- The tick block in SAFE or IDLE, with its cause. -/
def State.inState (s : State) (st : TckState) (cause : Nat) : State := { s with tck := { s.tck with state := st, cause := cause } }

/-- A set of sticky faults. -/
theorem flt_foldl (l : List Nat) (s : State) {c : Nat} (hc : c ∈ l) : (l.foldl (fun (s : State) c => s.setFlt P.TCK (safeFlt c)) s).bit (rFLT P.TCK) (safeFlt c) = true := by
  induction l generalizing s with
  | nil => simp at hc
  | cons x l ih =>
    rcases List.mem_cons.mp hc with rfl | hc
    · have lt : safeFlt c < 32 := by unfold safeFlt; split_ifs <;> decide
      exact ((Steady.refl (N := noNode) (s.setFlt P.TCK (safeFlt c))).foldl fun _ _ _ k => k.setFlt).flt _ _ (bit_setFlt s _ lt)
    · exact ih _ hc

/-- What follows an entry to SAFE once the pages are closed and the stage is safe: the sticky faults, the event, the step of R28, and CLK. -/
def State.safeRest (s : State) (causes : List Nat) : State :=
  let s := causes.foldl (fun (s : State) c => s.setFlt P.TCK (safeFlt c)) s
  let s := s.raise P.TCK 5
  let s := match s.clk.stepLoad with
    | some d => ({ s with clk := { s.clk with stepDue := false, stepLoad := none } } : State).loadLt (s.lt + d)
    | none => s
  s.clkEval

theorem safeRest_spec (s : State) (causes : List Nat) :
    Clocked s (s.safeRest causes) ∧ (s.safeRest causes).bit (rEVT P.TCK) 5 = true ∧ ∀ c ∈ causes, (s.safeRest causes).bit (rFLT P.TCK) (safeFlt c) = true := by
  unfold State.safeRest
  extract_lets s1 s2 _ s3
  have h1 : Steady noNode s s1 := (Steady.refl s).foldl fun _ _ _ k => k.setFlt
  have h2 : Clocked s1 s2 := (Clocked.refl s1).steady (.raise (.refl s1))
  have h3 : Clocked s2 s3 := by
    unfold s3; split
    · exact ((Clocked.refl s2).moved _ _).loadLt
    · exact .refl s2
  have h4 : Clocked s2 s3.clkEval := h3.clkEval
  exact ⟨(((Clocked.refl s).steady h1).trans h2).trans h4, h4.evt (bit_raise _ _ _ (by decide)), fun c hc => h4.flt (h2.flt (flt_foldl _ _ hc))⟩

theorem enterSafe_eq {s : State} (h : s.direct = false) (causes : List Nat) :
    s.enterSafe causes = ((((s.inState .safe (safeCause causes)).tckLeave s.tck.state).closePages.stageSafe).safeRest causes) := by
  unfold State.enterSafe
  rw [if_neg (by simpa [State.direct, or_comm] using h)]
  rfl

/-- An entry to SAFE (R49, R82). -/
structure SafeEntered (s : State) (causes : List Nat) (u : State) : Prop where
  state : u.tck.state = .safe
  cause : u.tck.cause = safeCause causes
  inTick : u.tck.inTick = false
  pend : u.tck.pend = none
  parked : u.cpu.parked = s.frozen
  rel : u.pst.rel = false
  evt : u.bit (rEVT P.TCK) 5 = true
  flt : ∀ c ∈ causes, u.bit (rFLT P.TCK) (safeFlt c) = true
  pllok : u.clk.pllok = s.clk.pllok
  refok : u.clk.refok = s.clk.refok
  pwr : u.pwr = s.pwr
  kept : s.shadow = [] → ∀ p n, s.bit (rEVT p) n = true → u.bit (rEVT p) n = true

theorem enterSafe_spec {s : State} (h : s.direct = false) (causes : List Nat) : SafeEntered s causes (s.enterSafe causes) := by
  rw [enterSafe_eq h]
  obtain ⟨hc, he, hf⟩ := safeRest_spec ((s.inState .safe (safeCause causes)).tckLeave s.tck.state).closePages.stageSafe causes
  have k : Steady noNode ((s.inState .safe (safeCause causes)).tckLeave s.tck.state) ((s.inState .safe (safeCause causes)).tckLeave s.tck.state).closePages.stageSafe :=
    (Steady.refl _).closePages.stageSafe
  have e := k.spine.trans (spine_tckLeave _ _)
  exact {
    state := hc.tck_state.trans (spine_state e)
    cause := hc.tck_cause.trans (spine_cause e)
    inTick := hc.tck_inTick.trans (spine_inTick e)
    pend := hc.tck_pend.trans (spine_pend e)
    parked := (congrArg CpuSt.parked hc.cpu).trans (congrArg CpuSt.parked (spine_cpu e))
    rel := hc.rel (rel_stageSafe _)
    evt := he
    flt := hf
    pllok := hc.pllok.trans (congrArg ClkSt.pllok (spine_clk e :))
    refok := hc.refok.trans (congrArg ClkSt.refok (spine_clk e :))
    pwr := hc.pwr.trans (spine_pwr e :)
    kept := fun hs p n hb => hc.evt (k.evt p n ((steady_tckLeave (s := s.inState .safe _) hs _).evt p n hb)) }

/-! ### IDLE -/

/-- An entry to IDLE (R49). -/
structure IdleEntered (s u : State) : Prop where
  state : u.tck.state = .idle
  cause : u.tck.cause = 0
  inTick : u.tck.inTick = false
  pend : u.tck.pend = none
  parked : u.cpu.parked = s.frozen
  rel : u.pst.rel = false

theorem enterIdle_spec (s : State) : IdleEntered s s.enterIdle := by
  have hc : Clocked ((s.inState .idle 0).tckLeave s.tck.state).stageSafe s.enterIdle := (Clocked.refl _).clkEval
  have k : Steady noNode ((s.inState .idle 0).tckLeave s.tck.state) ((s.inState .idle 0).tckLeave s.tck.state).stageSafe := (Steady.refl _).stageSafe
  have e := k.spine.trans (spine_tckLeave _ _)
  exact {
    state := hc.tck_state.trans (spine_state e)
    cause := hc.tck_cause.trans (spine_cause e)
    inTick := hc.tck_inTick.trans (spine_inTick e)
    pend := hc.tck_pend.trans (spine_pend e)
    parked := (congrArg CpuSt.parked hc.cpu).trans (congrArg CpuSt.parked (spine_cpu e))
    rel := hc.rel (rel_stageSafe _) }

/-- Between ticks of a bench run a request for SAFE takes effect at once; else it waits. -/
theorem safeNow_same {s : State} (h : s.ticking = false ∨ s.tck.inTick = true ∨ s.bench = false) : s.safeNow = s := by
  unfold State.safeNow; rcases h with h | h | h <;> simp [h]

theorem safeNow_enters {s : State} (ht : s.ticking = true) (hi : s.tck.inTick = false) (hb : s.bench = true) (hr : s.tck.safeReq ≠ []) :
    s.safeNow = s.enterSafe s.tck.safeReq := by
  unfold State.safeNow; simp [ht, hi, hb, hr]

end Sys2Proof.Machine

namespace Sys2Proof.Machine

/-! ## The sequencer's step and the trace queue are steady -/

/-- The channel a segment names. -/
theorem segF_lt (s : State) (k lo w : Nat) : s.segF k lo w < 2 ^ w := Nat.mod_lt _ (Nat.two_pow_pos w)

theorem segCh_lt (s : State) : s.segCh < 2 := segF_lt s _ 24 1

namespace Steady
variable {N : Nat → Prop} {s t : State} (h : Steady N s t)
include h

/-! ### The trace queue passes records on -/

theorem trcDone : Steady N s t.trcDone := .raise (h.trans .of_regs)
theorem trcPut {r : BitVec 64} : Steady N s (t.trcPut r) := h.trans .of_regs

theorem trcWrite : Steady N s t.trcWrite := by
  unfold State.trcWrite
  split
  · exact h
  · next r rest _ =>
    extract_lets _ s1 n _ s2
    have h1 : Steady N s s1 := .trcPut (h.trans .of_regs)
    have h2 : Steady N s s2 := h1.trans .of_regs
    split
    · exact .ite h1.trcDone h1
    · exact .ite h2.trcDone h2
    · exact h1

omit h in
theorem trcDrain {n : Nat} {t : State} (h : Steady N s t) : Steady N s (State.trcDrain n t) := by
  induction n generalizing t with
  | zero => exact h
  | succ n ih => exact ih h.trcWrite

/-! ### Arbitration -/

theorem arbitrateAll : Steady N s t.arbitrateAll := by
  have both : Steady N s ((t.arbitrate 0 false).arbitrate 1 false) := (h.arbitrate (by decide)).arbitrate (by decide)
  exact .ite both.seqAbort both

theorem phase48 : Steady N s t.phase48 := by
  unfold State.phase48
  extract_lets rej _ s1 why _ s2
  have h1 : Steady N s s1 := h.trans .of_regs
  have refused (why : Nat) : Steady N s (rej s1 why) := .raise (h1.trans .of_regs)
  exact .arbitrateAll (.ite (.ite (refused _) (.ite (refused _) (.raise (h1.trans .of_regs)))) h)

/-! ### Points -/

theorem seqOff : Steady N s t.seqOff := by
  have one {t : State} (k : Steady N s t) {c : Nat} (hc : c < 2) : Steady N s (if t.named c then t.fmOff c else t) := .ite (k.fmOff hc) k
  exact one (one h (c := 0) (by decide)) (c := 1) (by decide)

theorem seqClear : Steady N s t.seqClear := h.trans .of_regs
theorem precStart {n : Nat} : Steady N s (t.precStart n) := .ite h (h.trans .of_regs)

theorem seqWindow : Steady N s t.seqWindow := by
  unfold State.seqWindow
  extract_lets len _ s1 s2
  have h2 : Steady N s s2 := h.precStop.precStart
  exact .ite (.ite (h.trans .of_regs) (h2.trans .of_regs)) h

theorem seqPoint {k p : Nat} : Steady N s (t.seqPoint k p) := by
  unfold State.seqPoint
  extract_lets a _ s1 lo hi _ s2 c mode s3 s4 lim s5 s6 s7
  have h1 : Steady N s s1 := h.trans .of_regs
  have h2 : Steady N s s2 := .seqClear (h1.trans .of_regs)
  have hc : c < 2 := segCh_lt s2
  have ctrl : plainReg (rCTRL (P.FM c)) = true := by interval_cases c <;> decide
  have limit : plainReg (R.FM_LIMIT c) = true := by interval_cases c <;> decide
  have h3 : Steady N s s3 := .ite (h2.fmOff hc) (.ite h2.raise (h2.hwF ctrl))
  have h4 : Steady N s s4 := h3.hwF ctrl
  have h5 : Steady N s s5 := h4.hw limit
  have h6 : Steady N s s6 := .ite (h5.setLevel hc) h5
  exact .ite h1.setFlt.detect.seqAbort (.ite h4.raise.seqAbort (.ite h5.raise.seqAbort h6.raiseIf.seqWindow))

theorem capture {natural : Bool} : Steady N s (t.capture natural) := by
  unfold State.capture
  extract_lets q c base fi fv some? i v w
  have keep {q : SeqSt} : Steady N s { t with seq := q } := h.trans .of_regs
  refine .ite h (.ite h.capWrite (.ite h.capWrite ?_))
  split
  · exact keep.capWrite
  · exact .ite keep h.capWrite.seqPrecStop.raise

theorem seqAdvance {natural cond : Bool} : Steady N s (t.seqAdvance natural cond) := by
  unfold State.seqAdvance
  extract_lets k p e conf req s1 go _ s2
  have h1 : Steady N s s1 := h.capture
  have hgo (t' q kind disp : Nat) : Steady N s (go s1 t' q kind disp) := by
    unfold go
    extract_lets jl u1 u2 u3 u4 u5
    have k3 : Steady N s u3 := .raiseIf (.raiseIf (.wr (.wr h1)))
    have k4 : Steady N s u4 := .ite k3.raise.logPush k3
    exact .seqPoint (.ite (k4.fmOff (segF_lt _ _ 24 1)) k4)
  have h2 : Steady N s s2 := .raise (h1.trans .of_regs)
  clear_value req go s2
  split
  · exact hgo ..
  · exact .ite (hgo ..) (.ite (hgo ..) (.ite (hgo ..) (.ite (hgo ..) (.ite h2.seqOff h2))))

theorem seqLatchJump : Steady N s t.seqLatchJump := by
  unfold State.seqLatchJump
  split
  · exact h
  · next r _ =>
    extract_lets _ s1
    have h1 : Steady N s s1 := h.trans .of_regs
    split_ifs
    · split
      · exact h1.raise
      · exact h1
    · split
      · exact h1.trans .of_regs
      · exact .ite (h1.trans .of_regs) h1.raise

theorem seqRun : Steady N s t.seqRun := by
  unfold State.seqRun
  extract_lets n natural cond held s1
  exact .ite h.seqAdvance (.seqWindow (.ite h.seqClear h))

theorem seqStep : Steady N s t.seqStep := by
  unfold State.seqStep
  extract_lets q s1 _ s2 s3 _ s4 _ s5 k
  have h1 : Steady N s s1 := .ite (h.trans .of_regs) h
  have h2 : Steady N s s2 := .ite (h1.trans .of_regs) h1
  have h4 : Steady N s s4 := h2.seqLatchJump.trans .of_regs
  have h5 : Steady N s s5 := .raise (h4.trans .of_regs)
  clear_value s4
  exact .ite h4.seqOff.seqAbort (.ite (.ite h5.seqPoint h4) (.ite (.ite (h4.seqPrecStop.trans .of_regs) h4.seqRun) (.ite (.seqRun (h4.trans .of_regs)) h4)))

end Steady

end Sys2Proof.Machine

namespace Sys2Proof.Machine

/-! ## The stages of an evaluation after the first are steady beside the nodes they write

Stages 2, 3, 5 and 6 write nodes from 0x40 on, the loops 0x30 to 0x3F. -/

theorem plainReg_duty : ∀ k < 4, plainReg (R.PST_DUTY1 + 4 * k) = true := by decide
theorem plainReg_bduty : ∀ k < 2, plainReg (R.PST_BDUTYA + 4 * k) = true := by decide
theorem plainReg_runct : ∀ n < 8, plainReg (R.LP_RUNCT n) = true := by decide
theorem plainReg_inj : ∀ k < 2, plainReg (R.INJ_CFG0 + 0x20 * k + 0x14) = true ∧ plainReg (R.INJ_CFG0 + 0x20 * k + 0x18) = true ∧ plainReg (R.INJ_CFG0 + 0x20 * k + 0x1C) = true := by decide
theorem plainReg_rpt : ∀ c < 2, plainReg (R.RPT_CFG0 + 0x20 * c + 0x14) = true ∧ plainReg (R.RPT_CFG0 + 0x20 * c + 0x18) = true ∧ plainReg (R.RPT_CFG0 + 0x20 * c + 0x1C) = true := by decide

namespace Steady
variable {N : Nat → Prop} {s t : State} (h : Steady N s t)

/-! ### Loops -/

include h in
theorem withVec {v : VecSt} : Steady N s { t with vec := v } := h.trans .of_regs

include h in
theorem loopRun {n : Nat} {inhib : Bool} (hn : n < 8) (ho : ¬ N (0x30 + n)) (he : ¬ N (0x38 + n)) : Steady N s (t.loopRun n inhib) := by
  unfold State.loopRun
  exact .setNode (.setNode (.raiseIf (.raiseIf (.raiseIf (.raiseIf (.raiseIf (.inc h.setLoop (plainReg_runct n hn))))))) ho) he

include h in
theorem loopEval {n : Nat} (hn : n < 8) (ho : ¬ N (0x30 + n)) (he : ¬ N (0x38 + n)) : Steady N s (t.loopEval n) := by
  unfold State.loopEval
  extract_lets x cfg inhib q due bad s1
  exact .ite (.setNode (.setNode h.setLoop ho) he) (.ite h.setLoop (.ite h.raiseIf.setLoop (h.raiseIf.loopRun hn ho he)))

/-! ### What writes no node -/

include h in
theorem trgFire {src : Nat} : Steady N s (t.trgFire src) := by
  unfold State.trgFire
  extract_lets r n left s1 _ s2
  have h1 : Steady N s s1 := h.trcPush
  clear_value s1
  exact .ite (.raise (h1.trans .of_regs)) h

include h in
theorem trcEval : Steady N s t.trcEval := by
  unfold State.trcEval
  extract_lets l fire j s1
  have h1 : Steady N s s1 := .ite h.trgFire h
  exact h1.foldl fun _ _ _ k => .trcPush (k.trans .of_regs)

include h in
theorem binPut {c b : Nat} {v : Int} : Steady N s (t.binPut c b v) := by
  unfold State.binPut
  extract_lets lim w s1
  exact .raiseIf (.ite h h.hwStore)

include h in
theorem rptLearn {c : Nat} : Steady N s (t.rptLearn c) := by
  unfold State.rptLearn
  extract_lets b x n esel flagsOk moved go s1 i fsh w w' dl s2 side lo hi
  have h1 : Steady N s s1 := h.setRpt
  have h2 : Steady N s s2 := h1.binPut
  have hside {t : State} (k : Steady N s t) (b : Nat) : Steady N s (side t b) := k.binPut
  exact .ite h (.ite h1 (.ite h1.binPut (.ite (hside h2 lo) (hside (hside h2 lo) hi))))

include h in
theorem putDuty {k : Nat} {v : Int} (hk : k < 6) : Steady N s (t.putDuty k v) := by
  unfold State.putDuty
  extract_lets topo
  split_ifs with h1 h2 h3
  · exact h
  · exact h
  · exact h.hw (plainReg_duty k h3)
  · exact h.hw (plainReg_bduty (k - 4) (by omega))

include h in
theorem dutyWrites {sv : List Int} : Steady N s (t.dutyWrites sv) := by
  unfold State.dutyWrites
  extract_lets force vec vec' topo sinks disp free all s1 mask _ s2
  have h1 : Steady N s s1 := by
    refine h.foldl fun t k hk kt => ?_
    have hk : k < 6 := by revert k; decide
    split
    · exact kt.putDuty hk
    · exact kt
  clear_value s1
  exact .raiseIf (h1.trans .of_regs)

include h in
theorem levelWrite {c : Nat} (hc : c < 2) : Steady N s (t.levelWrite c) := by
  unfold State.levelWrite
  extract_lets v
  exact .ite (.ite (h.setLevel hc) h.raise) h

include h in
theorem injEnds : Steady N s t.injEnds := by
  have one {t : State} (k : Steady N s t) (c : Prop) [Decidable c] (n : Nat) : Steady N s (if c then t.injStop n true else t) := .ite k.injStop k
  exact one (one h _ 0) _ 1

/-! ### Nodes from 0x40 on -/

section outputs
variable (hN : ∀ n, N n → n < 0x40)
include h hN

theorem setOutput {n : Nat} {v : Int} (hn : 0x40 ≤ n) : Steady N s (t.setNode n v) := h.setNode fun k => absurd (hN n k) (by omega)
theorem putOutput {n : Nat} {v : Int} (hn : 0x40 ≤ n) : Steady N s (t.putNode n v) := h.setOutput hN hn

theorem injEval {k : Nat} (hk : k < 2) : Steady N s (t.injEval k) := by
  obtain ⟨h14, h18, h1c⟩ := plainReg_inj k hk
  unfold State.injEval
  extract_lets x b s1 x' w wave f hold fb x'' s2 s3
  have h1 : Steady N s s1 := h.raiseIf
  have h2 : Steady N s s2 := h1.setInj.setOutput hN (by omega)
  exact .ite ((h1.setInj.setOutput hN (by omega)).wr h1c) (((h2.wr h14).wr h18).wr h1c)

theorem genEval {j : Nat} : Steady N s (t.genEval j) := by
  unfold State.genEval
  extract_lets c g r pos _ g' s1 s2 s3
  have h3 : Steady N s s3 := h.setGen.raiseIf.raiseIf
  exact .ite ((h.putOutput hN (by omega)).putOutput hN (by omega)) (((h3.putOutput hN (by omega)).putOutput hN (by omega)).putOutput hN (by omega))

theorem rptEval {c : Nat} (hc : c < 2) : Steady N s (t.rptEval c) := by
  obtain ⟨h14, h18, h1c⟩ := plainReg_rpt c hc
  unfold State.rptEval
  extract_lets b x n i o skip s1 w s2
  have h1 : Steady N s s1 := .ite (h.raise.inc h1c) h
  exact .ite ((h.setRpt.setOutput hN (by omega)).wr h18) (((h1.setRpt.wr h14).wr h18).setOutput hN (by omega))

theorem stage3 : Steady N s t.stage3 := by
  have hinj := (h.injEnds.injEval hN (k := 0) (by decide)).injEval hN (k := 1) (by decide)
  have hgen := (((hinj.genEval hN (j := 0)).genEval hN (j := 1)).genEval hN (j := 2)).genEval hN (j := 3)
  exact (hgen.rptEval hN (c := 0) (by decide)).rptEval hN (c := 1) (by decide)

theorem groupEval {m : Nat} : Steady N s (t.groupEval m) := by
  unfold State.groupEval
  extract_lets ms lo best prev w gout s1 _ s2 s3 track
  have h1 : Steady N s s1 := h.setOutput hN (by omega)
  have h3 : Steady N s s3 := .raiseIf (h1.trans .of_regs)
  refine .ite (h.groupNone fun k => absurd (hN _ k) (by omega)) (.ite h (h3.foldl fun t e _ k => ?_))
  exact .ite k.setLoop k.setLoop.raiseIf

theorem groupsEval : Steady N s t.groupsEval := (((h.groupEval hN (m := 0)).groupEval hN (m := 1)).groupEval hN (m := 2)).winFall

theorem stage6 : Steady N s t.stage6.1 := by
  unfold State.stage6
  extract_lets vd vq vdc th c sn va vb hh tt l mx mn o lim f s1 s2 s3
  have three (v : Int) : Steady N s (((t.setNode 0x4E (f va)).setNode 0x4F (f vb)).setNode 0x50 v) :=
    ((h.setOutput hN (by omega)).setOutput hN (by omega)).setOutput hN (by omega)
  split_ifs
  · exact h.setOutput hN (by omega)
  · exact (three 1).raise
  · exact (three _).raiseIf

/-! ### The vector unit's input -/

omit hN in
theorem hallStep : Steady N s t.hallStep := by
  unfold State.hallStep
  extract_lets v hofs m
  have keep (x : VecSt) : Steady N s { t with vec := x } := h.withVec
  refine .ite (keep _).raise ?_
  split
  · exact keep _
  · exact .ite (keep _) (.ite (keep _) (.ite (keep _) (keep _).raise))

theorem observer : Steady N s t.observer := by
  unfold State.observer
  extract_lets ia ib r l ea eb ot oo err oo' ot' s1 ok v okRun badRun lock s2 s3
  have h1 : Steady N s s1 := (h.setOutput hN (by omega)).setOutput hN (by omega)
  exact h1.withVec.raiseIf.raiseIf

theorem vecIn : Steady N s t.vecIn := by
  unfold State.vecIn
  extract_lets en iaP ibP _ s1 ia ib s2 s3 s4 old src th om s5 c sn s6 s7
  have h1 : Steady N s s1 := h.withVec
  have h2 : Steady N s s2 := .ite ((h1.setOutput hN (by omega)).setOutput hN (by omega)) h1
  have h3 : Steady N s s3 := .ite (h2.observer hN) h2
  have h4 : Steady N s s4 := h3.hallStep
  have h5 : Steady N s s5 := (h4.setOutput hN (by omega)).setOutput hN (by omega)
  exact .ite h3 ((h5.setOutput hN (by omega)).setOutput hN (by omega))

theorem stage2 : Steady N s t.stage2 := (h.vecIn hN).wr

end outputs

end Steady

end Sys2Proof.Machine

namespace Sys2Proof.Machine

/-! ## ResetValues -/

theorem inPflash_iff (a : Nat) : inPflash a = true ↔ 0x08000000 ≤ a ∧ a ≤ 0x0807FFFF := by simp [inPflash]
theorem inDflash_iff (a : Nat) : inDflash a = true ↔ 0x0C000000 ≤ a ∧ a ≤ 0x0C003FFF := by simp [inDflash]
theorem inSram_iff (a : Nat) : inSram a = true ↔ 0x20000000 ≤ a ∧ a ≤ 0x2001FFFF := by simp [inSram]

/-- A flash byte that is not listed reads erased (R757). -/
theorem ramByte_flash {g a : Nat} (h : inPflash a = true ∨ inDflash a = true) : ramByte g a = 0xFF#8 := by
  have n : ¬ a ≤ 0x7FFF := by
    rcases h with h | h
    · rw [inPflash_iff] at h; omega
    · rw [inDflash_iff] at h; omega
  have f : (inPflash a || inDflash a) = true := by simpa using h
  simp only [ramByte, n, f, ite_false, ite_true]

/-- An SRAM byte that is not listed reads zero (R811). -/
theorem ramByte_sram {g a : Nat} (h : inSram a = true) : ramByte g a = 0#8 := by
  have r := (inSram_iff a).mp h
  have n : ¬ a ≤ 0x7FFF := by omega
  have f : (inPflash a || inDflash a) = false := by
    rw [Bool.or_eq_false_iff, ← Bool.not_eq_true, ← Bool.not_eq_true, inPflash_iff, inDflash_iff]; omega
  simp only [ramByte, n, f, h, Bool.true_or, Bool.false_eq_true, ite_false, ite_true]

/-- Settles O5: each field by evaluation of the reset state; its unlisted bytes by what `ramByte` gives. -/
theorem resetValues : Obligations.ResetValues := by
  refine ⟨⟨rfl, rfl, rfl, rfl, rfl, rfl, rfl, rfl, rfl, rfl, rfl, rfl, rfl, rfl, fun a h => ?_, fun a h => ?_⟩, rfl⟩
  · exact ramByte_flash h
  · exact ramByte_sram h

end Sys2Proof.Machine

namespace Sys2Proof.Machine

/-! ## Authorisations -/

/-- A field reads what was put into it. -/
theorem fld_setFld (v : Word) {lo w n : Nat} (hw : lo + w ≤ 32) : fld (setFld v lo w n) lo w = n % 2 ^ w := by
  refine Nat.eq_of_testBit_eq fun i => ?_
  rw [fld, Nat.testBit_mod_two_pow, Nat.testBit_shiftRight, Nat.testBit_mod_two_pow]
  by_cases hi : i < w
  · have h32 : lo + i < 32 := by omega
    have e : (setFld v lo w n).toNat.testBit (lo + i) = n.testBit i := by
      rw [show (setFld v lo w n).toNat.testBit (lo + i) = (setFld v lo w n).getLsbD (lo + i) from rfl]
      simp only [setFld, maskOf, BitVec.getLsbD_or, BitVec.getLsbD_and, BitVec.getLsbD_not, BitVec.getLsbD_ofNat, Nat.testBit_shiftLeft, Nat.testBit_two_pow_sub_one,
        Nat.testBit_mod_two_pow]
      simp [h32, hi]
    simp [hi, e]
  · simp [hi]

/-! ### What a check of Table 1-4 answers -/

theorem authWhy_lt (s : State) (src : Nat) (num : Word) (edge done : LineTime) : s.authWhy src num edge done < 10 := by
  unfold State.authWhy; split_ifs <;> omega


theorem authCode_cases (s : State) (src : Nat) (num : Word) (edge done : LineTime) :
    s.authCode src num edge done < 10 ∨ s.authCode src num edge done = 14 ∨ s.authCode src num edge done = 15 := by
  have h := authWhy_lt s src num edge done
  unfold State.authCode
  split_ifs <;> omega

/-- The events of a rejection or a discard keep TCK.REJ and TCK.LATE. -/
theorem rd_raise_tck (s : State) {n a : Nat} (h : a = R.TCK_REJ ∨ a = R.TCK_LATE) : (s.raise P.TCK n).rd a = s.rd a := by
  refine (keeps_raise s P.TCK n).rd a ?_
  rcases h with rfl | rfl <;> decide

/-- A rejection keeps the authorisation that is pending and the tick's number, and leaves its reason and its event. -/
theorem authRej_spec (s : State) {w : Nat} (hw : w < 16) :
    (s.authRej w).tck.pend = s.tck.pend ∧ (s.authRej w).tck.now = s.tck.now ∧ (s.authRej w).fd R.TCK_REJ 24 4 = w ∧ (s.authRej w).bit (rEVT P.TCK) 2 = true := by
  refine ⟨spine_pend (s := s) (spine_raise _ _ _), spine_now (s := s) (spine_raise _ _ _), ?_, bit_raise _ _ _ (by decide)⟩
  simp only [State.authRej, State.fd, rd_raise_tck _ (.inl rfl)]
  exact (congrArg (fld · 24 4) (State.rd_wr ..)).trans ((fld_setFld _ (by decide)).trans (Nat.mod_eq_of_lt hw))

/-- A discarded authorisation keeps the one that is pending and the tick's number, is counted and raised. -/
theorem authDrop_spec (s : State) {ev : Nat} (he : ev < 32) :
    (s.authDrop ev).tck.pend = s.tck.pend ∧ (s.authDrop ev).tck.now = s.tck.now ∧ (s.authDrop ev).rd R.TCK_LATE = incSat (s.rd R.TCK_LATE) ∧
      (s.authDrop ev).bit (rEVT P.TCK) ev = true := by
  refine ⟨spine_pend (s := s) (spine_raise _ _ _), spine_now (s := s) (spine_raise _ _ _), ?_, bit_raise _ _ _ he⟩
  rw [State.authDrop, rd_raise_tck _ (.inr rfl)]
  exact State.rd_wr ..

/-- An accepted authorisation is the one that is pending, and its margin is kept (R45). -/
theorem authTake_spec (s : State) (num : Word) (edge done : LineTime) :
    (s.authTake num edge done).tck = { s.tck with pend := some ⟨num, edge⟩, pnum := num, pedge := edge } ∧
      (s.authTake num edge done).rd R.TCK_MARGIN = wd (min (ahead edge done) 0xFFFFF) := by
  dsimp only [State.authTake]
  split_ifs
  · exact ⟨rfl, (State.rd_wr_ne _ _ (by decide)).trans (State.rd_wr ..)⟩
  · exact ⟨rfl, State.rd_wr ..⟩

/-- Settles O32, by the cases of Table 1-4's answer: accepted, late, duplicate, or rejected with a reason. -/
theorem authorisations : Obligations.Authorisations := by
  intro s src num edge done
  have c := authCode_cases s src num edge done
  dsimp only
  unfold State.authorise
  generalize s.authCode src num edge done = w at c ⊢
  by_cases h0 : w = 0
  · simp [h0, authTake_spec]
  · by_cases h14 : w = 14
    · obtain ⟨p, n, l, e⟩ := authDrop_spec s (ev := 0) (by decide)
      simp [h14, p, n, l, e]
    · by_cases h15 : w = 15
      · obtain ⟨p, n, l, e⟩ := authDrop_spec s (ev := 1) (by decide)
        simp [h15, p, n, l, e]
      · obtain ⟨p, n, l, e⟩ := authRej_spec s (w := w) (by omega)
        simp [h0, h14, h15, p, n, l, e]

end Sys2Proof.Machine

namespace Sys2Proof.Machine

/-! ## Commands and their settled states -/

/-- A command that is done leaves a state that settles its effect; what is shown of every such state holds of the one it leaves. -/
theorem done_of {s t : State} {Q : State → Prop} (h : ∀ u, Ended s t u → Q u) : ∃ u, s.done t = .next u ∧ Q u := by
  obtain ⟨u, hu, e⟩ := ended_done s t
  exact ⟨u, hu, h u e⟩

theorem inReset_of_lineOn {s : State} (h : s.lineOn = true) : s.pwr.inReset = false := by
  simp only [State.lineOn, Bool.and_eq_true, Bool.not_eq_true'] at h; exact h.1

theorem lineOn_of_inReset {s : State} (h : s.pwr.inReset = true) : s.lineOn = false := by simp [State.lineOn, h]
theorem awake_of_inReset {s : State} (h : s.pwr.inReset = true) : s.awake = false := by simp [State.awake, h]

/-- Every tick state is one that takes writes directly, or ARMED, RUN or HOLDOVER. -/
theorem direct_eq_false {s : State} (h : s.tck.state = .armed ∨ s.ticking = true) : s.direct = false := by
  rcases h with h | h
  · simp [State.direct, h]
  · simp only [State.ticking, Bool.or_eq_true, decide_eq_true_eq] at h
    rcases h with h | h <;> simp [State.direct, h]

/-! ## PllLock -/

theorem exec_pllLock (s : State) : exec .pllLock s = s.done (if s.lineOn then s.pllLock else if s.supplied then { s with clk := { s.clk with pllok := true } } else s) := rfl
theorem exec_pllRelock (s : State) : exec .pllRelock s = s.done (if s.lineOn then s.pllRelock else s) := rfl
theorem exec_pllUnlock (s : State) :
    exec .pllUnlock s = s.done (if s.awake then s.pllUnlock else if s.pwr.inReset then { s with clk := { s.clk with pllok := false }, pwr := { s.pwr with start := 5 } } else s) := rfl

/-- The state with PLLOK. -/
def State.locked (s : State) : State := { s with clk := { s.clk with pllok := true } }

/-- The return of lock, its event raised, from which CLK goes on. -/
theorem pllRelock_eq {s : State} (h : s.clk.pllok = false) : s.pllRelock = (s.locked.raise P.CLK 7).clkEval := if_neg (by simp [h])

/-- The loss of lock, its event raised and the stage in its safe state. -/
def State.unlocked (s : State) : State := (({ s with clk := { s.clk with pllok := false } } : State).raise P.CLK 5).stageSafe

theorem pllUnlock_eq {s : State} (h : s.clk.pllok = true) :
    s.pllUnlock = (if s.unlocked.tck.state = .armed ∨ s.unlocked.ticking then s.unlocked.enterSafe (s.unlocked.tck.safeReq ++ [3]) else s.unlocked).detect 9 P.CLK 0#32 :=
  if_neg (by simp [h])

theorem steady_unlocked (s : State) : Steady noNode { s with clk := { s.clk with pllok := false } } s.unlocked := (Steady.refl _).raise.stageSafe

theorem evt_unlocked (s : State) : s.unlocked.bit (rEVT P.CLK) 5 = true :=
  (Steady.refl (N := noNode) _).stageSafe.evt _ _ (bit_raise _ _ _ (by decide))

/-- A loss of lock while TCK is armed or runs (R30, R82). -/
theorem pllUnlock_running {s : State} (hp : s.clk.pllok = true) (ht : s.tck.state = .armed ∨ s.ticking = true) :
    ∃ t causes, 3 ∈ causes ∧ SafeEntered s.unlocked causes t ∧ Steady noNode t s.pllUnlock := by
  have e := (steady_unlocked s).spine
  have ht' : s.unlocked.tck.state = .armed ∨ s.unlocked.ticking = true := by
    rw [(spine_state e :), (spine_ticking e :)]; exact ht
  rw [pllUnlock_eq hp, if_pos ht']
  exact ⟨_, _, by simp, enterSafe_spec (direct_eq_false ht') _, (Steady.refl _).detect⟩

/-- A loss of lock in IDLE or SAFE. -/
theorem pllUnlock_direct {s : State} (hp : s.clk.pllok = true) (ht : s.direct = true) : Steady noNode s.unlocked s.pllUnlock := by
  have e := (steady_unlocked s).spine
  rw [pllUnlock_eq hp, if_neg]
  · exact (Steady.refl _).detect
  · intro h
    have k : s.unlocked.direct = s.direct := (spine_direct e :)
    rw [direct_eq_false h, ht] at k
    exact absurd k (by decide)

/-- Settles O11: lock by the branches of `clkEval`, loss of lock by the entry to SAFE and the report that follows it. -/
theorem pllLock : Obligations.PllLock := by
  refine ⟨fun s hl => ⟨?_, ?_, ?_, ?_, ?_⟩, fun s hr hs => ⟨?_, ?_⟩, fun s ha => ⟨?_, ?_⟩⟩
  · rw [exec_pllLock, if_pos hl]
    exact done_of fun u e => by rw [e.clk]; exact (Clocked.refl s.locked).clkEval.pllok
  · intro ho hc
    rw [exec_pllLock, if_pos hl, show s.pllLock = s.locked.clkTo .search from clkEval_osc ho rfl (inReset_of_lineOn hl) hc]
    have hn : s.locked.clk.state ≠ .search := by rw [show s.locked.clk.state = .osc from ho]; decide
    refine done_of fun u e => ⟨?_, ?_, e.cyc_seqv.trans (clkTo_search_seqv hn), e.lt.trans (clkTo_lt _ _)⟩
    · rw [e.clk]; exact ((Clocked.refl s.locked).clkTo).pllok
    · rw [e.clk]; exact clkTo_state _ _
  · intro ho hc
    rw [exec_pllLock, if_pos hl, show s.pllLock = s.locked from clkEval_source0 (s := s.locked) ho hc]
    exact done_of fun u e => e
  · intro hp
    rw [exec_pllRelock, if_pos hl, pllRelock_eq hp]
    have k : Steady noNode s.locked (s.locked.raise P.CLK 7) := (Steady.refl _).raise
    have ck : (s.locked.raise P.CLK 7).clk = s.locked.clk := spine_clk k.spine
    have c : Clocked (s.locked.raise P.CLK 7) (s.locked.raise P.CLK 7).clkEval := (Clocked.refl _).clkEval
    refine done_of fun u e => ⟨?_, e.evt (c.evt (bit_raise _ _ _ (by decide))), fun ho hc => ?_⟩
    · rw [e.clk, c.pllok, ck]; rfl
    · rw [e.clk, clkEval_osc]
      · exact clkTo_state _ _
      · rw [ck]; exact ho
      · rw [ck]; rfl
      · rw [spine_pwr k.spine]; exact inReset_of_lineOn hl
      · rw [State.bit, k.rd _ (by decide)]; exact hc
  · intro hp
    rw [exec_pllRelock, if_pos hl, show s.pllRelock = s from if_pos hp]
    exact done_of fun u e => e
  · rw [exec_pllLock, if_neg (by simp [lineOn_of_inReset hr]), if_pos hs]
    exact done_of fun u e => e
  · rw [exec_pllUnlock, if_neg (by simp [awake_of_inReset hr]), if_pos hr]
    exact done_of fun u e => e
  · intro hp
    rw [exec_pllUnlock, if_pos ha]
    by_cases ht : s.tck.state = .armed ∨ s.ticking = true
    · obtain ⟨t, causes, h3, k, d⟩ := pllUnlock_running hp ht
      refine done_of fun u e => ⟨?_, e.rel (d.rel k.rel), fun hs => ?_, fun _ => ⟨?_, ?_, ?_, ?_, ?_, ?_⟩, fun hd => ?_⟩
      · rw [e.clk, spine_clk d.spine, k.pllok, spine_clk (steady_unlocked s).spine]
      · rcases hs with hs | hs
        · exact e.evt (d.evt _ _ (k.kept (by rw [spine_shadow (steady_unlocked s).spine]; exact hs) _ _ (evt_unlocked s)))
        · rw [direct_eq_false ht] at hs; exact absurd hs (by decide)
      · rw [e.tck_state, spine_state d.spine, k.state]
      · rw [e.tck_cause, spine_cause d.spine, k.cause, safeCause_three h3]
      · rw [e.tck_inTick, spine_inTick d.spine, k.inTick]
      · rw [e.tck_pend, spine_pend d.spine, k.pend]
      · exact e.flt (d.flt _ _ (k.flt 3 h3))
      · exact e.evt (d.evt _ _ k.evt)
      · rw [direct_eq_false ht] at hd; exact absurd hd (by decide)
    · have hd : s.direct = true := by
        simp only [State.ticking, State.direct, Bool.or_eq_true, decide_eq_true_eq, not_or] at ht ⊢
        cases h : s.tck.state <;> simp_all
      have k := (pllUnlock_direct hp hd)
      have k' := (steady_unlocked s).trans k
      refine done_of fun u e => ⟨?_, e.rel (k.rel (rel_stageSafe _)), fun _ => e.evt (k.evt _ _ (evt_unlocked s)), fun h => absurd h ht, fun _ => ⟨?_, ?_⟩⟩
      · rw [e.clk, spine_clk k'.spine]
      · rw [e.tck_state, (spine_state k'.spine :)]
      · rw [e.tck_cause, (spine_cause k'.spine :)]
  · intro hp
    rw [exec_pllUnlock, if_pos ha, show s.pllUnlock = s from if_pos (by simp [hp])]
    exact done_of fun u e => e

end Sys2Proof.Machine

namespace Sys2Proof.Machine

/-! ## Line-time passes, and requests for SAFE -/

/-- The passing of line-time moves the counter and the phase alone. -/
theorem elapse_eq (s : State) (dt : LineTime) : ∃ p, s.elapse dt = { s with lt := s.lt + dt, tck := { s.tck with phase := p } } := by
  unfold State.elapse
  extract_lets lt
  split_ifs
  · exact ⟨_, rfl⟩
  · exact ⟨s.tck.phase, rfl⟩

/-- A request for SAFE in RUN or HOLDOVER stands. -/
theorem mem_askSafe {s : State} {c : Nat} (h : s.ticking = true) : c ∈ (s.askSafe c).tck.safeReq := by
  unfold State.askSafe
  rw [if_pos h]
  by_cases m : c ∈ s.tck.safeReq <;> simp [m]

theorem bench_of_rd {s t : State} (h : t.rd (rCTRL P.TCK) = s.rd (rCTRL P.TCK)) : t.bench = s.bench := by unfold State.bench State.fd; rw [h]

/-- A request for SAFE with cause 3 after a move of CLK, where it waits for the end of a tick, or TCK runs no ticks. -/
theorem askSafe_safeNow_waits {s t : State} (h : Clocked s t) (hw : s.ticking = false ∨ s.tck.inTick = true) : (t.askSafe 3).safeNow = t.askSafe 3 := by
  have k := (Steady.refl (N := noNode) t).askSafe (c := 3)
  refine safeNow_same ?_
  rw [spine_ticking k.spine, spine_inTick k.spine, h.ticking, h.tck_inTick]
  exact hw.imp_right .inl

/-- A request for SAFE with cause 3 after a move of CLK between the ticks of a bench run is taken at once. -/
theorem askSafe_safeNow_enters {s t : State} (h : Clocked s t) (ht : s.ticking = true) (hi : s.tck.inTick = false) (hb : s.bench = true) :
    (t.askSafe 3).safeNow.tck.state = .safe ∧ (t.askSafe 3).safeNow.tck.cause = 3 := by
  have k := (Steady.refl (N := noNode) t).askSafe (c := 3)
  have ht' : t.ticking = true := h.ticking.trans ht
  have m : 3 ∈ (t.askSafe 3).tck.safeReq := mem_askSafe ht'
  have ht'' : (t.askSafe 3).ticking = true := (spine_ticking k.spine).trans ht'
  rw [safeNow_enters ht'' ((spine_inTick k.spine).trans (h.tck_inTick.trans hi)) ((bench_of_rd ((k.rd _ (by decide)).trans (h.rd (by decide)))).trans hb) (List.ne_nil_of_mem m)]
  have e := enterSafe_spec (direct_eq_false (.inr ht'')) (t.askSafe 3).tck.safeReq
  exact ⟨e.state, e.cause.trans (safeCause_three m)⟩

/-! ## HostFramesStop -/

theorem exec_clkLossGap (dt : LineTime) (s : State) : exec (.clkLossGap dt) s = s.done (if s.lineOn then (s.elapse dt).lossGap else s) := rfl
theorem exec_holdTimeout (s : State) : exec .holdTimeout s = s.done (if s.lineOn then s.holdTimeout else s) := rfl

/-- HOLD gives way to SEARCH, with its length and its event (R81, R813). -/
def State.holdOver (s : State) : State := ((s.clkTo .search).wr R.CLK_HOLDT 20000#32).raise P.CLK 2

theorem clocked_holdOver (s : State) : Clocked s s.holdOver := (Clocked.refl s).clkTo.steady (.raise (.wr (.refl _)))

theorem holdTimeout_eq {s : State} (h : s.clk.state = .hold) : s.holdTimeout = (s.holdOver.askSafe 3).safeNow := if_pos h

/-- Settles O12: the moves of CLK by what `clkTo` does, the request for SAFE by whether a tick is in progress. -/
theorem hostFramesStop : Obligations.HostFramesStop := by
  intro s hl
  refine ⟨fun dt => ?_, fun hn => ?_, fun hh hw => ?_, fun hh ht hi hb => ?_⟩
  · obtain ⟨p, hp⟩ := elapse_eq s dt
    rw [exec_clkLossGap, if_pos hl, hp]
    generalize hs : ({ s with lt := s.lt + dt, tck := { s.tck with phase := p } } : State) = v
    have hc : v.clk = s.clk := by rw [← hs]
    have ht : v.lt = s.lt + dt := by rw [← hs]
    have hr : v.rd R.CLK_LOSSCT = s.rd R.CLK_LOSSCT := by rw [← hs]; rfl
    refine ⟨fun h => ?_, fun h => ?_, fun h h' => ?_⟩
    · have h : v.clk.state = .locked := by rw [hc, h]
      have hn : v.clk.state ≠ .hold := by rw [h]; decide
      rw [show v.lossGap = v.clkTo .hold by simp [State.lossGap, h]]
      refine done_of fun u e => ⟨?_, ?_, ?_, e.evt (clkTo_hold_evt h), ?_⟩
      · rw [e.lt, clkTo_lt, ht]
      · rw [e.clk, clkTo_state]
      · rw [e.clk, clkTo_clk hn, ← ht]; rfl
      · rw [e.rd (by decide), clkTo_lossct _ hn, if_pos ⟨h, .inl rfl⟩, hr]
    · have h : v.clk.state = .pull := by rw [hc, h]
      have hn : v.clk.state ≠ .search := by rw [h]; decide
      rw [show v.lossGap = v.clkTo .search by simp [State.lossGap, h]]
      refine done_of fun u e => ⟨?_, ?_, ?_, ?_⟩
      · rw [e.lt, clkTo_lt, ht]
      · rw [e.clk, clkTo_state]
      · rw [e.cyc_seqv, clkTo_search_seqv hn]
      · rw [e.rd (by decide), clkTo_lossct _ hn, if_neg (by simp), hr]
    · rw [show v.lossGap = v by unfold State.lossGap; rw [hc]; split <;> simp_all]
      exact done_of fun u e => ⟨e, by rw [e.lt, ht]⟩
  · rw [exec_holdTimeout, if_pos hl, show s.holdTimeout = s from if_neg hn]
    exact done_of fun u e => e
  · have hn : s.clk.state ≠ .search := by rw [hh]; decide
    have k := (Steady.refl (N := noNode) s.holdOver).askSafe (c := 3)
    rw [exec_holdTimeout, if_pos hl, holdTimeout_eq hh, askSafe_safeNow_waits (clocked_holdOver s) hw]
    refine done_of fun u e => ⟨e.evt (k.evt _ _ (bit_raise _ _ _ (by decide))), ?_, ?_, ?_, e⟩
    · rw [e.clk, spine_clk k.spine, State.holdOver, spine_clk (spine_raise _ _ _)]; exact clkTo_state s .search
    · rw [e.cyc_seqv, show (s.holdOver.askSafe 3).cyc.seqv = s.holdOver.cyc.seqv by unfold State.askSafe; split_ifs <;> rfl, State.holdOver, seqv_raise]
      exact clkTo_search_seqv hn
    · rw [e.rd (by decide), State.rd, askSafe_regs]
      exact (rd_raise _).trans (State.rd_wr_self ..)
  · rw [exec_holdTimeout, if_pos hl, holdTimeout_eq hh]
    obtain ⟨h1, h2⟩ := askSafe_safeNow_enters (clocked_holdOver s) ht hi hb
    exact done_of fun u e => ⟨e.tck_state.trans h1, e.tck_cause.trans h2⟩

end Sys2Proof.Machine

namespace Sys2Proof.Machine

/-! ## What the landing of a write keeps, by name -/

namespace Landed
variable {s t u : State} (h : Landed s t u)
include h

theorem rd {a : Nat} (ha : landTouches a = false) : u.rd a = t.rd a := h.near.rd a ha
theorem bit {a n : Nat} (ha : landTouches a = false) : u.bit a n = t.bit a n := congrArg (bitOf · n) (h.rd ha)
theorem evt {p n : Nat} (hb : t.bit (rEVT p) n = true) : u.bit (rEVT p) n = true := h.near.evt p n hb
theorem rel (hr : t.pst.rel = false) : u.pst.rel = false := h.near.rel hr
theorem clk : u.clk = t.clk := by have e := congrArg (fun q : State => q.clk) h.near.shape; exact e
theorem lt : u.lt = t.lt := by have e := congrArg (fun q : State => q.lt) h.near.shape; exact e
theorem cpu : u.cpu = t.cpu := by have e := congrArg (fun q : State => q.cpu) h.near.shape; exact e
theorem seqv : u.cyc.seqv = t.cyc.seqv := by have e := congrArg (fun q : State => q.cyc.seqv) h.near.shape; exact e
theorem tck_state : u.tck.state = t.tck.state := by have e := congrArg (fun q : State => q.tck.state) h.near.shape; exact e
theorem tck_cause : u.tck.cause = t.tck.cause := by have e := congrArg (fun q : State => q.tck.cause) h.near.shape; exact e
theorem tck_pend : u.tck.pend = t.tck.pend := by have e := congrArg (fun q : State => q.tck.pend) h.near.shape; exact e
theorem tck_stopReq : u.tck.stopReq = t.tck.stopReq := by have e := congrArg (fun q : State => q.tck.stopReq) h.near.shape; exact e

end Landed

/-- What is shown of every state a landing leaves holds of the one a command leaves. -/
theorem landed_of {o : Host.Outcome State Fault Refusal} {s t : State} {Q : State → Prop} (e : ∃ u, o = .next u ∧ Landed s t u) (h : ∀ u, Landed s t u → Q u) :
    ∃ u, o = .next u ∧ Q u := by
  obtain ⟨u, hu, k⟩ := e
  exact ⟨u, hu, h u k⟩

/-! ## ClockSource -/

theorem exec_refokSet (dt : LineTime) (s : State) : exec (.refokSet dt) s = s.done (if s.lineOn then (s.elapse dt).refokSet else s) := rfl
theorem exec_refLoss (dt : LineTime) (s : State) : exec (.refLoss dt) s = s.done (if s.lineOn then (s.elapse dt).refLoss else s) := rfl
theorem exec_ltLoRead (dt : LineTime) (s : State) : exec (.ltLoRead dt) s = s.done (if s.coreOn then s.readLtLo dt else s) := rfl

/-- What the passing of line-time keeps. -/
theorem elapse_keeps (s : State) (dt : LineTime) :
    (s.elapse dt).lt = s.lt + dt ∧ (s.elapse dt).clk = s.clk ∧ (s.elapse dt).pwr = s.pwr ∧ (s.elapse dt).regs = s.regs ∧ (s.elapse dt).ticking = s.ticking ∧
      (s.elapse dt).direct = s.direct ∧ (s.elapse dt).tck.inTick = s.tck.inTick := by
  obtain ⟨p, e⟩ := elapse_eq s dt
  rw [e]
  exact ⟨rfl, rfl, rfl, rfl, rfl, rfl, rfl⟩

theorem rd_of_regs {s t : State} (h : t.regs = s.regs) (a : Nat) : t.rd a = s.rd a := by rw [State.rd, State.rd, h]
theorem bit_of_regs {s t : State} (h : t.regs = s.regs) (a n : Nat) : t.bit a n = s.bit a n := congrArg (bitOf · n) (rd_of_regs h a)

/-- REFIN's edges are gone while CLK is in REF: OSC, marked as after a loss, with its event (R36, R37). -/
def State.refGone (s : State) : State := (({ s with clk := { s.clk with refok := false, afterLoss := true } } : State).clkTo .osc).raise P.CLK 4

theorem refLoss_eq {s : State} (h : s.clk.state = .ref) : s.refLoss = (s.refGone.askSafe 3).safeNow := if_pos h

theorem clocked_refGone (s : State) : Clocked { s with clk := { s.clk with refok := false, afterLoss := true } } s.refGone :=
  (Clocked.refl _).clkTo.steady (.raise (.refl _))

theorem refin (s : State) (dt : LineTime) (hl : s.lineOn = true) :
    (s.bit (rCTRL P.CLK) 0 = true → s.clk.state ≠ .osc → ∃ u, exec (.refokSet dt) s = .next u ∧ u.clk.refok = true ∧ u.clk.state = .ref) ∧
    (s.bit (rCTRL P.CLK) 0 = false → s.clk.state ≠ .osc →
      ∃ u, exec (.refokSet dt) s = .next u ∧ u.clk.refok = true ∧ Ended s { s.elapse dt with clk := { s.clk with refok := true } } u) ∧
    (s.clk.state ≠ .ref → ∃ u, exec (.refLoss dt) s = .next u ∧ u.clk.refok = false ∧ Ended s { s.elapse dt with clk := { s.clk with refok := false } } u) ∧
    (s.clk.state = .ref → s.ticking = false ∨ s.tck.inTick = true → ∃ u, exec (.refLoss dt) s = .next u ∧ u.clk.refok = false ∧ u.clk.state = .osc ∧ u.clk.afterLoss = true ∧
      u.bit (rEVT P.CLK) 4 = true ∧ u.lt = s.lt + dt) := by
  obtain ⟨ht, hc, -, hr, htk, -, hi⟩ := elapse_keeps s dt
  rw [exec_refokSet, exec_refLoss, if_pos hl, if_pos hl]
  rw [← hc, ← ht, ← htk, ← hi, ← bit_of_regs hr]
  generalize s.elapse dt = v
  refine ⟨fun hb ho => ?_, fun hb ho => ?_, fun hn => ?_, fun hn hw => ?_⟩
  · refine done_of fun u e => ?_
    rw [e.clk]
    exact ⟨((Clocked.refl _).clkEval).refok, clkEval_ref (s := { v with clk := { v.clk with refok := true } }) ho hb rfl⟩
  · rw [show v.refokSet = { v with clk := { v.clk with refok := true } } from clkEval_source0 ho hb]
    exact done_of fun u e => ⟨by rw [e.clk], e⟩
  · rw [show v.refLoss = { v with clk := { v.clk with refok := false } } from if_neg hn]
    exact done_of fun u e => ⟨by rw [e.clk], e⟩
  · have k := (Steady.refl (N := noNode) v.refGone).askSafe (c := 3)
    have r := spine_raise (({ v with clk := { v.clk with refok := false, afterLoss := true } } : State).clkTo .osc) P.CLK 4
    have n : v.clk.state ≠ .osc := by rw [hn]; decide
    have c := clkTo_clk (s := { v with clk := { v.clk with refok := false, afterLoss := true } }) n
    rw [refLoss_eq hn, askSafe_safeNow_waits (clocked_refGone v) hw]
    refine done_of fun u e => ?_
    rw [e.clk, spine_clk k.spine, State.refGone, spine_clk r, c]
    refine ⟨entering_refok _ _ _, entering_state _ _ _, entering_afterLoss _ _ _, e.evt (k.evt _ _ (bit_raise _ _ _ (by decide))), ?_⟩
    rw [e.lt, spine_lt k.spine, State.refGone, spine_lt r, clkTo_lt]

/-! ### The write of CLK.CTRL.SRC -/

/-- CLK.CTRL as a write of SRC makes it. -/
def State.srcWord (s : State) (src : Bool) : Word := mergeMask (s.rd (rCTRL P.CLK)) (s.modWord (rCTRL P.CLK) (wd src.toNat) 1#32) 1#32

theorem srcWord_bit (s : State) (src : Bool) : bitOf (s.srcWord src) 0 = src := by
  have e : s.modWord (rCTRL P.CLK) (wd src.toNat) 1#32 = (s.rd (rCTRL P.CLK) &&& ~~~0#32 &&& ~~~1#32) ||| (wd src.toNat &&& 1#32) := rfl
  unfold State.srcWord mergeMask bitOf
  rw [e]
  cases src <;> simp [wd]

/-- What the write of SRC lands as where the tick state lets it. -/
def State.srcLanded (s : State) (src : Bool) : State :=
  if s.direct then s.putReg (rCTRL P.CLK) (s.srcWord src) else s.raise P.CLK 6

theorem landNow_src (s : State) (path : Path) (src : Bool) (d : RegDesc) (hw : wd d.wmask = 1#32) (hm : d.wmask ≠ 0) :
    s.landNow path (rCTRL P.CLK) d (s.modWord (rCTRL P.CLK) (wd src.toNat) 1#32) = s.srcLanded src := by
  have acc (raw : Word) : s.accept path (rCTRL P.CLK) (s.rd (rCTRL P.CLK)) (s.srcWord src) raw = if s.direct then (s.srcWord src, none) else (s.rd (rCTRL P.CLK), some (P.CLK, 6)) := rfl
  have win : isWindow (rCTRL P.CLK) = false := by decide
  have ew : mergeMask (s.rd (rCTRL P.CLK)) (s.modWord (rCTRL P.CLK) (wd src.toNat) 1#32) 1#32 = s.srcWord src := rfl
  unfold State.landNow State.srcLanded
  simp only [hw, ew, acc, win, hm, Bool.false_eq_true, if_false]
  by_cases hd : s.direct = true
  · simp only [hd, if_true]
  · simp only [hd, if_false, Bool.false_eq_true]
    have e : (s.raise P.CLK 6).rd (rCTRL P.CLK) = s.rd (rCTRL P.CLK) := rd_raise s
    rw [← e]
    exact putReg_self (a := rCTRL P.CLK) _ (by decide)

theorem exec_clkSrcWrite {s : State} {path : Path} (src : Bool) (dt : LineTime) (h : (s.elapse dt).Takes path (rCTRL P.CLK)) :
    ∃ u, exec (.clkSrcWrite path src dt) s = .next u ∧ Landed (s.elapse dt) ((s.elapse dt).srcLanded src) u := by
  obtain ⟨p, e⟩ := elapse_eq s dt
  have ha : (s.elapse dt).awake = true := h.1
  have hl : s.lineOn = true := by
    rw [e] at ha
    have ha : s.awake = true := ha
    simp only [State.awake, State.lineOn, Bool.and_eq_true] at ha ⊢
    simp [ha.1, ha.2]
  have hx : exec (.clkSrcWrite path src dt) s = (s.elapse dt).done ((s.elapse dt).writeBits path (rCTRL P.CLK) (wd src.toNat) 1#32) := by
    show s.done ((if s.lineOn then s.elapse dt else s).writeBits path (rCTRL P.CLK) (wd src.toNat) 1#32) = _
    rw [if_pos hl, e]; rfl
  have hd : regDesc (rCTRL P.CLK) = some ⟨4, .rw, 1, 0, 0⟩ := rfl
  rw [hx, ← landNow_src _ path src ⟨4, .rw, 1, 0, 0⟩ rfl (by decide)]
  have k := landed_bits (b := wd src.toNat) (m := 1#32) h hd (fetchReg_plain _ hd (by decide) (.inl rfl))
  rwa [landReg_own (by decide)] at k

/-- What the write of SRC does to the register. -/
theorem srcLanded_direct {s : State} (src : Bool) (hd : s.direct = true) :
    ∃ t, t.rd (rCTRL P.CLK) = s.srcWord src ∧ t.clk = s.clk ∧ t.lt = s.lt ∧ s.srcLanded src = if src = s.bit (rCTRL P.CLK) 0 then t else t.clkSrc := by
  have hb := srcWord_bit s src
  unfold State.srcLanded
  rw [if_pos hd]
  refine ⟨if s.srcWord src = s.rd (rCTRL P.CLK) then s else s.wr (rCTRL P.CLK) (s.srcWord src), ?_, ?_, ?_, ?_⟩
  · split_ifs with h
    · exact h.symm
    · exact State.rd_wr_self ..
  · split_ifs <;> rfl
  · split_ifs <;> rfl
  · show (if (bitOf (s.rd (rCTRL P.CLK)) 0 != bitOf (s.srcWord src) 0) = true then _ else _) = _
    rw [hb, State.bit]
    by_cases h : src = bitOf (s.rd (rCTRL P.CLK)) 0
    · rw [if_pos h, if_neg (by simp [h])]
    · rw [if_neg h, if_pos (by simpa using Ne.symm h)]

theorem Clocked.clkSrc {s t : State} (h : Clocked s t) : Clocked s t.clkSrc := .ite h.clkTo h.clkEval

/-- The write of CLK.CTRL.SRC (R32, R38). -/
theorem srcWrite (s : State) (path : Path) (src : Bool) (dt : LineTime) (h : (s.elapse dt).Takes path (rCTRL P.CLK)) :
    (s.direct = true → ∃ u, exec (.clkSrcWrite path src dt) s = .next u ∧ u.bit (rCTRL P.CLK) 0 = src ∧
      (src = s.bit (rCTRL P.CLK) 0 → u.clk = s.clk ∧ u.lt = s.lt + dt) ∧
      (s.bit (rCTRL P.CLK) 0 = true → src = false → s.clk.state = .ref → u.clk.state = .search ∧ u.rd R.CLK_DCOW = 0#32 ∧ u.cyc.seqv = false) ∧
      (s.bit (rCTRL P.CLK) 0 = false → src = true → s.clk.refok = true → s.clk.state ≠ .osc → s.clk.state ≠ .ref → u.clk.state = .ref)) ∧
    (s.direct = false → ∃ u, exec (.clkSrcWrite path src dt) s = .next u ∧ u.bit (rCTRL P.CLK) 0 = s.bit (rCTRL P.CLK) 0 ∧ u.bit (rEVT P.CLK) 6 = true ∧ u.clk = s.clk) := by
  obtain ⟨ht, hc, -, hr, -, hd, -⟩ := elapse_keeps s dt
  have land := exec_clkSrcWrite src dt h
  rw [← hd, ← hc, ← ht, ← bit_of_regs hr]
  generalize s.elapse dt = v at land
  refine ⟨fun hd => landed_of land fun u k => ?_, fun hd => landed_of land fun u k => ?_⟩
  · obtain ⟨t, ew, ec, et, e⟩ := srcLanded_direct src hd
    rw [e] at k
    have eb : t.bit (rCTRL P.CLK) 0 = src := (congrArg (bitOf · 0) ew).trans (srcWord_bit v src)
    have c : Clocked t (if src = v.bit (rCTRL P.CLK) 0 then t else t.clkSrc) := .ite (.refl t) (Clocked.refl t).clkSrc
    refine ⟨?_, fun hs => ?_, fun hb hs hf => ?_, fun hb hs hf ho hn => ?_⟩
    · rw [k.bit (by decide), c.bit (by decide), eb]
    · rw [k.clk, k.lt, if_pos hs]; exact ⟨ec, et⟩
    · have m : t.clkSrc = t.clkTo .search := by unfold State.clkSrc; simp [eb, hs, ec, hf]
      rw [if_neg (by simp [hb, hs]), m] at k
      exact ⟨by rw [k.clk, clkTo_state], by rw [k.rd (by decide), clkTo_search_dcow (by rw [ec, hf])], by rw [k.seqv, clkTo_search_seqv (by rw [ec, hf]; decide)]⟩
    · have m : t.clkSrc = t.clkEval := by unfold State.clkSrc; simp [eb, hs]
      rw [if_neg (by simp [hb, hs]), m] at k
      rw [k.clk, clkEval_ref (by rw [ec]; exact ho) (by rw [eb, hs]) (by rw [ec, hf])]
  · have e : v.srcLanded src = v.raise P.CLK 6 := if_neg (by simp [hd])
    rw [e] at k
    refine ⟨?_, k.evt (bit_raise _ _ _ (by decide)), ?_⟩
    · rw [k.bit (by decide)]; exact congrArg (bitOf · 0) (rd_raise v)
    · rw [k.clk]; exact (spine_clk (spine_raise v _ _) :)

/-! ### The latched read of line-time -/

/-- A core read of CLK.LT_HI gives what a read of CLK.LT_LO has latched. -/
theorem coreRead_ltHi {s : State} {v : BitVec 16} (h : s.clk.ltHi = some v) : (s.coreRead R.CLK_LT_HI).2 = v.setWidth 32 := by
  unfold State.coreRead
  extract_lets s1
  have e : s1.clk.ltHi = some v := by
    unfold s1; split_ifs
    · rw [State.liveRead, (spine_clk (spine_raiseIf s _ _ _) :), h]
    · exact h
  rw [if_pos rfl, e]

theorem latchedRead (s : State) (dt : LineTime) (h : s.coreOn = true) :
    ∃ u, exec (.ltLoRead dt) s = .next u ∧ u.lt = s.lt + dt ∧ u.clk.ltHi = some ((s.lt + dt).extractLsb' 32 16) ∧
      u.clk.state = s.clk.state ∧ (u.coreRead R.CLK_LT_HI).2 = ((s.lt + dt).extractLsb' 32 16).setWidth 32 := by
  obtain ⟨ht, hc, -⟩ := elapse_keeps s dt
  have el : (s.elapse dt).liveRead.lt = s.lt + dt := by rw [State.liveRead, spine_lt (spine_raiseIf _ _ _ _), ht]
  have ec : (s.elapse dt).liveRead.clk = s.clk := by rw [State.liveRead, spine_clk (spine_raiseIf _ _ _ _), hc]
  rw [exec_ltLoRead, if_pos h]
  refine done_of fun u e => ?_
  have hi : u.clk.ltHi = some ((s.lt + dt).extractLsb' 32 16) := by rw [e.clk, ← el]; rfl
  exact ⟨e.lt.trans el, hi, by rw [e.clk, ← ec]; rfl, coreRead_ltHi hi⟩

/-- Settles O13: REFIN by the moves of CLK, the write of SRC by what its landing makes of the register, the latched read by what a core read finds. -/
theorem clockSource : Obligations.ClockSource := ⟨refin, srcWrite, latchedRead⟩

end Sys2Proof.Machine

namespace Sys2Proof.Machine

/-! ## Arming -/

/-- The state as TCK is armed and the core parks, before the loops restart. -/
def State.armedBase (s : State) : State :=
  let s := { s with fmA := { s.fmA with reqs := [] }, fmB := { s.fmB with reqs := [] } }
  ({ s with tck := { s.tck with state := .armed, cause := 0, pend := none, stopReq := false, safeReq := [], inTick := false } } : State).parkArmed

theorem armEntry_eq (s : State) : s.armEntry = (List.range 8).foldl (fun (s : State) n => if s.bit (rCTRL (P.LP n)) 0 then s.loopRestart n else s) s.armedBase := rfl

theorem steady_armEntry (s : State) : Steady noNode s.armedBase s.armEntry := by
  rw [armEntry_eq]
  exact (Steady.refl _).foldl fun _ _ _ k => .ite k.loopRestart k

/-- The restart of the loops writes no register. -/
theorem regs_armEntry (s : State) : s.armEntry.regs = s.armedBase.regs := by
  rw [armEntry_eq]
  generalize s.armedBase = t
  induction List.range 8 generalizing t with
  | nil => rfl
  | cons n l ih =>
    refine (ih _).trans ?_
    dsimp only
    split_ifs <;> rfl

/-- Parking writes the core's place, and of the registers no other but CPU.LASTUSE. -/
theorem rd_armedBase (s : State) : s.armedBase.rd R.CPU_PARKPC = s.cpu.pc ∧ s.armedBase.rd (rCTRL P.TCK) = s.rd (rCTRL P.TCK) :=
  ⟨(State.rd_wr_ne _ _ (by decide)).trans (State.rd_wr_self ..), (State.rd_wr_ne _ _ (by decide)).trans (State.rd_wr_ne _ _ (by decide))⟩

theorem rd_armEntry (s : State) : s.armEntry.rd R.CPU_PARKPC = s.cpu.pc ∧ s.armEntry.bench = s.bench := by
  obtain ⟨hp, hc⟩ := rd_armedBase s
  exact ⟨(rd_of_regs (regs_armEntry s) _).trans hp, bench_of_rd ((rd_of_regs (regs_armEntry s) _).trans hc)⟩

/-- What ARM leaves once every check has passed (R50, R380). -/
structure ArmTaken (s t : State) : Prop where
  clocked : Clocked s.armedBase t
  parkpc : t.rd R.CPU_PARKPC = s.cpu.pc
  zero : s.bench = true → s.clk.state = .osc → t.lt = 0#48 ∧ t.bit (rEVT P.CLK) 3 = true
  keeps : s.bench = false → t.lt = s.lt

theorem tckArm_taken {s : State} (h : s.armOk = true) : ArmTaken s s.tckArm := by
  have k := (Clocked.refl _).steady (steady_armEntry s)
  obtain ⟨hp, hb⟩ := rd_armEntry s
  have hc : s.armEntry.clk = s.clk := (spine_clk (steady_armEntry s).spine :)
  have hl : s.armEntry.lt = s.lt := (spine_lt (steady_armEntry s).spine :)
  unfold State.tckArm
  rw [if_neg (by simp [h])]
  dsimp only
  rw [hb, hc]
  split_ifs with c
  · simp only [Bool.and_eq_true, beq_iff_eq] at c
    exact ⟨(k.moved _ _ (by rw [hc]) (by rw [hc])).loadLt, (rd_raise _).trans hp, fun _ _ => ⟨spine_lt (spine_raise _ _ _), bit_raise _ _ _ (by decide)⟩, by simp [c.1]⟩
  · exact ⟨k, hp, fun b o => absurd (by simp [b, o]) c, fun _ => hl⟩

/-- ARM (R50, R380, R675, R778). -/
theorem arm (s : State) (path : Path) (h : s.Takes path (rCTRL P.TCK)) :
    (s.follows = true → ∃ u, exec (.tckArm path) s = .next u ∧ Landed s s u) ∧
    (s.follows = false → s.armOk = true → ∃ u, exec (.tckArm path) s = .next u ∧ u.tck.state = .armed ∧ u.tck.cause = 0 ∧ u.tck.pend = none ∧ u.tck.stopReq = false ∧
      u.cpu.parked = true ∧ u.cpu.pc = s.cpu.pc ∧ u.rd R.CPU_PARKPC = s.cpu.pc ∧
      (s.bench = true → s.clk.state = .osc → u.lt = 0#48 ∧ u.bit (rEVT P.CLK) 3 = true) ∧ (s.bench = false → u.lt = s.lt)) ∧
    (s.follows = false → s.armOk = false → ∃ u, exec (.tckArm path) s = .next u ∧ Landed s (s.raise P.TCK 9) u ∧ u.bit (rEVT P.TCK) 9 = true ∧ u.tck.state = s.tck.state) := by
  have land := exec_tckArm h
  refine ⟨fun hf => ?_, fun hf ha => ?_, fun hf ha => ?_⟩
  · rwa [if_pos hf] at land
  · rw [if_neg (by simp [hf])] at land
    have k := tckArm_taken ha
    refine landed_of land fun u e => ⟨?_, ?_, ?_, ?_, ?_, ?_, ?_, fun hb ho => ?_, fun hb => ?_⟩
    · rw [e.tck_state, k.clocked.tck_state]; rfl
    · rw [e.tck_cause, k.clocked.tck_cause]; rfl
    · rw [e.tck_pend, k.clocked.tck_pend]; rfl
    · rw [e.tck_stopReq, k.clocked.tck_stopReq]; rfl
    · rw [e.cpu, k.clocked.cpu]; rfl
    · rw [e.cpu, k.clocked.cpu]; rfl
    · rw [e.rd (by decide), k.parkpc]
    · obtain ⟨z, b⟩ := k.zero hb ho
      exact ⟨by rw [e.lt, z], e.evt b⟩
    · rw [e.lt, k.keeps hb]
  · rw [if_neg (by simp [hf]), State.tckArm, if_pos (by simp [ha])] at land
    exact landed_of land fun u e => ⟨e, e.evt (bit_raise _ _ _ (by decide)), by rw [e.tck_state]; exact spine_state (spine_raise _ _ _)⟩

/-- A device that follows no lead is not at a shadow in TRACK. -/
theorem frozen_of_not_follows {s : State} (h : s.follows = false) : s.frozen = false := by
  unfold State.follows at h
  unfold State.frozen
  cases hr : s.twn.role with
  | true => simp
  | false =>
    rw [hr] at h
    simp only [Bool.not_false, Bool.and_true, Bool.and_eq_false_iff, decide_eq_false_iff_not] at h ⊢
    rw [beq_eq_false_iff_ne]; omega

theorem tckStop_direct {s : State} (h : s.direct = true) : s.tckStop = s := by
  simp only [State.direct, Bool.or_eq_true, decide_eq_true_eq] at h
  unfold State.tckStop
  rcases h with h | h <;> rw [h]

theorem tckStop_armed {s : State} (h : s.tck.state = .armed) : s.tckStop = s.enterIdle := by unfold State.tckStop; rw [h]

theorem tckStop_ticking {s : State} (h : s.ticking = true) : s.tckStop = if s.tck.inTick then { s with tck := { s.tck with stopReq := true } } else s.enterIdle := by
  simp only [State.ticking, Bool.or_eq_true, decide_eq_true_eq] at h
  unfold State.tckStop
  rcases h with h | h <;> rw [h]

/-- STOP (Table 1-5). -/
theorem stop (s : State) (path : Path) (h : s.Takes path (rCTRL P.TCK)) :
    (s.follows = true ∨ s.direct = true → ∃ u, exec (.tckStop path) s = .next u ∧ Landed s s u) ∧
    (s.follows = false → s.tck.state = .armed → ∃ u, exec (.tckStop path) s = .next u ∧ u.tck.state = .idle ∧ u.tck.cause = 0 ∧ u.tck.pend = none ∧ u.pst.rel = false ∧
      u.cpu.parked = false) ∧
    (s.follows = false → s.ticking = true → s.tck.inTick = true →
      ∃ u, exec (.tckStop path) s = .next u ∧ Landed s { s with tck := { s.tck with stopReq := true } } u ∧ u.tck.state = s.tck.state ∧ u.tck.stopReq = true) ∧
    (s.follows = false → s.ticking = true → s.tck.inTick = false → ∃ u, exec (.tckStop path) s = .next u ∧ u.tck.state = .idle ∧ u.pst.rel = false) := by
  have land := exec_tckStop h
  have k := enterIdle_spec s
  refine ⟨fun hd => ?_, fun hf ha => ?_, fun hf ht hi => ?_, fun hf ht hi => ?_⟩
  · by_cases hf : s.follows = true
    · rwa [if_pos hf] at land
    · rwa [tckStop_direct (hd.resolve_left hf), ite_self] at land
  · rw [if_neg (by simp [hf]), tckStop_armed ha] at land
    exact landed_of land fun u e => ⟨by rw [e.tck_state, k.state], by rw [e.tck_cause, k.cause], by rw [e.tck_pend, k.pend], e.rel k.rel,
      by rw [e.cpu, k.parked, frozen_of_not_follows hf]⟩
  · rw [if_neg (by simp [hf]), tckStop_ticking ht, if_pos hi] at land
    exact landed_of land fun u e => ⟨e, by rw [e.tck_state], by rw [e.tck_stopReq]⟩
  · rw [if_neg (by simp [hf]), tckStop_ticking ht, if_neg (by simp [hi])] at land
    exact landed_of land fun u e => ⟨by rw [e.tck_state, k.state], e.rel k.rel⟩

/-- MCLR (R80). -/
theorem marginClear (s : State) (path : Path) (h : s.Takes path (rCTRL P.TCK)) :
    ∃ u, exec (.mclr path) s = .next u ∧ Landed s (s.setF R.TCK_MINMARG 0 20 0xFFFFF) u ∧ u.fd R.TCK_MINMARG 0 20 = 0xFFFFF := by
  refine landed_of (exec_mclr h) fun u e => ⟨e, ?_⟩
  rw [State.fd, e.rd (by decide), State.mclr, State.setF, State.rd_wr_self]
  exact fld_setFld _ (by decide)

/-- Settles O14: ARM and STOP by the state their write lands as, an entry to IDLE by what every such entry leaves. -/
theorem arming : Obligations.Arming := by
  refine ⟨arm, fun s path h => ?_⟩
  obtain ⟨ignored, armed, inTick, between⟩ := stop s path h
  exact ⟨ignored, armed, inTick, between, marginClear s path h⟩

end Sys2Proof.Machine

namespace Sys2Proof.Machine

/-! ## The end of a tick -/

theorem exec_tickEnd (s : State) : exec .tickEnd s = s.done s.tickEnd := rfl

/-- The end of a tick moves the pair state alone, and no device into TRACK. -/
theorem twinEnd_eq (s : State) : ∃ w, s.twinEnd = { s with twn := w } ∧ (s.frozen = false → s.twinEnd.frozen = false) := by
  have track (p : Nat) (hp : p ≠ 2) (w : TwnSt) : (({ s with twn := w } : State).pairTo p).frozen = false := by
    have : (p == 2) = false := beq_eq_false_iff_ne.mpr hp
    simp [State.frozen, State.pairTo, this]
  unfold State.twinEnd
  extract_lets un _ s1
  split_ifs with h5 h4
  · exact ⟨_, rfl, fun _ => track 5 (by decide) _⟩
  · exact ⟨_, rfl, fun _ => track 4 (by decide) _⟩
  · exact ⟨_, rfl, id⟩

/-- The state from which an entry to SAFE or IDLE at the end of a tick goes on. -/
def State.tickClose (s : State) : State :=
  let s := (s.wr R.ADC_TDIE (wdI 400)).twinEnd
  let s := { s with lt := s.tck.edge + BitVec.ofNat 48 s.periodLt }
  if s.tck.safeReq ≠ [] && s.exhausted then s.askSafe 1 else s

/-- What the end of a tick finds: the tick block as it was, line-time a period after the edge. -/
structure TickClosed (s t : State) : Prop where
  state : t.tck.state = s.tck.state
  stopReq : t.tck.stopReq = s.tck.stopReq
  pend : t.tck.pend = s.tck.pend
  lt : t.lt = s.tck.edge + BitVec.ofNat 48 s.periodLt
  frozen : s.frozen = false → t.frozen = false
  asks : s.tck.safeReq = [] → t.tck.safeReq = []
  asked : ∀ c ∈ s.tck.safeReq, c ∈ t.tck.safeReq

theorem mem_askSafe_of_mem {s : State} {c d : Nat} (h : d ∈ s.tck.safeReq) : d ∈ (s.askSafe c).tck.safeReq := by
  unfold State.askSafe
  split_ifs <;> simp [h]

theorem tickClose_spec (s : State) : TickClosed s s.tickClose := by
  obtain ⟨w, e, hf⟩ := twinEnd_eq (s.wr R.ADC_TDIE (wdI 400))
  have ht : (s.wr R.ADC_TDIE (wdI 400)).twinEnd.tck = s.tck := by rw [e]; rfl
  have hp : (s.wr R.ADC_TDIE (wdI 400)).twinEnd.periodLt = s.periodLt := by
    have r : (s.wr R.ADC_TDIE (wdI 400)).rd R.TCK_PERIOD = s.rd R.TCK_PERIOD := State.rd_wr_ne _ _ (by decide)
    rw [e]
    exact congrArg (fun v => 100 * fld v 0 11) r
  unfold State.tickClose
  extract_lets s1 s2
  have h2 : TickClosed s s2 :=
    ⟨congrArg TckSt.state ht, congrArg TckSt.stopReq ht, congrArg TckSt.pend ht, congrArg₂ (fun (t : TckSt) p => t.edge + BitVec.ofNat 48 p) ht hp, hf,
      fun h => (congrArg TckSt.safeReq ht).trans h, fun c h => by rw [show s2.tck = s.tck from ht]; exact h⟩
  split_ifs with c
  · have k := ((Steady.refl (N := noNode) s2).askSafe (c := 1)).spine
    simp only [Bool.and_eq_true, decide_eq_true_eq] at c
    exact ⟨(spine_state k).trans h2.state, (spine_stopReq k).trans h2.stopReq, (spine_pend k).trans h2.pend, (spine_lt k).trans h2.lt, fun h => (spine_frozen k).trans (h2.frozen h),
      fun h => absurd (h2.asks h) c.1, fun d h => mem_askSafe_of_mem (h2.asked d h)⟩
  · exact h2

theorem tickEnd_turn {s : State} (h : s.turn 7 s.tickLen = true) : s.tickEnd = s.tickClose.tickOver.settleOut := if_neg (by simp [h])

theorem ticking_of_turn {s : State} {k p : Nat} (h : s.turn k p = true) : s.ticking = true := by
  simp only [State.turn, Bool.and_eq_true] at h; exact h.1.1.1

/-- The tick is over. -/
def State.tickDone (s : State) : State := { s with tck := { s.tck with synth := false, inTick := false } }

/-- What the end of a tick leaves with nothing asked for. -/
theorem tickOver_goes_on {s : State} (h : s.tck.safeReq = []) (hs : s.tck.stopReq = false) : s.tickOver = s.tickDone := by
  simp [State.tickOver, State.tickDone, h, hs]

theorem tickOver_stops {s : State} (h : s.tck.safeReq = []) (hs : s.tck.stopReq = true) : s.tickOver = s.tickDone.enterIdle := by
  simp [State.tickOver, State.tickDone, h, hs]

theorem tickOver_safe {s : State} (h : s.tck.safeReq ≠ []) : s.tickOver = s.tickDone.enterSafe s.tck.safeReq := by
  simp [State.tickOver, State.tickDone, h]

/-- Settles O16: the requests that stand at the close of the tick choose between going on, IDLE and SAFE. -/
theorem tickEnd : Obligations.TickEnd := by
  intro s
  rw [exec_tickEnd]
  have k := tickClose_spec s
  refine ⟨fun ht hs hr => ?_, fun ht hs hr => ?_, fun ht hs => ?_, fun ht => ?_⟩
  · rw [tickEnd_turn ht, tickOver_goes_on (k.asks hs) (k.stopReq.trans hr)]
    have c := ((Steady.refl (N := noNode) s.tickClose.tickDone).settleOut).spine
    refine done_of fun u e => ⟨?_, ?_, ?_, ?_⟩
    · rw [e.tck_inTick, spine_inTick c]; rfl
    · rw [e.tck_state, spine_state c]; exact k.state
    · rw [e.tck_pend, spine_pend c]; exact k.pend
    · rw [e.lt, spine_lt c]; exact k.lt
  · rw [tickEnd_turn ht, tickOver_stops (k.asks hs) (k.stopReq.trans hr)]
    have i := enterIdle_spec s.tickClose.tickDone
    have c := (Steady.refl (N := noNode) s.tickClose.tickDone.enterIdle).settleOut
    refine done_of fun u e => ⟨?_, ?_, ?_, e.rel (c.rel i.rel), fun hf => ?_⟩
    · rw [e.tck_inTick, spine_inTick c.spine, i.inTick]
    · rw [e.tck_state, spine_state c.spine, i.state]
    · rw [e.tck_pend, spine_pend c.spine, i.pend]
    · rw [e.cpu, spine_cpu c.spine, i.parked]; exact k.frozen hf
  · obtain ⟨c0, hc0⟩ := List.exists_mem_of_ne_nil _ hs
    have hd : s.tickClose.tickDone.direct = false := direct_eq_false (.inr ?_)
    · rw [tickEnd_turn ht, tickOver_safe (List.ne_nil_of_mem (k.asked c0 hc0))]
      have i := enterSafe_spec hd s.tickClose.tck.safeReq
      have c := (Steady.refl (N := noNode) (s.tickClose.tickDone.enterSafe s.tickClose.tck.safeReq)).settleOut
      refine done_of fun u e => ⟨?_, ?_, ?_, e.rel (c.rel i.rel), e.evt (c.evt _ _ i.evt), fun d h => e.flt (c.flt _ _ (i.flt d (k.asked d h)))⟩
      · rw [e.tck_inTick, spine_inTick c.spine, i.inTick]
      · rw [e.tck_state, spine_state c.spine, i.state]
      · rw [e.tck_pend, spine_pend c.spine, i.pend]
    · have t := ticking_of_turn ht
      unfold State.ticking at t ⊢
      rw [show s.tickClose.tickDone.tck.state = s.tck.state from k.state]; exact t
  · rw [show s.tickEnd = s from if_pos (by simp [ht])]
    exact done_of fun u e => e

end Sys2Proof.Machine

namespace Sys2Proof.Machine

/-! ## What the edge of a tick keeps beside its own fields

At an edge the pair state and the latency may change and the stage may be given its release; the rest of the spine, and the registers of a set `H`, follow a base state that the
edge's own steps move. -/

/-- The spine but for the pair state and the latency. -/
def Spine.rail (q : Spine) : Spine := { q with pstate := 0, tck := { q.tck with lat := false } }

/-- A state that stands as `b` does at an edge; of the held registers those of `H` read as in `b`. -/
structure Railed (H : Nat → Prop) (b t : State) : Prop where
  rail : t.spine.rail = b.spine.rail
  rd : ∀ a, H a → heldReg a = true → t.rd a = b.rd a

/-- The phase of the tick is `p`. -/
def State.toPhase (s : State) (p : Nat) : State := { s with tck := { s.tck with phase := p } }

/-- The effective budget is `n`. -/
def State.withBudget (s : State) (n : Nat) : State := { s with tck := { s.tck with budget := n } }

theorem plainReg_cmp : ∀ i ∈ List.range 4, plainReg (R.PST_CMP1 + 4 * i) = true := by decide

theorem Steady.loadCompares {N : Nat → Prop} {s t : State} (h : Steady N s t) : Steady N s t.loadCompares := by
  unfold State.loadCompares
  exact h.foldl fun _ i hi k => k.wr (plainReg_cmp i hi)

namespace Railed
variable {H : Nat → Prop}

theorem refl (s : State) : Railed H s s := ⟨rfl, fun _ _ _ => rfl⟩

variable {b t u : State} (h : Railed H b t)
include h

theorem steady (k : Steady noNode t u) : Railed H b u :=
  ⟨(congrArg Spine.rail k.spine).trans h.rail, fun a hH ha => (k.rd a ha).trans (h.rd a hH ha)⟩

/-- A change of fields outside rail and registers. -/
theorem of_regs (e : u.spine.rail = t.spine.rail := by exact rfl) (r : u.regs = t.regs := by exact rfl) : Railed H b u :=
  ⟨e.trans h.rail, fun a hH ha => (rd_of_regs r a).trans (h.rd a hH ha)⟩

omit h in
theorem ite {c : Prop} [Decidable c] (h : Railed H b t) (k : Railed H b u) : Railed H b (if c then t else u) := by
  split_ifs <;> assumption

theorem lt : t.lt = b.lt := by have e := congrArg Spine.lt h.rail; exact e
theorem cpu : t.cpu = b.cpu := by have e := congrArg Spine.cpu h.rail; exact e
theorem mon : t.mon = b.mon := by have e := congrArg Spine.mon h.rail; exact e
theorem shadow : t.shadow = b.shadow := by have e := congrArg Spine.shadow h.rail; exact e
theorem cmdq : t.cyc.cmdq = b.cyc.cmdq := by have e := congrArg Spine.cmdq h.rail; exact e
theorem slot : t.adc.slot = b.adc.slot := by have e := congrArg Spine.slot h.rail; exact e
theorem state : t.tck.state = b.tck.state := by have e := congrArg (fun q : Spine => q.tck.state) h.rail; exact e
theorem synth : t.tck.synth = b.tck.synth := by have e := congrArg (fun q : Spine => q.tck.synth) h.rail; exact e
theorem pend : t.tck.pend = b.tck.pend := by have e := congrArg (fun q : Spine => q.tck.pend) h.rail; exact e
theorem now : t.tck.now = b.tck.now := by have e := congrArg (fun q : Spine => q.tck.now) h.rail; exact e
theorem edge : t.tck.edge = b.tck.edge := by have e := congrArg (fun q : Spine => q.tck.edge) h.rail; exact e
theorem inTick : t.tck.inTick = b.tck.inTick := by have e := congrArg (fun q : Spine => q.tck.inTick) h.rail; exact e
theorem phase : t.tck.phase = b.tck.phase := by have e := congrArg (fun q : Spine => q.tck.phase) h.rail; exact e
theorem step : t.tck.step = b.tck.step := by have e := congrArg (fun q : Spine => q.tck.step) h.rail; exact e
theorem evals : t.tck.evals = b.tck.evals := by have e := congrArg (fun q : Spine => q.tck.evals) h.rail; exact e
theorem budget : t.tck.budget = b.tck.budget := by have e := congrArg (fun q : Spine => q.tck.budget) h.rail; exact e
theorem ticking : t.ticking = b.ticking := by simp only [State.ticking, h.state]

/-! ### Steps that move the base -/

/-- The phase moves on (R24). -/
theorem reach (ht : b.ticking = true) (hi : b.tck.inTick = true) {p : Nat} : Railed H (b.toPhase (max b.tck.phase p)) (t.reach p) := by
  unfold State.reach
  have k := h.steady ((Steady.refl t).trcDrain (n := min t.trc.queue.length (p - t.tck.phase)))
  generalize State.trcDrain _ t = u at k
  unfold State.atPhase
  rw [if_pos (by rw [k.ticking, k.inTick, ht, hi]; rfl), k.phase]
  exact ⟨congrArg (fun q : Spine => { q with tck := { q.tck with phase := max b.tck.phase p } }) k.rail, k.rd⟩

/-- The effective budget takes a value of at least 256 cycles (R57). -/
theorem setBudget : ∃ n, 256 ≤ n ∧ Railed H (b.withBudget n) t.setBudget := by
  unfold State.setBudget
  extract_lets want room s1
  have k : Railed H b s1 := h.steady (.raiseIf (.refl t))
  exact ⟨max 256 (min want room), le_max_left .., congrArg (fun q : Spine => { q with tck := { q.tck with budget := max 256 (min want room) } }) k.rail, k.rd⟩

/-- Phases 56 to 63. -/
theorem phase56 (ht : b.ticking = true) (hi : b.tck.inTick = true) :
    ∃ n, 256 ≤ n ∧ Railed H (((b.toPhase (max b.tck.phase 56)).withBudget n).toPhase (max (max b.tck.phase 56) 63)) t.phase56 := by
  obtain ⟨n, hn, k⟩ := (h.reach (p := 56) ht hi).setBudget
  have k := k.reach (p := 63) ht hi
  unfold State.phase56
  extract_lets s1
  generalize s1.reach 63 = u at k
  exact ⟨n, hn, k.of_regs⟩

/-! ### Phase 0 -/

theorem raise {p n : Nat} : Railed H b (t.raise p n) := h.steady (Steady.refl t).raise

theorem pairTo {p : Nat} : Railed H b (t.pairTo p) := h.of_regs

theorem unagree : Railed H b t.unagree := by
  unfold State.unagree
  extract_lets s1
  have k : Railed H b s1 := .ite h (h.steady (Steady.refl t).inc)
  exact .raise k.of_regs

/-- What a pair does at an edge. -/
theorem twinEdge {num : Word} {gates : Nat} : Railed H b (t.twinEdge num gates) := by
  unfold State.twinEdge
  extract_lets _ s1 _ s2 p _ s3 s4 miss _ s5
  have h1 : Railed H b s1 := .ite (.raise (.of_regs h)) h
  have h2 : Railed H b s2 := .ite h1.of_regs h1
  have h3 : Railed H b s3 := h2.of_regs
  have h4 : Railed H b s4 := .ite h2.of_regs (.ite (.ite (h3.steady (.detect (.askSafe (.setFlt (.refl s3))))) h2.of_regs) (.ite h2.of_regs h2))
  have h5 : Railed H b s5 := h4.of_regs
  exact .ite h5.raise.unagree h5

/-- The release is given or refused. -/
theorem relEval {a : Bool} : Railed H b (t.relEval a) := by
  unfold State.relEval
  extract_lets w _ s1 _ _ _ s2
  have h2 : Railed H b s2 := .of_regs (.of_regs h)
  exact .ite h (.ite (.raise h.of_regs) h2.raise)

theorem withPst {p : PstSt} : Railed H b { t with pst := p } := h.of_regs
theorem setLat : Railed H b t.setLat := h.of_regs
theorem sampleGpio : Railed H b t.sampleGpio := h.of_regs

theorem slotStart : Railed H b t.slotStart := h.withPst

theorem slotUpdate : Railed H b t.slotUpdate := (h.slotStart.steady (.loadCompares (.refl _))).withPst

end Railed

/-- The state in which phase 0 of a tick begins. -/
def State.edged (s : State) (num : Word) (edge : LineTime) (synth : Bool) : State :=
  { s with
    lt := edge
    tck := { s.tck with
      state := if synth then .holdover else .run, synth := synth, now := num, edge := edge, inTick := true, phase := 0
      pend := if synth then s.tck.pend else none, ran := true, step := 0, evals := 0 }
    cpu := { s.cpu with parked := true, ovrThis := false }
    adc := { s.adc with slot := 0 } }

/-- What phase 0 leaves. -/
theorem railed_phase0 {H : Nat → Prop} (s : State) (num : Word) (edge : LineTime) (synth : Bool) (gates : Nat) (gpio : List (Option Bool)) :
    Railed H (s.edged num edge synth) (s.phase0 num edge synth gates gpio) := by
  unfold State.phase0
  extract_lets resync _ _ _ _ _ _ s1 s2 s3 s4
  have h1 : Railed H (s.edged num edge synth) s1 := ⟨rfl, fun _ _ _ => rfl⟩
  have h2 : Railed H (s.edged num edge synth) (s2.closePages.presentAll) := h1.steady (.presentAll (.closePages (.raiseIf (.refl s1))))
  have h4 : Railed H (s.edged num edge synth) s4 := h2.twinEdge.setLat.sampleGpio
  have settle {t : State} (k : Railed H (s.edged num edge synth) t) : Railed H (s.edged num edge synth) t.settleOut := k.steady (.settleOut (.refl t))
  exact .ite (settle h4) (settle (.slotUpdate h4.relEval.withPst))

end Sys2Proof.Machine

namespace Sys2Proof.Machine

/-! ## Commits on the rail of an edge -/

namespace Railed
variable {H : Nat → Prop} {b t : State} (h : Railed H b t)
include h

theorem ended {s u : State} (e : Ended s t u) : Railed H b u :=
  ⟨(congrArg Spine.rail (spine_of_calm e.calms.calm :)).trans h.rail, fun a hH ha => (e.rd (heldReg_settle ha)).trans (h.rd a hH ha)⟩

/-- The same write on both sides. -/
theorem wr {a : Nat} {v : Word} : Railed H (b.wr a v) (t.wr a v) :=
  ⟨h.rail, fun c hH hc => by
    by_cases e : c = a
    · rw [e, State.rd_wr_self, State.rd_wr_self]
    · rw [State.rd_wr_ne _ _ e, State.rd_wr_ne _ _ e, h.rd c hH hc]⟩

/-- The same field of a register of `H` on both sides. -/
theorem setF {a lo w n : Nat} (hH : H a) (ha : heldReg a = true := by decide) : Railed H (b.setF a lo w n) (t.setF a lo w n) := by
  unfold State.setF
  rw [h.rd a hH ha]
  exact h.wr

/-- The commit at an edge, with no value in the shadows or no register looked at. -/
theorem commitEdge (hs : b.shadow = [] ∨ ∀ a, ¬ H a) : Railed H b.unshadowed t.commitEdge := by
  have k : Railed H b.unshadowed t.unshadowed := ⟨congrArg (fun q : Spine => { q with shadow := [], acts := [] }) h.rail, h.rd⟩
  rcases hs with hs | hs
  · exact k.steady (steady_commitEdge (h.shadow.trans hs))
  · exact ⟨(congrArg Spine.rail (spine_commitEdge t)).trans k.rail, fun a hH => absurd hH (hs a)⟩

theorem withSeq {q : SeqSt} : Railed H b { t with seq := q } := h.of_regs
theorem settleOut : Railed H b t.settleOut := h.steady (.settleOut (.refl t))

end Railed

/-! ## Holdover -/

theorem exec_holdoverEntry (s : State) : exec .holdoverEntry s = s.done s.holdoverEntry := rfl
theorem exec_holdoverExhausted (s : State) : exec .holdoverExhausted s = s.done s.holdoverEnd := rfl
theorem exec_syntheticTick (s : State) (gates : Nat) (gpio : List (Option Bool)) : exec (.syntheticTick gates gpio) s = s.done (s.synthTick gates gpio) := rfl

theorem Steady.coastPark {N : Nat → Prop} {s t : State} (h : Steady N s t) : Steady N s t.coastPark := by
  unfold State.coastPark
  extract_lets on free s1
  exact .ite h.raiseIf.stageSafe h.raiseIf

theorem Steady.dropSp {N : Nat → Prop} {s t : State} (h : Steady N s t) {num : Word} : Steady N s (t.dropSp num) := by
  unfold State.dropSp
  split
  · exact h
  · exact .ite h.dropStaged h

/-- The state that the entry to HOLDOVER makes of `s` before its event. -/
def State.coasting (s : State) : State :=
  { s with lt := s.tck.edge + BitVec.ofNat 48 s.periodLt - 400#48, tck := { s.tck with state := .holdover, e1 := s.tck.edge + BitVec.ofNat 48 s.periodLt } }

theorem holdoverEntry_enters {s : State} (hs : s.tck.state = .run) (hp : s.tck.pend = none) (hb : s.bench = false) :
    s.holdoverEntry = ((s.coasting.wr R.TCK_HCOUNT 0#32).raise P.TCK 3).settleOut := if_neg (by simp [hs, hp, hb])

/-- The entry to HOLDOVER (R60). -/
theorem holdover_begins {s : State} (hs : s.tck.state = .run) (hp : s.tck.pend = none) (hb : s.bench = false) :
    ∃ u, exec .holdoverEntry s = .next u ∧ u.tck.state = .holdover ∧ u.tck.e1 = s.tck.edge + BitVec.ofNat 48 s.periodLt ∧
      u.lt = s.tck.edge + BitVec.ofNat 48 s.periodLt - 400#48 ∧ u.rd R.TCK_HCOUNT = 0#32 ∧ u.bit (rEVT P.TCK) 3 = true ∧ u.tck.now = s.tck.now := by
  have k : Steady noNode (s.coasting.wr R.TCK_HCOUNT 0#32) s.holdoverEntry := by
    rw [holdoverEntry_enters hs hp hb]; exact (Steady.refl _).raise.settleOut
  have hevt : s.holdoverEntry.bit (rEVT P.TCK) 3 = true := by
    rw [holdoverEntry_enters hs hp hb]; exact (Steady.refl (N := noNode) _).settleOut.evt _ _ (bit_raise _ _ _ (by decide))
  rw [exec_holdoverEntry]
  refine done_of fun u e => ⟨?_, ?_, ?_, ?_, e.evt hevt, ?_⟩
  · rw [e.tck_state, spine_state k.spine]; rfl
  · rw [e.tck_e1, spine_e1 k.spine]; rfl
  · rw [e.lt, spine_lt k.spine]; rfl
  · rw [e.rd (by decide), k.rd _ (by decide)]; exact State.rd_wr_self ..
  · rw [e.tck_now, spine_now k.spine]; rfl

/-- The end of a holdover (R61). -/
theorem holdover_ends {s : State} (hi : s.tck.inTick = false) (hx : s.exhausted = true) :
    ∃ u, exec .holdoverExhausted s = .next u ∧ u.tck.state = .safe ∧ u.tck.inTick = false ∧ u.pst.rel = false ∧ u.bit (rFLT P.TCK) 0 = true ∧ u.bit (rEVT P.TCK) 5 = true := by
  have hs : s.tck.state = .holdover := by
    simp only [State.exhausted, Bool.and_eq_true, beq_iff_eq] at hx; exact hx.1.1
  have k := enterSafe_spec (s := { s with lt := s.coastEdge (s.fd R.TCK_HCOUNT 0 7) }) (by simp [State.direct, hs]) (s.tck.safeReq ++ [1])
  rw [exec_holdoverExhausted, show s.holdoverEnd = _ from if_neg (by simp [hi, hx])]
  have c := (Steady.refl (N := noNode) (({ s with lt := s.coastEdge (s.fd R.TCK_HCOUNT 0 7) } : State).enterSafe (s.tck.safeReq ++ [1]))).settleOut
  refine done_of fun u e => ⟨?_, ?_, e.rel (c.rel k.rel), e.flt (c.flt _ _ (k.flt 1 (by simp))), e.evt (c.evt _ _ k.evt)⟩
  · rw [e.tck_state, spine_state c.spine, k.state]
  · rw [e.tck_inTick, spine_inTick c.spine, k.inTick]

/-- Every register is looked at. -/
abbrev allRegs : Nat → Prop := fun _ => True

/-- The state whose rail a synthetic tick of number `num` and edge `edge` has after phase 0, its place counted. -/
def State.synthBase (s : State) (num : Word) (edge : LineTime) (n : Nat) : State := (s.edged num edge true).setF R.TCK_HCOUNT 0 7 n

/-- What a synthetic tick leaves (R62). -/
theorem synthTick_railed {s : State} (gates : Nat) (gpio : List (Option Bool)) (hs : s.tck.state = .holdover) (hi : s.tck.inTick = false)
    (hk : s.fd R.TCK_HCOUNT 0 7 < s.synthMax) (hp : s.pendAt (s.coastEdge (s.fd R.TCK_HCOUNT 0 7)) = false) (h0 : s.shadow = []) :
    ∃ b, Railed allRegs b (s.synthTick gates gpio) ∧ b.rd R.TCK_HCOUNT = setFld (s.rd R.TCK_HCOUNT) 0 7 (s.fd R.TCK_HCOUNT 0 7 + 1) ∧ b.tck.phase = 63 ∧
      b.tck.state = .holdover ∧ b.tck.synth = true ∧ b.tck.now = s.tck.now + 1#32 ∧ b.tck.edge = s.coastEdge (s.fd R.TCK_HCOUNT 0 7) ∧ b.tck.pend = s.tck.pend ∧
      b.tck.inTick = true ∧ b.cpu.parked = true := by
  unfold State.synthTick
  extract_lets k num s1 s2 s3 s4 s5 s6 _ s7 s8
  have k1 : Railed allRegs (s.edged num (s.coastEdge k) true) s1 := railed_phase0 ..
  have k2 : Railed allRegs (s.synthBase num (s.coastEdge k) (k + 1)) s2 := k1.setF trivial
  have k3 : Railed allRegs (s.synthBase num (s.coastEdge k) (k + 1)) s3 := .ite (k2.steady (.coastPark (.refl s2))) k2
  have k4 := (((k3.reach (p := 1) rfl rfl).commitEdge (.inl h0)).reach (p := 8) rfl rfl).steady (.dropSp (.refl _) (num := num))
  have k5 := k4.reach (p := 48) rfl rfl
  have k6 := k5.steady (.arbitrateAll (.refl s5))
  have k7 := Railed.ite (c := s6.seq.state = 2 ∨ s6.seq.state = 3) (k6.withSeq (q := { s6.seq with syn := true })) k6
  have k8 := Railed.ite (c := s5.frozen = true) k5 (k7.steady (.latchTargets (.refl s7)))
  obtain ⟨n, -, k9⟩ := k8.phase56 rfl rfl
  rw [if_neg (by simp [k, hs, hi, hk, hp])]
  exact ⟨_, k9.settleOut, State.rd_wr_self .., rfl, rfl, rfl, rfl, rfl, rfl, rfl, rfl⟩

/-- A synthetic tick (R62). -/
theorem synthetic {s : State} (gates : Nat) (gpio : List (Option Bool)) (hs : s.tck.state = .holdover) (hi : s.tck.inTick = false)
    (hk : s.fd R.TCK_HCOUNT 0 7 < s.synthMax) (hp : s.pendAt (s.coastEdge (s.fd R.TCK_HCOUNT 0 7)) = false) (h0 : s.shadow = []) :
    ∃ u, exec (.syntheticTick gates gpio) s = .next u ∧ u.tck.state = .holdover ∧ u.tck.synth = true ∧ u.tck.now = s.tck.now + 1#32 ∧
      u.tck.edge = s.coastEdge (s.fd R.TCK_HCOUNT 0 7) ∧ u.tck.pend = s.tck.pend ∧ u.tck.inTick = true ∧ u.tck.phase = 63 ∧
      u.fd R.TCK_HCOUNT 0 7 = s.fd R.TCK_HCOUNT 0 7 + 1 ∧ u.cpu.parked = true := by
  obtain ⟨b, k, hcount, phase, state, synth, now, edge, pend, inTick, parked⟩ := synthTick_railed gates gpio hs hi hk hp h0
  have fits : s.fd R.TCK_HCOUNT 0 7 + 1 < 2 ^ 7 := by
    have : s.fd R.TCK_HOLD 0 7 < 2 ^ 7 := Nat.mod_lt _ (by decide)
    have : s.synthMax ≤ s.fd R.TCK_HOLD 0 7 := min_le_left ..
    omega
  rw [exec_syntheticTick]
  refine done_of fun u e => ?_
  have k := k.ended e
  refine ⟨k.state.trans state, k.synth.trans synth, k.now.trans now, k.edge.trans edge, k.pend.trans pend, k.inTick.trans inTick, k.phase.trans phase, ?_,
    (congrArg CpuSt.parked k.cpu).trans parked⟩
  rw [State.fd, k.rd _ trivial (by decide), hcount, fld_setFld _ (by decide), Nat.mod_eq_of_lt fits]

/-- Settles O17: the entry and the end of HOLDOVER by what settles after them, a synthetic tick by the rail its phases keep. -/
theorem holdover : Obligations.Holdover := by
  refine ⟨fun s => ⟨holdover_begins, fun h => ?_, holdover_ends⟩, fun s gates gpio => synthetic gates gpio⟩
  rw [exec_holdoverEntry, show s.holdoverEntry = s from if_pos h]
  exact done_of fun u e => e

end Sys2Proof.Machine

namespace Sys2Proof.Machine

/-! ## The edge of an authorised tick -/

theorem exec_tickEdge (s : State) (gates : Nat) (gpio : List (Option Bool)) : exec (.tickEdge gates gpio) s = s.done (if s.awake then s.tickEdge gates gpio else s) := rfl

/-- No register is looked at. -/
abbrev noRegs : Nat → Prop := fun _ => False

/-- The set-point block of a tick moves registers alone. -/
theorem Railed.commitSp {b t : State} (h : Railed noRegs b t) {num : Word} : Railed noRegs b (t.commitSp num) := by
  have writes (l : List Word) (t : State) (a : Nat) (k : Railed noRegs b t) :
      Railed noRegs b (l.foldl (fun (p : State × Nat) w => (p.1.wr p.2 w, p.2 + 4)) (t, a)).1 := by
    induction l generalizing t a with
    | nil => exact k
    | cons w l ih => exact ih _ _ ⟨k.rail, fun _ hH => hH.elim⟩
  unfold State.commitSp
  split
  · exact h
  · extract_lets _ s1
    have h1 : Railed noRegs b s1 := h.of_regs
    exact .ite h (.ite h1 (writes _ _ _ h1))

/-- An authorised tick that no bench stepping drives authorises no other. -/
theorem stepNext_same {s : State} (h : s.mon.stepping = false) : s.stepNext = s := if_pos (by simp [h])

/-- The core as an edge finds it: parked, with no window of this tick open past its budget. -/
def CpuSt.atEdge (c : CpuSt) : CpuSt := { c with parked := true, ovrThis := false }

/-- What the edge of an authorisation leaves (R22, R46, R57, R58). -/
theorem tickEdge_railed {s : State} {a : Auth} (gates : Nat) (gpio : List (Option Bool)) (hp : s.tck.pend = some a) (hs : s.tck.state = .armed ∨ s.ticking = true)
    (hi : s.tck.inTick = false) (hq : s.cyc.cmdq = []) (hm : s.mon.stepping = false) :
    ∃ b, Railed noRegs b (s.tickEdge gates gpio) ∧ b.tck.state = .run ∧ b.tck.now = a.num ∧ b.tck.edge = a.edge ∧ b.lt = a.edge ∧ b.tck.inTick = true ∧ b.tck.synth = false ∧
      b.tck.phase = 63 ∧ b.tck.step = 0 ∧ b.tck.evals = 0 ∧ b.tck.pend = none ∧ 256 ≤ b.tck.budget ∧ b.cpu = s.cpu.atEdge ∧ b.adc.slot = 0 ∧
      b.shadow = [] := by
  unfold State.tickEdge
  simp only [hp]
  have k0 : Railed noRegs (s.edged a.num a.edge false) (s.phase0 a.num a.edge false gates gpio) := railed_phase0 ..
  rw [if_neg (by rcases hs with hs | hs <;> simp [hs, hi]), stepNext_same (by rw [k0.mon]; exact hm), show (s.phase0 a.num a.edge false gates gpio).cyc.cmdq = [] from k0.cmdq.trans hq]
  generalize s.phase0 a.num a.edge false gates gpio = s1 at k0
  have k1 := ((((k0.reach (p := 1) rfl rfl).commitEdge (.inr fun _ => id)).reach (p := 8) rfl rfl).commitSp (num := a.num)).reach (p := 48) rfl rfl
  rw [show min 32 ([] : List Cmd).length = 0 from rfl, State.execQueue]
  generalize State.reach _ 48 = s2 at k1
  have k3 := Railed.ite (c := (s2.frozen || !s2.ticking) = true) k1 (k1.steady (.latchTargets (.seqStep (.phase48 (.refl s2)))))
  obtain ⟨n, hn, k4⟩ := k3.phase56 rfl rfl
  generalize (if (s2.frozen || !s2.ticking) = true then s2 else s2.phase48.seqStep.latchTargets) = s3 at k3 k4
  have running : s3.ticking = true := k3.ticking
  rw [if_pos running]
  exact ⟨_, k4.settleOut, rfl, rfl, rfl, rfl, rfl, rfl, rfl, rfl, rfl, rfl, hn, rfl, rfl, rfl⟩

/-- Settles O15: phases 0 to 63 keep the rail of the edge, which the commits, the sequencer's step and the budget move. -/
theorem tickEdge : Obligations.TickEdge := by
  intro s gates gpio ha
  rw [exec_tickEdge, if_pos ha]
  refine ⟨fun a hp hs hi hq hm => ?_, fun hp => ?_⟩
  · obtain ⟨b, k, state, now, edge, lt, inTick, synth, phase, step, evals, pend, budget, cpu, slot, shadow⟩ := tickEdge_railed gates gpio hp hs hi hq hm
    refine done_of fun u e => ?_
    have k := k.ended e
    have hc := k.cpu.trans cpu
    exact ⟨k.state.trans state, k.now.trans now, k.edge.trans edge, k.lt.trans lt, k.inTick.trans inTick, k.synth.trans synth, k.phase.trans phase, k.step.trans step,
      k.evals.trans evals, k.pend.trans pend, by rw [k.budget]; exact budget, congrArg CpuSt.parked hc, k.slot.trans slot, k.shadow.trans shadow, (congrArg CpuSt.gpr hc :),
      (congrArg CpuSt.pc hc :)⟩
  · rw [show s.tickEdge gates gpio = s by unfold State.tickEdge; rw [hp]]
    exact done_of fun u e => e

end Sys2Proof.Machine

namespace Sys2Proof.Machine

/-! ## Stage 1: what it makes of the nodes -/

/-- A change of the nodes alone. -/
def NodesOnly (s t : State) : Prop := ∃ ns, t = { s with ctl := { s.ctl with nodes := ns } }

namespace NodesOnly
variable {s t : State}

theorem refl (s : State) : NodesOnly s s := ⟨s.ctl.nodes, rfl⟩

theorem setNode (h : NodesOnly s t) {n : Nat} {v : Int} : NodesOnly s (t.setNode n v) := by
  obtain ⟨ns, rfl⟩ := h
  exact ⟨_, rfl⟩

theorem putNode (h : NodesOnly s t) {n : Nat} {v : Int} : NodesOnly s (t.putNode n v) := h.setNode

theorem foldl {α : Type} {f : State → α → State} (hf : ∀ t x, NodesOnly s t → NodesOnly s (f t x)) (l : List α) {t : State} (h : NodesOnly s t) : NodesOnly s (l.foldl f t) := by
  induction l generalizing t with
  | nil => exact h
  | cons x l ih => exact ih (hf t x h)

theorem steady (h : NodesOnly s t) : Steady noNode s t := by
  obtain ⟨ns, rfl⟩ := h
  exact ⟨rfl, fun _ h => h.elim, fun _ _ => rfl, fun _ _ => id, fun _ _ => id, id⟩

theorem rd (h : NodesOnly s t) (a : Nat) : t.rd a = s.rd a := by
  obtain ⟨ns, rfl⟩ := h; rfl

theorem injAdd (h : NodesOnly s t) (n : Nat) (v : Int) : t.injAdd n v = s.injAdd n v := by
  obtain ⟨ns, rfl⟩ := h; rfl

end NodesOnly

/-- Set-points become nodes 0x20 to 0x2F with what is injected there (R564). -/
def State.setPoints (s : State) (m : Nat) : State := (List.range m).foldl (fun (s : State) i => s.putNode (0x20 + i) (s.rd (R.CTL_SP0 + 4 * i)).toInt) s

theorem nodesOnly_setPoints {s t : State} (h : NodesOnly s t) (m : Nat) : NodesOnly s (t.setPoints m) := .foldl (fun _ _ k => k.putNode) _ h

theorem node_setPoints {s t : State} (h : NodesOnly s t) (m : Nat) {i : Nat} (hi : i < m) : (t.setPoints m).node (0x20 + i) = s.injAdd (0x20 + i) (s.rd (R.CTL_SP0 + 4 * i)).toInt := by
  induction m with
  | zero => omega
  | succ m ih =>
    have k := nodesOnly_setPoints h m
    have e : t.setPoints (m + 1) = (t.setPoints m).putNode (0x20 + m) ((t.setPoints m).rd (R.CTL_SP0 + 4 * m)).toInt := by
      unfold State.setPoints; rw [List.range_succ, List.foldl_concat]
    rw [e, State.putNode, node_setNode]
    by_cases him : i = m
    · rw [if_pos (by omega), him, k.rd, k.injAdd]
    · rw [if_neg (by omega)]; exact ih (by omega)

theorem stage1_eq (s : State) : ∃ t, NodesOnly s t ∧ s.stage1 = t.setPoints 16 := by
  unfold State.stage1
  extract_lets s1 ch s2 s3 s4
  have h1 : NodesOnly s s1 := .foldl (fun _ _ k => k.setNode) _ (.refl s)
  have hch {t : State} (k : NodesOnly s t) (c : Nat) : NodesOnly s (ch t c) := k.putNode.putNode.setNode.setNode.setNode.setNode
  have h4 : NodesOnly s s4 := .foldl (fun _ _ k => k.putNode) _ ((hch (hch h1 0) 1).setNode.setNode)
  exact ⟨s4, h4, rfl⟩

/-! ## Loops that are off -/

/-- The nodes of a loop are 0. -/
def State.loopZero (s : State) (n : Nat) : Prop := s.node (0x30 + n) = 0 ∧ s.node (0x38 + n) = 0

theorem loopEval_off {s : State} {n : Nat} (h : s.bit (rCTRL (P.LP n)) 0 = false) : (s.loopEval n).loopZero n := by
  unfold State.loopEval State.loopZero
  extract_lets x cfg inhib
  rw [if_pos (by simp [h]), node_setNode, node_setNode, node_setNode, if_neg (by omega), if_pos rfl, if_pos rfl]
  exact ⟨rfl, rfl⟩

theorem heldReg_lp : ∀ n < 8, heldReg (rCTRL (P.LP n)) = true := by decide

/-- The nodes of set-points and loops. -/
def spNode (n : Nat) : Prop := 0x20 ≤ n ∧ n < 0x30
def bandNode (n : Nat) : Prop := 0x20 ≤ n ∧ n < 0x40

theorem Steady.loops {N : Nat → Prop} {s : State} (hN : ∀ n, N n → n < 0x30) {l : List Nat} (hl : ∀ k ∈ l, k < 8) {t : State} (h : Steady N s t) : Steady N s (l.foldl State.loopEval t) :=
  h.foldl fun _ k hk kt => kt.loopEval (hl k hk) (fun c => absurd (hN _ c) (by omega)) (fun c => absurd (hN _ c) (by omega))

/-- A loop that is off leaves 0 in its nodes, whatever other loops run after it. -/
theorem loops_off {n : Nat} (hn : n < 8) (l : List Nat) (hl : ∀ k ∈ l, k < 8) {s : State} (hb : s.bit (rCTRL (P.LP n)) 0 = false) (h : n ∈ l ∨ s.loopZero n) :
    (l.foldl State.loopEval s).loopZero n := by
  induction l generalizing s with
  | nil => exact h.resolve_left (List.not_mem_nil)
  | cons k l ih =>
    have hk : k < 8 := hl k (.head l)
    refine ih (fun j hj => hl j (.tail k hj)) ?_ ?_
    · have k := (Steady.refl (N := noNode) s).loopEval hk id id
      rw [State.bit, k.rd _ (heldReg_lp n hn)]; exact hb
    · by_cases e : n = k
      · exact .inr (e ▸ loopEval_off hb)
      · refine h.imp (fun m => (List.mem_cons.mp m).resolve_left e) fun z => ?_
        have st := (Steady.refl (N := fun j => j = 0x30 + n ∨ j = 0x38 + n) s).loopEval hk (by omega) (by omega)
        exact ⟨(st.node _ (.inl rfl)).trans z.1, (st.node _ (.inr rfl)).trans z.2⟩

/-! ## The evaluation -/

theorem exec_engineEvaluation (s : State) : exec .engineEvaluation s = s.done s.engineTick := rfl

/-- An evaluation up to the loops. -/
def State.toLoops (s : State) : State := (s.stage1.stage2).stage3

/-- An evaluation from the loops to the level writes. -/
def State.toWrites (s : State) : State :=
  let s := (List.range 8).foldl State.loopEval s
  let s := s.groupsEval
  let r := s.stage6
  let s := (r.1.rptLearn 0).rptLearn 1
  let s := s.trcEval
  let s := s.dutyWrites r.2
  let s := (s.compliance 0 (s.inComp 0)).compliance 1 (s.inComp 1)
  (s.levelWrite 0).levelWrite 1

/-- CTL.PVAL takes the value of the node PROBE names (R565). -/
def State.probe (s : State) : State := s.wr R.CTL_PVAL (wdI (s.node (s.fd R.CTL_PROBE 0 8)))

theorem node_probe (s : State) (n : Nat) : s.probe.node n = s.node n := rfl
theorem spine_probe (s : State) : s.probe.spine = s.spine := rfl

theorem pval_probe (s : State) : s.probe.rd R.CTL_PVAL = wdI (s.probe.node (s.probe.fd R.CTL_PROBE 0 8)) := by
  rw [node_probe, State.probe, State.rd_wr_self, State.fd, State.fd, State.rd_wr_ne _ _ (by decide)]

/-- What ends an evaluation. -/
def State.evalEnd (s : State) : State :=
  let s := (s.rangeStep 0).rangeStep 1
  { s with ctl := { s.ctl with wasDrive := s.pst.out == .drive, binW := [] } }

theorem evaluate_eq (s : State) : s.evaluate = s.toLoops.toWrites.probe.evalEnd := rfl

theorem band_lt {n : Nat} (h : bandNode n) : n < 0x40 := h.2

theorem toLoops_steady (s : State) : Steady bandNode s.stage1 s.toLoops := ((Steady.refl s.stage1).stage2 fun _ => band_lt).stage3 fun _ => band_lt

theorem toWrites_steady (s : State) : Steady bandNode ((List.range 8).foldl State.loopEval s) s.toWrites := by
  unfold State.toWrites
  extract_lets s1 s2 r s3 s4 s5 s6
  have h6 : Steady bandNode s1 s6 := .compliance (.compliance (.dutyWrites (.trcEval (.rptLearn (.rptLearn (((Steady.refl s1).groupsEval fun _ => band_lt).stage6 fun _ => band_lt))))))
  exact (h6.levelWrite (by decide)).levelWrite (by decide)

theorem Steady.evalEnd {N : Nat → Prop} {s t : State} (h : Steady N s t) : Steady N s t.evalEnd := by
  unfold State.evalEnd
  extract_lets s1
  have h1 : Steady N s s1 := (h.rangeStep (by decide)).rangeStep (by decide)
  clear_value s1
  exact h1.trans .of_regs

/-- What an evaluation keeps of the spine, and what it leaves in nodes and CTL.PVAL. -/
structure Evaluated (s t : State) : Prop where
  spine : t.spine = s.spine
  pval : t.rd R.CTL_PVAL = wdI (t.node (t.fd R.CTL_PROBE 0 8))
  sp : ∀ i, i < 16 → t.node (0x20 + i) = s.injAdd (0x20 + i) (s.rd (R.CTL_SP0 + 4 * i)).toInt
  off : ∀ n, n < 8 → s.bit (rCTRL (P.LP n)) 0 = false → t.loopZero n

/-- Every node. -/
abbrev allNodes : Nat → Prop := fun _ => True

theorem Evaluated.steady {s t u : State} (h : Evaluated s t) (k : Steady allNodes t u) : Evaluated s u where
  spine := k.spine.trans h.spine
  pval := by rw [State.fd, k.rd _ (by decide), k.rd _ (by decide), k.node _ trivial]; exact h.pval
  sp i hi := (k.node _ trivial).trans (h.sp i hi)
  off n hn hb := ⟨(k.node _ trivial).trans (h.off n hn hb).1, (k.node _ trivial).trans (h.off n hn hb).2⟩

theorem evaluate_spec (s : State) : Evaluated s s.evaluate := by
  obtain ⟨t, k1, e1⟩ := stage1_eq s
  have n1 : NodesOnly s s.stage1 := e1 ▸ nodesOnly_setPoints k1 16
  have k2 := toLoops_steady s
  have k3 : Steady spNode s.toLoops ((List.range 8).foldl State.loopEval s.toLoops) := (Steady.refl _).loops (fun _ h => h.2) (fun _ => List.mem_range.mp)
  have k4 := toWrites_steady s.toLoops
  have hs := (k4.spine.trans k3.spine).trans (k2.spine.trans n1.steady.spine)
  have base : Evaluated s s.toLoops.toWrites.probe := by
    refine ⟨(spine_probe _).trans hs, pval_probe _, fun i hi => ?_, fun n hn hb => ?_⟩
    · rw [node_probe, k4.node _ ⟨by omega, by omega⟩, k3.node _ ⟨by omega, by omega⟩, k2.node _ ⟨by omega, by omega⟩, e1, node_setPoints k1 16 hi]
    · have hb' : s.toLoops.bit (rCTRL (P.LP n)) 0 = false := by
        rw [State.bit, k2.rd _ (heldReg_lp n hn), n1.rd]; exact hb
      obtain ⟨ho, he⟩ := loops_off hn (List.range 8) (fun _ => List.mem_range.mp) hb' (.inl (List.mem_range.mpr hn))
      unfold State.loopZero
      rw [node_probe, node_probe, k4.node _ ⟨by omega, by omega⟩, k4.node _ ⟨by omega, by omega⟩]
      exact ⟨ho, he⟩
  rw [evaluate_eq]
  exact base.steady (.evalEnd (.refl _))

/-- The state in which an evaluation that is due begins: at its phase, the slot counted (R55). -/
def State.evalBase (s : State) : State :=
  let s := s.toPhase (max s.tck.phase ((s.adc.slot - 1) * s.slotLen + s.fd R.TCK_STROBE 0 18 + s.latency))
  { s with tck := { s.tck with evals := s.adc.slot }, ctl := { s.ctl with binW := s.ctl.binW.filter fun e => decide (s.tck.phase ≤ e.2 + 32) } }

theorem engineTick_due {s : State} (hd : s.evalDue = true) (hf : s.frozen = false) : s.engineTick = (s.evalBase.evaluate.seqComp.unagHold).settleOut := by
  have hi : s.ticking = true ∧ s.tck.inTick = true := by
    simp only [State.evalDue, Bool.and_eq_true] at hd; exact hd.1.1.1
  have e : s.atPhase ((s.adc.slot - 1) * s.slotLen + s.fd R.TCK_STROBE 0 18 + s.latency) = s.toPhase (max s.tck.phase ((s.adc.slot - 1) * s.slotLen + s.fd R.TCK_STROBE 0 18 + s.latency)) :=
    if_pos (by simp [hi])
  unfold State.engineTick
  rw [if_neg (by simp [hd]), e]
  have hb : ¬ s.evalBase.frozen = true := by
    change ¬ s.frozen = true
    simp [hf]
  exact if_neg hb

theorem Steady.seqComp {N : Nat → Prop} {s t : State} (h : Steady N s t) : Steady N s t.seqComp := .ite (h.trans .of_regs) h
theorem Steady.unagHold {N : Nat → Prop} {s t : State} (h : Steady N s t) : Steady N s t.unagHold := .ite (h.trans .of_regs) h

/-- Settles O19: set-points and loops' nodes by the stages that write no others, CTL.PVAL by what follows its write. -/
theorem engineEvaluation : Obligations.EngineEvaluation := by
  intro s hd hf
  rw [exec_engineEvaluation, engineTick_due hd hf]
  have k := (evaluate_spec s.evalBase).steady (.settleOut (.unagHold (.seqComp (.refl _))))
  refine done_of fun u e => ?_
  have k := k.steady (.of_calms e.calms)
  exact ⟨(spine_phase k.spine :), (spine_evals k.spine :), k.pval, (spine_vals k.spine :), (spine_cpu k.spine :), k.sp, k.off⟩

end Sys2Proof.Machine

namespace Sys2Proof.Machine

/-! ## Bytes after a store -/

/-- A write of `w` bytes leaves in each of them its part of the number. -/
theorem rdB_wrN_in (s : State) (a v w b : Nat) (h : a ≤ b ∧ b < a + w) : (s.wrN a v w).rdB b = BitVec.ofNat 8 (v / 256 ^ (b - a)) := by
  induction w generalizing s a v with
  | zero => omega
  | succ w ih =>
    rw [State.wrN]
    by_cases e : b = a
    · rw [State.rdB_wrN _ _ _ _ _ (.inl (by omega)), State.rdB_wrB, if_pos e, e, Nat.sub_self, Nat.pow_zero, Nat.div_one]
    · rw [ih _ _ _ ⟨by omega, by omega⟩, Nat.div_div_eq_div_mul, ← Nat.pow_succ', show (b - (a + 1)).succ = b - a by omega]

/-- A byte of a word. -/
theorem ofNat_div_eq_extract (v : Word) (k : Nat) : BitVec.ofNat 8 (v.toNat / 256 ^ k) = v.extractLsb' (8 * k) 8 := by
  refine BitVec.eq_of_toNat_eq ?_
  rw [BitVec.extractLsb'_toNat, BitVec.toNat_ofNat, Nat.shiftRight_eq_div_pow, Nat.pow_mul]

/-- The twin's record of a store is kept with the pair. -/
theorem note_eq (s : State) (w a : Nat) (d : Word) (cls : Nat) : ∃ x, s.note w a d cls = { s with twn := x } := by
  have dirty (t : State) (p : Nat) : ∃ x, t.markDirty p = { t with twn := x } := by
    unfold State.markDirty; split_ifs
    · exact ⟨_, rfl⟩
    · exact ⟨_, rfl⟩
    · exact ⟨t.twn, rfl⟩
  unfold State.note
  extract_lets t
  split_ifs
  · split
    · obtain ⟨x, e⟩ := dirty (t s) ‹_›
      exact ⟨x, by rw [e]; rfl⟩
    · exact ⟨_, rfl⟩
  · split
    · obtain ⟨x, e⟩ := dirty (t s) ‹_›
      exact ⟨x, by rw [e]; rfl⟩
    · exact ⟨s.twn, rfl⟩
  · exact ⟨s.twn, rfl⟩

theorem wrN_eq (s : State) (a v w : Nat) : s.wrN a v w = { s with mem := (s.wrN a v w).mem } := by
  induction w generalizing s a v with
  | zero => rfl
  | succ w ih => rw [State.wrN, ih]; rfl

/-- What a store to memory makes of the state: memory, its check bits and parity, the bytes of phase 63 and the twin's record. -/
theorem memStore_eq (s : State) (a w : Nat) (v : Word) (hc : inCarrier a = false) :
    ∃ x pb ps, s.memStore a w v =
      { s with
        mem := (s.wrN a v.toNat w).mem, bad := if w = 4 then Sparse.erase s.bad (a - a % 4) else s.bad, parBad := pb, parSet := ps
        snapB := (List.range w).foldl (fun l i => Sparse.erase l (a + i)) s.snapB, twn := x } := by
  unfold State.memStore
  rw [hc]
  unfold State.putMem
  extract_lets v' s1 s2 s3
  have h1 : s1 = { s with mem := (s.wrN a v.toNat w).mem, snapB := (List.range w).foldl (fun l i => Sparse.erase l (a + i)) s.snapB } := by
    unfold s1
    have m : ∀ (w v a : Nat) (s : State) (l : List (Nat × Byte)), (({ s with snapB := l } : State).wrN a v w) = { s with mem := (s.wrN a v w).mem, snapB := l } := by
      intro w
      induction w with
      | zero => intros; rfl
      | succ w ih => intro v a s l; exact ih (v / 256) (a + 1) (s.wrB a (BitVec.ofNat 8 v)) l
    exact m w v.toNat a s _
  have h2 : s2 = { s1 with bad := if w = 4 then Sparse.erase s.bad (a - a % 4) else s.bad } := by
    unfold s2; rw [h1]; split_ifs <;> rfl
  have h3 : ∃ pb ps, s3 = { s2 with parBad := pb, parSet := ps } := by
    unfold s3; split_ifs
    · exact ⟨_, _, rfl⟩
    · exact ⟨s2.parBad, s2.parSet, rfl⟩
  obtain ⟨pb, ps, h3⟩ := h3
  obtain ⟨x, e⟩ := note_eq s3 w a (wd (v'.toNat % 2 ^ (8 * w))) 2
  exact ⟨x, pb, ps, by rw [e, h3, h2, h1]⟩

/-- A byte after a store. -/
def storedByte (a w : Nat) (v : Word) (old : Nat → Byte) (b : Nat) : Byte := if a ≤ b ∧ b < a + w then v.extractLsb' (8 * (b - a)) 8 else old b

theorem rdB_memStore (s : State) {a : Nat} (w : Nat) (v : Word) (hc : inCarrier a = false) (b : Nat) : (s.memStore a w v).rdB b = storedByte a w v s.rdB b := by
  obtain ⟨x, pb, ps, e⟩ := memStore_eq s a w v hc
  have m : (s.memStore a w v).rdB b = (s.wrN a v.toNat w).rdB b := by
    rw [e, wrN_eq s a v.toNat w]; rfl
  unfold storedByte
  rw [m]
  split_ifs with h
  · rw [rdB_wrN_in _ _ _ _ _ h, ofNat_div_eq_extract]
  · exact State.rdB_wrN _ _ _ _ _ (by omega)

theorem find_eraseRange (l : List (Nat × Byte)) (a w b : Nat) :
    Sparse.find ((List.range w).foldl (fun l i => Sparse.erase l (a + i)) l) b = if a ≤ b ∧ b < a + w then none else Sparse.find l b := by
  induction w with
  | zero => rw [if_neg (by omega)]; rfl
  | succ w ih =>
    rw [List.range_succ, List.foldl_concat, Sparse.find_erase, ih]
    by_cases e : b = a + w
    · rw [if_pos e, if_pos (by omega)]
    · rw [if_neg e]; exact if_congr (by omega) rfl rfl

/-- A core load finds what has been stored. -/
theorem coreB_memStore (s : State) {a : Nat} (w : Nat) (v : Word) (hc : inCarrier a = false) (b : Nat) : (s.memStore a w v).coreB b = storedByte a w v s.coreB b := by
  have hb := rdB_memStore s w v hc b
  obtain ⟨x, pb, ps, e⟩ := memStore_eq s a w v hc
  have ht : (s.memStore a w v).ticking = s.ticking := by rw [e]; rfl
  have hn : (s.memStore a w v).snapB = (List.range w).foldl (fun l i => Sparse.erase l (a + i)) s.snapB := by rw [e]
  unfold State.coreB storedByte
  rw [hb, ht, hn, find_eraseRange]
  unfold storedByte
  by_cases h : a ≤ b ∧ b < a + w
  · simp only [if_pos h]; cases s.ticking <;> rfl
  · simp only [if_neg h]

/-! ## Words -/

theorem toNat_append_byte {n : Nat} (x : BitVec n) (y : Byte) : (x ++ y).toNat = y.toNat + 256 * x.toNat := by
  rw [BitVec.toNat_append, ← Nat.shiftLeft_add_eq_or_of_lt y.isLt, Nat.shiftLeft_eq]
  omega

/-- A word of four bytes, the least significant first (R11). -/
theorem rdW_eq (s : State) (a : Nat) : s.rdW a = s.rdB (a + 3) ++ s.rdB (a + 2) ++ s.rdB (a + 1) ++ s.rdB a := by
  have e : s.rdN a 4 = (s.rdB (a + 3) ++ s.rdB (a + 2) ++ s.rdB (a + 1) ++ s.rdB a).toNat := by
    rw [toNat_append_byte, toNat_append_byte, toNat_append_byte]
    rfl
  rw [State.rdW, e, wd, BitVec.ofNat_toNat, BitVec.setWidth_eq]

/-- A word is its bytes. -/
theorem word_of_bytes (v : Word) : v.extractLsb' 24 8 ++ v.extractLsb' 16 8 ++ v.extractLsb' 8 8 ++ v.extractLsb' 0 8 = v := by
  refine BitVec.eq_of_toNat_eq ?_
  have h := v.isLt
  rw [toNat_append_byte, toNat_append_byte, toNat_append_byte]
  simp only [BitVec.extractLsb'_toNat, Nat.shiftRight_eq_div_pow]
  omega

/-- A word that has been stored. -/
theorem rdW_memStore (s : State) {a : Nat} (v : Word) (hc : inCarrier a = false) : (s.memStore a 4 v).rdW a = v := by
  have byte (k : Nat) (hk : k < 4) : (s.memStore a 4 v).rdB (a + k) = v.extractLsb' (8 * k) 8 := by
    rw [rdB_memStore s 4 v hc, storedByte, if_pos ⟨by omega, by omega⟩, Nat.add_sub_cancel_left]
  have h0 : (s.memStore a 4 v).rdB a = v.extractLsb' 0 8 := byte 0 (by decide)
  rw [rdW_eq, byte 3 (by decide), byte 2 (by decide), byte 1 (by decide), h0]
  exact word_of_bytes v

/-- Words stored from an address up (R409). -/
theorem storeWords_spec (l : List Word) (a : Nat) (hc : ∀ b, a ≤ b → b < a + 4 * l.length → inCarrier b = false) (s : State) :
    (∀ i, i < l.length → (s.storeWords l a).rdW (a + 4 * i) = l.getD i 0#32) ∧
      ∀ b, b < a ∨ a + 4 * l.length ≤ b → (s.storeWords l a).rdB b = s.rdB b := by
  induction l generalizing s a with
  | nil => exact ⟨fun i hi => absurd hi (Nat.not_lt_zero i), fun _ _ => rfl⟩
  | cons w l ih =>
    have ha : inCarrier a = false := hc a le_rfl (by simp)
    obtain ⟨ihw, ihb⟩ := ih (a + 4) (fun b hb hb' => hc b (by omega) (by simp only [List.length_cons]; omega)) (s.memStore a 4 w)
    simp only [List.length_cons, State.storeWords]
    refine ⟨fun i hi => ?_, fun b hb => ?_⟩
    · cases i with
      | zero =>
        have k (j : Nat) (hj : j < 4) := ihb (a + j) (.inl (by omega))
        have k0 : (State.storeWords l (a + 4) (s.memStore a 4 w)).rdB a = (s.memStore a 4 w).rdB a := k 0 (by decide)
        show (State.storeWords l (a + 4) (s.memStore a 4 w)).rdW a = w
        rw [rdW_eq, k 3 (by decide), k 2 (by decide), k 1 (by decide), k0, ← rdW_eq, rdW_memStore _ _ ha]
      | succ i =>
        rw [show a + 4 * (i + 1) = a + 4 + 4 * i by omega, ihw i (by omega)]
        rfl
    · rw [ihb b (by omega), rdB_memStore _ _ _ ha, storedByte, if_neg (by omega)]

/-- A store to memory leaves all but memory, its check bits and parity, the bytes of phase 63 and the twin's record. -/
theorem storeWords_eq (l : List Word) (a : Nat) (hc : ∀ b, a ≤ b → b < a + 4 * l.length → inCarrier b = false) (s : State) :
    ∃ m bd pb ps sb x, s.storeWords l a = { s with mem := m, bad := bd, parBad := pb, parSet := ps, snapB := sb, twn := x } := by
  induction l generalizing s a with
  | nil => exact ⟨s.mem, s.bad, s.parBad, s.parSet, s.snapB, s.twn, rfl⟩
  | cons w l ih =>
    obtain ⟨x, pb, ps, e⟩ := memStore_eq s a 4 w (hc a le_rfl (by simp))
    obtain ⟨m, bd, pb', ps', sb, x', e'⟩ := ih (a + 4) (fun b hb hb' => hc b (by omega) (by simp only [List.length_cons]; omega)) (s.memStore a 4 w)
    exact ⟨m, bd, pb', ps', sb, x', by rw [State.storeWords, e', e]⟩

end Sys2Proof.Machine

namespace Sys2Proof.Machine

/-! ## Core registers -/

theorem bank_lt (s : State) : s.bank < 18 := by
  unfold State.bank
  split_ifs <;> omega

/-- Registers have keys of their own. -/
theorem grKey_inj (s : State) {r q : Fin 16} (h : s.grKey r.val = s.grKey q.val) : r = q := by
  have b := bank_lt s
  unfold State.grKey at h
  refine Fin.ext ?_
  split_ifs at h <;> omega

/-- A register of the current bank after a write. -/
theorem gr_setGr (s : State) (r q : Fin 16) (v : Word) : (s.setGr r v).gr q = if q = r then (if r.val = 0 then 0#32 else v) else s.gr q := by
  unfold State.setGr
  by_cases hr : r.val = 0
  · rw [if_pos hr, if_pos hr]
    split_ifs with e
    · rw [e, State.gr, if_pos hr]
    · rfl
  · rw [if_neg hr, if_neg hr]
    have k : (s.setKey (s.grKey r.val) v).gr q = if q.val = 0 then 0#32 else (s.setKey (s.grKey r.val) v).key (s.grKey q.val) := rfl
    rw [k, State.key_setKey]
    by_cases e : q = r
    · rw [if_pos e, e, if_neg hr, if_pos rfl]
    · rw [if_neg e, if_neg fun h => e (grKey_inj s h)]; rfl

theorem setGr_eq (s : State) (r : Fin 16) (v : Word) : ∃ g, s.setGr r v = { s with cpu := { s.cpu with gpr := g } } := by
  unfold State.setGr
  split_ifs
  · exact ⟨s.cpu.gpr, rfl⟩
  · exact ⟨_, rfl⟩

/-- A register is a matter of the register file, the status and the ring alone. -/
theorem gr_of_cpu {s t : State} (h : t.cpu.own = s.cpu.own) (r : Fin 16) : t.gr r = s.gr r := by
  have hg : t.cpu.gpr = s.cpu.gpr := by have e := congrArg CpuSt.gpr h; exact e
  have hp : t.cpu.psr = s.cpu.psr := by have e := congrArg CpuSt.psr h; exact e
  have hf : t.cpu.ftop = s.cpu.ftop := by have e := congrArg CpuSt.ftop h; exact e
  simp only [State.gr, State.grKey, State.bank, State.key, hg, hp, hf]

theorem key_setBank (s : State) (b i : Nat) (v : Word) (k : Nat) : (s.setBank b i v).key k = if k = b * 8 + i then v else s.key k := State.key_setKey ..

/-- A fresh bank of zeros, and the registers beside it. -/
theorem key_freshBank (s : State) (b k : Nat) : (s.freshBank b 0#32).key k = if b * 8 ≤ k ∧ k < b * 8 + 8 then 0#32 else s.key k := by
  simp only [State.freshBank, List.foldl, key_setBank]
  split_ifs <;> grind

/-- A fresh bank is a matter of the register file. -/
theorem freshBank_eq (s : State) (b : Nat) (v : Word) : ∃ g, s.freshBank b v = { s with cpu := { s.cpu with gpr := g } } := by
  have zeros (l : List Nat) (s : State) : ∃ g, l.foldl (fun (s : State) i => s.setBank b i 0#32) s = { s with cpu := { s.cpu with gpr := g } } := by
    induction l generalizing s with
    | nil => exact ⟨s.cpu.gpr, rfl⟩
    | cons i l ih =>
      obtain ⟨g, e⟩ := ih (s.setBank b i 0#32)
      exact ⟨g, by rw [List.foldl_cons, e]; rfl⟩
  obtain ⟨g, e⟩ := zeros [0, 1, 2, 3, 4, 5, 6] s
  exact ⟨_, by rw [State.freshBank, e]; rfl⟩

/-! ## What a trap's entry looks at -/

/-- A state from which a heavy trap is entered as from `s`: the core but for its own lines and a late error, the registers of the Sett, the tick and memory. -/
structure Poised (s t : State) : Prop where
  cpu : { t.cpu.own with late := none } = { s.cpu.own with late := none }
  rd : ∀ a, a = R.CPU_LACC_LO ∨ a = R.CPU_LACC_HI ∨ a = R.CPU_DEPTH ∨ a = R.CPU_SCREE_PTR → t.rd a = s.rd a
  now : t.tck.now = s.tck.now
  mem : ∀ b, t.rdB b = s.rdB b

namespace Poised

theorem refl (s : State) : Poised s s := ⟨rfl, fun _ _ => rfl, rfl, fun _ => rfl⟩

variable {s t u : State} (h : Poised s t)
include h

theorem trans (k : Poised t u) : Poised s u :=
  ⟨k.cpu.trans h.cpu, fun a ha => (k.rd a ha).trans (h.rd a ha), k.now.trans h.now, fun b => (k.mem b).trans (h.mem b)⟩

theorem gpr : t.cpu.gpr = s.cpu.gpr := by have e := congrArg CpuSt.gpr h.cpu; exact e
theorem psr : t.cpu.psr = s.cpu.psr := by have e := congrArg CpuSt.psr h.cpu; exact e
theorem sett : t.cpu.sett = s.cpu.sett := by have e := congrArg CpuSt.sett h.cpu; exact e
theorem ssp : t.cpu.ssp = s.cpu.ssp := by have e := congrArg CpuSt.ssp h.cpu; exact e
theorem vbase : t.cpu.vbase = s.cpu.vbase := by have e := congrArg CpuSt.vbase h.cpu; exact e
theorem ftop : t.cpu.ftop = s.cpu.ftop := by have e := congrArg CpuSt.ftop h.cpu; exact e
theorem res : t.cpu.res = s.cpu.res := by have e := congrArg CpuSt.res h.cpu; exact e
theorem held : t.cpu.held = s.cpu.held := by have e := congrArg CpuSt.held h.cpu; exact e

theorem wb_nil (e : s.cpu.wb = []) : t.cpu.wb = [] := by
  have k : t.cpu.wb.map (fun e => { e with left := 0 }) = s.cpu.wb.map fun e => { e with left := 0 } := by have e := congrArg CpuSt.wb h.cpu; exact e
  rw [e] at k; exact List.map_eq_nil_iff.mp k

theorem key (k : Nat) : t.key k = s.key k := by simp only [State.key, h.gpr]

/-- The Sett's words are those of `s`. -/
theorem settWords (epc estat cause eaddr use : Word) : t.settWords epc estat cause eaddr use = s.settWords epc estat cause eaddr use := by
  have d : t.fd R.CPU_DEPTH 0 16 = s.fd R.CPU_DEPTH 0 16 := by simp only [State.fd, h.rd _ (.inr (.inr (.inl rfl)))]
  simp only [State.settWords, State.com, State.getBank, h.key, h.ftop, h.res, h.ssp, h.now, d, h.rd _ (.inl rfl), h.rd _ (.inr (.inl rfl)), h.rd _ (.inr (.inr (.inr rfl)))]

end Poised

theorem rdB_of_mem {s t : State} (hm : t.mem = s.mem) (ha : t.auxGen = s.auxGen) (b : Nat) : t.rdB b = s.rdB b := by rw [State.rdB, State.rdB, hm, ha]

theorem State.Timed.auxGen {s t : State} (h : s.Timed t) : t.auxGen = s.auxGen := by have e := congrArg State.auxGen h.still; exact e
theorem State.Timed.own {s t : State} (h : s.Timed t) : t.cpu.own = s.cpu.own := by have e := congrArg State.cpu h.still; exact e
theorem State.Timed.rdB {s t : State} (h : s.Timed t) (b : Nat) : t.rdB b = s.rdB b := rdB_of_mem h.mem h.auxGen b

/-- Time that passes leaves the core poised. -/
theorem State.Timed.poised {s t : State} (h : s.Timed t) : Poised s t where
  cpu := congrArg (fun c : CpuSt => { c with late := none }) h.own
  rd a ha := h.keeps.rd a (by rcases ha with rfl | rfl | rfl | rfl <;> decide)
  now := by have e := congrArg (fun q : State => q.tck.now) h.still; exact e
  mem := h.rdB

/-! ## Entry -/

/-- The Sett holds no carrier table. -/
theorem sett_sram {s : State} (h : s.settOk = true) (b : Nat) (hb : s.cpu.sett.toNat ≤ b) (hb' : b < s.cpu.sett.toNat + 128) : inCarrier b = false := by
  simp only [State.settOk, inSram, Bool.and_eq_true, decide_eq_true_eq] at h
  simp only [inCarrier, Bool.and_eq_false_iff, decide_eq_false_iff_not]
  omega

theorem settWords_length (s : State) (epc estat cause eaddr use : Word) : (s.settWords epc estat cause eaddr use).length = 32 := by simp [State.settWords]

/-- A change of the core's own lines, and of nothing in memory, leaves a trap entered as it was. -/
theorem State.Trapped.congr {s u v : State} {code sub : Nat} {multi : Bool} {ret bad : Word} (h : s.Trapped u code sub multi ret bad) (hc : v.cpu.own = u.cpu.own)
    (hm : ∀ b, v.rdB b = u.rdB b) : s.Trapped v code sub multi ret bad := by
  have hg : v.cpu.gpr = u.cpu.gpr := by have e := congrArg CpuSt.gpr hc; exact e
  have hf : v.cpu.ftop = u.cpu.ftop := by have e := congrArg CpuSt.ftop hc; exact e
  have hr : v.cpu.res = u.cpu.res := by have e := congrArg CpuSt.res hc; exact e
  have hs : v.cpu.ssp = u.cpu.ssp := by have e := congrArg CpuSt.ssp hc; exact e
  have hk (k : Nat) : v.key k = u.key k := by simp only [State.key, hg]
  have hw (a : Nat) : v.rdW a = u.rdW a := by simp only [rdW_eq, hm]
  exact {
    epc := by have e := congrArg CpuSt.epc hc; exact e.trans h.epc
    cause := by have e := congrArg CpuSt.cause hc; exact e.trans h.cause
    eaddr := by have e := congrArg CpuSt.eaddr hc; exact e.trans h.eaddr
    estat := by have e := congrArg CpuSt.estat hc; exact e.trans h.estat
    psr := by have e := congrArg CpuSt.psr hc; exact e.trans h.psr
    pc := by have e := congrArg CpuSt.pc hc; exact e.trans h.pc
    bank := fun i hi => (hk _).trans (h.bank i hi)
    ring := ⟨hf.trans h.ring.1, hr.trans h.ring.2⟩
    stack := by simp only [State.com, hs, hk]; exact h.stack
    sett := by
      obtain ⟨use, e⟩ := h.sett
      exact ⟨use, fun i hi => (hw _).trans (e i hi)⟩
    mem := fun a ha => (hm a).trans (h.mem a ha) }

/-- The entry of a heavy trap from a poised core (R409, R410). -/
theorem enterTrap_trapped {s t : State} (h : Poised s t) (hk : s.settOk = true) (code sub : Nat) (multi : Bool) (epc ea use : Word) :
    s.Trapped (t.enterTrap epc (causeWord code sub multi s.cpu.psr.crit) ea use) code sub multi epc ea ∧
      (t.enterTrap epc (causeWord code sub multi s.cpu.psr.crit) ea use).cpu.late = t.cpu.late := by
  have hk' : t.settOk = true := by simpa only [State.settOk, h.sett] using hk
  have inSett (b : Nat) (hb : t.cpu.sett.toNat ≤ b) (hb' : b < t.cpu.sett.toNat + 4 * (t.settWords epc (psrWord t.cpu.psr) (causeWord code sub multi s.cpu.psr.crit) ea use).length) :
      inCarrier b = false := sett_sram hk' b hb (by rw [settWords_length] at hb'; exact hb')
  obtain ⟨words, rest⟩ := storeWords_spec _ t.cpu.sett.toNat inSett t
  obtain ⟨m, bd, pb, ps, sb, x, e1⟩ := storeWords_eq _ t.cpu.sett.toNat inSett t
  rw [settWords_length] at words rest
  unfold State.enterTrap
  extract_lets est user s1 _ s2 s3 _ s4
  have c1 : s1.cpu = t.cpu := by have e := congrArg State.cpu e1; exact e
  have words1 : ∀ i, i < 32 → s1.rdW (t.cpu.sett.toNat + 4 * i) = (t.settWords epc (psrWord t.cpu.psr) (causeWord code sub multi s.cpu.psr.crit) ea use).getD i 0#32 := words
  have rest1 : ∀ b, b < t.cpu.sett.toNat ∨ t.cpu.sett.toNat + 128 ≤ b → s1.rdB b = t.rdB b := rest
  clear_value s1
  have h3 : s3.cpu = { s2.cpu with gpr := s3.cpu.gpr, ssp := s3.cpu.ssp } := by unfold s3; split_ifs <;> rfl
  have m3 (b : Nat) : s3.rdB b = s1.rdB b := by unfold s3; split_ifs <;> rfl
  have k2 (k : Nat) : s2.key k = s.key k := (congrArg (fun c : CpuSt => Sparse.get (fun _ => 0#32) c.gpr k) c1).trans (h.key k)
  have p2 : s2.cpu.psr = s.cpu.psr := (congrArg CpuSt.psr c1).trans h.psr
  have r2 : s2.cpu.ssp = s.cpu.ssp := (congrArg CpuSt.ssp c1).trans h.ssp
  have keys (k : Nat) : ((s4.freshBank 16 0#32).setPc s4.cpu.vbase).key k = if 128 ≤ k ∧ k < 136 then 0#32 else s3.key k := key_freshBank s4 16 k
  obtain ⟨g, e⟩ := freshBank_eq s4 16 0#32
  have hm (b : Nat) : ((s4.freshBank 16 0#32).setPc s4.cpu.vbase).rdB b = s1.rdB b := by rw [e]; exact m3 b
  have hc : ((s4.freshBank 16 0#32).setPc s4.cpu.vbase).cpu = { s4.cpu with gpr := g, pc := s4.cpu.vbase } := by rw [e]; rfl
  have h4 : s4.cpu = { s3.cpu with psr := { s3.cpu.psr with tb := true, sup := true, ie := false, crit := false, lp := false } } := rfl
  have h3' : ∀ {α : Type} (f : CpuSt → α), (∀ c g q, f { c with gpr := g, ssp := q } = f c) → f s3.cpu = f s2.cpu := fun f hf => (congrArg f h3).trans (hf _ _ _)
  refine ⟨?_, by rw [hc, h4]; exact (h3' CpuSt.late fun _ _ _ => rfl).trans (congrArg CpuSt.late c1 :)⟩
  exact {
    epc := by rw [hc, h4]; exact h3' CpuSt.epc fun _ _ _ => rfl
    cause := by rw [hc, h4]; exact h3' CpuSt.cause fun _ _ _ => rfl
    eaddr := by rw [hc, h4]; exact h3' CpuSt.eaddr fun _ _ _ => rfl
    estat := by rw [hc, h4]; exact (h3' CpuSt.estat fun _ _ _ => rfl).trans (congrArg psrWord h.psr)
    psr := by
      have e3 : s3.cpu.psr = s.cpu.psr := (h3' CpuSt.psr fun _ _ _ => rfl).trans p2
      rw [hc, h4, e3]
    pc := by
      rw [hc, h4]
      exact (h3' CpuSt.vbase fun _ _ _ => rfl).trans ((congrArg CpuSt.vbase c1).trans h.vbase)
    bank := fun i hi => by rw [State.getBank, keys, if_pos (by omega)]
    ring := by
      rw [hc, h4]
      exact ⟨(h3' CpuSt.ftop fun _ _ _ => rfl).trans ((congrArg CpuSt.ftop c1).trans h.ftop), (h3' CpuSt.res fun _ _ _ => rfl).trans ((congrArg CpuSt.res c1).trans h.res)⟩
    stack := by
      have hu : user = !s.cpu.psr.sup := congrArg (fun p : Psr => !p.sup) h.psr
      have ssp : ((s4.freshBank 16 0#32).setPc s4.cpu.vbase).cpu.ssp = s3.cpu.ssp := by rw [hc, h4]
      have com7 : ((s4.freshBank 16 0#32).setPc s4.cpu.vbase).com 7 = s3.key 151 := (keys 151).trans (if_neg (by omega))
      rw [com7, ssp]
      by_cases hs : s.cpu.psr.sup = true
      · have e3 : s3 = s2 := if_neg (by simp [hu, hs])
        rw [if_pos hs, e3, k2]
        exact ⟨r2, rfl⟩
      · have e3 : s3 = s2.swapStack := if_pos (by simp [hu, hs])
        have c7 : s2.com 7 = s.com 7 := k2 151
        rw [if_neg hs, e3]
        exact ⟨congrArg (· &&& 0xFFFFFFFC#32) c7, (State.key_setKey s2 151 151 s2.cpu.ssp).trans ((if_pos rfl).trans r2)⟩
    sett := by
      refine ⟨use, fun i hi => ?_⟩
      have w := words1 i hi
      rw [h.sett, h.settWords, h.psr] at w
      rw [← w]
      simp only [rdW_eq, hm]
    mem := fun a ha => by
      rw [hm, ← h.mem]
      exact rest1 a (by rw [h.sett]; exact ha) }

end Sys2Proof.Machine

namespace Sys2Proof.Machine

/-! ## Clocks after time has passed -/

theorem overrun_clock (s : State) : s.overrun.tck.phase = s.tck.phase ∧ s.overrun.cpu.critLeft = s.cpu.critLeft := by
  unfold State.overrun
  split_ifs
  · exact ⟨rfl, rfl⟩
  · have e := spine_raise ({ s with cpu := { s.cpu with ovrThis := true, ovrct := min 255 (s.cpu.ovrct + 1) } } : State) P.CPU 0
    exact ⟨(spine_phase e :), (congrArg CpuSt.critLeft (spine_cpu e :) :)⟩

/-- Time moves the phase of a tick, and the cycles an open window has left. -/
theorem spend_clock (s : State) (n : Nat) :
    (s.spend n).tck.phase = (if s.budgeted then s.tck.phase + n else s.tck.phase) ∧ (s.spend n).cpu.critLeft = (if s.cpu.psr.crit then s.cpu.critLeft - n else s.cpu.critLeft) := by
  have hp : (s.cpu.prefetch n).psr = s.cpu.psr ∧ (s.cpu.prefetch n).critLeft = s.cpu.critLeft := by
    unfold CpuSt.prefetch; split
    · exact ⟨rfl, rfl⟩
    · split_ifs <;> exact ⟨rfl, rfl⟩
  unfold State.spend
  extract_lets _ s1 _ s2 _ s3
  have b1 : s1.budgeted = s.budgeted := rfl
  have p2 : s2.tck.phase = if s.budgeted then s.tck.phase + n else s.tck.phase := by unfold s2; rw [b1]; split_ifs <;> rfl
  have c2 : s2.cpu = s1.cpu := by unfold s2; split_ifs <;> rfl
  have l2 : s2.cpu.critLeft = s.cpu.critLeft := (congrArg CpuSt.critLeft c2).trans hp.2
  have q2 : s2.cpu.psr = s.cpu.psr := (congrArg CpuSt.psr c2).trans hp.1
  rw [q2]
  by_cases hc : s.cpu.psr.crit = true
  · have l3 : s3.cpu.critLeft = s.cpu.critLeft - n := congrArg (· - n) l2
    rw [if_pos hc, if_pos hc, ← p2, ← l3]
    split_ifs
    · exact overrun_clock s3
    · exact ⟨rfl, rfl⟩
  · rw [if_neg hc, if_neg hc]
    exact ⟨p2, l2⟩

section timed
variable {s t : State} (h : s.Timed t)
include h

theorem State.Timed.tckState : t.tck.state = s.tck.state := by have e := congrArg (fun q : State => q.tck.state) h.still; exact e
theorem State.Timed.inTick : t.tck.inTick = s.tck.inTick := by have e := congrArg (fun q : State => q.tck.inTick) h.still; exact e
theorem State.Timed.tckBudget : t.tck.budget = s.tck.budget := by have e := congrArg (fun q : State => q.tck.budget) h.still; exact e
theorem State.Timed.snapB : t.snapB = s.snapB := by have e := congrArg State.snapB h.still; exact e
theorem State.Timed.bad : t.bad = s.bad := by have e := congrArg State.bad h.still; exact e
theorem State.Timed.trcRam : t.trc.ram = s.trc.ram := by have e := congrArg (fun q : State => q.trc.ram) h.still; exact e
theorem State.Timed.trcRamS : t.trc.ramS = s.trc.ramS := by have e := congrArg (fun q : State => q.trc.ramS) h.still; exact e
theorem State.Timed.trcGen : t.trcGen = s.trcGen := by have e := congrArg State.trcGen h.still; exact e
theorem State.Timed.ticking : t.ticking = s.ticking := by simp only [State.ticking, h.tckState]
theorem State.Timed.budgeted : t.budgeted = s.budgeted := by simp only [State.budgeted, h.ticking, h.inTick]
theorem State.Timed.budgetEnd : t.budgetEnd = s.budgetEnd := by simp only [State.budgetEnd, h.tckBudget]

theorem State.Timed.guardG : t.guardG = s.guardG := by
  have e (a : Nat) (ha : raiseTouches P.CPU a = false) : t.rd a = s.rd a := h.keeps.rd a ha
  unfold State.guardG State.tickLen State.periodUs State.fd
  rw [e _ (by decide)]

end timed

/-- What is left of the budget after some cycles. -/
theorem past_spend (s : State) (n m : Nat) : (s.spend n).past m = s.past (n + m) := by
  have t := timed_spend s n
  unfold State.past
  rw [t.budgeted, t.budgetEnd, (spend_clock s n).1]
  cases s.budgeted with
  | true => simp [Nat.add_assoc]
  | false => rfl

theorem overruns_spend (s : State) (n m : Nat) : (s.spend n).overruns m = s.overruns (n + m) := by
  unfold State.overruns; rw [past_spend, (timed_spend s n).psr]

/-- What is left of a window after some of its cycles. -/
theorem tooLong_spend {s : State} {n m : Nat} (h : s.tooLong (n + m) = false) : (s.spend n).tooLong m = false := by
  have t := timed_spend s n
  obtain ⟨hp, hl⟩ := spend_clock s n
  unfold State.tooLong State.winLeft at h ⊢
  rw [t.psr, t.budgeted, t.guardG, hp, hl]
  cases hc : s.cpu.psr.crit with
  | false => rfl
  | true =>
    cases hb : s.budgeted with
    | true => simp only [hc, hb, if_true, Bool.true_and, decide_eq_false_iff_not] at h ⊢; omega
    | false => simp only [hc, hb, if_true, if_false, Bool.true_and, decide_eq_false_iff_not, Bool.false_eq_true] at h ⊢; omega

/-- With an empty write buffer time alone passes. -/
theorem pass_empty {s : State} (h : s.cpu.wb = []) (n : Nat) : s.pass n = s.spend n :=
  (pass_holds (m := 0) (by unfold State.holdsStores; rw [h])).1

/-! ## A heavy trap -/

theorem held_of_boundary {s : State} (h : s.boundary ≠ .off) : s.cpu.held = false := by
  by_contra hh
  refine h ?_
  have : s.coreOn = false := by unfold State.coreOn; simp [hh]
  unfold State.boundary
  simp [this]

/-- What a heavy trap leaves: the core trapped, with what the trap's own record has made of a late error. -/
theorem heavyTrap_trapped {s : State} {pre : Nat} (h : s.CanTrap pre) (hh : s.cpu.held = false) (code sub : Nat) (multi : Bool) (epc ea : Word) {f : State → State}
    (hf : ∀ t, s.Timed t → Poised t (f t)) :
    ∃ t, s.Timed t ∧ s.Trapped (s.heavyTrap pre code sub multi epc (some ea) f) code sub multi epc ea ∧
      (s.heavyTrap pre code sub multi epc (some ea) f).cpu.late = (f t).cpu.late := by
  obtain ⟨htb, heb, hk, hw, hp, hl⟩ := h
  have ho : s.overruns pre = false := by
    unfold State.overruns State.past at *
    rw [Bool.and_eq_false_iff] at hp ⊢
    refine .inr (Bool.and_eq_false_iff.mpr (hp.imp id fun hp => ?_))
    simp only [decide_eq_false_iff_not] at hp ⊢
    omega
  have t1 := timed_spend s pre
  have k1 := hf _ t1
  have p1 := t1.poised.trans k1
  have w1 : (f (s.spend pre)).cpu.wb = [] := p1.wb_nil hw
  obtain ⟨trapped, late⟩ := enterTrap_trapped p1 hk code sub multi epc ea (f (s.spend pre)).coreUse
  have hc : (f (s.spend pre)).cpu.psr.crit = s.cpu.psr.crit := by rw [p1.psr]
  have e : s.heavyTrap pre code sub multi epc (some ea) f =
      ((f (s.spend pre)).enterTrap epc (causeWord code sub multi s.cpu.psr.crit) ea (f (s.spend pre)).coreUse).spend (0 + 36) := by
    have hwait : drainTime (s.spend pre).cpu.wb = 0 := by rw [t1.wb_nil hw]; rfl
    have hpast : (s.spend pre).past (0 + 36) = false := by rw [past_spend]; exact hp
    unfold State.heavyTrap
    rw [if_neg (by simp [htb, heb]), if_neg (by simp [hk]), if_neg (by simp [ho]), if_neg (by simp [hl]), pass_empty hw, State.unlessReset,
      if_neg (by rw [t1.held, hh]; decide)]
    simp only [hwait, hpast, Bool.false_eq_true, if_false, w1, List.length_nil, State.drain, State.unlessReset, p1.held, hh, hc, Option.getD_some]
    rfl
  have t2 := timed_spend ((f (s.spend pre)).enterTrap epc (causeWord code sub multi s.cpu.psr.crit) ea (f (s.spend pre)).coreUse) (0 + 36)
  refine ⟨s.spend pre, t1, ?_, ?_⟩
  · rw [e]
    exact trapped.congr t2.own t2.rdB
  · rw [e]
    have l : (State.spend (State.enterTrap (f (s.spend pre)) epc (causeWord code sub multi s.cpu.psr.crit) ea (f (s.spend pre)).coreUse) (0 + 36)).cpu.late =
        (State.enterTrap (f (s.spend pre)) epc (causeWord code sub multi s.cpu.psr.crit) ea (f (s.spend pre)).coreUse).cpu.late := by
      have e := congrArg CpuSt.late t2.own; exact e
    exact l.trans late

end Sys2Proof.Machine

namespace Sys2Proof.Machine

/-! ## Reads leave the core and memory -/

/-- What a core load depends on beside registers: the core, the tick state, memory, the bytes of phase 63. -/
structure MemView where
  cpu : CpuSt
  ticking : Bool
  mem : List Host.Cell
  auxGen : Nat
  snapB : List (Nat × Byte)

/-- The view of memory in a state. -/
def State.view (s : State) : MemView := ⟨s.cpu, s.ticking, s.mem, s.auxGen, s.snapB⟩

section view
variable {s t : State} (h : t.view = s.view)
include h

theorem view_cpu : t.cpu = s.cpu := by have e := congrArg MemView.cpu h; exact e

theorem view_rdB (b : Nat) : t.rdB b = s.rdB b :=
  rdB_of_mem (by have e := congrArg MemView.mem h; exact e) (by have e := congrArg MemView.auxGen h; exact e) b

theorem view_coreB (b : Nat) : t.coreB b = s.coreB b := by
  have ht : t.ticking = s.ticking := congrArg MemView.ticking h
  have hn : t.snapB = s.snapB := by have e := congrArg MemView.snapB h; exact e
  unfold State.coreB
  rw [ht, hn, view_rdB h]

theorem view_coreN (a w : Nat) : t.coreN a w = s.coreN a w := by
  induction w generalizing a with
  | zero => rfl
  | succ w ih => rw [State.coreN, State.coreN, view_coreB h, ih]

theorem view_wr {a : Nat} {v : Word} : (t.wr a v).view = s.view := h
theorem view_of_quiet {u : State} (q : u.quiet = t.quiet) : u.view = s.view := by
  have e := congrArg State.view q
  exact e.trans h

theorem view_raise {p n : Nat} : (t.raise p n).view = s.view := view_of_quiet h (quiet_raise t p n)
theorem view_raiseIf {c : Bool} {p n : Nat} : (t.raiseIf c p n).view = s.view := view_of_quiet h (quiet_raiseIf t c p n)
theorem view_logPush {k p : Nat} {a b : Word} : (t.logPush k p a b).view = s.view := view_of_quiet h (quiet_logPush t k p a b)
theorem view_setFlt {p n : Nat} : (t.setFlt p n).view = s.view := view_of_quiet h (quiet_setFlt t p n)

omit h in
theorem view_ite {u : State} {c : Prop} [Decidable c] (h : t.view = s.view) (k : u.view = s.view) : (if c then t else u).view = s.view := by split_ifs <;> assumption

theorem view_setLane {l : Nat} {x : Lane} : (t.setLane l x).view = s.view := view_ite h (view_ite h h)
theorem view_noteLast {j : Job} {d : Word} : (t.noteLast j d).view = s.view :=
  view_raise (t := ((t.wr R.SLF_LASTV d).wr R.SLF_LASTU j.unit).wr R.SLF_LASTTICK t.tck.now) h
theorem view_noteNoTest : t.noteNoTest.view = s.view := view_raise h
theorem view_noteRepair {u : Word} {n : Nat} : (t.noteRepair u n).view = s.view := view_logPush (view_raise h)
theorem view_noteLasting : t.noteLasting.view = s.view := by
  have k : ({ t with slf := { t.slf with lastLasting := some 0 } } : State).view = s.view := h
  exact view_setFlt (view_raise k)

theorem view_verdict {j : Job} {res spare : Nat} : (t.verdict j res spare).view = s.view := by
  unfold State.verdict
  extract_lets b lasting d0 s1 s2 s3 s4 s5 _ s6
  have h1 : s1.view = s.view := view_noteLast h
  have h2 : s2.view = s.view := view_ite (view_noteNoTest h1) h1
  have h3 : s3.view = s.view := view_ite (view_noteRepair h2) h2
  have h4 : s4.view = s.view := view_logPush h3
  have h5 : s5.view = s.view := view_ite (view_noteLasting h4) h4
  have h6 : s6.view = s.view := view_ite h5 h5
  exact view_ite h6 h6

theorem view_detect {src page : Nat} {u : Word} : (t.detect src page u).view = s.view := by
  unfold State.detect
  extract_lets test j s1 s2 s3
  have h0 : (t.raise P.SLF 0).view = s.view := view_raise h
  have h1 : s1.view = s.view := view_wr h0
  have h2 : s2.view = s.view := view_logPush h1
  have h3 : s3.view = s.view := view_wr h2
  exact view_ite (view_verdict h3) (view_ite h3 (view_ite (view_ite h3 h3) (view_ite (view_setLane h3) (view_ite (view_setLane h3) (view_verdict h3)))))

theorem view_liveRead : t.liveRead.view = s.view := view_raiseIf h

theorem view_memReport {g : Region} {a page : Nat} {e : Ecc} : (t.memReport g a page e).view = s.view := by
  unfold State.memReport
  extract_lets sram unit pg s1
  have h1 : s1.view = s.view := h
  split
  · exact h
  · exact view_detect h
  · exact view_detect h1

theorem view_listCheck {w : Nat} : (t.listCheck w).view = s.view := view_ite (view_setFlt (view_detect h)) h
theorem view_memCheck {g : Region} {a : Nat} : (t.memCheck g a).view = s.view := view_ite (view_listCheck h) h

/-- A read of a register leaves the core and memory. -/
theorem view_fetchReg {a : Nat} : (t.fetchReg a).1.view = s.view := by
  unfold State.fetchReg
  split
  · exact h
  split
  · exact h
  split
  · exact h
  split
  · exact h
  split
  · exact view_listCheck h
  split
  · exact h
  · exact h

theorem view_coreRead {a : Nat} : (t.coreRead a).1.view = s.view := by
  unfold State.coreRead
  extract_lets s1 r s2 r'
  have h1 : s1.view = s.view := view_ite (view_liveRead h) h
  have h2 : s2.view = s.view := view_fetchReg h1
  split
  · split
    · exact h1
    · exact h2
  split
  · exact h2
  split
  · exact h1
  · exact h2

end view

/-! ## Traps of an instruction -/

/-- A trap entered from a state in which the core is poised as in `s` is one entered from `s`. -/
theorem State.Trapped.of_poised {s t u : State} {code sub : Nat} {multi : Bool} {ret bad : Word} (h : Poised s t) (k : t.Trapped u code sub multi ret bad) : s.Trapped u code sub multi ret bad where
  epc := k.epc
  cause := by rw [k.cause, h.psr]
  eaddr := k.eaddr
  estat := by rw [k.estat, h.psr]
  psr := by rw [k.psr, h.psr]
  pc := by rw [k.pc, h.vbase]
  bank := k.bank
  ring := by rw [← h.ftop, ← h.res]; exact k.ring
  stack := by
    have c7 : t.com 7 = s.com 7 := h.key 151
    have e := k.stack
    rwa [h.psr, h.ssp, c7] at e
  sett := by
    obtain ⟨use, e⟩ := k.sett
    refine ⟨use, fun i hi => ?_⟩
    rw [← h.settWords, ← h.sett, ← h.psr]
    exact e i hi
  mem := fun a ha => by rw [← h.mem]; exact k.mem a (by rw [h.sett]; exact ha)

/-- A fetch changes the core's lines alone, and leaves the write buffer. -/
theorem fetchNow_cpu (s : State) : ∃ c, s.fetchNow.1 = { s with cpu := c } ∧ c.wb = s.cpu.wb := by
  unfold State.fetchNow
  simp only
  split_ifs
  all_goals try split
  all_goals try split_ifs
  all_goals exact ⟨_, rfl, rfl⟩

theorem canTrap_fetch {s : State} {n : Nat} (h : s.CanTrap n) : s.fetchNow.1.CanTrap n := by
  obtain ⟨htb, heb, hk, hw, hp, hl⟩ := h
  have f := timed_fetch s
  have hs : s.fetchNow.1.cpu.sett = s.cpu.sett := f.poised.sett
  obtain ⟨c, e, -⟩ := fetchNow_cpu s
  refine ⟨by rw [f.psr, htb], by rw [f.psr, heb], by simpa only [State.settOk, hs] using hk, f.wb_nil hw, ?_, by rw [(fetch_clocks s n).2.1, hl]⟩
  rw [e]; exact hp

/-- An instruction that meets a trap before it does anything enters it (R409). -/
theorem issue_trap {s : State} {plan : State → Act} {code sub : Nat} {epc ea : Word} {f : State → State} (hc : s.canIssue = true) (h : s.CanTrap s.fetchNow.2)
    (hp : plan s = .trap 0 code sub epc (some ea) f) (hf : ∀ t, Poised t (f t)) :
    ∃ u, s.ran (s.issue plan) = .next u ∧ s.Trapped u code sub false epc ea := by
  have hh := held_of_canIssue hc
  obtain ⟨t, -, k, -⟩ := heavyTrap_trapped (canTrap_fetch h) ((timed_fetch s).held.trans hh) code sub false epc ea fun t _ => hf t
  obtain ⟨htb, heb, hk, hw, hpast, hl⟩ := h
  have ho : s.overruns s.fetchNow.2 = false := by
    unfold State.overruns State.past at *
    rw [Bool.and_eq_false_iff] at hpast ⊢
    refine .inr (Bool.and_eq_false_iff.mpr (hpast.imp id fun hp => ?_))
    simp only [decide_eq_false_iff_not] at hp ⊢
    omega
  have hs : s.holdsStores s.fetchNow.2 = true := by unfold State.holdsStores; rw [hw]
  have e : s.issue plan = s.fetchNow.1.heavyTrap s.fetchNow.2 code sub false epc (some ea) f := by
    unfold State.issue
    simp only [hc, ho, hl, hs, hp, State.perform, if_true, if_false, Bool.false_eq_true, Nat.add_zero]
  rw [e]
  obtain ⟨u, hu, en⟩ := ended_ran s (s.fetchNow.1.heavyTrap s.fetchNow.2 code sub false epc (some ea) f)
  exact ⟨u, hu, ((k.congr (by rw [en.cpu]) (rdB_of_mem en.mem en.auxGen)).of_poised (timed_fetch s).poised)⟩

/-- A denial of the MPU is recorded beside the trap (R436). -/
theorem poised_mpuDeny (t : State) (kind a : Nat) (sup : Bool) : Poised t (t.mpuDeny kind a sup) := by
  unfold State.mpuDeny
  extract_lets s1 s2
  have q := quiet_raise s2 P.MPU 0
  have v := view_raise (s := s2) rfl (p := P.MPU) (n := 0)
  have c : (s2.raise P.MPU 0).cpu = t.cpu := view_cpu v
  refine ⟨by rw [c], fun r hr => ?_, (spine_now (spine_raise s2 P.MPU 0) :), fun b => view_rdB v b⟩
  rw [rd_raise _ (by rcases hr with rfl | rfl | rfl | rfl <;> decide)]
  have n1 : r ≠ R.MPU_DADDR := by rcases hr with rfl | rfl | rfl | rfl <;> decide
  have n2 : r ≠ R.MPU_DINFO := by rcases hr with rfl | rfl | rfl | rfl <;> decide
  exact (State.rd_wr_ne _ _ n2).trans (State.rd_wr_ne _ _ n1)

/-- What the fault of an access records. -/
theorem poised_access (t : State) (sub kind a : Nat) (sup : Bool) : Poised t (if sub = 5 then t.mpuDeny kind a sup else t) := by
  split_ifs
  · exact poised_mpuDeny t kind a sup
  · exact .refl t

end Sys2Proof.Machine

namespace Sys2Proof.Machine

/-! ## What a load brings -/

theorem coreN_one (s : State) (a : Nat) : s.coreN a 1 = (s.coreB a).toNat := Nat.add_zero _

theorem coreN_two (s : State) (a : Nat) : s.coreN a 2 = (s.coreB (a + 1) ++ s.coreB a).toNat := by
  rw [toNat_append_byte]; rfl

theorem coreN_four (s : State) (a : Nat) : s.coreN a 4 = (s.coreB (a + 3) ++ s.coreB (a + 2) ++ s.coreB (a + 1) ++ s.coreB a).toNat := by
  rw [toNat_append_byte, toNat_append_byte, toNat_append_byte]; rfl

theorem extendLoad_signed (w : Nat) (v : BitVec (8 * w)) : extendLoad w true v.toNat = v.signExtend 32 := by
  have h : sgn (8 * w) v.toNat = v.toInt := by
    unfold sgn
    rw [BitVec.toInt_eq_msb_cond, BitVec.msb_eq_decide, Nat.mod_eq_of_lt v.isLt]
    by_cases c : v.toNat < 2 ^ (8 * w - 1)
    · simp [c]
    · simp [c]
  show wdI (sgn (8 * w) v.toNat) = _
  rw [h]; rfl

theorem extendLoad_unsigned (w : Nat) (v : BitVec (8 * w)) : extendLoad w false v.toNat = v.setWidth 32 := by
  show wd (v.toNat % 2 ^ (8 * w)) = _
  rw [Nat.mod_eq_of_lt v.isLt]; exact BitVec.ofNat_toNat 32 v

/-- A load's checks and the state of its word are a matter of what time leaves. -/
theorem State.Timed.eccAt {s t : State} (h : s.Timed t) (g : Region) (a : Nat) (e : Ecc) : t.eccAt g a e = s.eccAt g a e := by
  unfold State.eccAt State.badWord; rw [h.bad]

theorem State.Timed.coreB {s t : State} (h : s.Timed t) (b : Nat) : t.coreB b = s.coreB b := by
  unfold State.coreB; rw [h.ticking, h.snapB, h.rdB]

theorem State.Timed.coreN {s t : State} (h : s.Timed t) (a w : Nat) : t.coreN a w = s.coreN a w := by
  induction w generalizing a with
  | zero => rfl
  | succ w ih => rw [State.coreN, State.coreN, h.coreB, ih]

/-- What an instruction that writes one register and goes on leaves of the core. -/
structure Got (s u : State) (rd : Fin 16) (v : Word) : Prop where
  val : u.gr rd = if rd.val = 0 then 0#32 else v
  pc : u.cpu.pc = s.cpu.pc + 4#32
  psr : u.cpu.psr = s.cpu.psr
  others : ∀ r, r ≠ rd → u.gr r = s.gr r

/-- Writing a register of a core that is the same but for its own lines, and going on. -/
theorem got_setGr {s x u : State} (hc : x.cpu.own = s.cpu.own) (rd : Fin 16) (v : Word) (hu : u.cpu = ((x.setGr rd v).advance).cpu) : Got s u rd v := by
  obtain ⟨g, e⟩ := setGr_eq x rd v
  have hpc : (x.setGr rd v).cpu.pc = s.cpu.pc := by rw [e]; have k := congrArg CpuSt.pc hc; exact k
  have hpsr : (x.setGr rd v).cpu.psr = s.cpu.psr := by rw [e]; have k := congrArg CpuSt.psr hc; exact k
  have gr (r : Fin 16) : u.gr r = (x.setGr rd v).gr r := by simp only [State.gr, State.grKey, State.bank, State.key, hu]; rfl
  refine ⟨?_, ?_, ?_, fun r hr => ?_⟩
  · rw [gr, gr_setGr, if_pos rfl]
  · rw [hu, ← hpc]; rfl
  · rw [hu, ← hpsr]; rfl
  · rw [gr, gr_setGr, if_neg hr, gr_of_cpu hc]

/-- A command of the core that first waits for the write buffer answers its effect with the output state settled. -/
theorem ended_issue_after {s : State} {plan : State → Act} {cyc : Nat} {hit : Option Region} {lg : Bool} {f : State → State} (h : s.Runs cyc)
    (hp : plan s = .after 0 cyc hit lg f) : ∃ t, s.Timed t ∧ ∃ u, s.ran (s.issue plan) = .next u ∧ Ended s (f t) u := by
  obtain ⟨t, ht, e⟩ := issue_after h hp
  exact ⟨t, ht, by rw [e]; exact ended_ran s (f t)⟩

/-- With an empty write buffer a load has nothing to wait for. -/
theorem loadAct_run {s : State} {w a : Nat} {sgnd : Bool} {rd : Fin 16} {ecc : Ecc} {g : Region} (hf : s.accessFault .load w a = none) (hg : memRegion a = some g)
    (hw : s.flashWait g = false) (hb : s.cpu.wb = []) (he : s.eccAt g a ecc ≠ .uncorrectable) :
    s.loadAct w sgnd rd a ecc = .after 0 (loadCyc g) (some g) false fun t => t.loaded g w sgnd rd a (t.eccAt g a ecc) := by
  unfold State.loadAct
  rw [hf, hg, hb]
  simp only [hw, Bool.false_eq_true, if_false]
  exact if_neg he

theorem loadAct_fault {s : State} {w a why : Nat} {sgnd : Bool} {rd : Fin 16} {ecc : Ecc} (hf : s.accessFault .load w a = some why) :
    s.loadAct w sgnd rd a ecc = s.accessAct 0x14 why 1 a := by
  unfold State.loadAct
  rw [hf]

/-- The state in which a load from memory reads: its reports made and the lines of a data read of program flash emptied. -/
def State.loadPrep (s : State) (g : Region) (a : Nat) (e : Ecc) : State :=
  let s := ((if s.localMem g a then s.liveRead else s).memReport g a P.CPU e).memCheck g a
  if g = .pflash then s.flushLines else s

theorem loaded_mem (s : State) {g : Region} (hg : g ≠ .regs) (w : Nat) (sgnd : Bool) (rd : Fin 16) (a : Nat) (e : Ecc) :
    s.loaded g w sgnd rd a e =
      ((s.loadPrep g a e).setGr rd (if g = .trace then (s.loadPrep g a e).traceCore (a - 0x31000000) else extendLoad w sgnd ((s.loadPrep g a e).coreN a w))).advance := by
  unfold State.loaded
  simp only [if_neg hg]
  rfl

/-- What a load reads from and reports leaves the core's registers and memory. -/
theorem loadPrep_keeps (s : State) (g : Region) (a : Nat) (e : Ecc) :
    (s.loadPrep g a e).cpu.own = s.cpu.own ∧ (∀ b w, (s.loadPrep g a e).coreN b w = s.coreN b w) ∧ ∀ b, (s.loadPrep g a e).rdB b = s.rdB b := by
  have v : (((if s.localMem g a then s.liveRead else s).memReport g a P.CPU e).memCheck g a).view = s.view :=
    view_memCheck (view_memReport (view_ite (view_liveRead rfl) rfl))
  unfold State.loadPrep
  generalize (((if s.localMem g a then s.liveRead else s).memReport g a P.CPU e).memCheck g a) = x at v ⊢
  have flush : (x.flushLines).cpu.own = s.cpu.own ∧ (∀ b w, (x.flushLines).coreN b w = s.coreN b w) ∧ ∀ b, (x.flushLines).rdB b = s.rdB b := by
    have c : (x.flushLines).cpu.own = x.cpu.own := rfl
    have n (b w : Nat) : (x.flushLines).coreN b w = x.coreN b w := by
      induction w generalizing b with
      | zero => rfl
      | succ w ih => rw [State.coreN, State.coreN, ih]; rfl
    exact ⟨by rw [c, view_cpu v], fun b w => by rw [n, view_coreN v], fun b => view_rdB v b⟩
  dsimp only
  split_ifs
  · exact flush
  · exact ⟨by rw [view_cpu v], fun b w => view_coreN v b w, fun b => view_rdB v b⟩

/-- A load from memory beside trace RAM takes the bytes a core load finds. -/
theorem load_memory {s : State} {plan : State → Act} {w a : Nat} {sgnd : Bool} {rd : Fin 16} {ecc : Ecc} {g : Region} (hp : plan s = s.loadAct w sgnd rd a ecc)
    (hf : s.accessFault .load w a = none) (hg : memRegion a = some g) (hr : g ≠ .regs) (ht : g ≠ .trace) (hw : s.flashWait g = false) (hb : s.cpu.wb = [])
    (he : s.eccAt g a ecc ≠ .uncorrectable) (h : s.Runs (loadCyc g)) :
    ∃ u, s.ran (s.issue plan) = .next u ∧ Got s u rd (extendLoad w sgnd (s.coreN a w)) ∧ ∀ b, u.rdB b = s.rdB b := by
  obtain ⟨t, tm, u, hu, en⟩ := ended_issue_after h (hp.trans (loadAct_run hf hg hw hb he))
  rw [loaded_mem t hr, if_neg ht] at en
  obtain ⟨kc, kn, kb⟩ := loadPrep_keeps t g a (t.eccAt g a ecc)
  rw [kn, tm.coreN] at en
  refine ⟨u, hu, got_setGr (kc.trans tm.own) rd _ en.cpu, fun b => ?_⟩
  rw [rdB_of_mem en.mem en.auxGen]
  obtain ⟨c, e⟩ := setGr_eq (t.loadPrep g a (t.eccAt g a ecc)) rd (extendLoad w sgnd (s.coreN a w))
  rw [e]
  exact (kb b).trans (tm.rdB b)

/-- A load that Table 8-3 refuses is a heavy trap. -/
theorem load_fault {s : State} {plan : State → Act} {w a why : Nat} {sgnd : Bool} {rd : Fin 16} {ecc : Ecc} (hp : plan s = s.loadAct w sgnd rd a ecc)
    (hf : s.accessFault .load w a = some why) (hc : s.canIssue = true) (h : s.CanTrap s.fetchNow.2) :
    ∃ u, s.ran (s.issue plan) = .next u ∧ s.Trapped u 0x14 why false s.cpu.pc (wd a) :=
  issue_trap hc h (hp.trans (loadAct_fault hf)) fun t => poised_access t why 1 a s.cpu.psr.sup

/-- A load from the register window takes the core's read of the register. -/
theorem load_register {s : State} {plan : State → Act} {a : Nat} {rd : Fin 16} {ecc : Ecc} (hp : plan s = s.loadAct 4 false rd a ecc)
    (hf : s.accessFault .load 4 a = none) (hg : memRegion a = some .regs) (hb : s.cpu.wb = []) (h : s.Runs 3) :
    ∃ t, s.Timed t ∧ ∃ u, s.ran (s.issue plan) = .next u ∧ Got s u rd (t.coreRead (a - 0x40000000)).2 := by
  obtain ⟨t, tm, u, hu, en⟩ := ended_issue_after (cyc := loadCyc .regs) h (hp.trans (loadAct_run hf hg (Bool.and_false _) hb (fun k => Ecc.noConfusion k)))
  have e : t.loaded .regs 4 false rd a (t.eccAt .regs a ecc) = ((t.coreRead (a - 0x40000000)).1.setGr rd (t.coreRead (a - 0x40000000)).2).advance := by
    have hl : t.localMem .regs a = false := by show (false || (t.paired && false)) = false; rw [Bool.and_false]; rfl
    unfold State.loaded
    rw [hl]; rfl
  rw [e] at en
  refine ⟨t, tm, u, hu, got_setGr ?_ rd _ en.cpu⟩
  rw [view_cpu (view_coreRead (t := t) (s := t) rfl)]
  exact tm.own

/-- The records of trace RAM as a core load finds them. -/
theorem traceCore_of {s t : State} (hk : t.ticking = s.ticking) (hr : t.trc.ram = s.trc.ram) (hs : t.trc.ramS = s.trc.ramS) (hg : t.trcGen = s.trcGen) (o : Nat) :
    t.traceCore o = s.traceCore o := by
  simp only [State.traceCore, State.traceWord, State.trcAt, hk, hr, hs, hg]

/-- A live read leaves trace RAM. -/
theorem traceCore_liveRead (s : State) (o : Nat) : s.liveRead.traceCore o = s.traceCore o := by
  have q : s.liveRead.quiet = s.quiet := quiet_raiseIf s _ P.TCK 8
  refine traceCore_of ?_ ?_ ?_ ?_ o
  · have e := congrArg State.ticking q; exact e
  · have e := congrArg (fun x : State => x.trc.ram) q; exact e
  · have e := congrArg (fun x : State => x.trc.ramS) q; exact e
  · have e := congrArg State.trcGen q; exact e

/-- A load from trace RAM takes the half of a record the core finds (R69). -/
theorem load_trace {s : State} {plan : State → Act} {a : Nat} {rd : Fin 16} {ecc : Ecc} (hp : plan s = s.loadAct 4 false rd a ecc)
    (hf : s.accessFault .load 4 a = none) (hg : memRegion a = some .trace) (hb : s.cpu.wb = []) (h : s.Runs 2) :
    ∃ u, s.ran (s.issue plan) = .next u ∧ Got s u rd (s.traceCore (a - 0x31000000)) := by
  obtain ⟨t, tm, u, hu, en⟩ := ended_issue_after (cyc := loadCyc .trace) h (hp.trans (loadAct_run hf hg (Bool.and_false _) hb (fun k => Ecc.noConfusion k)))
  have e : t.loadPrep .trace a (t.eccAt .trace a ecc) = t.liveRead := rfl
  rw [loaded_mem t (by decide), if_pos rfl, e, traceCore_liveRead, traceCore_of tm.ticking tm.trcRam tm.trcRamS tm.trcGen] at en
  refine ⟨u, hu, got_setGr ?_ rd _ en.cpu⟩
  rw [view_cpu (view_liveRead (t := t) (s := t) rfl)]
  exact tm.own

/-! ## Stores -/

/-- An entry of a store in the write buffer. -/
def State.storeEntry (s : State) (w : Nat) (v : Word) (a : Nat) (ecc : Ecc) : BufStore := ⟨a, w, v, s.cpu.psr.sup, drainCyc ((memRegion a).getD .sram) w, ecc⟩

/-- A store enters the write buffer. -/
theorem store_enters {s : State} {plan : State → Act} {w a : Nat} {v : Word} {ecc : Ecc} (hp : plan s = s.storeAct w v a ecc) (ho : s.OutFollows)
    (hf : s.accessFault .store w a = none) (hb : s.cpu.wb.length < 4) (h : s.Runs 1) :
    ∃ t, s.Timed t ∧ s.ran (s.issue plan) = .next (({ t with cpu := { t.cpu with wb := t.cpu.wb ++ [s.storeEntry w v a ecc] } } : State).advance) := by
  have e : s.storeAct w v a ecc = .after 0 1 none false fun t => ({ t with cpu := { t.cpu with wb := t.cpu.wb ++ [t.storeEntry w v a ecc] } } : State).advance := by
    unfold State.storeAct
    simp only [if_neg (Nat.not_le.mpr hb), hf]; rfl
  obtain ⟨t, tm, k⟩ := issue_after h (hp.trans e)
  have en : t.storeEntry w v a ecc = s.storeEntry w v a ecc := by unfold State.storeEntry; rw [tm.psr]
  rw [en] at k
  refine ⟨t, tm, ?_⟩
  rw [k]
  exact ran_steady (out_cpu (tm.out ho) _) tm.pending

/-- A store that Table 8-3 refuses is a heavy trap. -/
theorem store_fault {s : State} {plan : State → Act} {w a why : Nat} {v : Word} {ecc : Ecc} (hp : plan s = s.storeAct w v a ecc)
    (hf : s.accessFault .store w a = some why) (hc : s.canIssue = true) (h : s.CanTrap s.fetchNow.2) :
    ∃ u, s.ran (s.issue plan) = .next u ∧ s.Trapped u 0x15 why false s.cpu.pc (wd a) := by
  have hw : s.cpu.wb = [] := h.2.2.2.1
  have e : s.storeAct w v a ecc = s.accessAct 0x15 why 2 a := by
    unfold State.storeAct
    have hl : ¬s.cpu.wb.length ≥ 4 := by rw [hw]; decide
    simp only [if_neg hl, hf]; rfl
  exact issue_trap hc h (hp.trans e) fun t => poised_access t why 2 a s.cpu.psr.sup

/-! ## The end of a store -/

theorem region_sram {a : Nat} (h : inSram a = true) : memRegion a = some .sram := by
  have k := h
  unfold inSram at k
  simp only [Bool.and_eq_true, decide_eq_true_eq] at k
  have hp : inPflash a = false := by unfold inPflash; simp only [Bool.and_eq_false_iff, decide_eq_false_iff_not]; omega
  have hd : inDflash a = false := by unfold inDflash; simp only [Bool.and_eq_false_iff, decide_eq_false_iff_not]; omega
  unfold memRegion
  rw [if_neg (by omega), if_neg (by simp [hp]), if_neg (by simp [hd]), if_pos h]

theorem carrier_sram {a : Nat} (h : inSram a = true) : inCarrier a = false := by
  unfold inSram at h
  unfold inCarrier
  simp only [Bool.and_eq_true, decide_eq_true_eq] at h
  simp only [Bool.and_eq_false_iff, decide_eq_false_iff_not]
  omega

theorem cpu_memStore (s : State) {a : Nat} (w : Nat) (v : Word) (h : inSram a = true) : (s.memStore a w v).cpu = s.cpu := by
  obtain ⟨x, pb, ps, e⟩ := memStore_eq s a w v (carrier_sram h)
  rw [e]

/-- A store that lands in SRAM changes its own bytes alone (R11, R369). -/
theorem landStore_sram (s : State) (e : BufStore) (ecc : Ecc) (h : inSram e.addr = true) (hw : e.width = 4 ∨ s.eccAt .sram e.addr ecc ≠ .uncorrectable) :
    (s.landStore e ecc).cpu = s.cpu ∧ ∀ b, (s.landStore e ecc).rdB b = storedByte e.addr e.width e.data s.rdB b := by
  have store (x : State) (hx : x.view = s.view) :
      (x.memStore e.addr e.width e.data).cpu = s.cpu ∧ ∀ b, (x.memStore e.addr e.width e.data).rdB b = storedByte e.addr e.width e.data s.rdB b := by
    refine ⟨(cpu_memStore x _ _ h).trans (view_cpu hx), fun b => ?_⟩
    rw [rdB_memStore x _ _ (carrier_sram h)]
    unfold storedByte
    rw [view_rdB hx]
  unfold State.landStore
  rw [region_sram h]
  dsimp only
  split_ifs with h4
  · rw [← h4]; exact store s rfl
  · have hn := hw.resolve_left h4
    cases k : s.eccAt .sram e.addr ecc with
    | uncorrectable => exact absurd k hn
    | ok => exact store _ (view_memReport rfl)
    | corrected => exact store _ (view_memReport rfl)

/-- The entry at the front of the write buffer leaves it as its drain ends. -/
theorem storeDrain_lands {s : State} {e : BufStore} {rest : List BufStore} {ecc : Ecc} (hb : s.cpu.wb = e :: rest) (ha : s.awake = true) (hz : s.frozen = false)
    (hl : s.landsNow .coreSup = true) (h : inSram e.addr = true) (hw : e.width = 4 ∨ s.eccAt .sram e.addr (e.ecc.or ecc) ≠ .uncorrectable) :
    ∃ u, exec (.storeDrain ecc) s = .next u ∧ u.cpu = { s.cpu with wb := rest } ∧ ∀ b, u.rdB b = storedByte e.addr e.width e.data s.rdB b := by
  have ex : exec (.storeDrain ecc) s = s.done (({ s with cpu := { s.cpu with wb := rest } } : State).landStore e (e.ecc.or ecc)) := by
    have k : exec (.storeDrain ecc) s = s.done (if s.awake && !s.frozen && s.landsNow .coreSup then s.drainOne ecc else s) := rfl
    rw [k, ha, hz, hl]
    simp only [State.drainOne, hb, Bool.not_false, Bool.and_self, if_true]
  obtain ⟨u, hu, en⟩ := ended_done s (({ s with cpu := { s.cpu with wb := rest } } : State).landStore e (e.ecc.or ecc))
  obtain ⟨kc, kb⟩ := landStore_sram ({ s with cpu := { s.cpu with wb := rest } } : State) e (e.ecc.or ecc) h hw
  exact ⟨u, ex.trans hu, en.cpu.trans kc, fun b => (rdB_of_mem en.mem en.auxGen b).trans (kb b)⟩

/-- With an empty write buffer nothing leaves it. -/
theorem storeDrain_empty {s : State} {ecc : Ecc} (hb : s.cpu.wb = []) : ∃ u, exec (.storeDrain ecc) s = .next u ∧ Ended s s u := by
  have ex : exec (.storeDrain ecc) s = s.done s := by
    have k : exec (.storeDrain ecc) s = s.done (if s.awake && !s.frozen && s.landsNow .coreSup then s.drainOne ecc else s) := rfl
    rw [k]
    simp only [State.drainOne, hb, ite_self]
  obtain ⟨u, hu, en⟩ := ended_done s s
  exact ⟨u, ex.trans hu, en⟩

/-- A late store error is taken as LATE_STORE at its boundary (R412). -/
theorem lateStore_trapped {s : State} {e : LateErr} (he : s.cpu.late = some e) (hb : s.boundary = .late) (h : s.CanTrap 0) :
    ∃ u, exec .lateStore s = .next u ∧ s.Trapped u 0x1D e.sub e.multi s.cpu.pc e.addr ∧ u.cpu.late = none := by
  have hh : s.cpu.held = false := held_of_boundary (by rw [hb]; decide)
  obtain ⟨t, -, k, l⟩ := heavyTrap_trapped h hh 0x1D e.sub e.multi s.cpu.pc e.addr (f := fun s => { s with cpu := { s.cpu with late := none } })
    fun t _ => ⟨rfl, fun _ _ => rfl, rfl, fun _ => rfl⟩
  have ex : exec .lateStore s = s.done (s.heavyTrap 0 0x1D e.sub e.multi s.cpu.pc (some e.addr) fun s => { s with cpu := { s.cpu with late := none } }) := by
    have k : exec .lateStore s = s.done s.takeLate := rfl
    rw [k]
    unfold State.takeLate
    rw [he]
    dsimp only
    rw [if_pos hb]
  obtain ⟨u, hu, en⟩ := ended_done s (s.heavyTrap 0 0x1D e.sub e.multi s.cpu.pc (some e.addr) fun s => { s with cpu := { s.cpu with late := none } })
  exact ⟨u, ex.trans hu, k.congr (by rw [en.cpu]) (rdB_of_mem en.mem en.auxGen), by rw [en.cpu]; exact l⟩

end Sys2Proof.Machine

namespace Sys2Proof.Machine

/-! ## A store that leaves the buffer while an instruction runs -/

/-- The state with its write buffer empty. -/
def State.emptied (s : State) : State := { s with cpu := { s.cpu with wb := [] } }

/-- The state in which the one entry of the buffer, a word of SRAM, has landed. -/
def State.landed1 (s : State) (e : BufStore) : State := s.emptied.memStore e.addr 4 e.data

/-- A store of a word of SRAM as the buffer holds it. -/
structure BufStore.WordOfSram (e : BufStore) : Prop where
  sram : inSram e.addr = true
  width : e.width = 4

/-- What time and the landing of the one entry of the buffer leave of a state. -/
structure Drained (s : State) (e : BufStore) (t : State) : Prop where
  own : t.cpu.own = s.emptied.cpu.own
  rdB : ∀ b, t.rdB b = storedByte e.addr 4 e.data s.rdB b
  coreB : ∀ b, t.coreB b = storedByte e.addr 4 e.data s.coreB b
  bad : t.bad = Sparse.erase s.bad (e.addr - e.addr % 4)
  rd : ∀ a, raiseTouches P.CPU a = false → t.rd a = s.rd a

namespace Drained
variable {s t u : State} {e : BufStore} (h : Drained s e t)
include h

theorem timed (k : t.Timed u) : Drained s e u where
  own := k.own.trans h.own
  rdB b := (k.rdB b).trans (h.rdB b)
  coreB b := (k.coreB b).trans (h.coreB b)
  bad := k.bad.trans h.bad
  rd a ha := (k.keeps.rd a ha).trans (h.rd a ha)

omit h in
theorem of_timed {x : State} (k : s.Timed x) (h : Drained x e t) : Drained s e t where
  own := by
    have own := congrArg (fun c : CpuSt => ({ c with wb := [] } : CpuSt)) k.own
    exact h.own.trans own
  rdB b := by rw [h.rdB b, funext k.rdB]
  coreB b := by rw [h.coreB b, funext k.coreB]
  bad := by rw [h.bad, k.bad]
  rd a ha := (h.rd a ha).trans (k.keeps.rd a ha)

theorem wb : t.cpu.wb = [] := by
  have k : t.cpu.wb.map (fun e => { e with left := 0 }) = [] := congrArg CpuSt.wb h.own
  exact List.map_eq_nil_iff.mp k

theorem psr : t.cpu.psr = s.cpu.psr := by have k := congrArg CpuSt.psr h.own; exact k

theorem held : t.cpu.held = s.cpu.held := by have k := congrArg CpuSt.held h.own; exact k

theorem gr (r : Fin 16) : t.gr r = s.gr r := gr_of_cpu (s := s.emptied) h.own r

end Drained

section landing
variable {s : State} {e : BufStore} (he : e.WordOfSram)
include he

theorem landed1_eq (s : State) : ∃ x pb ps sb, s.landed1 e = { s with
    cpu := { s.cpu with wb := [] }, mem := (s.landed1 e).mem, bad := Sparse.erase s.bad (e.addr - e.addr % 4), parBad := pb, parSet := ps, snapB := sb, twn := x } := by
  obtain ⟨x, pb, ps, k⟩ := memStore_eq s.emptied e.addr 4 e.data (carrier_sram he.sram)
  refine ⟨x, pb, ps, (List.range 4).foldl (fun l i => Sparse.erase l (e.addr + i)) s.snapB, ?_⟩
  unfold State.landed1
  rw [k, if_pos rfl]
  rfl

/-- Landing after some time. -/
theorem drained_landed1 {x : State} (k : s.Timed x) : Drained s e (x.landed1 e) := by
  have hc := carrier_sram he.sram
  obtain ⟨tw, pb, ps, sb, q⟩ := landed1_eq he x
  refine ⟨?_, fun b => ?_, fun b => ?_, ?_, fun a ha => ?_⟩
  · rw [q]
    have own := congrArg (fun c : CpuSt => ({ c with wb := [] } : CpuSt)) k.own
    exact own
  · rw [State.landed1, rdB_memStore _ 4 _ hc]
    unfold storedByte
    rw [← k.rdB b]; rfl
  · rw [State.landed1, coreB_memStore _ 4 _ hc]
    unfold storedByte
    rw [← k.coreB b]; rfl
  · rw [q, ← k.bad]
  · have r : (x.landed1 e).rd a = x.rd a := by rw [q]; rfl
    exact r.trans (k.keeps.rd a ha)

theorem clocks_landed1 (s : State) (n : Nat) : (s.landed1 e).overruns n = s.overruns n ∧ (s.landed1 e).tooLong n = s.tooLong n := by
  obtain ⟨tw, pb, ps, sb, q⟩ := landed1_eq he s
  rw [q]
  exact ⟨rfl, rfl⟩

/-- The entry in front leaves the buffer. -/
theorem drainOne_word (hb : s.cpu.wb = [e]) : s.drainOne .ok = s.landed1 e := by
  unfold State.drainOne
  rw [hb]
  dsimp only
  unfold State.landStore
  rw [region_sram he.sram]
  dsimp only
  rw [if_pos he.width]
  rfl

theorem drain_one (hb : s.cpu.wb = [e]) : s.drain 1 = s.landed1 e := drainOne_word he hb

/-- In the cycles its drain takes the entry lands. -/
theorem pass_lands {n : Nat} (hb : s.cpu.wb = [e]) (hn : e.left ≤ n) : s.pass n = (s.spend n).landed1 e := by
  have w : (s.spend n).cpu.wb = [{ e with left := 0 }] := by rw [spend_wb, hb, drainBy, if_pos hn]; rfl
  have k : BufStore.WordOfSram { e with left := 0 } := ⟨he.sram, he.width⟩
  have d := drainOne_word k w
  unfold State.pass State.storesOut
  rw [w]
  show (match (s.spend n).cpu.wb with | [] => s.spend n | x :: _ => if x.left = 0 then ((s.spend n).drainOne .ok).landDue 0 else s.spend n) = _
  rw [w]
  exact d

/-- Work in whose time the one entry of the buffer lands has its effect on the state after it: the entry leaves in the wait, or after it where the work reads another target. -/
theorem retire_drains {w n : Nat} {hit : Option Region} {drop : Nat → State → State} {f : State → State} (hb : s.cpu.wb = [e]) (h0 : s.cpu.held = false)
    (h1 : s.overruns (w + n) = false) (h2 : s.tooLong (w + n) = false) (hl : e.left ≤ w ∨ (w < e.left ∧ hit = none ∧ e.left ≤ w + n)) :
    ∃ t, Drained s e t ∧ s.retire w n hit drop f = f t := by
  have r := timed_resumed s
  have rb : s.resumed.cpu.wb = [e] := hb
  have finish {z : State} (hz : Drained s e z) (hq : ((s.resumed.pass w).stall hit).pass n = z) (h3 : (s.resumed.pass w).cpu.held = false) :
      ∃ t, Drained s e t ∧ s.retire w n hit drop f = f t := by
    refine ⟨z, hz, ?_⟩
    unfold State.retire
    rw [if_neg (by rw [h1]; decide), if_neg (by rw [h2]; decide), State.unlessReset, if_neg (by rw [h3]; decide), hq, State.unlessReset, if_neg (by rw [hz.held, h0]; decide)]
  rcases hl with hl | ⟨hw, hh, hl⟩
  · have p := pass_lands he rb hl
    have d := drained_landed1 he (r.trans (timed_spend s.resumed w))
    have st : (s.resumed.pass w).stall hit = s.resumed.pass w := by unfold State.stall; rw [p, d.wb]
    have q : ((s.resumed.pass w).stall hit).pass n = (s.resumed.pass w).spend n := by rw [st]; exact pass_empty (by rw [p]; exact d.wb) n
    refine finish ?_ q (by rw [p, d.held, h0])
    rw [p]
    exact d.timed (timed_spend _ n)
  · have holds : s.resumed.holdsStores (w + 0) = true := by unfold State.holdsStores; rw [rb]; exact decide_eq_true hw
    have p := (pass_holds holds).1
    have t1 := r.trans (timed_spend s.resumed w)
    have wb1 : (s.resumed.spend w).cpu.wb = [{ e with left := e.left - w }] := by rw [spend_wb, rb, drainBy, if_neg (by omega)]
    have st : (s.resumed.pass w).stall hit = s.resumed.spend w := by
      rw [p]
      unfold State.stall
      rw [wb1]
      dsimp only
      rw [hh, region_sram he.sram, if_neg (fun k => Option.noConfusion rfl (heq_of_eq k))]
    have k : BufStore.WordOfSram { e with left := e.left - w } := ⟨he.sram, he.width⟩
    have q := pass_lands k (n := n) wb1 (by show e.left - w ≤ n; omega)
    have d : Drained s e (((s.resumed.spend w).spend n).landed1 e) := drained_landed1 he (t1.trans (timed_spend _ n))
    refine finish d (by rw [st, q]; rfl) ?_
    rw [p, t1.held, h0]

/-- Where the entry lands while the instruction is fetched, the instruction carries on from the state after it. -/
theorem fetch_lands {cyc : Nat} (hb : s.cpu.wb = [e]) (hn : e.left ≤ s.fetchNow.2) (h : s.Retires cyc) :
    let y := s.fetchNow.1.pass s.fetchNow.2
    Drained s e y ∧ y.overruns cyc = false ∧ y.tooLong cyc = false := by
  obtain ⟨-, h2, h3⟩ := h
  obtain ⟨c, ec, wc⟩ := fetchNow_cpu s
  have p := pass_lands he (s := s.fetchNow.1) (n := s.fetchNow.2) (by rw [ec]; exact wc.trans hb) hn
  have k := fetch_clocks s (s.fetchNow.2 + cyc)
  obtain ⟨c1, c2⟩ := clocks_landed1 he (s.fetchNow.1.spend s.fetchNow.2) cyc
  dsimp only
  rw [p]
  exact ⟨drained_landed1 he ((timed_fetch s).trans (timed_spend _ _)), by rw [c1, overruns_spend, k.1, h2], by rw [c2]; exact tooLong_spend (k.2.1.trans h3)⟩

/-- An instruction in whose time the entry lands, whether that is while it is fetched (`gone`) or later (`waits`). -/
theorem issue_drains {plan : State → Act} {cyc : Nat} {f : State → State} (hb : s.cpu.wb = [e]) (h : s.Retires cyc) (hp : plan s ≠ .wait)
    (waits : s.fetchNow.2 < e.left → ∃ t, Drained s e t ∧ s.fetchNow.1.perform s.fetchNow.2 (plan s) = f t)
    (gone : ∀ y, Drained s e y → y.overruns cyc = false → y.tooLong cyc = false → ∃ t, Drained s e t ∧ y.perform 0 (plan y) = f t) :
    ∃ t, Drained s e t ∧ s.issue plan = f t := by
  obtain ⟨h1, h2, h3⟩ := h
  have o := overruns_mono h2 (Nat.le_add_right s.fetchNow.2 cyc)
  have l := tooLong_mono h3 (Nat.le_add_right s.fetchNow.2 cyc)
  by_cases hl : s.fetchNow.2 < e.left
  · have hs : s.holdsStores s.fetchNow.2 = true := by unfold State.holdsStores; rw [hb]; exact decide_eq_true hl
    have i : s.issue plan = s.fetchNow.1.perform s.fetchNow.2 (plan s) := by
      unfold State.issue
      simp only [h1, o, l, hs, if_true, Bool.false_eq_true, if_false]
    rw [i]
    exact waits hl
  · have hs : s.holdsStores s.fetchNow.2 = false := by unfold State.holdsStores; rw [hb]; exact decide_eq_false hl
    obtain ⟨d, dO, dL⟩ := fetch_lands he hb (Nat.le_of_not_lt hl) ⟨h1, h2, h3⟩
    have hh : (s.fetchNow.1.pass s.fetchNow.2).cpu.held = false := d.held.trans (held_of_canIssue h1)
    have i : s.issue plan = (s.fetchNow.1.pass s.fetchNow.2).perform 0 (plan (s.fetchNow.1.pass s.fetchNow.2)) := by
      unfold State.issue
      simp only [h1, o, l, hs, if_true, Bool.false_eq_true, if_false, State.unlessReset, hh]
    rw [i]
    exact gone _ d dO dL

omit he in
/-- From the state after the landing time alone passes. -/
theorem retire_drained {y : State} {w n : Nat} {hit : Option Region} {drop : Nat → State → State} {f : State → State} (h : s.cpu.held = false) (d : Drained s e y)
    (hO : y.overruns (w + n) = false) (hL : y.tooLong (w + n) = false) : ∃ t, Drained s e t ∧ y.retire w n hit drop f = f t := by
  obtain ⟨t, k, q⟩ := retire_run (w := w) (n := n) (hit := hit) (drop := drop) (f := f) (d.held.trans h) hO hL (by unfold State.holdsStores; rw [d.wb])
  exact ⟨t, d.timed k, q⟩

/-- The fetched state has the buffer, and the clocks, of the state before. -/
theorem retire_fetched {w n : Nat} {hit : Option Region} {drop : Nat → State → State} {f : State → State} (hb : s.cpu.wb = [e]) (h : s.canIssue = true)
    (h1 : s.overruns (w + n) = false) (h2 : s.tooLong (w + n) = false) (hl : e.left ≤ w ∨ (w < e.left ∧ hit = none ∧ e.left ≤ w + n)) :
    ∃ t, Drained s e t ∧ s.fetchNow.1.retire w n hit drop f = f t := by
  obtain ⟨c, ec, wc⟩ := fetchNow_cpu s
  have k := fetch_clocks s (w + n)
  have hh := (timed_fetch s).held.trans (held_of_canIssue h)
  obtain ⟨t, d, q⟩ := retire_drains he (s := s.fetchNow.1) (drop := drop) (f := f) (hit := hit) (by rw [ec]; exact wc.trans hb) hh (k.1.trans h1) (k.2.1.trans h2) hl
  exact ⟨t, .of_timed (timed_fetch s) d, q⟩

/-- An instruction that runs for some cycles, the entry landing before it retires. -/
theorem issue_drains_run {plan : State → Act} {cyc : Nat} {f : State → State} (hb : s.cpu.wb = [e]) (h : s.Retires cyc) (hl : e.left ≤ s.fetchNow.2 + cyc)
    (hp : ∀ y, plan y = .run cyc false f) : ∃ t, Drained s e t ∧ s.issue plan = f t := by
  refine issue_drains he hb h (by rw [hp]; exact fun k => Act.noConfusion k) (fun hw => ?_) fun y d hO hL => ?_
  · simp only [hp, State.perform]
    exact retire_fetched he hb h.1 (by rw [Nat.zero_add]; exact h.2.1) (by rw [Nat.zero_add]; exact h.2.2) (.inr ⟨by omega, rfl, by omega⟩)
  · simp only [hp, State.perform]
    exact retire_drained (held_of_canIssue h.1) d (by rw [Nat.zero_add, Nat.zero_add]; exact hO) (by rw [Nat.zero_add, Nat.zero_add]; exact hL)

/-- An instruction that waits for the entry to land before it runs. -/
theorem issue_drains_after {plan : State → Act} {cyc : Nat} {hit : Option Region} {f : State → State} (hb : s.cpu.wb = [e]) (h : s.Retires (e.left + cyc))
    (hp : plan s = .after e.left cyc hit false f) (hq : ∀ y, Drained s e y → plan y = .after 0 cyc hit false f) : ∃ t, Drained s e t ∧ s.issue plan = f t := by
  refine issue_drains he hb h (by rw [hp]; exact fun k => Act.noConfusion k) (fun hw => ?_) fun y d hO hL => ?_
  · simp only [hp, State.perform]
    have m : max s.fetchNow.2 e.left + cyc ≤ s.fetchNow.2 + (e.left + cyc) := by omega
    exact retire_fetched he hb h.1 (overruns_mono h.2.1 m) (tooLong_mono h.2.2 m) (.inl (Nat.le_max_right _ _))
  · simp only [hq y d, State.perform]
    have m : max 0 0 + cyc ≤ e.left + cyc := by omega
    exact retire_drained (held_of_canIssue h.1) d (overruns_mono hO m) (tooLong_mono hL m)

end landing

end Sys2Proof.Machine

namespace Sys2Proof.Machine

/-! ## The permissions of an access after a store has landed -/

/-- The registers of the MPU. -/
def mpuReg (a : Nat) : Prop := a = rCTRL P.MPU ∨ ∃ r, r < 8 ∧ (a = R.MPU_RBASE0 + 4 * r ∨ a = R.MPU_RLIM0 + 4 * r ∨ a = R.MPU_RATTR0 + 4 * r)

theorem mpuReg_quiet {a : Nat} (h : mpuReg a) : raiseTouches P.CPU a = false := by
  have attr : ∀ r, r < 8 → raiseTouches P.CPU (R.MPU_RBASE0 + 4 * r) = false ∧ raiseTouches P.CPU (R.MPU_RLIM0 + 4 * r) = false ∧
      raiseTouches P.CPU (R.MPU_RATTR0 + 4 * r) = false := by decide
  rcases h with rfl | ⟨r, hr, h⟩
  · decide
  · obtain ⟨a1, a2, a3⟩ := attr r hr
    rcases h with rfl | rfl | rfl <;> assumption

theorem mpuRegion_lt {s : State} {a r : Nat} (h : s.mpuRegion a = some r) : r < 8 := by
  unfold State.mpuRegion at h
  exact List.mem_range.mp (List.mem_of_find?_eq_some h)

theorem mpuRegion_congr {s t : State} (h : ∀ a, mpuReg a → t.rd a = s.rd a) (a : Nat) : t.mpuRegion a = s.mpuRegion a := by
  unfold State.mpuRegion
  refine List.find?_congr fun r hr => ?_
  have k := List.mem_range.mp hr
  unfold State.bit
  rw [h _ (.inr ⟨r, k, .inl rfl⟩), h _ (.inr ⟨r, k, .inr (.inl rfl)⟩), h _ (.inr ⟨r, k, .inr (.inr rfl)⟩)]

theorem mpuOk_congr {s t : State} (h : ∀ a, mpuReg a → t.rd a = s.rd a) (k : AccKind) (sup : Bool) (a : Nat) : t.mpuOk k sup a = s.mpuOk k sup a := by
  unfold State.mpuOk
  rw [mpuRegion_congr h]
  unfold State.bit
  rw [h _ (.inl rfl)]
  cases c : s.mpuRegion a with
  | none => rfl
  | some r =>
    dsimp only
    rw [h _ (.inr ⟨r, mpuRegion_lt c, .inr (.inr rfl)⟩)]

theorem sram_of_region {a : Nat} (h : memRegion a = some .sram) : inSram a = true := by
  unfold memRegion at h
  split_ifs at h with _ _ _ hs
  · cases h
  · cases h
  · cases h
  · exact hs
  all_goals cases h

/-- An access of SRAM is refused as before the landing. -/
theorem accessFault_drained {s t : State} {e : BufStore} (d : Drained s e t) {a : Nat} (h : memRegion a = some .sram) (k : AccKind) (w : Nat) :
    t.accessFault k w a = s.accessFault k w a := by
  have m := mpuOk_congr (s := s) (t := t) (fun a ha => d.rd a (mpuReg_quiet ha)) k s.cpu.psr.sup a
  unfold State.accessFault
  rw [h, d.psr, m]
  rfl

/-! ## Instructions in whose time a store lands -/

/-- The buffer is no matter of the registers an instruction leaves. -/
theorem Got.of_emptied {s u : State} {rd : Fin 16} {v : Word} (k : Got s.emptied u rd v) : Got s u rd v := ⟨k.val, k.pc, k.psr, k.others⟩

/-- A load of the word the buffer holds waits for its store and takes what it has stored (R367). -/
theorem load_buffered {s : State} {e : BufStore} {ra rd : Fin 16} {imm : BitVec 18} {ecc : Ecc} (he : e.WordOfSram) (hb : s.cpu.wb = [e]) (ha : s.addrOf ra imm = e.addr)
    (hf : s.accessFault .load 4 e.addr = none) (hx : (s.drain 1).eccAt .sram e.addr ecc = .ok) (h : s.Retires (e.left + 2)) :
    ∃ u, s.ran (s.issue fun t => t.loadAct 4 false rd (t.addrOf ra imm) ecc) = .next u ∧ Got s u rd e.data ∧ u.cpu.wb = [] := by
  have hg := region_sram he.sram
  have fw (t : State) : t.flashWait .sram = false := Bool.and_false _
  have ok {t : State} (d : Drained s e t) : t.eccAt .sram e.addr ecc = .ok := by
    rw [drain_one he hb] at hx
    have b := (drained_landed1 he (State.Timed.refl s)).bad
    unfold State.eccAt State.badWord at hx ⊢
    rw [d.bad, ← b]; exact hx
  have p0 : s.loadAct 4 false rd (s.addrOf ra imm) ecc = .after e.left 2 (some .sram) false fun t => t.loaded .sram 4 false rd e.addr (t.eccAt .sram e.addr ecc) := by
    have n : waitFor s.cpu.wb (e.addr / 4) = 1 := by rw [hb]; simp [waitFor]
    have w : drainTime (s.cpu.wb.take 1) = e.left := by rw [hb]; rfl
    rw [ha]
    unfold State.loadAct
    rw [hf, hg]
    simp only [n, w, fw, hx, Bool.false_eq_true, if_false, reduceCtorEq]
    rfl
  have py (y : State) (d : Drained s e y) : y.loadAct 4 false rd (y.addrOf ra imm) ecc = .after 0 2 (some .sram) false fun t => t.loaded .sram 4 false rd e.addr (t.eccAt .sram e.addr ecc) := by
    have ay : y.addrOf ra imm = e.addr := by rw [← ha]; unfold State.addrOf; rw [d.gr]
    rw [ay]
    exact loadAct_run ((accessFault_drained d hg .load 4).trans hf) hg (fw y) d.wb (by rw [ok d]; decide)
  obtain ⟨t, d, i⟩ := issue_drains_after he hb h p0 py
  obtain ⟨u, hu, en⟩ := ended_ran s (t.loaded .sram 4 false rd e.addr (t.eccAt .sram e.addr ecc))
  rw [loaded_mem t (by decide), if_neg (by decide)] at en
  obtain ⟨kc, kn, -⟩ := loadPrep_keeps t .sram e.addr (t.eccAt .sram e.addr ecc)
  have val : extendLoad 4 false ((t.loadPrep .sram e.addr (t.eccAt .sram e.addr ecc)).coreN e.addr 4) = e.data := by
    have byte (k : Nat) (hk : k < 4) : t.coreB (e.addr + k) = e.data.extractLsb' (8 * k) 8 := by
      rw [d.coreB, storedByte, if_pos ⟨by omega, by omega⟩, Nat.add_sub_cancel_left]
    have b0 := byte 0 (by decide)
    rw [Nat.add_zero] at b0
    rw [kn, coreN_four, b0, byte 1 (by decide), byte 2 (by decide), byte 3 (by decide), word_of_bytes, extendLoad_unsigned 4]
    exact BitVec.setWidth_eq _
  rw [val] at en
  have own := kc.trans d.own
  refine ⟨u, by rw [i]; exact hu, (got_setGr own rd _ en.cpu).of_emptied, ?_⟩
  obtain ⟨g, q⟩ := setGr_eq (t.loadPrep .sram e.addr (t.eccAt .sram e.addr ecc)) rd e.data
  have w : (t.loadPrep .sram e.addr (t.eccAt .sram e.addr ecc)).cpu.wb.map (fun e => { e with left := 0 }) = [] := congrArg CpuSt.wb own
  rw [en.cpu, q]
  exact List.map_eq_nil_iff.mp w

/-- What an instruction with no effect of its own leaves where a store has landed in its time. -/
structure Emptied (s : State) (e : BufStore) (u : State) : Prop where
  wb : u.cpu.wb = []
  pc : u.cpu.pc = s.cpu.pc + 4#32
  mem : ∀ b, u.rdB b = storedByte e.addr 4 e.data s.rdB b

theorem emptied_advance {s t u : State} {e : BufStore} (d : Drained s e t) (en : Ended s t.advance u) : Emptied s e u where
  wb := by rw [en.cpu]; exact d.wb
  pc := by
    have k : t.cpu.pc = s.cpu.pc := by have k := congrArg CpuSt.pc d.own; exact k
    rw [en.cpu, ← k]; rfl
  mem b := (rdB_of_mem en.mem en.auxGen b).trans (d.rdB b)

/-- The store in front lands in the time of an instruction of one cycle. -/
theorem addi_drains {s : State} {e : BufStore} (he : e.WordOfSram) (hb : s.cpu.wb = [e]) (hl : e.left ≤ s.fetchNow.2 + 1) (h : s.Retires 1) :
    ∃ u, exec (.addi 0 0 0) s = .next u ∧ Emptied s e u := by
  obtain ⟨t, d, i⟩ := issue_drains_run he hb h hl (plan := aluAct 1 0 fun t => t.gr 0 + immS 0) fun _ => rfl
  obtain ⟨u, hu, en⟩ := ended_ran s t.advance
  have ex : exec (.addi 0 0 0) s = s.ran (s.issue (aluAct 1 0 fun t => t.gr 0 + immS 0)) := rfl
  exact ⟨u, by rw [ex, i]; exact hu, emptied_advance d en⟩

/-- FENCE waits for the store in front. -/
theorem fence_drains {s : State} {e : BufStore} (he : e.WordOfSram) (hb : s.cpu.wb = [e]) (h : s.Retires (e.left + 1)) : ∃ u, exec .fence s = .next u ∧ Emptied s e u := by
  obtain ⟨t, d, i⟩ := issue_drains_after he hb h (plan := fun t => .after (drainTime t.cpu.wb) 1 none false State.advance)
    (by rw [hb]; rfl) fun y d => by rw [d.wb]; rfl
  obtain ⟨u, hu, en⟩ := ended_ran s t.advance
  have ex : exec .fence s = s.ran (s.issue fun t => .after (drainTime t.cpu.wb) 1 none false State.advance) := rfl
  exact ⟨u, by rw [ex, i]; exact hu, emptied_advance d en⟩

/-! ## The obligation -/

/-- The loads of Table 7-7: the width, the extension and the value of each. -/
theorem load_values (s : State) (a : Nat) :
    extendLoad 1 true (s.coreN a 1) = (s.coreB a).signExtend 32 ∧ extendLoad 1 false (s.coreN a 1) = (s.coreB a).setWidth 32 ∧
      extendLoad 2 true (s.coreN a 2) = (s.coreB (a + 1) ++ s.coreB a).signExtend 32 ∧ extendLoad 2 false (s.coreN a 2) = (s.coreB (a + 1) ++ s.coreB a).setWidth 32 ∧
      extendLoad 4 false (s.coreN a 4) = s.coreB (a + 3) ++ s.coreB (a + 2) ++ s.coreB (a + 1) ++ s.coreB a := by
  rw [coreN_one, coreN_two, coreN_four]
  exact ⟨extendLoad_signed 1 _, extendLoad_unsigned 1 _, extendLoad_signed 2 _, extendLoad_unsigned 2 _, (extendLoad_unsigned 4 _).trans (BitVec.setWidth_eq _)⟩

/-- A load from memory, and one that Table 8-3 refuses. -/
theorem load_clauses {s : State} {c : Instr} {plan : State → Act} {w a : Nat} {sgnd : Bool} {rd : Fin 16} {ecc : Ecc} {v : Word} {got : State → Word → Prop}
    (ga : ∀ {u v}, Got s u rd v → got u v) (hx : exec c s = s.ran (s.issue plan)) (hp : plan s = s.loadAct w sgnd rd a ecc) (hv : extendLoad w sgnd (s.coreN a w) = v) :
    (∀ g, memRegion a = some g → g ≠ .regs → g ≠ .trace → s.accessFault .load w a = none → s.flashWait g = false → s.cpu.wb = [] → s.eccAt g a ecc ≠ .uncorrectable →
      s.Runs (loadCyc g) → ∃ u, exec c s = .next u ∧ got u v ∧ ∀ b, u.rdB b = s.rdB b) ∧
    (∀ why, s.accessFault .load w a = some why → s.canIssue = true → s.CanTrap s.fetchNow.2 → ∃ u, exec c s = .next u ∧ s.Trapped u 0x14 why false s.cpu.pc (wd a)) := by
  rw [hx, ← hv]
  refine ⟨fun g hg hr ht hf hw hb he h => ?_, fun why hf hc h => load_fault hp hf hc h⟩
  obtain ⟨u, hu, k, m⟩ := load_memory hp hf hg hr ht hw hb he h
  exact ⟨u, hu, ga k, m⟩

/-- A store that enters the write buffer, and one that Table 8-3 refuses. -/
theorem store_clauses {s : State} {c : Instr} {plan : State → Act} {w a : Nat} {v : Word} {ecc : Ecc} (hx : exec c s = s.ran (s.issue plan)) (hp : plan s = s.storeAct w v a ecc) :
    (s.OutFollows → s.accessFault .store w a = none → s.cpu.wb.length < 4 → s.Runs 1 →
      ∃ t, s.Timed t ∧ exec c s = .next (({ t with cpu := { t.cpu with wb := t.cpu.wb ++ [s.storeEntry w v a ecc] } } : State).advance)) ∧
    (∀ why, s.accessFault .store w a = some why → s.canIssue = true → s.CanTrap s.fetchNow.2 → ∃ u, exec c s = .next u ∧ s.Trapped u 0x15 why false s.cpu.pc (wd a)) := by
  rw [hx]
  exact ⟨fun ho hf hb h => store_enters hp ho hf hb h, fun why hf hc h => store_fault hp hf hc h⟩

/-- Settles O39, by the plan of each load and store, the time an empty buffer or its one entry takes, and the landing of a store in SRAM. -/
theorem coreMemory : Obligations.CoreMemory := by
  unfold Obligations.CoreMemory
  intro s rd ra imm ecc
  extract_lets a at0 at1 word got
  have ga {u : State} {v : Word} (k : Got s u rd v) : got u v := ⟨k.val, k.pc, k.psr, k.others⟩
  refine ⟨fun e he => ?_, fun hf => ⟨fun hg hb h => ?_, fun hg hb _ _ _ h => ?_, fun e hb hw ha hg hx h => ?_⟩, fun e he => ?_, ?_, storeDrain_empty, ?_, ?_⟩
  · obtain ⟨vb, vbu, vh, vhu, vw⟩ := load_values s a
    have memory {c : Instr} {w : Nat} {sgnd : Bool} {v : Word} (hx : exec c s = s.ran (s.issue fun t => t.loadAct w sgnd rd (t.addrOf ra imm) ecc))
        (hv : extendLoad w sgnd (s.coreN a w) = v) := load_clauses (a := a) (ecc := ecc) ga hx rfl hv
    simp only [List.mem_cons, List.not_mem_nil, or_false] at he
    rcases he with rfl | rfl | rfl | rfl | rfl
    · exact memory rfl vb
    · exact memory rfl vbu
    · exact memory rfl vh
    · exact memory rfl vhu
    · exact memory rfl vw
  · obtain ⟨t, tm, u, hu, k⟩ := load_register (plan := fun t => t.loadAct 4 false rd (t.addrOf ra imm) ecc) (ecc := ecc) (rd := rd) rfl hf hg hb h
    exact ⟨t, tm, u, hu, k.val, k.pc⟩
  · obtain ⟨u, hu, k⟩ := load_trace (plan := fun t => t.loadAct 4 false rd (t.addrOf ra imm) ecc) (ecc := ecc) (rd := rd) rfl hf hg hb h
    exact ⟨u, hu, ga k⟩
  · have hs : inSram e.addr = true := by rw [ha]; exact sram_of_region hg
    obtain ⟨u, hu, k, w⟩ := load_buffered (ra := ra) (imm := imm) (rd := rd) (ecc := ecc) ⟨hs, hw⟩ hb ha.symm (by rw [ha]; exact hf) (by rw [ha]; exact hx) h
    exact ⟨u, hu, ga k, w⟩
  · simp only [List.mem_cons, List.not_mem_nil, or_false] at he
    rcases he with rfl | rfl | rfl
    · exact store_clauses rfl rfl
    · exact store_clauses rfl rfl
    · exact store_clauses rfl rfl
  · intro e rest hb ha hz hl hs _ _ hw
    exact storeDrain_lands hb ha hz hl hs hw
  · intro e hb hs hw _ out
    have out' {u : State} (k : Emptied s e u) : out u := ⟨k.wb, k.pc, k.mem⟩
    refine ⟨fun hl h => ?_, fun h => ?_⟩
    · obtain ⟨u, hu, k⟩ := addi_drains ⟨hs, hw⟩ hb hl h
      exact ⟨u, hu, out' k⟩
    · obtain ⟨u, hu, k⟩ := fence_drains ⟨hs, hw⟩ hb h
      exact ⟨u, hu, out' k⟩
  · intro e he hb h
    exact lateStore_trapped he hb h

end Sys2Proof.Machine

namespace Sys2Proof.Machine

/-! ## How a command ends -/

/-- The two forms of an answer: of a command, and of an instruction of the core. -/
inductive Answers (s : State) : Host.Outcome State Fault Refusal → Prop where
  | done (t : State) : Answers s (s.done t)
  | ran (t : State) : Answers s (s.ran t)

/-- Every arm of the dispatch answers in one of the two forms. -/
theorem exec_answers (c : Instr) (s : State) : Answers s (exec c s) := by
  cases c <;> constructor

/-- An answer of either form is the effect it names, with the output state settled. -/
theorem Answers.ended {s : State} {o : Host.Outcome State Fault Refusal} (h : Answers s o) : ∃ t u, o = .next u ∧ Ended s t u := by
  cases h with
  | done t => exact ⟨t, ended_done s t⟩
  | ran t => exact ⟨t, ended_ran s t⟩

/-- A command leaves the output state of Table 9-3 behind. -/
theorem outFollows_exec {c : Instr} {s u : State} (h : exec c s = .next u) : u.OutFollows := by
  obtain ⟨t, v, hv, e⟩ := (exec_answers c s).ended
  obtain rfl : v = u := by rw [h] at hv; exact (Host.Outcome.next.inj hv).symm
  exact e.out

/-- So does a step; on an empty queue it is the one that stood. -/
theorem outFollows_step {s u : State} (hs : s.OutFollows) (h : step s = .next u) : u.OutFollows := by
  unfold step at h
  split at h
  · exact Host.Outcome.next.inj h ▸ hs
  · exact outFollows_exec h

/-! ## GatesOffOutsideRun -/

/-- Table 9-3 gives OFF in reset and outside RUN. -/
theorem outState_off {s : State} (h : s.pwr.inReset = true ∨ s.pwr.mode ≠ .run) : s.outState = .off := by
  unfold State.outState
  exact if_pos (by simpa using h)

/-- A stage that is OFF has no gate on. -/
theorem allOff_of_off {s : State} (h : s.pst.out = .off) : s.AllOff := fun _ _ => by simp [State.gates, h]

/-- Where Table 9-3 is followed, no gate is on in reset or outside RUN. -/
theorem State.OutFollows.allOff {s : State} (ho : s.OutFollows) (h : s.pwr.inReset = true ∨ s.pwr.mode ≠ .run) : s.AllOff :=
  allOff_of_off (Eq.trans ho (outState_off h))

/-- Settles O4: every step leaves the output state of Table 9-3, which is OFF in reset and outside RUN, and OFF has no gate on. -/
theorem gatesOffOutsideRun : Obligations.GatesOffOutsideRun := by
  unfold Obligations.GatesOffOutsideRun
  intro s u hs hu h
  exact (outFollows_step hs hu).allOff h

end Sys2Proof.Machine

namespace Sys2Proof.Machine

/-! ## A command's end as the end of a landing -/

/-- What a landing keeps beside a command's settling holds of the settling alone. -/
theorem landed_of_ended {s t u : State} (h : Ended s t u) : Landed s t u := ⟨h.pending, .of_calms h.calms, h.out⟩

/-- The states that are near keep the memory, and what an address reads as. -/
theorem Near.rdB {s t : State} (h : Near s t) (a : Nat) : t.rdB a = s.rdB a := by
  have e := congrArg (fun q : State => q.rdB a) h.shape; exact e

/-! ## The load of fuses (Table 2-4, step 5) -/

/-- Everything but what an event touches and the load of fuses moves: the mapped spares, the life-cycle state, the life-cycle field and the count of free values. -/
def State.unfused (s : State) : State :=
  { s.quiet with
    slf := { s.slf with spares := [] }, lcs := { s.lcs with state := 0, pend := false, completed := false }, fuses := { s.fuses with lc := 0#8 }, free := 0 }

theorem unfused_of_quiet {s t : State} (h : t.quiet = s.quiet) : t.unfused = s.unfused :=
  congrArg (fun q : State => { q with
    slf := { q.slf with spares := [] }, lcs := { q.lcs with state := 0, pend := false, completed := false }, fuses := { q.fuses with lc := 0#8 }, free := 0 }) h

/-- What the load of fuses leaves alone. -/
structure FuseLoaded (s t : State) : Prop where
  frame : t.unfused = s.unfused
  pend : t.lcs.pend = false
  rd : ∀ a, raiseTouches P.LCS a = false → a ≠ R.CYC_MAC_LO → t.rd a = s.rd a
  rel : s.pst.rel = false → t.pst.rel = false

theorem fuseLoaded (s : State) : FuseLoaded s s.fuseLoad := by
  unfold State.fuseLoad
  extract_lets lc st _ _ _ _ _ s1 s2 r
  have loaded : FuseLoaded s s2 := ⟨rfl, rfl, fun a _ h => State.rd_wr_ne _ _ h, id⟩
  split_ifs
  · have q : ((r.1.raise P.LCS 2).logPush 8 P.LCS (wd (st - 1 + st * 16 + (r.2.extractLsb' 0 3).toNat * 256)) 0#32).quiet = r.1.quiet := by simp
    have k := (keeps_raise r.1 P.LCS 2).trans (keeps_logPush P.LCS (r.1.raise P.LCS 2) 8 P.LCS (wd (st - 1 + st * 16 + (r.2.extractLsb' 0 3).toNat * 256)) 0#32)
    refine ⟨(unfused_of_quiet q).trans loaded.frame, ?_, fun a ha hm => (k.rd a ha).trans (loaded.rd a ha hm), fun h => k.rel (loaded.rel h)⟩
    have e := congrArg (fun q : State => q.lcs.pend) q
    exact e.trans loaded.pend
  · exact loaded

/-! ## System resets (R92 to R96, R811) -/

/-- What a system reset that begins in `s` leaves: of cause bit `cause`, on power-on (`por`) or not. -/
structure ResetFrom (s : State) (cause : Nat) (por : Bool) (t : State) : Prop where
  inReset : t.pwr.inReset = true
  tck : t.tck.state = .idle
  cpu : t.cpu = resetCpu
  rel : t.pst.rel = false
  pend : t.lcs.pend = false
  lockout : t.lcs.lockout = (!por && s.lcs.lockout)
  named : t.rd R.SYS_RSTCAUSE = if por then 1#32 else setBit (s.rd R.SYS_RSTCAUSE) cause true
  aon : t.aon = if por then 0#32 else s.aon
  uid : t.fuses.uid = s.fuses.uid
  vbatOk : t.pin.vbatOk = s.pin.vbatOk
  nresOut : t.pin.nresOut = (cause != 3)

namespace ResetFrom
variable {s t u : State} {cause : Nat} {por : Bool} (h : ResetFrom s cause por t)
include h

theorem fuseLoad : ResetFrom s cause por t.fuseLoad := by
  have k := fuseLoaded t
  have same {α : Type} (f : State → α) := congrArg f k.frame
  exact {
    inReset := (same (fun q => q.pwr.inReset) :).trans h.inReset
    tck := (same (fun q => q.tck.state) :).trans h.tck
    cpu := (same (fun q => q.cpu) :).trans h.cpu
    rel := k.rel h.rel
    pend := k.pend
    lockout := (same (fun q => q.lcs.lockout) :).trans h.lockout
    named := (k.rd _ (by decide) (by decide)).trans h.named
    aon := (same (fun q => q.aon) :).trans h.aon
    uid := (same (fun q => q.fuses.uid) :).trans h.uid
    vbatOk := (same (fun q => q.pin.vbatOk) :).trans h.vbatOk
    nresOut := (same (fun q => q.pin.nresOut) :).trans h.nresOut }

/-- What a landing adds leaves a reset as it is. -/
theorem near (k : Near t u) : ResetFrom s cause por u := by
  have same {α : Type} (f : State → α) := congrArg f k.shape
  exact {
    inReset := (same (fun q => q.pwr.inReset) :).trans h.inReset
    tck := (same (fun q => q.tck.state) :).trans h.tck
    cpu := (same (fun q => q.cpu) :).trans h.cpu
    rel := k.rel h.rel
    pend := (same (fun q => q.lcs.pend) :).trans h.pend
    lockout := (same (fun q => q.lcs.lockout) :).trans h.lockout
    named := (k.rd _ (by decide)).trans h.named
    aon := (same (fun q => q.aon) :).trans h.aon
    uid := (same (fun q => q.fuses.uid) :).trans h.uid
    vbatOk := (same (fun q => q.pin.vbatOk) :).trans h.vbatOk
    nresOut := (same (fun q => q.pin.nresOut) :).trans h.nresOut }

/-- With the output state of Table 9-3 it is a reset in force. -/
theorem inForce (ho : t.OutFollows) : t.ResetInForce :=
  ⟨h.inReset, h.tck, h.cpu, Eq.trans ho (outState_off (.inl h.inReset)), h.rel, h.pend⟩

end ResetFrom

theorem flashCut_regs (s : State) : ∃ b, s.flashCut = { s with bad := b } := by
  unfold State.flashCut
  split <;> exact ⟨_, rfl⟩

theorem rd_filter {s t : State} {f : Nat × Word → Bool} {a : Nat} (h : t.regs = s.regs.filter f) (ha : ∀ v, f (a, v) = true) : t.rd a = s.rd a := by
  rw [State.rd, State.rd, Sparse.get, Sparse.get, h, Sparse.find_filter ha]

/-- A system reset, up to the load of fuses a matter of what it is given, and the load leaves the rest. -/
theorem resetFrom_sysReset (s : State) (cause : Nat) (por wake : Bool) : ResetFrom s cause por (s.sysReset cause por wake) := by
  obtain ⟨b, hb⟩ := flashCut_regs s
  unfold State.sysReset
  rw [hb]
  refine ResetFrom.fuseLoad ?_
  cases por with
  | true => exact ⟨rfl, rfl, rfl, rfl, rfl, rfl, State.rd_wr_self _ _ _, rfl, rfl, rfl, rfl⟩
  | false =>
    refine ⟨rfl, rfl, rfl, rfl, rfl, rfl, ?_, rfl, rfl, rfl, rfl⟩
    refine (State.rd_wr_self _ _ _).trans (congrArg (setBit · cause true) (rd_filter (s := s) rfl fun v => ?_))
    simp [aonRegs]

/-! ### What a landing leaves of a reset -/

theorem Near.pending {s t : State} (h : Near s t) : t.pending = s.pending := by
  have e := congrArg State.pending h.shape; exact e

namespace Landed
variable {s t u : State} (h : Landed s t u)
include h

/-- A landing goes on from what is near its effect. -/
theorem of_near {r : State} (k : Near r t) : Landed s r u := ⟨h.pending, k.pending ▸ k.trans h.near, h.out⟩

theorem pwr : u.pwr = t.pwr := by have e := congrArg (fun q : State => q.pwr) h.near.shape; exact e
theorem aon : u.aon = t.aon := by have e := congrArg (fun q : State => q.aon) h.near.shape; exact e
theorem pst_cprdy : u.pst.cprdy = t.pst.cprdy := by have e := congrArg (fun q : State => q.pst.cprdy) h.near.shape; exact e
theorem lnk : u.lnk = t.lnk := by have e := congrArg (fun q : State => q.lnk) h.near.shape; exact e
theorem rdB (a : Nat) : u.rdB a = t.rdB a := h.near.rdB a

theorem resetFrom {r : State} {cause : Nat} {por : Bool} (k : ResetFrom r cause por t) : ResetFrom r cause por u := { k.near h.near with }

end Landed

/-- What is shown of every state a landing can leave holds of the one a command is done in. -/
theorem done_landed {s t : State} {Q : State → Prop} (h : ∀ u, Landed s t u → Q u) : ∃ u, s.done t = .next u ∧ Q u :=
  done_of fun u e => h u (landed_of_ended e)

/-! ## Resets -/

theorem exec_powerOnReset (s : State) : exec .powerOnReset s = s.done (s.sysReset 0 true false) := rfl
theorem exec_powerFail (s : State) : exec .powerFail s = s.done s.powerFail := rfl
theorem exec_vdd5BrownOut (s : State) : exec .vdd5BrownOut s = s.done (if s.supplied then s.sysReset 1 false false else s) := rfl
theorem exec_vdd1BrownOut (s : State) : exec .vdd1BrownOut s = s.done (if s.supplied then s.sysReset 2 false false else s) := rfl
theorem exec_pinReset (s : State) : exec .pinReset s = s.done ({ s with pin := { s.pin with nresLow := true } } : State).pinReset := rfl
theorem exec_supervisorReset (s : State) : exec .supervisorReset s = s.done (if s.awake then s.sysReset 5 false false else s) := rfl
theorem exec_coreResetRelease (s : State) (pass : Bool) (soft : List Nat) : exec (.coreResetRelease pass soft) s = s.done (s.coreRelease pass soft) := rfl

/-- A loss of VBAT leaves the power-on reset in force, and holds the part in it. -/
theorem near_powerFail (s : State) : Near { s.sysReset 0 true false with pwr := { (s.sysReset 0 true false).pwr with mode := .por } } s.powerFail :=
  .of_calms (calms_settleOut _)

/-- Flash, list RAM and bin RAM read after a reset other than a power-on or a wake as before it. -/
theorem rdB_reset (s : State) (cause : Nat) (a : Nat) (h : inPflash a = true ∨ inDflash a = true ∨ inList a = true ∨ inBin a = true) :
    (s.sysReset cause false false).rdB a = s.rdB a :=
  rdB_sysReset s cause false false a (h.imp_right (.imp_right fun h => .inr ⟨h, rfl, rfl⟩))

/-- A reset that is not a power-on. -/
theorem reset_clauses {s r u : State} {cause : Nat} (h : Landed s (r.sysReset cause false false) u) :
    u.ResetInForce ∧ u.rd R.SYS_RSTCAUSE = setBit (r.rd R.SYS_RSTCAUSE) cause true ∧ u.aon = r.aon ∧ u.fuses.uid = r.fuses.uid ∧ u.pin.vbatOk = r.pin.vbatOk ∧
      u.lcs.lockout = r.lcs.lockout ∧ u.pin.nresOut = decide (cause ≠ 3) ∧
      ∀ a, inPflash a = true ∨ inDflash a = true ∨ inList a = true ∨ inBin a = true → u.rdB a = r.rdB a := by
  have k := h.resetFrom (resetFrom_sysReset r cause false false)
  exact ⟨k.inForce h.out, k.named, k.aon, k.uid, k.vbatOk, k.lockout, k.nresOut.trans (Bool.eq_iff_iff.mpr (by simp)), fun a ha => (h.rdB a).trans (rdB_reset r cause a ha)⟩

/-- Power-on, and the loss of VBAT. -/
theorem powerOn_clauses (s : State) {u t : State} (h : Landed s t u) (k : ResetFrom s 0 true t) (hm : ∀ a, t.rdB a = (s.sysReset 0 true false).rdB a) :
    u.ResetInForce ∧ u.rd R.SYS_RSTCAUSE = 1#32 ∧ u.aon = 0#32 ∧ u.fuses.uid = s.fuses.uid ∧ u.pin.vbatOk = s.pin.vbatOk ∧ u.pin.nresOut = true ∧
      ∀ a, inPflash a = true ∨ inDflash a = true → u.rdB a = s.rdB a := by
  have k := h.resetFrom k
  exact ⟨k.inForce h.out, k.named, k.aon, k.uid, k.vbatOk, k.nresOut, fun a ha => (h.rdB a).trans ((hm a).trans (rdB_sysReset s 0 true false a (ha.imp_right .inl)))⟩

/-! ### The core's reset (R391, R750) -/

theorem ticking_of_direct {s : State} (h : s.direct = true) : s.ticking = false := by
  simp only [State.direct, State.ticking, Bool.or_eq_true, decide_eq_true_eq] at h ⊢
  rcases h with h | h <;> simp [h]

/-- Outside ticks a core reset asks for nothing more. -/
theorem coreResetReq_direct {s : State} (h : s.direct = true) : s.coreResetReq = s.coreReset.setF R.SYS_RSTCAUSE 7 1 1 := by
  have ht := ticking_of_direct h
  have ha : s.askSafe 4 = s := if_neg (by simp [ht])
  unfold State.coreResetReq
  rw [ha]
  exact safeNow_same (.inl ht)

theorem coreReset_cpu {s : State} (h : s.direct = true) : s.coreReset.cpu = { resetCpu with parked := false } := by
  have e : s.tck.state ≠ .armed := by intro e; simp [State.direct, e] at h
  show ({ resetCpu with parked := decide (s.tck.state = .armed) } : CpuSt) = _
  simp [e]

/-- The boot ROM runs on a core that is held no longer. -/
theorem bootRom_held (s : State) (core : Bool) (soft : List Nat) : (s.bootRom core soft).cpu.held = false := by
  unfold State.bootRom
  extract_lets
  split_ifs <;> rfl

/-- The release of a core reset with no result of a test to report. -/
theorem coreRelease_eq {s : State} (pass : Bool) (soft : List Nat) (hh : s.cpu.held = true) (ha : s.awake = true) (ht : s.ticking = false) (hr : s.slf.regf = none) :
    s.coreRelease pass soft = s.bootRom true soft := by
  simp only [State.awake, Bool.and_eq_true, Bool.not_eq_true', beq_iff_eq] at ha
  unfold State.coreRelease
  rw [if_neg (by simp [hh, ha, ht]), hr]

/-- Settles O7: each command lands a system reset of its cause, or the reset of the core and its release. -/
theorem resets : Obligations.Resets := by
  unfold Obligations.Resets
  refine ⟨⟨fun s c hc => ?_, fun s e he hg => ?_⟩, fun s path ho => ?_, fun s path ho hd => ?_, fun s pass soft hh ha ht hr => ?_⟩
  · simp only [List.mem_cons, List.not_mem_nil, or_false] at hc
    have k := resetFrom_sysReset s 0 true false
    rcases hc with rfl | rfl
    · rw [exec_powerOnReset]
      exact done_landed fun u h => by
        obtain ⟨inForce, named, aon, uid, vbat, nres, flash⟩ := powerOn_clauses s h k fun _ => rfl
        exact ⟨inForce, named, aon, uid, vbat, nres, flash, nofun⟩
    · rw [exec_powerFail]
      exact done_landed fun u h => by
        have h := h.of_near (near_powerFail s)
        obtain ⟨inForce, named, aon, uid, vbat, nres, flash⟩ := powerOn_clauses s h { k with } fun _ => rfl
        exact ⟨inForce, named, aon, uid, vbat, nres, flash, fun _ => by rw [h.pwr]⟩
  · simp only [List.mem_cons, List.not_mem_nil, or_false] at he
    rcases he with rfl | rfl | rfl | rfl
    · rw [exec_vdd5BrownOut, if_pos hg]
      exact done_landed fun u h => reset_clauses h
    · rw [exec_vdd1BrownOut, if_pos hg]
      exact done_landed fun u h => reset_clauses h
    · rw [exec_pinReset, State.pinReset, if_neg (by simpa using hg)]
      exact done_landed fun u h => by have k := reset_clauses h; exact k
    · rw [exec_supervisorReset, if_pos hg]
      exact done_landed fun u h => reset_clauses h
  · refine landed_of (exec_softwareReset ho) fun u h => ?_
    obtain ⟨hf, hc, ha, -, -, -, hn, hm⟩ := reset_clauses h
    exact ⟨hf, hc, ha, hn, hm⟩
  · refine landed_of (exec_coreResetRequest ho) fun u h => ?_
    rw [coreResetReq_direct hd] at h
    exact ⟨h, h.cpu.trans (coreReset_cpu hd)⟩
  · rw [exec_coreResetRelease, coreRelease_eq pass soft hh ha ht hr]
    exact done_of fun u e => ⟨e, by rw [e.cpu, bootRom_held]⟩

end Sys2Proof.Machine

namespace Sys2Proof.Machine

/-! ## What the supplies, resets and power modes keep through the operations of other blocks

The AON counter, the power mode, the pins, the challenge's validity, the lock of the CORE PLL, and the registers of the reset cause and the wake sources. -/

/-- SYS.RSTCAUSE and PWR.WAKESRC. -/
def supplyReg (a : Nat) : Bool := a == R.SYS_RSTCAUSE || a == R.PWR_WAKESRC

/-- The fields, FEXT apart, which follows the pull of FAULT_N. -/
structure Supplies where
  aon : Word
  pwr : PwrSt
  pin : PinSt
  chalV : Bool
  pllok : Bool

/-- The supplies of a state. -/
def State.supplies (s : State) : Supplies := ⟨s.aon, s.pwr, { s.pin with fext := false }, s.lcs.chalV, s.clk.pllok⟩

/-- An operation of another block leaves them. -/
structure SupplyKept (s t : State) : Prop where
  supplies : t.supplies = s.supplies
  rd : ∀ a, supplyReg a = true → t.rd a = s.rd a

theorem supplyReg_mod {a : Nat} (h : supplyReg a = true) : a % 256 ≠ 0x0C ∧ a % 256 ≠ 0x18 := by
  simp only [supplyReg, Bool.or_eq_true, beq_iff_eq] at h
  rcases h with rfl | rfl <;> decide

/-- No event's routes write them. -/
theorem supplyReg_touch {a : Nat} (p : Nat) (h : supplyReg a = true) : raiseTouches p a = false := by
  have e (q : Nat) : (a == rEVT q) = false := by rw [beq_eq_false_iff_ne]; rintro rfl; exact (supplyReg_mod h).1 (by unfold rEVT; omega)
  have c (b : Nat) (hb : supplyReg b = false) : (a == b) = false := by rw [beq_eq_false_iff_ne]; rintro rfl; simp [hb] at h
  simp [raiseTouches, e, c R.QUE_EVLOSTCT rfl, c R.LOG_LOSTCT rfl, c R.TRC_LOST rfl]

/-- Nor does the settling of the output state. -/
theorem supplyReg_settle {a : Nat} (h : supplyReg a = true) : settleTouches a = false := by
  simp only [supplyReg, Bool.or_eq_true, beq_iff_eq] at h
  rcases h with rfl | rfl <;> decide

theorem supplyReg_above {a : Nat} (h : R.PWR_WAKESRC < a) : supplyReg a = false := by
  have e : R.SYS_RSTCAUSE ≠ a := by rintro rfl; exact absurd h (by decide)
  simp [supplyReg, e.symm, h.ne']

namespace SupplyKept

theorem refl (s : State) : SupplyKept s s := ⟨rfl, fun _ _ => rfl⟩

theorem trans {s t u : State} (h : SupplyKept s t) (k : SupplyKept t u) : SupplyKept s u :=
  ⟨k.supplies.trans h.supplies, fun a ha => (k.rd a ha).trans (h.rd a ha)⟩

/-- A change of other fields. -/
theorem of_regs {s t : State} (h : t.supplies = s.supplies := by exact rfl) (hr : t.regs = s.regs := by exact rfl) : SupplyKept s t :=
  ⟨h, fun a _ => rd_of_regs hr a⟩

theorem of_keeps {p : Nat} {s t : State} (q : t.quiet = s.quiet) (k : Keeps p s t) : SupplyKept s t :=
  ⟨by have e := congrArg State.supplies q; exact e, fun a ha => k.rd a (supplyReg_touch p ha)⟩

theorem of_calms {s t : State} (k : Calms s t) : SupplyKept s t :=
  ⟨by have e := congrArg State.supplies k.calm; exact e, fun a ha => k.rd a (supplyReg_settle ha)⟩

theorem ite {s t u : State} {c : Prop} [Decidable c] (h : SupplyKept s t) (k : SupplyKept s u) : SupplyKept s (if c then t else u) := by
  split_ifs <;> assumption

theorem foldl {α : Type} {f : State → α → State} (l : List α) {s t : State} (h : SupplyKept s t) (k : ∀ t x, SupplyKept s t → SupplyKept s (f t x)) :
    SupplyKept s (l.foldl f t) := by
  induction l generalizing t with
  | nil => exact h
  | cons x l ih => exact ih (k t x h)

variable {s t : State} (h : SupplyKept s t)
include h

/-! ### By name -/

theorem aon : t.aon = s.aon := congrArg Supplies.aon h.supplies
theorem pwr : t.pwr = s.pwr := congrArg Supplies.pwr h.supplies
theorem chalV : t.lcs.chalV = s.lcs.chalV := congrArg Supplies.chalV h.supplies
theorem pllok : t.clk.pllok = s.clk.pllok := congrArg Supplies.pllok h.supplies
theorem twselS : t.pin.twselS = s.pin.twselS := congrArg (fun q : Supplies => q.pin.twselS) h.supplies
theorem bootS : t.pin.bootS = s.pin.bootS := congrArg (fun q : Supplies => q.pin.bootS) h.supplies
theorem nresOut : t.pin.nresOut = s.pin.nresOut := congrArg (fun q : Supplies => q.pin.nresOut) h.supplies

/-! ### Registers, events, entries, records -/

theorem wr {a : Nat} {v : Word} (ha : supplyReg a = false := by rfl) : SupplyKept s (t.wr a v) :=
  h.trans ⟨rfl, fun b hb => State.rd_wr_ne _ _ (by rintro rfl; simp [ha] at hb)⟩

theorem inc {a : Nat} (ha : supplyReg a = false := by rfl) : SupplyKept s (t.inc a) := h.wr ha
theorem raise {p n : Nat} : SupplyKept s (t.raise p n) := h.trans (.of_keeps (quiet_raise t p n) (keeps_raise t p n))
theorem raiseIf {c : Bool} {p n : Nat} : SupplyKept s (t.raiseIf c p n) := h.trans (.of_keeps (quiet_raiseIf t c p n) (keeps_raiseIf t c p n))
theorem logPush {k p : Nat} {a b : Word} : SupplyKept s (t.logPush k p a b) := h.trans (.of_keeps (quiet_logPush t k p a b) (keeps_logPush 0 t k p a b))
theorem trcPush {r : BitVec 64} : SupplyKept s (t.trcPush r) := h.trans (.of_keeps (quiet_trcPush t r) (keeps_trcPush 0 t r))
theorem settleOut : SupplyKept s t.settleOut := h.trans (.of_calms (calms_settleOut t))

theorem setFlt {p n : Nat} : SupplyKept s (t.setFlt p n) := by
  have set : SupplyKept t (t.wr (rFLT p) (setBit (t.rd (rFLT p)) n true)) :=
    ⟨rfl, fun b hb => State.rd_wr_ne _ _ (by rintro rfl; exact (supplyReg_mod hb).2 (by unfold rFLT; omega))⟩
  exact .ite h (h.trans set).logPush

theorem trcPut {r : BitVec 64} : SupplyKept s (t.trcPut r) := h.trans .of_regs

theorem trcDone : SupplyKept s t.trcDone := .raise (h.trans .of_regs)

theorem trcWrite : SupplyKept s t.trcWrite := by
  unfold State.trcWrite
  split
  · exact h
  · next r rest _ =>
    extract_lets _ s1 n _ s2
    have h1 : SupplyKept s s1 := .trcPut (h.trans .of_regs)
    have h2 : SupplyKept s s2 := h1.trans .of_regs
    split
    · exact .ite h1.trcDone h1
    · exact .ite h2.trcDone h2
    · exact h1

theorem trcDrain {n : Nat} : SupplyKept s (State.trcDrain n t) := by
  induction n generalizing t with
  | zero => exact h
  | succ n ih => exact ih h.trcWrite

/-! ### Reports of self-test -/

theorem setLane {l : Nat} {x : Lane} : SupplyKept s (t.setLane l x) := h.trans (.ite .of_regs (.ite .of_regs .of_regs))

theorem verdict {j : Job} {res spare : Nat} : SupplyKept s (t.verdict j res spare) := by
  unfold State.verdict
  extract_lets b lasting d0 s1 s2 s3 s4 s5 _ s6
  have h0 : SupplyKept s (t.noteLast j d0) := h.trans (.of_calms (calms_noteLast t j d0))
  have h1 : SupplyKept s s1 := by unfold s1; cases lasting <;> exact h0.inc
  have h2 : SupplyKept s s2 := .ite (h1.trans (.of_calms (calms_noteNoTest s1))) h1
  have h3 : SupplyKept s s3 := .ite (h2.trans (.of_calms (calms_noteRepair s2 _ _))) h2
  have h5 : SupplyKept s s5 := .ite (h3.logPush.trans (.of_calms (calms_noteLasting s4))) h3.logPush
  have h6 : SupplyKept s s6 := .ite (h5.trans .of_regs) h5
  exact .ite (h6.trans .of_regs) h6

theorem incBucket {test : Nat} : SupplyKept s (t.incBucket test) :=
  h.wr (supplyReg_above (Nat.lt_of_lt_of_le (by decide) (Nat.le_add_right _ _)))

theorem detect {src page : Nat} {u : Word} : SupplyKept s (t.detect src page u) := by
  unfold State.detect
  extract_lets test j s1 s2 s3
  have counted : SupplyKept s s3 := .incBucket (.logPush (.inc h.raise))
  exact .ite counted.verdict (.ite (counted.trans .of_regs) (.ite (.ite (counted.trans .of_regs) counted) (.ite counted.setLane (.ite counted.setLane counted.verdict))))

theorem softReport {l soft : List Nat} : SupplyKept s (t.softReport l soft) := .foldl _ h fun _ _ k => k.detect

/-! ### The port -/

theorem lns {a n : Nat} (ha : supplyReg a = false := by rfl) : SupplyKept s (t.lns a n) :=
  .ite h (.ite h (.ite (h.trans .of_regs) (h.wr ha).raiseIf))

omit h in
/-- What a change of the link raises. -/
theorem linkEv {f : State → State} (k : SupplyKept s (f t)) : SupplyKept s (t.linkEv f) := .ite k.raise.lns k.raiseIf

theorem setLink {l : LinkState} : SupplyKept s (t.setLink l) := linkEv (h.trans .of_regs)
theorem plcaStart : SupplyKept s t.plcaStart := h.trans .of_regs

theorem energyNow : SupplyKept s t.energyNow := by
  unfold State.energyNow
  extract_lets on _ s1
  have h1 : SupplyKept s s1 := h.trans .of_regs
  exact .ite h1.setLink h1

theorem isnReset : SupplyKept s t.isnReset := by
  have clear : SupplyKept s t.isnClear := .wr (.wr (h.trans .of_regs))
  exact clear.trans .of_regs

theorem portRestart : SupplyKept s t.portRestart := .isnReset (.energyNow (.plcaStart (h.setLink.trans .of_regs)))

/-! ### Calibration images -/

/-- The words of an image go to the registers from CAL.E0W0 on. -/
theorem calWords (l : List Word) {a : Nat} (ha : R.CAL_E0W0 ≤ a) :
    SupplyKept s (l.foldl (fun (p : State × Nat) w => (p.1.wr p.2 w, p.2 + 4)) (t, a)).1 := by
  induction l generalizing t a with
  | nil => exact h
  | cons w l ih =>
    exact ih (h.wr (supplyReg_above (Nat.lt_of_lt_of_le (by decide) ha))) (ha.trans (Nat.le_add_right _ _))

theorem calLoad {a : Nat} {boot : Bool} : SupplyKept s (t.calLoad a boot) := by
  unfold State.calLoad
  split
  · exact .raise (h.trans .of_regs)
  · have words (u : State) (l : List Word) (k : SupplyKept s u) : SupplyKept s (u.calApply l (boot || a == 0x0C003F00)) := (k.calWords l le_rfl).trans .of_regs
    exact .raise (words _ _ (h.trans .of_regs))

/-! ### Persistent entries -/

theorem wrN {a v w : Nat} : SupplyKept s (t.wrN a v w) := by
  induction w generalizing t a v with
  | zero => exact h
  | succ w ih => exact ih (h.trans .of_regs)

theorem programLine {a : Nat} {l : List Word} : SupplyKept s (t.programLine a l) := by
  have words (l : List Word) : ∀ p : State × Nat, SupplyKept s p.1 → SupplyKept s (l.foldl (fun (p : State × Nat) w => (p.1.wrW p.2 w, p.2 + 4)) p).1 := by
    induction l with
    | nil => exact fun _ k => k
    | cons w l ih => exact fun p k => ih _ k.wrN
  exact words l _ h

theorem eraseFlash {a n : Nat} : SupplyKept s (t.eraseFlash a n) := h.trans .of_regs

theorem persistOne {e : LogEntry} : SupplyKept s (t.persistOne e) := by
  unfold State.persistOne
  extract_lets put fresh
  split
  · exact h.eraseFlash.programLine.programLine
  · split
    · exact h.programLine
    · exact h.eraseFlash.programLine.programLine

theorem persistRun {verify : Bool} (l : List LogEntry) : SupplyKept s (t.persistRun verify l).1 := by
  induction l generalizing t with
  | nil => exact h
  | cons e l ih =>
    unfold State.persistRun
    split_ifs
    · exact h
    · exact ih h.persistOne

theorem persistAll {verify : Bool} : SupplyKept s (t.persistAll verify) := by
  unfold State.persistAll
  extract_lets n r _ _ s1 s2
  have h1 : SupplyKept s s1 := (h.persistRun _).trans .of_regs
  have h2 : SupplyKept s s2 := h1.raiseIf
  exact .ite h2 h2.raise.setFlt

theorem persistNow : SupplyKept s t.persistNow := .ite (h.trans .of_regs) (.persistAll (h.trans .of_regs))

/-! ### The boot ROM -/

theorem parkWith {use : Nat} : SupplyKept s (t.parkWith use) := by
  have noted : SupplyKept s ((t.wr R.CPU_PARKPC t.cpu.pc).wr R.CPU_LASTUSE (wd (use % 2 ^ 19))) := h.wr.wr
  exact noted.trans .of_regs

theorem parkArmed : SupplyKept s t.parkArmed := .parkWith (h.trans .of_regs)

theorem imageVerify {k : Nat} {soft : List Nat} : SupplyKept s (t.imageVerify k soft).1 := by
  unfold State.imageVerify
  extract_lets s1
  split
  · exact h.softReport.detect
  · exact h.softReport

theorem bootImages {soft : List Nat} : SupplyKept s (t.bootImages soft).1 := by
  unfold State.bootImages
  extract_lets _ _ _ r1 r2 _ _ _
  have h2 : SupplyKept s r2.1 := h.imageVerify.imageVerify
  split_ifs <;> exact h2

theorem bootRom {core : Bool} {soft : List Nat} : SupplyKept s (t.bootRom core soft) := by
  unfold State.bootRom
  extract_lets lc ga r p s1 jump _ s2
  have hr : SupplyKept s r.1 := by
    unfold r
    split_ifs
    · exact h
    · exact h.wr
    · exact h
    · exact h
    · exact h.bootImages
  have h1 : SupplyKept s s1 := hr.wr
  have h2 : SupplyKept s s2 := h1.trans .of_regs
  exact .ite h2.parkArmed (h2.trans .of_regs)

/-! ### CLK -/

theorem loadLt {v : LineTime} : SupplyKept s (t.loadLt v) := .raise (h.trans .of_regs)
theorem coordLost : SupplyKept s t.coordLost := .ite (.raise (h.trans .of_regs)) h
theorem dcoStart : SupplyKept s t.dcoStart := .wr (h.trans .of_regs)

theorem clkTo {st : ClkState} : SupplyKept s (t.clkTo st) := by
  unfold State.clkTo
  extract_lets was s1 _ s2 _ s3 _ s4 _ s5 s6 s7 s8
  have h1 : SupplyKept s s1 := .ite h.wr h
  have h3 : SupplyKept s s3 := .ite (h1.trans .of_regs) (h1.trans .of_regs)
  have h4 : SupplyKept s s4 := .ite (.wr (h3.trans .of_regs)) h3
  have h5 : SupplyKept s s5 := .ite (h4.trans .of_regs) h4
  have h6 : SupplyKept s s6 := .ite (.ite h5.wr h5.dcoStart) h5
  have h8 : SupplyKept s s8 := .raiseIf (.ite h6.inc.raise h6)
  exact .ite h (.ite h8.coordLost h8)

theorem enterRef : SupplyKept s t.enterRef := by
  unfold State.enterRef
  extract_lets s1 _ s2
  have h2 : SupplyKept s s2 := h.clkTo.trans .of_regs
  exact .ite (h2.trans .of_regs) (.loadLt (h2.trans .of_regs))

theorem clkEval : SupplyKept s t.clkEval := by
  unfold State.clkEval
  extract_lets src
  split
  · exact .ite h (.ite h.clkTo (.ite h.enterRef h))
  · exact h
  · exact .ite h.enterRef h

end SupplyKept

end Sys2Proof.Machine

namespace Sys2Proof.Machine

/-! ## ResetRelease -/

/-- The state in which the levels are sampled and the challenge drawn, from which the rest of the release goes on. -/
def State.sampled (s : State) (l : Levels) : State := (s.releaseLevels l).newChallenge

theorem sampled_rstcause (s : State) (l : Levels) : (s.sampled l).rd R.SYS_RSTCAUSE = s.rd R.SYS_RSTCAUSE := by
  have k (t : State) : SupplyKept t ((((t.draw.1.wr R.LCS_CHAL0 (t.draw.2.extractLsb' 96 32)).wr R.LCS_CHAL1 (t.draw.2.extractLsb' 64 32)).wr R.LCS_CHAL2
      (t.draw.2.extractLsb' 32 32)).wr R.LCS_CHAL3 (t.draw.2.extractLsb' 0 32)) := .wr (.wr (.wr (.wr .of_regs)))
  exact (k (s.releaseLevels l)).rd _ rfl

/-- Where NRES is high and the part is powered, a release goes on from its samples and leaves the supplies as they were sampled. -/
theorem release_keeps {s : State} (l : Levels) (hr : s.pwr.inReset = true) (hm : s.pwr.mode ≠ .por) (hn : s.pin.nresLow = false) :
    SupplyKept (s.sampled l) (s.release l) := by
  have record : SupplyKept (s.sampled l) ((((s.sampled l).calLoad 0x0C003F00 true).portRestart).releaseLog.wakeRec) := by
    have started : SupplyKept (s.sampled l) ((s.sampled l).calLoad 0x0C003F00 true).portRestart := (SupplyKept.refl _).calLoad.portRestart
    exact .ite started.persistNow.logPush.trcPut started.persistNow.logPush
  unfold State.release
  rw [if_neg (by simp [hr, hm, hn])]
  exact record.bootRom.clkEval.settleOut

theorem exec_resetRelease (s : State) (l : Levels) : exec (.resetRelease l) s = s.done (({ s with pin := { s.pin with nresLow := false } } : State).release l) := rfl

/-- Settles O8: what the release samples stands through the rest of it. -/
theorem resetRelease : Obligations.ResetRelease := by
  unfold Obligations.ResetRelease
  intro s l hr hm
  have k := release_keeps (s := { s with pin := { s.pin with nresLow := false } }) l hr hm rfl
  rw [exec_resetRelease]
  refine done_of fun u e => ⟨?_, ?_, ?_, ?_, ?_, ?_, ?_, ?_, ?_⟩
  · rw [e.pwr, k.pwr]; rfl
  · rw [e.pwr, k.pwr]; rfl
  · rw [e.pin_twselS, k.twselS]; rfl
  · rw [e.pin_bootS, k.bootS]; rfl
  · rw [e.pin_nresOut, k.nresOut]; rfl
  · rw [e.lcs, k.chalV]; rfl
  · rw [e.aon, k.aon]; rfl
  · rw [e.clk, k.pllok]; rfl
  · rw [e.rd (by decide), k.rd _ rfl, sampled_rstcause]; rfl

end Sys2Proof.Machine

namespace Sys2Proof.Machine

/-! ## SupplyLevels -/

theorem exec_vbatLow (s : State) : exec .vbatLow s = s.done (s.vbatTo false) := rfl
theorem exec_vbatOk (s : State) : exec .vbatOk s = s.done (s.vbatTo true) := rfl
theorem exec_vioLoss (s : State) : exec .vioLoss s = s.done (s.vioTo false) := rfl
theorem exec_vioOk (s : State) : exec .vioOk s = s.done (s.vioTo true) := rfl
theorem exec_faultNExternalPull (s : State) : exec .faultNExternalPull s = s.done { s with pin := { s.pin with faultExt := true } } := rfl
theorem exec_faultNRelease (s : State) : exec .faultNRelease s = s.done { s with pin := { s.pin with faultExt := false } } := rfl

theorem bit_raiseIf (s : State) {c : Bool} (p : Nat) {n : Nat} (hc : c = true) (hn : n < 32) : (s.raiseIf c p n).bit (rEVT p) n = true := by
  rw [hc]; exact bit_raise s p n hn

/-- The state with a level of VBAT. -/
def State.vbatAt (s : State) (ok : Bool) : State := { s with pin := { s.pin with vbatOk := ok } }

/-- The state with a level of VIO. -/
def State.vioAt (s : State) (ok : Bool) : State := { s with pin := { s.pin with vioOk := ok } }

theorem vbatTo_false (s : State) : s.vbatTo false = (s.vbatAt false).raiseIf (s.pin.vbatOk && s.watches) P.PWR 0 := by
  rw [← Bool.bne_false s.pin.vbatOk]; rfl

theorem vbatTo_true (s : State) : s.vbatTo true = (s.vbatAt true).raiseIf (!s.pin.vbatOk && s.watches) P.PWR 1 := by
  rw [← Bool.bne_true s.pin.vbatOk]; rfl

theorem vioTo_false (s : State) : s.vioTo false = ((s.vioAt false).raiseIf (s.pin.vioOk && s.watches) P.PWR 2).settleOut := by
  rw [← Bool.bne_false s.pin.vioOk]; rfl

theorem vioTo_true (s : State) : s.vioTo true = ((s.vioAt true).raiseIf (!s.pin.vioOk && s.watches) P.PWR 3).settleOut := by
  rw [← Bool.bne_true s.pin.vioOk]; rfl

theorem SupplyKept.vbatOk {s t : State} (h : SupplyKept s t) : t.pin.vbatOk = s.pin.vbatOk := congrArg (fun q : Supplies => q.pin.vbatOk) h.supplies
theorem SupplyKept.vioOk {s t : State} (h : SupplyKept s t) : t.pin.vioOk = s.pin.vioOk := congrArg (fun q : Supplies => q.pin.vioOk) h.supplies

/-- VBAT crosses its warning threshold, with event `n` where `c` holds. -/
theorem vbat_clauses {s : State} {ok c : Bool} {n : Nat} (hn : n < 32) :
    ∃ u, s.done ((s.vbatAt ok).raiseIf c P.PWR n) = .next u ∧ Ended s ((s.vbatAt ok).raiseIf c P.PWR n) u ∧ u.pin.vbatOk = ok ∧ (c = true → u.bit (rEVT P.PWR) n = true) :=
  done_of fun _ e => ⟨e, e.pin_vbatOk.trans (SupplyKept.refl (s.vbatAt ok)).raiseIf.vbatOk, fun hc => e.evt (bit_raiseIf _ _ hc hn)⟩

/-- VIO crosses its thresholds. -/
theorem vio_clauses {s : State} {ok c : Bool} {n : Nat} (hn : n < 32) :
    ∃ u, s.done ((s.vioAt ok).raiseIf c P.PWR n).settleOut = .next u ∧ u.pin.vioOk = ok ∧ (c = true → u.bit (rEVT P.PWR) n = true) :=
  done_of fun _ e => ⟨e.pin_vioOk.trans (SupplyKept.refl (s.vioAt ok)).raiseIf.settleOut.vioOk,
    fun hc => e.evt ((calms_settleOut _).evt _ _ (bit_raiseIf _ _ hc hn))⟩

/-! ### The pull of FAULT_N (R101) -/

/-- A latched fault stands in PST.FLT. -/
theorem flt_latch (s : State) {n : Nat} (hn : n < 32) : (s.latch n).bit (rFLT P.PST) n = true := by
  unfold State.latch
  extract_lets s1 s2 s3 s4
  have k : Steady noNode (s.setFlt P.PST n) s4 := (Steady.refl (s.setFlt P.PST n)).inc.wr.wr.stageSafe.raise.safetyOwn
  have k' : Steady noNode (s.setFlt P.PST n) (if n = 4 ∨ n = 7 ∨ n = 8 then s4.detect 7 P.PST (wd n) else s4) := .ite k.detect k
  split_ifs with h
  · exact h
  · exact k.detect.flt _ _ (bit_setFlt s P.PST hn)
  · exact k.flt _ _ (bit_setFlt s P.PST hn)

/-- A pull from outside that begins is an event of SYS and latches. -/
theorem settleOut_pull {s : State} (h : s.extLow = true) (hf : s.pin.fext = false) :
    s.settleOut.bit (rEVT P.SYS) 0 = true ∧ s.settleOut.bit (rFLT P.PST) 10 = true := by
  have rest : Calms s.pullLatch s.settleOut := ((calms_relTick _).trans (calms_syncOut _)).trans (calms_applySafe _)
  have pull : s.pullLatch = ((({ s with pin := { s.pin with fext := s.extLow } } : State).setCond 10 s.extLow).raise P.SYS 0).latch 10 := if_pos (by simp [h, hf])
  constructor
  · refine rest.evt _ _ ?_
    rw [pull]
    exact (calms_latch _ _).evt _ _ (bit_raise _ _ _ (by decide))
  · refine rest.flt _ _ ?_
    rw [pull]
    exact flt_latch _ (by decide)

/-- The state a command that is done leaves, written out. -/
theorem ended_settled (s t : State) : Ended s t { t.settleOut with pending := s.pending } := ⟨rfl, (calms_settleOut t).withPending _, out_settleOut t⟩

/-- Settles O9: a level that is noted stands through its event and the settling; a pull that begins is latched by the settling. -/
theorem supplyLevels : Obligations.SupplyLevels := by
  unfold Obligations.SupplyLevels
  intro s _
  have both {a b : Bool} {q : Prop} (h : (a && b) = true → q) (ha : a = true) (hb : b = true) : q := h (by simp [ha, hb])
  have bothNot {a b : Bool} {q : Prop} (h : (!a && b) = true → q) (ha : a = false) (hb : b = true) : q := h (by simp [ha, hb])
  refine ⟨?_, ?_, ?_, ?_, ?_, ?_⟩
  · obtain ⟨u, hu, e, hl, hb⟩ := vbat_clauses (s := s) (ok := false) (c := s.pin.vbatOk && s.watches) (n := 0) (by decide)
    exact ⟨u, by rw [exec_vbatLow, vbatTo_false, hu], e, hl, both hb⟩
  · obtain ⟨u, hu, e, hl, hb⟩ := vbat_clauses (s := s) (ok := true) (c := !s.pin.vbatOk && s.watches) (n := 1) (by decide)
    exact ⟨u, by rw [exec_vbatOk, vbatTo_true, hu], e, hl, bothNot hb⟩
  · obtain ⟨u, hu, hl, hb⟩ := vio_clauses (s := s) (ok := false) (c := s.pin.vioOk && s.watches) (n := 2) (by decide)
    exact ⟨u, by rw [exec_vioLoss, vioTo_false, hu], hl, both hb⟩
  · obtain ⟨u, hu, hl, hb⟩ := vio_clauses (s := s) (ok := true) (c := !s.pin.vioOk && s.watches) (n := 3) (by decide)
    exact ⟨u, by rw [exec_vioOk, vioTo_true, hu], hl, bothNot hb⟩
  · have e := ended_settled s { s with pin := { s.pin with faultExt := true } }
    exact ⟨_, exec_faultNExternalPull s, e, e.pin_faultExt, fun hx hf => settleOut_pull hx hf⟩
  · rw [exec_faultNRelease]
    exact done_of fun u e => ⟨e, e.pin_faultExt⟩

end Sys2Proof.Machine

namespace Sys2Proof.Machine

/-! ## Requests for a power mode (R103 to R105, R108) -/

theorem exec_dozeRequest (s : State) (path : Path) (pins : WakePins) (dt : Nat) :
    exec (.dozeRequest path pins dt) s = (s.wakePins pins dt).done ((s.wakePins pins dt).writeBits path (rCTRL P.PWR) 1#32 3#32).untold := rfl

theorem exec_sleepRequest (s : State) (path : Path) (pins : WakePins) (dt : Nat) (sret tret : Bool) :
    exec (.sleepRequest path pins dt sret tret) s =
      (s.wakePins pins dt).done ((s.wakePins pins dt).writeBits path (rCTRL P.PWR) (wd (2 + 16 * sret.toNat + 32 * tret.toNat)) 0x33#32).untold := rfl

/-- That the pins' levels are known no longer changes nothing beside. -/
theorem Near.untold {s t : State} (h : Near s t) : Near s.untold t.untold where
  shape := congrArg State.untold h.shape
  rd := h.rd
  evt := h.evt
  flt := h.flt
  trc := h.trc
  trcq := h.trcq
  logq := h.logq
  rel := h.rel
  cond := h.cond
  rspq := h.rspq
  fifo := h.fifo
  phase := h.phase

/-- A write of some bits of a register that takes effect leaves what its landing leaves, but for what every landing adds. -/
theorem near_writeBits {s : State} {path : Path} {a : Nat} {b m : Word} {d : RegDesc} (h : s.Takes path a) (hd : regDesc a = some d) (hf : s.fetchReg a = (s, s.readReg a)) :
    Near (s.landReg path a d (s.modWord a b m)).1 (s.writeBits path a b m) := by
  obtain ⟨ha, hl, hw, hz⟩ := h
  have e : s.writeBits path a b m = (s.landWrite path a (s.modWord a b m)).1.answered ⟨path, 3, 0, a % 65536, b, m⟩ (s.landWrite path a (s.modWord a b m)).2 (s.readReg a) := by
    simp [State.writeBits, State.landModify, ha, hl, hf]
  rw [e]
  exact (near_landWrite hw hd hz).trans (near_answered _ _ _ _)

/-- PWR.CTRL: SRET and TRET are stored, MODE acts. -/
def pwrCtrl : RegDesc := ⟨4, .rw, 0x30, 3, 0⟩

/-- The state with PWR.CTRL written: no other register changes. -/
structure CtrlWritten (s t : State) : Prop where
  regs : ∃ l, t = { s with regs := l }
  rd : ∀ a, a ≠ rCTRL P.PWR → t.rd a = s.rd a

/-- A write of PWR.CTRL stores its settings, and MODE asks for a mode. -/
theorem landReg_pwrCtrl (s : State) (path : Path) (b m : Word) :
    ∃ t, CtrlWritten s t ∧ (s.landReg path (rCTRL P.PWR) pwrCtrl (s.modWord (rCTRL P.PWR) b m)).1 = t.modeReq (fld (b &&& m &&& 3#32) 0 2) := by
  have em : s.modWord (rCTRL P.PWR) b m = (s.readReg (rCTRL P.PWR) &&& ~~~3#32 &&& ~~~m) ||| (b &&& m) := rfl
  have ev : s.modWord (rCTRL P.PWR) b m &&& 3#32 = b &&& m &&& 3#32 := by rw [em]; exact modBits _ _ _ _
  refine ⟨s.landNow path (rCTRL P.PWR) pwrCtrl (s.modWord (rCTRL P.PWR) b m), ?_, ?_⟩
  · show CtrlWritten s (if _ = s.rd (rCTRL P.PWR) then s else s.wr (rCTRL P.PWR) _)
    split_ifs
    · exact ⟨⟨s.regs, rfl⟩, fun _ _ => rfl⟩
    · exact ⟨⟨_, rfl⟩, fun a ha => State.rd_wr_ne _ _ ha⟩
  · rw [landReg_own (by decide), ← ev]
    rfl

theorem CtrlWritten.pwr {s t : State} (h : CtrlWritten s t) : t.pwr = s.pwr := by obtain ⟨⟨l, rfl⟩, -⟩ := h; rfl
theorem CtrlWritten.pin {s t : State} (h : CtrlWritten s t) : t.pin = s.pin := by obtain ⟨⟨l, rfl⟩, -⟩ := h; rfl
theorem CtrlWritten.aon {s t : State} (h : CtrlWritten s t) : t.aon = s.aon := by obtain ⟨⟨l, rfl⟩, -⟩ := h; rfl

/-- The conditions of a mode request do not look at PWR.CTRL. -/
theorem CtrlWritten.modeWhy {s t : State} (h : CtrlWritten s t) (doze : Bool) : t.modeWhy doze = s.modeWhy doze := by
  obtain ⟨⟨l, rfl⟩, hr⟩ := h
  have active : State.wakeActive { s with regs := l } doze = s.wakeActive doze := by
    unfold State.wakeActive State.bit State.fd
    rw [hr R.PWR_WAKEEN (by decide), hr R.PWR_WAKECFG (by decide)]
    rfl
  unfold State.modeWhy
  rw [active]
  rfl

/-- A request that no condition of R103 refuses, the pins' levels being told. -/
theorem modeReq_doze {s : State} (hm : s.pwr.mode = .run) (ht : s.pin.told = true) (hw : s.modeWhy true = 0) : s.modeReq 1 = s.untold.dozeEnter := by
  have levels : s.pinLevels = s.untold := if_pos ht
  have why : s.untold.modeWhy true = 0 := hw
  simp [State.modeReq, hm, levels, why]

theorem modeReq_sleep {s : State} (hm : s.pwr.mode = .run) (ht : s.pin.told = true) (hw : s.modeWhy false = 0) : s.modeReq 2 = s.untold.sleepEnter := by
  have levels : s.pinLevels = s.untold := if_pos ht
  have why : s.untold.modeWhy false = 0 := hw
  simp [State.modeReq, hm, levels, why]

/-- The state a low-power mode is entered from: the entry noted, no wake source. -/
def State.standby (s : State) : State := ({ s with pwr := { s.pwr with entry := s.aon } } : State).wr R.PWR_WAKESRC 0#32

/-- The records of the entry leave it. -/
theorem standby_records (s : State) (r : BitVec 64) (n : Nat) : SupplyKept s.standby (State.trcDrain n (s.standby.trcPush r)) := (SupplyKept.refl _).trcPush.trcDrain

/-- What DOZE is entered with, before the output state settles. -/
theorem dozeEnter_eq (s : State) :
    ∃ t : State, s.dozeEnter = t.settleOut ∧ t.pwr.mode = .doze ∧ t.pst.cprdy = false ∧ t.rd R.PWR_WAKESRC = 0#32 ∧ t.aon = s.aon := by
  have k := standby_records s (s.standby.powerRec 1) 16
  exact ⟨_, rfl, rfl, rfl, (k.rd _ rfl).trans (State.rd_wr_self _ _ _), k.aon⟩

/-- What SLEEP is entered with. -/
theorem sleepEnter_eq (s : State) : ∃ t : State, s.sleepEnter = t.settleOut ∧ t.pwr.mode = .sleep ∧ t.cpu.held = true ∧ t.lnk.link = .down :=
  ⟨_, rfl, rfl, rfl, rfl⟩

/-- A write that takes effect finds the part in RUN. -/
theorem run_of_takes {s : State} {path : Path} {a : Nat} (h : s.Takes path a) : s.pwr.mode = .run := by
  have ha := h.1
  simp only [State.awake, Bool.and_eq_true, beq_iff_eq] at ha
  exact ha.2

/-- A write of PWR.CTRL leaves what the mode request it makes leaves, of a state with PWR.CTRL written. -/
theorem modeRequest_lands {s : State} {path : Path} (b m : Word) (h : s.Takes path (rCTRL P.PWR)) :
    ∃ r, CtrlWritten s r ∧ ∀ t : State, r.modeReq (fld (b &&& m &&& 3#32) 0 2) = t.settleOut →
      ∃ u, s.done (s.writeBits path (rCTRL P.PWR) b m).untold = .next u ∧ Landed s t.untold u := by
  have hd : regDesc (rCTRL P.PWR) = some pwrCtrl := rfl
  obtain ⟨r, hr, e⟩ := landReg_pwrCtrl s path b m
  have k := near_writeBits (b := b) (m := m) h hd (fetchReg_plain _ hd (by decide) (.inl rfl))
  refine ⟨r, hr, fun t ht => ?_⟩
  rw [e, ht] at k
  exact landed_done s ((Near.of_calms (calms_settleOut t)).trans k).untold

/-- A request for DOZE that is granted. -/
theorem doze_granted {s : State} {path : Path} (h : s.Takes path (rCTRL P.PWR)) (ht : s.pin.told = true) (hw : s.modeWhy true = 0) :
    ∃ u, s.done (s.writeBits path (rCTRL P.PWR) 1#32 3#32).untold = .next u ∧ u.pwr.mode = .doze ∧ u.pst.cprdy = false ∧ u.rd R.PWR_WAKESRC = 0#32 ∧ u.aon = s.aon ∧ u.AllOff := by
  obtain ⟨r, hr, land⟩ := modeRequest_lands 1#32 3#32 h
  have e : r.modeReq 1 = r.untold.dozeEnter := modeReq_doze (by rw [hr.pwr]; exact run_of_takes h) (by rw [hr.pin]; exact ht) ((hr.modeWhy true).trans hw)
  obtain ⟨t, et, hm, hc, hs, ha⟩ := dozeEnter_eq r.untold
  refine landed_of (land t (e.trans et)) fun u k => ?_
  have mode : u.pwr.mode = .doze := (congrArg PwrSt.mode k.pwr).trans hm
  exact ⟨mode, k.pst_cprdy.trans hc, (k.rd (by decide)).trans hs, k.aon.trans (ha.trans hr.aon), k.out.allOff (.inr (by rw [mode]; decide))⟩

/-- A request for SLEEP that is granted, whatever it has retained. -/
theorem sleep_granted {s : State} {path : Path} (b m : Word) (hb : fld (b &&& m &&& 3#32) 0 2 = 2) (h : s.Takes path (rCTRL P.PWR)) (ht : s.pin.told = true)
    (hw : s.modeWhy false = 0) :
    ∃ u, s.done (s.writeBits path (rCTRL P.PWR) b m).untold = .next u ∧ u.pwr.mode = .sleep ∧ u.cpu.held = true ∧ u.lnk.link = .down ∧ u.AllOff := by
  obtain ⟨r, hr, land⟩ := modeRequest_lands b m h
  have e : r.modeReq 2 = r.untold.sleepEnter := modeReq_sleep (by rw [hr.pwr]; exact run_of_takes h) (by rw [hr.pin]; exact ht) ((hr.modeWhy false).trans hw)
  obtain ⟨t, et, hm, hc, hl⟩ := sleepEnter_eq r.untold
  refine landed_of (land t (by rw [hb]; exact e.trans et)) fun u k => ?_
  have mode : u.pwr.mode = .sleep := (congrArg PwrSt.mode k.pwr).trans hm
  exact ⟨mode, (congrArg CpuSt.held k.cpu).trans hc, (congrArg LnkSt.link k.lnk).trans hl, k.out.allOff (.inr (by rw [mode]; decide))⟩

/-! ## Wakes (R107, R109, R111, R113, R114) -/

/-- The sources with which the part wakes: those that meet their condition, are available in the mode and enabled. -/
def State.wakeSrc (s : State) (bits dt : Nat) : Nat := s.withTimer bits dt &&& s.wakeMask &&& s.fd R.PWR_WAKEEN 0 7

/-- AON cycles pass. -/
def State.later (s : State) (dt : Nat) : State := { s with aon := s.aon + wd dt }

theorem wake_doze {s : State} {bits dt : Nat} (hs : s.wakeSrc bits dt ≠ 0) (hm : s.pwr.mode = .doze) :
    s.wake bits dt = ((s.later dt).dozeExit (s.wakeSrc bits dt)).settleOut :=
  (if_neg hs).trans (if_pos hm)

theorem wake_sleep {s : State} {bits dt : Nat} (hs : s.wakeSrc bits dt ≠ 0) (hm : s.pwr.mode = .sleep) :
    s.wake bits dt = (((s.later dt).sysReset 6 false true).wr R.PWR_WAKESRC (wd (s.wakeSrc bits dt))).settleOut :=
  (if_neg hs).trans (if_neg (by show s.pwr.mode ≠ _; rw [hm]; decide))

/-- What a wake from DOZE by the sources `src` leaves, `dt` AON cycles on. -/
structure WokenFromDoze (s : State) (src dt : Nat) (u : State) : Prop where
  mode : u.pwr.mode = .run
  modeLast : u.pwr.modeLast = 1
  src : u.rd R.PWR_WAKESRC = wd src
  evt : u.bit (rEVT P.PWR) 5 = true
  aon : u.aon = s.aon + wd dt

/-- What a wake from SLEEP leaves. -/
structure WokenFromSleep (s : State) (src dt : Nat) (u : State) : Prop where
  reset : ResetFrom (s.later dt) 6 false u
  src : u.rd R.PWR_WAKESRC = wd src

theorem wokenFromDoze {s : State} {bits dt : Nat} (hs : s.wakeSrc bits dt ≠ 0) (hm : s.pwr.mode = .doze) : WokenFromDoze s (s.wakeSrc bits dt) dt (s.wake bits dt) := by
  let woken : State := ({ s.later dt with pwr := { s.pwr with mode := .run, modeLast := 1 } } : State).wr R.PWR_WAKESRC (wd (s.wakeSrc bits dt))
  have k : SupplyKept woken (woken.trcPush (woken.powerRec 2)) := (SupplyKept.refl _).trcPush
  have k' : SupplyKept woken ((woken.trcPush (woken.powerRec 2)).raise P.PWR 5).settleOut := k.raise.settleOut
  rw [wake_doze hs hm]
  exact ⟨congrArg PwrSt.mode k'.pwr, congrArg PwrSt.modeLast k'.pwr, (k'.rd _ rfl).trans (State.rd_wr_self _ _ _),
    (calms_settleOut _).evt _ _ (bit_raise _ _ _ (by decide)), k'.aon⟩

theorem wokenFromSleep {s : State} {bits dt : Nat} (hs : s.wakeSrc bits dt ≠ 0) (hm : s.pwr.mode = .sleep) : WokenFromSleep s (s.wakeSrc bits dt) dt (s.wake bits dt) := by
  have r := resetFrom_sysReset (s.later dt) 6 false true
  have w : ResetFrom (s.later dt) 6 false (((s.later dt).sysReset 6 false true).wr R.PWR_WAKESRC (wd (s.wakeSrc bits dt))) :=
    { r with named := (State.rd_wr_ne _ _ (by decide)).trans r.named }
  have settled := calms_settleOut (((s.later dt).sysReset 6 false true).wr R.PWR_WAKESRC (wd (s.wakeSrc bits dt)))
  rw [wake_sleep hs hm]
  exact ⟨w.near (.of_calms settled), (settled.rd _ (by decide)).trans (State.rd_wr_self _ _ _)⟩

/-- The end of the command leaves either as it is. -/
theorem WokenFromDoze.ended {r s t u : State} {src dt : Nat} (h : WokenFromDoze s src dt t) (e : Ended r t u) : WokenFromDoze s src dt u :=
  ⟨e.pwr ▸ h.mode, e.pwr ▸ h.modeLast, (e.rd (by decide)).trans h.src, e.evt h.evt, e.aon.trans h.aon⟩

theorem WokenFromSleep.ended {r s t u : State} {src dt : Nat} (h : WokenFromSleep s src dt t) (e : Ended r t u) : WokenFromSleep s src dt u :=
  ⟨(landed_of_ended e).resetFrom h.reset, (e.rd (by decide)).trans h.src⟩

/-- A command wakes the part by the sources `src`, `dt` AON cycles on: from DOZE to RUN, HSP_CSN (`k = 16`) with its frame lost, and from SLEEP by a system reset. -/
def State.Wakes (s : State) (c : Instr) (k src dt : Nat) : Prop :=
  (s.pwr.mode = .doze → ∃ u, exec c s = .next u ∧ u.pwr.mode = .run ∧ u.pwr.modeLast = 1 ∧ u.rd R.PWR_WAKESRC = wd src ∧ u.bit (rEVT P.PWR) 5 = true ∧
    u.aon = s.aon + wd dt ∧ (k = 16 → u.hsp.last = 1 ∧ u.hsp.sdo = [])) ∧
  (s.pwr.mode = .sleep → ∃ u, exec c s = .next u ∧ u.ResetInForce ∧ u.rd R.PWR_WAKESRC = wd src ∧
    u.rd R.SYS_RSTCAUSE = setBit (s.rd R.SYS_RSTCAUSE) 6 true ∧ u.aon = s.aon + wd dt)

/-- What the command's effect `y` shows, the state it leaves shows. -/
theorem wakes_of {s y : State} {c : Instr} {k src dt : Nat} (hx : exec c s = s.done y) (hd : s.pwr.mode = .doze → WokenFromDoze s src dt y)
    (hs : s.pwr.mode = .sleep → WokenFromSleep s src dt y) (hk : s.pwr.mode = .doze → k = 16 → y.hsp.last = 1 ∧ y.hsp.sdo = []) : s.Wakes c k src dt := by
  unfold State.Wakes
  rw [hx]
  refine ⟨fun hm => done_of fun u e => ?_, fun hm => done_of fun u e => ?_⟩
  · obtain ⟨mode, last, source, evt, aon⟩ := (hd hm).ended e
    exact ⟨mode, last, source, evt, aon, fun h16 => e.hsp ▸ hk hm h16⟩
  · obtain ⟨r, source⟩ := (hs hm).ended e
    exact ⟨r.inForce e.out, source, r.named, r.aon⟩

/-- A wake by WAKE, the line, the timer, MON_RX or the twin link: `p` is what the pins are left at. -/
theorem wakes_plain {s : State} {c : Instr} {k bits dt : Nat} (p : PinSt) (hp : p.vbatOk = s.pin.vbatOk) (hx : exec c s = s.done (({ s with pin := p } : State).wake bits dt)) (hk : k ≠ 16)
    (hn : s.wakeSrc bits dt ≠ 0) : s.Wakes c k (s.wakeSrc bits dt) dt := by
  refine wakes_of hx (fun hm => ?_) (fun hm => ?_) fun _ h => absurd h hk
  · exact { wokenFromDoze (s := { s with pin := p }) hn hm with }
  · have h := wokenFromSleep (s := { s with pin := p }) hn hm
    exact { h with reset := { h.reset with vbatOk := h.reset.vbatOk.trans hp } }

theorem wakeHsp_doze {s : State} {bits dt : Nat} (hs : s.wakeSrc bits dt ≠ 0) (hm : s.pwr.mode = .doze) :
    s.wakeHsp bits dt = { s.wake bits dt with hsp := { (s.wake bits dt).hsp with last := 1, sdo := [] } } :=
  if_pos (by simp [hm, (wokenFromDoze hs hm).mode])

theorem wakeHsp_sleep {s : State} {bits dt : Nat} (hm : s.pwr.mode = .sleep) : s.wakeHsp bits dt = s.wake bits dt := if_neg (by simp [hm])

/-- A wake by HSP_CSN. -/
theorem wakes_hsp {s : State} {c : Instr} {k bits dt : Nat} (hx : exec c s = s.done (s.wakeHsp bits dt)) (hn : s.wakeSrc bits dt ≠ 0) :
    s.Wakes c k (s.wakeSrc bits dt) dt := by
  refine wakes_of hx (fun hm => ?_) (fun hm => ?_) fun hm _ => ?_
  · rw [wakeHsp_doze hn hm]; exact { wokenFromDoze hn hm with }
  · rw [wakeHsp_sleep hm]; exact wokenFromSleep hn hm
  · rw [wakeHsp_doze hn hm]; exact ⟨rfl, rfl⟩

theorem exec_wakePin (s : State) (also dt : Nat) : exec (.wakePin also dt) s = s.done (s.wakeEdge.wake (1 ||| (also &&& alsoMask)) dt) := rfl
theorem exec_wakeLine (s : State) (also dt : Nat) (outS : Bool) :
    exec (.wakeLine also dt outS) s = s.done (s.wake ((if s.lineCounts outS then 2 else 0) ||| (also &&& alsoMask)) dt) := rfl
theorem exec_wakeTimer (s : State) (also dt : Nat) : exec (.wakeTimer also dt) s = s.done (if s.withTimer 0 dt = 0 then s else s.wake (also &&& alsoMask) dt) := rfl
theorem exec_wakeHsp (s : State) (also dt : Nat) : exec (.wakeHsp also dt) s = s.done (s.wakeHsp (16 ||| (also &&& alsoMask)) dt) := rfl
theorem exec_wakeMon (s : State) (also dt : Nat) : exec (.wakeMon also dt) s = s.done (s.wake (32 ||| (also &&& alsoMask)) dt) := rfl
theorem exec_wakeTwin (s : State) (also dt : Nat) : exec (.wakeTwin also dt) s = s.done (s.wake (64 ||| (also &&& alsoMask)) dt) := rfl

/-- Where the interval ends in this very cycle, TIMER is among the sources whether it is named or not. -/
theorem withTimer_ends {s : State} {dt : Nat} (h : s.withTimer 0 dt ≠ 0) (bits : Nat) : s.withTimer (4 ||| bits) dt = s.withTimer bits dt := by
  unfold State.withTimer at h ⊢
  split_ifs at h ⊢
  · rw [Nat.lor_comm 4 bits, Nat.lor_assoc, Nat.or_self]
  · exact absurd rfl h

/-- Settles O10: a granted request lands the entry to its mode; a wake command's effect is the wake by its source and those that come with it. -/
theorem lowPower : Obligations.LowPower := by
  unfold Obligations.LowPower
  refine ⟨fun s path pins dt h => ⟨fun hw => ?_, fun sret tret hw => ?_⟩, fun s also dt outS _ e he => ?_⟩
  · rw [exec_dozeRequest]
    exact doze_granted h rfl hw
  · rw [exec_sleepRequest]
    exact sleep_granted _ _ (by cases sret <;> cases tret <;> rfl) h rfl hw
  · intro src hn
    suffices s.Wakes e.1 e.2.1 src e.2.2 from this
    simp only [List.mem_append, List.mem_cons, List.not_mem_nil, or_false] at he
    rcases he with (rfl | rfl | rfl | rfl | rfl) | he
    · exact wakes_plain (k := 1) s.wakeEdge.pin rfl (exec_wakePin s also dt) (by decide) hn
    · exact wakes_plain s.pin rfl (exec_wakeLine s also dt outS) (by show (if _ then _ else _) ≠ _; split_ifs <;> decide) hn
    · exact wakes_hsp (exec_wakeHsp s also dt) hn
    · exact wakes_plain (k := 32) s.pin rfl (exec_wakeMon s also dt) (by decide) hn
    · exact wakes_plain (k := 64) s.pin rfl (exec_wakeTwin s also dt) (by decide) hn
    · by_cases ht : s.withTimer 0 dt = 0
      · simp [ht] at he
      · rw [if_neg ht, List.mem_singleton] at he
        subst he
        have same : src = s.wakeSrc (also &&& alsoMask) dt := by
          show s.withTimer (4 ||| (also &&& alsoMask)) dt &&& _ &&& _ = _
          rw [withTimer_ends ht]; rfl
        rw [same] at hn ⊢
        exact wakes_plain (k := 4) s.pin rfl ((exec_wakeTimer s also dt).trans (by rw [if_neg ht])) (by decide) hn

end Sys2Proof.Machine

namespace Sys2Proof.Machine

/-! ## Raise -/

/-- A register that is no EVT word. -/
theorem ne_rEVT {a : Nat} (q : Nat) (h : a % 256 ≠ 0x0C) : a ≠ rEVT q := by
  rintro rfl
  exact h (by simp only [rEVT]; omega)

/-- Setting an EVT bit moves nothing that trace's trigger looks at. -/
theorem trigHit_wr_evt (s : State) (q : Nat) (v : Word) (p n : Nat) : (s.wr (rEVT q) v).trigHit p n = s.trigHit p n := by
  unfold State.trigHit State.fd
  rw [State.rd_wr_ne _ _ (ne_rEVT q (by decide : R.TRC_TRIG % 256 ≠ 0x0C)), State.rd_wr_ne _ _ (ne_rEVT q (by decide : R.TRC_PRE % 256 ≠ 0x0C))]
  rfl

/-- An event that was not set, is not enabled and is not trace's trigger sets its bit and has no route (R133). -/
theorem raise_disabled {s : State} {p n : Nat} (hb : s.bit (rEVT p) n = false) (he : s.bit (rEVEN p) n = false) (ht : s.trigHit p n = false) :
    s.raise p n = s.wr (rEVT p) (setBit (s.rd (rEVT p)) n true) := by
  have untriggered (up : Up) (v : Word) : (s.wr (rEVT p) v).trigRoute up p n = s.wr (rEVT p) v := if_neg (by simp [trigHit_wr_evt, ht])
  have disabled (v : Word) : (s.wr (rEVT p) v).bit (rEVEN p) n = false := by
    rwa [State.bit, State.rd_wr_ne _ _ (by simp only [rEVEN, rEVT]; omega)]
  unfold State.raise State.raiseN
  rw [if_neg (by simp [hb])]
  simp only [untriggered, disabled, Bool.not_false, if_true]

/-- Settles O6: the bit is set, the routes keep what they do not touch, and an event that is disabled has none. -/
theorem raise : Obligations.Raise := by
  unfold Obligations.Raise
  exact ⟨fun s p n hn => ⟨bit_raise s p n hn, (keeps_raise s p n).evt⟩, fun s p n => ⟨keeps_raise s p n, quiet_raise s p n⟩, fun s p n => raise_disabled⟩

end Sys2Proof.Machine

namespace Sys2Proof.Machine

/-! ## Words: fields beside the one that is written, bits that are cleared -/

/-- A bit outside the field that is written stands. -/
theorem bitOf_setFld_ne (v : Word) {lo w n m : Nat} (h : m < lo ∨ lo + w ≤ m) : bitOf (setFld v lo w n) m = bitOf v m := by
  have outside (x : Nat) (hx : x < 2 ^ w) : (x <<< lo).testBit m = false := by
    rw [Nat.testBit_shiftLeft]
    rcases h with h | h
    · simp [Nat.not_le.mpr h]
    · rw [Nat.testBit_lt_two_pow (lt_of_lt_of_le hx (Nat.pow_le_pow_right (by decide) (by omega))), Bool.and_false]
  have pos : 0 < 2 ^ w := Nat.two_pow_pos w
  simp only [bitOf, setFld, maskOf, BitVec.getLsbD_or, BitVec.getLsbD_and, BitVec.getLsbD_not, BitVec.getLsbD_ofNat, outside _ (Nat.mod_lt n pos), outside (2 ^ w - 1) (by omega)]
  by_cases hm : m < 32
  · simp [hm]
  · simp [hm, BitVec.getLsbD_of_ge v m (by omega)]

/-- A field is its bits. -/
theorem testBit_fld (v : Word) (lo w i : Nat) : (fld v lo w).testBit i = (decide (i < w) && bitOf v (lo + i)) := by
  rw [fld, Nat.testBit_mod_two_pow, Nat.testBit_shiftRight]; rfl

/-- A field beside the one that is written stands. -/
theorem fld_setFld_ne (v : Word) {lo w n lo' w' : Nat} (h : lo' + w' ≤ lo ∨ lo + w ≤ lo') : fld (setFld v lo w n) lo' w' = fld v lo' w' := by
  refine Nat.eq_of_testBit_eq fun i => ?_
  rw [testBit_fld, testBit_fld]
  by_cases hi : i < w'
  · rw [bitOf_setFld_ne v (by omega)]
  · simp [hi]

/-- A bit of a word of which some are cleared. -/
theorem bitOf_clear (v w : Word) (n : Nat) : bitOf (v &&& ~~~w) n = (bitOf v n && !bitOf w n) := by
  simp only [bitOf, BitVec.getLsbD_and, BitVec.getLsbD_not]
  by_cases hn : n < 32
  · simp [hn]
  · simp [BitVec.getLsbD_of_ge v n (by omega)]

theorem bitOf_and (v w : Word) (n : Nat) : bitOf (v &&& w) n = (bitOf v n && bitOf w n) := BitVec.getLsbD_and ..
theorem bitOf_or (v w : Word) (n : Nat) : bitOf (v ||| w) n = (bitOf v n || bitOf w n) := BitVec.getLsbD_or ..

/-! ## The common words that no landing touches beside their own write -/

theorem raiseTouches_common (p : Nat) {a : Nat} (h : a % 256 < 0x20) (he : a % 256 ≠ 0x0C) : raiseTouches p a = false := by
  have evt (q : Nat) : (a == rEVT q) = false := beq_eq_false_iff_ne.mpr (ne_rEVT q he)
  have own (b : Nat) (hb : ¬ b % 256 < 0x20) : (a == b) = false := by rw [beq_eq_false_iff_ne]; rintro rfl; exact hb h
  simp only [raiseTouches, evt, own R.QUE_EVLOSTCT (by decide), own R.LOG_LOSTCT (by decide), own R.TRC_LOST (by decide), Bool.or_self]

theorem rLOCK_mod (p : Nat) : rLOCK p % 256 = 0x1C := by simp only [rLOCK]; omega
theorem rLOCK_div (p : Nat) : rLOCK p / 256 = p := by simp only [rLOCK]; omega
theorem rFLT_mod (p : Nat) : rFLT p % 256 = 0x18 := by simp only [rFLT]; omega
theorem rFLT_div (p : Nat) : rFLT p / 256 = p := by simp only [rFLT]; omega
theorem rEVT_mod (p : Nat) : rEVT p % 256 = 0x0C := by simp only [rEVT]; omega
theorem rEVT_div (p : Nat) : rEVT p / 256 = p := by simp only [rEVT]; omega
theorem rEVEN_mod (p : Nat) : rEVEN p % 256 = 0x10 := by simp only [rEVEN]; omega
theorem rEVEN_div (p : Nat) : rEVEN p / 256 = p := by simp only [rEVEN]; omega

/-- A landing touches no common word but EVT and the FLT words of PST and SLF, unless it is that word's write. -/
theorem landTouches_common {a : Nat} (h : a % 256 < 0x20) (he : a % 256 ≠ 0x0C) (hp : a ≠ rFLT P.PST) (hs : a ≠ rFLT P.SLF) : landTouches a = false := by
  have event (p : Nat) : raiseTouches p a = false := raiseTouches_common p h he
  have flt : (a == rFLT P.PST) = false ∧ (a == rFLT P.SLF) = false := ⟨beq_eq_false_iff_ne.mpr hp, beq_eq_false_iff_ne.mpr hs⟩
  have own (b : Nat) (hb : ¬ b % 256 < 0x20) : (a == b) = false := by rw [beq_eq_false_iff_ne]; rintro rfl; exact hb h
  have shadow (p : Nat) : (a == 256 * p + 0xFC) = false := own _ (by omega)
  simp only [landTouches, settleTouches, event, flt, shadow, List.any_cons, List.any_nil, own R.PST_TRIPCT (by decide), own R.PST_LAST (by decide), own R.PST_LASTTICK (by decide),
    own R.SLF_LASTV (by decide), own R.SLF_LASTU (by decide), own R.SLF_LASTTICK (by decide), own R.SLF_LASTCT (by decide), own R.SLF_TRANCT (by decide),
    own R.SLF_NOTESTCT (by decide), own R.SLF_DETCT (by decide), own R.SLF_BKT1 (by decide), Bool.or_self]

theorem landTouches_lock (p : Nat) : landTouches (rLOCK p) = false :=
  landTouches_common (by rw [rLOCK_mod]; decide) (by rw [rLOCK_mod]; decide) (ne_of_apply_ne (· % 256) (by simp only [rLOCK_mod, rFLT_mod]; decide))
    (ne_of_apply_ne (· % 256) (by simp only [rLOCK_mod, rFLT_mod]; decide))

theorem landTouches_even (p : Nat) : landTouches (rEVEN p) = false :=
  landTouches_common (by rw [rEVEN_mod]; decide) (by rw [rEVEN_mod]; decide) (ne_of_apply_ne (· % 256) (by simp only [rEVEN_mod, rFLT_mod]; decide))
    (ne_of_apply_ne (· % 256) (by simp only [rEVEN_mod, rFLT_mod]; decide))

theorem rFLT_inj {p q : Nat} (h : rFLT p = rFLT q) : p = q := by simp only [rFLT] at h; omega

theorem landTouches_flt {p : Nat} (hp : p ≠ P.PST) (hs : p ≠ P.SLF) : landTouches (rFLT p) = false :=
  landTouches_common (by rw [rFLT_mod]; decide) (by rw [rFLT_mod]; decide) (fun e => hp (rFLT_inj e)) (fun e => hs (rFLT_inj e))

/-- A write that takes effect reaches a register of the table. -/
theorem State.Takes.desc {s : State} {path : Path} {a : Nat} (h : s.Takes path a) : a < 65536 ∧ ∃ d, regDesc a = some d := by
  obtain ⟨-, -, hw, -⟩ := h
  unfold State.wrStatus at hw
  split_ifs at hw with ha
  simp only [not_or, Nat.not_le, ge_iff_le] at ha
  obtain ⟨lt, -, -, d⟩ := ha
  exact ⟨lt, Option.ne_none_iff_exists'.mp (by simpa using d)⟩

/-- The state a write of a common word leaves is the one its own landing leaves, but for what every landing adds. -/
theorem landed_common {s : State} {path : Path} {a : Nat} {v : Word} {t : State} {Q : State → Prop} (h : s.Takes path a)
    (e : ∀ d, (s.landReg path a d v).1 = t) (q : ∀ u, Landed s t u → Q u) : ∃ u, s.done (s.writeWord path a v) = .next u ∧ Q u := by
  obtain ⟨-, d, hd⟩ := h.desc
  exact landed_of (landed_word h hd) fun u k => q u (e d ▸ k)

/-! ## LOCK -/

theorem openTo_bit {s : State} {path : Path} {p : Nat} (h : s.openTo path p = true) : s.bit (rLOCK p) 16 = true := by
  simp only [State.openTo, Bool.and_eq_true] at h
  exact h.1

/-- LOCK with the fences as a path's write leaves them: the core's supervisor path alone writes them (R131). -/
def State.fencing (s : State) (path : Path) (p : Nat) (v : Word) : Word :=
  if path = .coreSup then setFld (s.rd (rLOCK p)) 24 2 (fld v 24 2) else s.rd (rLOCK p)

section lock
variable (s : State) (path : Path) (p : Nat) (v : Word)

theorem fencing_bit : bitOf (s.fencing path p v) 16 = s.bit (rLOCK p) 16 := by
  unfold State.fencing
  split_ifs
  · exact bitOf_setFld_ne _ (by decide)
  · rfl

theorem fencing_fld {lo w : Nat} (h : lo + w ≤ 24) : fld (s.fencing path p v) lo w = s.fd (rLOCK p) lo w := by
  unfold State.fencing
  split_ifs
  · exact fld_setFld_ne _ (.inl h)
  · rfl

theorem fencing_fences (h : path ≠ .coreSup) : fld (s.fencing path p v) 24 2 = s.fd (rLOCK p) 24 2 := by
  rw [State.fencing, if_neg h]; rfl

theorem landReg_lock (d : RegDesc) : s.landReg path (rLOCK p) d v = s.landLock path p v := by
  simp only [State.landReg, rLOCK_mod, rLOCK_div, ite_true]

/-- What a write leaves in LOCK (R127). -/
def State.lockWord : Word :=
  let f := s.fencing path p v
  if s.bit (rLOCK p) 16 = false then (if fld v 0 16 = 0xA500 + p then setFld (setFld f 16 1 1) 17 3 (pathCode path) else f)
  else if s.openTo path p = true ∧ fld v 0 16 ≠ 0xA500 + p then setFld f 16 4 0 else f

theorem landLock_fst : (s.landLock path p v).1 = s.wr (rLOCK p) (s.lockWord path p v) := by
  have bit : bitOf (s.rd (rLOCK p)) 16 = s.bit (rLOCK p) 16 := rfl
  unfold State.landLock State.lockWord State.fencing
  by_cases hb : s.bit (rLOCK p) 16 = true <;> by_cases ho : s.openTo path p = true <;> by_cases hk : fld v 0 16 = 0xA500 + p <;> simp [bit, hb, ho, hk]

end lock

/-- What is shown of the new word of LOCK holds of LOCK after the write. -/
theorem lockWrite_of {s : State} {path : Path} {p : Nat} {v : Word} {Q : State → Prop} (h : s.Takes path (rLOCK p))
    (q : ∀ u, u.rd (rLOCK p) = s.lockWord path p v → Q u) : ∃ u, exec (.lockWrite path p v) s = .next u ∧ Q u := by
  refine landed_common h (fun d => (congrArg Prod.fst (landReg_lock s path p v d)).trans (landLock_fst s path p v)) fun u k => q u ?_
  rw [k.rd (landTouches_lock p), State.rd_wr_self]

section lock
variable {s : State} {path : Path} {p : Nat} {v : Word}

/-- No write but the core supervisor's moves the fences. -/
theorem lockWord_fences (h : path ≠ .coreSup) : fld (s.lockWord path p v) 24 2 = s.fd (rLOCK p) 24 2 := by
  rw [← fencing_fences s path p v h]
  unfold State.lockWord
  extract_lets f
  split_ifs
  · rw [fld_setFld_ne _ (by decide), fld_setFld_ne _ (by decide)]
  · rfl
  · exact fld_setFld_ne _ (by decide)
  · rfl

/-- The key opens a closed page to the path that writes it. -/
theorem lockWord_opens (hc : s.bit (rLOCK p) 16 = false) (hk : fld v 0 16 = 0xA500 + p) :
    bitOf (s.lockWord path p v) 16 = true ∧ fld (s.lockWord path p v) 17 3 = pathCode path := by
  have holder : pathCode path % 2 ^ 3 = pathCode path := by cases path <;> rfl
  simp only [State.lockWord, hc, hk, ite_true]
  refine ⟨?_, (fld_setFld _ (by decide)).trans holder⟩
  rw [bitOf_setFld_ne _ (by decide)]
  exact (bitOf_setBit _ 16 16 true (by decide) (by decide)).trans (if_pos rfl)

/-- Without the key a closed page stays closed. -/
theorem lockWord_closed (hc : s.bit (rLOCK p) 16 = false) (hk : fld v 0 16 ≠ 0xA500 + p) : s.lockWord path p v = s.fencing path p v := by
  simp only [State.lockWord, hc, hk, ite_true, ite_false]

/-- A write of the holder without the key closes the page. -/
theorem lockWord_closes (ho : s.openTo path p = true) (hk : fld v 0 16 ≠ 0xA500 + p) : fld (s.lockWord path p v) 16 4 = 0 := by
  simp only [State.lockWord, openTo_bit ho, ho, Bool.true_eq_false, ite_false, ne_eq, hk, not_false_eq_true, and_self, ite_true]
  exact fld_setFld _ (by decide)

/-- With the key, or from another path than the holder's, an open page stays as it is. -/
theorem lockWord_stays (hb : s.bit (rLOCK p) 16 = true) (h : s.openTo path p = false ∨ fld v 0 16 = 0xA500 + p) : s.lockWord path p v = s.fencing path p v := by
  have n : ¬(s.openTo path p = true ∧ fld v 0 16 ≠ 0xA500 + p) := by rintro ⟨ho, hk⟩; exact h.elim (by simp [ho]) hk
  simp only [State.lockWord, hb, Bool.true_eq_false, ite_false, n]

end lock

/-- The clauses of LOCK (R127 to R131). -/
theorem lockWrite_clauses {s : State} {path : Path} {page : Nat} (v : Word) (h : s.Takes path (rLOCK page)) :
    let fences := fun u : State => path ≠ .coreSup → u.fd (rLOCK page) 24 2 = s.fd (rLOCK page) 24 2
    (s.bit (rLOCK page) 16 = false → fld v 0 16 = 0xA500 + page → ∃ u, exec (.lockWrite path page v) s = .next u ∧ u.openTo path page = true ∧ fences u) ∧
      (s.bit (rLOCK page) 16 = false → fld v 0 16 ≠ 0xA500 + page → ∃ u, exec (.lockWrite path page v) s = .next u ∧ u.bit (rLOCK page) 16 = false ∧ fences u) ∧
      (s.openTo path page = true → fld v 0 16 ≠ 0xA500 + page → ∃ u, exec (.lockWrite path page v) s = .next u ∧ u.fd (rLOCK page) 16 4 = 0 ∧ fences u) ∧
      (s.openTo path page = true → fld v 0 16 = 0xA500 + page → ∃ u, exec (.lockWrite path page v) s = .next u ∧ u.openTo path page = true ∧ fences u) ∧
      (s.bit (rLOCK page) 16 = true → s.openTo path page = false →
        ∃ u, exec (.lockWrite path page v) s = .next u ∧ u.fd (rLOCK page) 16 4 = s.fd (rLOCK page) 16 4 ∧ fences u) := by
  intro fences
  have fence {u : State} (hu : u.rd (rLOCK page) = s.lockWord path page v) : fences u := fun hp => (congrArg (fld · 24 2) hu).trans (lockWord_fences hp)
  refine ⟨fun hc hk => ?_, fun hc hk => ?_, fun ho hk => ?_, fun ho hk => ?_, fun hb ho => ?_⟩
  · refine lockWrite_of h fun u hu => ⟨?_, fence hu⟩
    obtain ⟨opens, holder⟩ := lockWord_opens (path := path) hc hk
    simp only [State.openTo, State.bit, State.fd, hu, opens, holder, beq_self_eq_true, Bool.and_self]
  · refine lockWrite_of h fun u hu => ⟨?_, fence hu⟩
    rw [State.bit, hu, lockWord_closed hc hk, fencing_bit, hc]
  · refine lockWrite_of h fun u hu => ⟨?_, fence hu⟩
    rw [State.fd, hu, lockWord_closes ho hk]
  · refine lockWrite_of h fun u hu => ⟨?_, fence hu⟩
    rw [State.openTo, State.bit, State.fd, hu, lockWord_stays (openTo_bit ho) (.inr hk), fencing_bit, fencing_fld _ _ _ _ (by decide)]
    exact ho
  · refine lockWrite_of h fun u hu => ⟨?_, fence hu⟩
    rw [State.fd, hu, lockWord_stays hb (.inl ho), fencing_fld _ _ _ _ (by decide)]

end Sys2Proof.Machine

namespace Sys2Proof.Machine

/-! ## FLT -/

/-- The bits of FLT a page's table has (R130). -/
def fltMask (p : Nat) : Word := ((((pageRegs p).getD []).find? fun d => d.off == 0x18).map fun d => wd d.wmask).getD 0#32

/-- No page's table names FLT twice. -/
theorem fltMask_eq {p : Nat} (hp : p < 256) {d : RegDesc} (hd : d ∈ (pageRegs p).getD []) (ho : d.off = 0x18) : fltMask p = wd d.wmask := by
  have once : ∀ p < 256, ((pageRegs p).getD []).all (fun d => d.off != 0x18 || fltMask p == wd d.wmask) = true := by decide +kernel
  have e := List.all_eq_true.mp (once p hp) d hd
  simpa [ho] using e

/-- The sticky bits a write clears through an open page: of PST those alone whose condition has ended (R463). -/
def State.fltCleared (s : State) (p : Nat) (v : Word) : Word :=
  if p = P.PST then v &&& fltMask p &&& ~~~(wd (s.pst.cond ||| (if s.cycleOver then 0x800 else 0))) else v &&& fltMask p

theorem rd_raise_flt (s : State) (p n q : Nat) : (s.raise p n).rd (rFLT q) = s.rd (rFLT q) := (keeps_raise s p n).rd _ (rFLT_touch p q)
theorem rd_raiseIf_flt (s : State) (c : Bool) (p n q : Nat) : (s.raiseIf c p n).rd (rFLT q) = s.rd (rFLT q) := (keeps_raiseIf s c p n).rd _ (rFLT_touch p q)
theorem rd_logPush_flt (s : State) (k p : Nat) (a b : Word) (q : Nat) : (s.logPush k p a b).rd (rFLT q) = s.rd (rFLT q) := (keeps_logPush 0 s k p a b).rd _ (rFLT_touch 0 q)

/-- A count of the link's lost ups moves no sticky bit. -/
theorem rd_lns_flt (s : State) (q : Nat) : (s.lns R.LNS_LINKDN 1).rd (rFLT q) = s.rd (rFLT q) := by
  have counted : (s.lnsAdd R.LNS_LINKDN 1).rd (rFLT q) = s.rd (rFLT q) :=
    (rd_raiseIf_flt ..).trans (State.rd_wr_ne _ _ (ne_of_apply_ne (· % 256) (by simp only [rFLT_mod]; decide)))
  unfold State.lns
  rw [if_neg (by decide)]
  split_ifs
  · rfl
  · rfl
  · exact counted

/-- What a change of the link's state raises moves no sticky bit. -/
theorem rd_linkEv_flt (s : State) (f : State → State) (q : Nat) : (s.linkEv f).rd (rFLT q) = (f s).rd (rFLT q) := by
  unfold State.linkEv
  extract_lets was t
  split_ifs
  · exact (rd_lns_flt _ _).trans (rd_raise_flt ..)
  · exact rd_raiseIf_flt ..

section flt
variable (s : State) (path : Path) (p : Nat) (v : Word)

theorem landReg_flt (d : RegDesc) : s.landReg path (rFLT p) d v = s.landFlt path p v := by
  simp only [State.landReg, rFLT_mod, rFLT_div, Nat.reduceEqDiff, ite_true, ite_false]

/-- The bits of a write that FLT has, as the landing looks them up. -/
theorem landFlt_eq : s.landFlt path p v =
    if v &&& fltMask p = 0#32 then (s, 0)
    else if !s.openTo path p then (s, 2)
    else (if p = P.LNK then s.linkEv fun s' => s'.wr (rFLT p) (s'.rd (rFLT p) &&& ~~~(s.fltCleared p v)) else s.wr (rFLT p) (s.rd (rFLT p) &&& ~~~(s.fltCleared p v)), 0) := by
  unfold State.landFlt State.fltCleared fltMask
  cases ((pageRegs p).getD []).find? fun d => d.off == 0x18 <;> rfl

variable {s path p v}

/-- A closed page keeps its sticky bits. -/
theorem landFlt_closed (h : s.openTo path p = false) : (s.landFlt path p v).1 = s := by
  rw [landFlt_eq, h]
  by_cases hz : v &&& fltMask p = 0#32
  · rw [if_pos hz]
  · rw [if_neg hz, if_pos (by decide)]

/-- An open page loses those a write clears. -/
theorem rd_landFlt_open (h : s.openTo path p = true) : (s.landFlt path p v).1.rd (rFLT p) = s.rd (rFLT p) &&& ~~~(s.fltCleared p v) := by
  rw [landFlt_eq, h]
  by_cases hz : v &&& fltMask p = 0#32
  · have none : s.fltCleared p v = 0#32 := by unfold State.fltCleared; split_ifs <;> simp [hz]
    rw [if_pos hz, none, BitVec.not_zero, BitVec.and_allOnes]
  · rw [if_neg hz, if_neg (by decide)]
    by_cases hl : p = P.LNK
    · rw [if_pos hl, rd_linkEv_flt, State.rd_wr_self]
    · rw [if_neg hl, State.rd_wr_self]

end flt

/-- A write clears no bit it has 0 at. -/
theorem fltCleared_le {s : State} {p : Nat} {v : Word} {n : Nat} (h : bitOf v n = false) : bitOf (s.fltCleared p v) n = false := by
  unfold State.fltCleared
  split_ifs <;> simp only [bitOf_and, h, Bool.false_and]

theorem bit_landFlt_kept {s : State} {path : Path} {p : Nat} {v : Word} {n : Nat} (h : s.openTo path p = false ∨ bitOf v n = false) (hb : s.bit (rFLT p) n = true) :
    (s.landFlt path p v).1.bit (rFLT p) n = true := by
  by_cases ho : s.openTo path p = true
  · have hv := h.resolve_left (by simp [ho])
    rw [State.bit, rd_landFlt_open ho, bitOf_clear, fltCleared_le hv, Bool.not_false, Bool.and_true]
    exact hb
  · rwa [landFlt_closed (by simpa using ho)]

/-! ### The sticky bits of PST's monitors, FEXT and CBCLIM apart, through the settling of the output state -/

/-- The bits of the monitors stand. -/
structure TripsKept (s t : State) : Prop where
  bit : ∀ n, n < 10 → t.bit (rFLT P.PST) n = s.bit (rFLT P.PST) n

namespace TripsKept

theorem refl (s : State) : TripsKept s s := ⟨fun _ _ => rfl⟩
theorem trans {s t u : State} (h : TripsKept s t) (k : TripsKept t u) : TripsKept s u := ⟨fun n hn => (k.bit n hn).trans (h.bit n hn)⟩
theorem of_rd {s t : State} (h : t.rd (rFLT P.PST) = s.rd (rFLT P.PST)) : TripsKept s t := ⟨fun n _ => congrArg (bitOf · n) h⟩
theorem of_regs {s t : State} (h : t.regs = s.regs := by exact rfl) : TripsKept s t := of_rd (rd_of_regs h _)
theorem ite {s t u : State} {c : Prop} [Decidable c] (h : TripsKept s t) (k : TripsKept s u) : TripsKept s (if c then t else u) := by
  split_ifs <;> assumption

section
variable {s t : State} (h : TripsKept s t)
include h

theorem wr {a : Nat} {v : Word} (ha : rFLT P.PST ≠ a := by decide) : TripsKept s (t.wr a v) := h.trans (of_rd (State.rd_wr_ne _ _ ha))
theorem raise {p n : Nat} : TripsKept s (t.raise p n) := h.trans (of_rd (rd_raise_flt ..))
theorem raiseIf {c : Bool} {p n : Nat} : TripsKept s (t.raiseIf c p n) := h.trans (of_rd (rd_raiseIf_flt ..))

/-- A latch of FEXT sets its own bit. -/
theorem setFlt_fext : TripsKept s (t.setFlt P.PST 10) := by
  have set : TripsKept t (t.wr (rFLT P.PST) (setBit (t.rd (rFLT P.PST)) 10 true)) := by
    refine ⟨fun n hn => ?_⟩
    rw [State.bit, State.rd_wr_self, bitOf_setBit _ _ _ _ (by decide) (by omega), if_neg (by omega), State.bit]
  exact .ite h ((h.trans set).trans (of_rd (rd_logPush_flt ..)))

theorem syncOut : TripsKept s t.syncOut := by
  unfold State.syncOut
  extract_lets was x _ y
  have hx : TripsKept s x := .ite (h.trans .of_regs) h
  have hy : TripsKept s y := hx.trans .of_regs
  exact .ite hy.raise hy

theorem latch_fext : TripsKept s (t.latch 10) := by
  unfold State.latch
  extract_lets x y z w
  have hy : TripsKept s y := .wr (.wr (.wr h.setFlt_fext))
  have hz : TripsKept s z := .raise (.syncOut (hy.trans .of_regs))
  have hw : TripsKept s w := hz.trans .of_regs
  rw [if_neg (by decide : ¬(10 = 4 ∨ 10 = 7 ∨ 10 = 8))]
  exact .ite h hw

theorem pullLatch : TripsKept s t.pullLatch := by
  unfold State.pullLatch
  extract_lets fx _ x
  have hx : TripsKept s x := h.trans .of_regs
  exact .ite hx.raise.latch_fext hx

theorem applySafe : TripsKept s t.applySafe := by
  unfold State.applySafe
  extract_lets sub x
  have hx : TripsKept s x := h.raiseIf
  exact hx.trans .of_regs

theorem settleOut : TripsKept s t.settleOut := .applySafe (.syncOut (.ite h.pullLatch (h.pullLatch.trans .of_regs)))

/-- The twin's record of a write. -/
theorem note {w a : Nat} {d : Word} : TripsKept s (t.note w a d) := by
  obtain ⟨x, e⟩ := note_eq t w a d 1
  rw [e]
  exact h.trans .of_regs

end

end TripsKept

/-- The answer to a write moves no register. -/
theorem answered_regs (s : State) (c : Cmd) (w : Nat) (v : Word) : (s.answered c w v).regs = s.regs := by
  unfold State.answered
  split_ifs
  · unfold State.monSpend; split_ifs <;> rfl
  · rfl
  · unfold State.respond
    dsimp only
    split
    · split_ifs <;> rfl
    · split_ifs <;> rfl
    · rfl

/-- Of a register whose bits clear by a 1 no core read keeps a value and no path is told (R149). -/
theorem landWrite_w1c {s : State} {path : Path} {a : Nat} {v : Word} {d : RegDesc} (hw : s.wrStatus path a = 0) (hd : regDesc a = some d)
    (hf : (s.frozen && !localPage (a / 256)) = false) (hacc : d.acc = .w1c) :
    (s.landWrite path a v).1 = (if (s.landReg path a d v).2 = 0 ∧ d.acc ≠ .ro then (s.landReg path a d v).1.note 4 (0x40000000 + a) v else (s.landReg path a d v).1).settleOut := by
  have told : shadowable a d = false := by simp [shadowable, hacc]
  have kept : ¬((s.landReg path a d v).2 = 0 ∧ (d.acc = .rw ∨ d.acc = .lk)) := by simp [hacc]
  unfold State.landWrite
  simp only [hw, ne_eq, not_true_eq_false, ite_false, hd, hf, Bool.false_eq_true, told, Bool.and_false, kept]

/-- A write of PST.FLT leaves the monitors' bits as its own landing leaves them. -/
theorem fltClear_trips {s : State} {path : Path} {v : Word} (h : s.Takes path (rFLT P.PST)) :
    ∃ u, exec (.fltClear path P.PST v) s = .next u ∧ TripsKept (s.landFlt path P.PST v).1 u := by
  obtain ⟨awake, now, status, unfrozen⟩ := h
  have landed : TripsKept (s.landFlt path P.PST v).1 (s.landWrite path (rFLT P.PST) v).1 := by
    rw [landWrite_w1c (d := ⟨0x18, .w1c, 0xFFF, 0, 0⟩) status rfl unfrozen rfl, landReg_flt]
    exact .settleOut (.ite (.note (.refl _)) (.refl _))
  have written : s.writeWord path (rFLT P.PST) v =
      (s.landWrite path (rFLT P.PST) v).1.answered ⟨path, 2, 0, rFLT P.PST % 65536, v, 0#32⟩ (s.landWrite path (rFLT P.PST) v).2 v := by
    simp only [State.writeWord, awake, now, Bool.not_true, Bool.false_eq_true, ite_false, ite_true]
  refine ⟨_, rfl, ?_⟩
  rw [written]
  exact TripsKept.trans (.settleOut (landed.trans (.of_regs (answered_regs ..)))) .of_regs

end Sys2Proof.Machine

namespace Sys2Proof.Machine

/-! ### The clauses of FLT (R130, R463) -/

/-- What is shown of a state near the landing of FLT holds of the state a write of FLT leaves. -/
theorem fltClear_of {s : State} {path : Path} {p : Nat} {v : Word} {Q : State → Prop} (h : s.Takes path (rFLT p)) (q : ∀ u, Landed s (s.landFlt path p v).1 u → Q u) :
    ∃ u, exec (.fltClear path p v) s = .next u ∧ Q u :=
  landed_common h (fun d => congrArg Prod.fst (landReg_flt s path p v d)) q

/-- A sticky bit stands where the page is closed, or the write has 0 at it. -/
theorem fltClear_kept {s : State} {path : Path} {p : Nat} (v : Word) (h : s.Takes path (rFLT p)) (c : Nat → Prop) (hc : ∀ n, c n → s.openTo path p = false ∨ bitOf v n = false) :
    ∃ u, exec (.fltClear path p v) s = .next u ∧ ∀ n, c n → s.bit (rFLT p) n = true → u.bit (rFLT p) n = true :=
  fltClear_of h fun _ k n hn hb => k.near.flt p n (bit_landFlt_kept (hc n hn) hb)

/-- Through an open page a 1 clears a sticky bit the page has. -/
theorem fltClear_cleared {s : State} {path : Path} {p : Nat} (v : Word) (h : s.Takes path (rFLT p)) (hs : p ≠ P.SLF) (ho : s.openTo path p = true) (hp : p ≠ P.PST) {d : RegDesc}
    (hd : d ∈ (pageRegs p).getD []) (hf : d.off = 0x18) :
    ∃ u, exec (.fltClear path p v) s = .next u ∧ ∀ n, n < 32 → bitOf v n = true → bitOf (wd d.wmask) n = true → u.bit (rFLT p) n = false := by
  have page : p < 256 := by have lt := h.desc.1; simp only [rFLT] at lt; omega
  refine fltClear_of h fun u k n _ hv hm => ?_
  rw [k.bit (landTouches_flt hp hs), State.bit, rd_landFlt_open ho, bitOf_clear, State.fltCleared, if_neg hp, fltMask_eq page hd hf, bitOf_and, hv, hm]
  exact Bool.and_false _

/-- Of PST a monitor's bit is cleared where its condition has ended. -/
theorem bit_landFlt_pst {s : State} {path : Path} {v : Word} {n : Nat} (ho : s.openTo path P.PST = true) (hn : n < 10) (hv : bitOf v n = true) :
    (s.landFlt path P.PST v).1.bit (rFLT P.PST) n = (s.bit (rFLT P.PST) n && s.condOn n) := by
  have mask : bitOf (fltMask P.PST) n = true := by interval_cases n <;> rfl
  have limit : (if s.cycleOver then 0x800 else 0).testBit n = false := by
    split_ifs
    · exact Nat.testBit_two_pow_of_ne (n := 11) (by omega)
    · exact Nat.zero_testBit n
  have cond : bitOf (wd (s.pst.cond ||| (if s.cycleOver then 0x800 else 0))) n = s.condOn n := by
    rw [bitOf, wd, BitVec.getLsbD_ofNat, Nat.testBit_or, limit, decide_eq_true (by omega : n < 32)]
    simp [State.condOn]
  rw [State.bit, rd_landFlt_open ho, bitOf_clear, State.fltCleared, if_pos rfl, bitOf_clear, bitOf_and, hv, mask, cond]
  simp [State.bit]

/-! ## EVT -/

/-- The bits of EVT a write of 1 clears (R138). -/
def evtMask (p : Nat) : Word := ((regDesc (rEVT p)).map fun d => wd d.wmask).getD 0xFFFF#32

/-- A write of EVT clears the bits of a 1; the listings of causes and SHADOW, which go with them, are no EVT word. -/
theorem rd_landEvt (s : State) (p : Nat) (v : Word) : (s.landEvt p v).rd (rEVT p) = s.rd (rEVT p) &&& ~~~(v &&& evtMask p) := by
  unfold State.landEvt
  extract_lets m x _ y
  have mask : m = evtMask p := by simp only [m, evtMask]; cases regDesc (rEVT p) <;> rfl
  have hy : y.rd (rEVT p) = s.rd (rEVT p) &&& ~~~(v &&& evtMask p) := (State.rd_wr_self _ _ _).trans (by rw [mask])
  split_ifs
  · exact (State.rd_wr_ne _ _ (ne_of_apply_ne (· % 256) (by simp only [rEVT_mod]; omega))).trans hy
  · exact hy

/-- What is shown of a state near the landing of EVT holds of the state a write of EVT leaves. -/
theorem evtClear_of {s : State} {path : Path} {p : Nat} {v : Word} {Q : State → Prop} (h : s.Takes path (rEVT p)) (q : ∀ u, Landed s (s.landEvt p v) u → Q u) :
    ∃ u, exec (.evtClear path p v) s = .next u ∧ Q u :=
  landed_common h (fun d => by simp only [State.landReg, rEVT_mod, rEVT_div, Nat.reduceEqDiff, ite_true, ite_false]) q

/-! ## EVEN -/

/-- A mask built bit by bit from a condition has the bits at which it holds. -/
theorem bitOf_foldl_setBit (c : Nat → Bool) (k n : Nat) (hk : k ≤ 32) (hn : n < 32) :
    bitOf ((List.range k).foldl (fun (m : Word) i => if c i then setBit m i true else m) 0#32) n = (decide (n < k) && c n) := by
  induction k with
  | zero => simp [bitOf]
  | succ k ih =>
    rw [List.range_succ, List.foldl_concat]
    have ih := ih (by omega)
    by_cases hc : c k = true
    · rw [if_pos hc, bitOf_setBit _ _ _ _ (by omega) hn]
      by_cases e : n = k
      · simp [e, hc]
      · rw [if_neg e, ih, decide_eq_decide.mpr (by omega : n < k ↔ n < k + 1)]
    · rw [if_neg hc, ih]
      by_cases e : n = k
      · simp [e, hc]
      · rw [decide_eq_decide.mpr (by omega : n < k ↔ n < k + 1)]

/-- What follows a write of the routing leaves every register the settling leaves. -/
theorem rd_safetyEdge (s old : State) (p : Nat) {a : Nat} (h : settleTouches a = false) : (s.safetyEdge old p).rd a = s.rd a := by
  unfold State.safetyEdge
  split_ifs
  · exact ((calms_stageSafe _).rd a h).trans (rd_of_regs (askSafe_regs s 4) a)
  · rfl

theorem settleTouches_even (p : Nat) : settleTouches (rEVEN p) = false := by
  have h := landTouches_even p
  simp only [landTouches, Bool.or_eq_false_iff] at h
  exact h.1

/-- EVEN takes the low half of what is written, and keeps the enabled safety events of a closed page. -/
theorem bit_landRoute_even (s : State) (path : Path) (p : Nat) (v : Word) {n : Nat} (hn : n < 16) :
    (s.landRoute path (rEVEN p) v).1.bit (rEVEN p) n = (bitOf v n || (s.bit (rEVEN p) n && s.level p n == 3 && !s.openTo path p)) := by
  have low : bitOf 0xFFFF#32 n = true := by interval_cases n <;> rfl
  unfold State.landRoute
  extract_lets q old keep
  rw [if_pos (rEVEN_mod p), State.bit, rd_safetyEdge _ _ _ (settleTouches_even p), State.rd_wr_self, bitOf_or, bitOf_and, low]
  have kept : bitOf keep n = _ := bitOf_foldl_setBit (fun n => bitOf old n && s.level q n == 3 && !s.openTo path q) 16 n (by decide) (by omega)
  rw [kept, decide_eq_true hn, show q = p from rEVEN_div p]
  simp only [Bool.and_true, Bool.true_and]
  rfl

theorem evenWrite_bits {s : State} {path : Path} {p : Nat} (v : Word) (h : s.Takes path (rEVEN p)) :
    ∃ u, exec (.evenWrite path p v) s = .next u ∧ ∀ n, n < 16 → u.bit (rEVEN p) n = (bitOf v n || (s.bit (rEVEN p) n && s.level p n == 3 && !s.openTo path p)) := by
  refine landed_common (t := (s.landRoute path (rEVEN p) v).1) h (fun d => ?_) fun u k n hn => (k.bit (landTouches_even p)).trans (bit_landRoute_even s path p v hn)
  simp only [State.landReg, rEVEN_mod, Nat.reduceEqDiff, true_or, ite_true, ite_false]

/-- Settles O36: each write leaves what its own landing leaves, whose word is read back bit by bit. -/
theorem commonWords : Obligations.CommonWords := by
  unfold Obligations.CommonWords
  refine fun s path page v => ⟨lockWrite_clauses v, fun h hs => ⟨?_, fun ho => ?_, fun ho hp d hd hf => fltClear_cleared v h hs ho hp hd hf, fun ho hp => ?_⟩, fun h => ?_, evenWrite_bits v⟩
  · exact fltClear_kept v h (fun n => bitOf v n = false) fun _ => .inr
  · obtain ⟨u, hu, k⟩ := fltClear_kept v h (fun _ => True) fun _ _ => .inl ho
    exact ⟨u, hu, fun n => k n trivial⟩
  · subst hp
    obtain ⟨u, hu, k⟩ := fltClear_trips (v := v) h
    exact ⟨u, hu, fun n hn hv => (k.bit n hn).trans (bit_landFlt_pst ho hn hv)⟩
  · refine evtClear_of h fun u k => ⟨fun n hv hb => k.evt ?_, fun ht d hd n _ hv hm => ?_⟩
    · rw [State.bit, rd_landEvt, bitOf_clear, bitOf_and, hv, Bool.false_and, Bool.not_false, Bool.and_true]
      exact hb
    · rw [k.bit ht, State.bit, rd_landEvt, bitOf_clear, evtMask, hd, bitOf_and, hv]
      simp [hm]

end Sys2Proof.Machine

namespace Sys2Proof.Machine

/-! ## The monitor's requests: what takes one up, and what it answers -/

theorem exec_ping (s : State) (seq : Nat) (fits : Bool) : exec (.ping seq fits) s = s.done (s.monRequest .ping seq fits) := rfl
theorem exec_monRead (s : State) (seq : Nat) (fits : Bool) (a n : Nat) (es : List Ecc) : exec (.monRead seq fits a n es) s = s.done (s.monRequest (.read a n es) seq fits) := rfl
theorem exec_monWrite (s : State) (seq : Nat) (fits : Bool) (a n : Nat) (ws : List Word) : exec (.monWrite seq fits a n ws) s = s.done (s.monRequest (.write a n ws) seq fits) := rfl
theorem exec_monModify (s : State) (seq : Nat) (fits : Bool) (a : Nat) (d m : Word) (e : Ecc) :
    exec (.monModify seq fits a d m e) s = s.done (s.monRequest (.modify a d m e) seq fits) := rfl
theorem exec_step (s : State) (seq : Nat) (fits : Bool) (n : Nat) (dt : LineTime) :
    exec (.step seq fits n dt) s = s.done ((if s.lineOn then s.elapse dt else s).monRequest (.step n) seq fits) := rfl
theorem exec_stepDone (s : State) : exec .stepDone s = s.done s.stepDone := rfl
theorem exec_halt (s : State) (seq : Nat) (fits : Bool) : exec (.halt seq fits) s = s.done (s.monRequest .halt seq fits) := rfl
theorem exec_monGo (s : State) (seq : Nat) (fits : Bool) (a : Nat) : exec (.monGo seq fits a) s = s.done (s.monRequest (.go a) seq fits) := rfl
theorem exec_monReset (s : State) (seq : Nat) (fits : Bool) (k : Nat) : exec (.monReset seq fits k) s = s.done (s.monRequest (.reset k) seq fits) := rfl
theorem exec_returnReq (s : State) (seq : Nat) (fits : Bool) (resp : List Byte) : exec (.returnReq seq fits resp) s = s.done (s.monRequest (.ret resp) seq fits) := rfl
theorem exec_monitorWriteLanding (s : State) : exec .monitorWriteLanding s = s.done (if s.awake then s.monWindow else s) := rfl

/-- A request the monitor hears is taken up. -/
theorem monRequest_heard {s : State} {r : MonReq} {seq : Nat} {fits : Bool} (h : s.Hears r.code seq) : s.monRequest r seq fits = s.monTake ⟨r, seq % 256, fits⟩ := by
  obtain ⟨on, idle, fresh⟩ := h
  unfold State.monRequest
  simp only [on, idle, Option.isNone_none, Bool.not_true, Bool.false_eq_true, ite_false, ite_true]
  unfold State.monStart
  split
  · next cmd seq' f e => exact if_neg (fresh (cmd, seq', f) e)
  · rfl

/-- An answer is the frame of Table 16-6. -/
theorem answers_monAnswer (s : State) (r : MonReq) (seq : Nat) (fits : Bool) (status : Nat) (payload : List Byte) :
    (s.monAnswer ⟨r, seq % 256, fits⟩ status payload).Answers r.code seq status payload := rfl

/-- It is what the monitor holds that answers. -/
theorem State.Answers.of_mon {s t : State} {cmd seq status : Nat} {payload : List Byte} (h : s.Answers cmd seq status payload) (e : t.mon = s.mon) :
    t.Answers cmd seq status payload := by
  unfold State.Answers at h ⊢
  rw [e]
  exact h

/-- What is shown of every state that has settled an effect and answers as it does holds of the state a request leaves. -/
theorem Ended.answers {s t u : State} (e : Ended s t u) {cmd seq status : Nat} {payload : List Byte} (h : t.Answers cmd seq status payload) : u.Answers cmd seq status payload :=
  h.of_mon e.mon

/-! ### PING -/

theorem request_ping {s : State} {seq : Nat} (h : s.Hears 1 seq) : s.monRequest .ping seq true =
    s.monAnswer ⟨.ping, seq % 256, true⟩ 0 (beOctets 4 (s.readReg 0).toNat ++ beOctets 4 (s.readReg (rSTAT P.LCS)).toNat ++ beOctets 4 (s.readReg R.SYS_UID_HI).toNat ++
      beOctets 4 (s.readReg R.SYS_UID_LO).toNat ++ beOctets 4 (s.readReg R.MON_BOOT).toNat) :=
  (monRequest_heard h).trans ((if_neg (by simp [MonReq.code, monAvail])).trans (if_neg (by simp [MonReq.inRange])))

/-! ### Words of SRAM -/

/-- The monitor reads SRAM where the life cycle has not ended. -/
theorem monRdStatus_sram {s : State} {a : Nat} (h : inSram a = true) (h4 : s.lcs.state ≠ 4) (ha : a % 4 = 0) : s.monRdStatus a = 0 := by
  obtain ⟨lo, hi⟩ := (inSram_iff _).mp h
  unfold State.monRdStatus
  rw [if_neg (by omega), if_neg (by omega), region_sram h]
  simp [State.monReach, h4, widthOk]

/-- A word of SRAM is read with no report where it does not read uncorrectable. -/
theorem monGetAll_sram (s : State) (n a : Nat) (acc : List Byte) (h : ∀ i, i < n → inSram (a + 4 * i) = true ∧ s.badWord (a + 4 * i) = false) :
    State.monGetAll [] n a acc s = (s, acc ++ (List.range n).flatMap fun i => beOctets 4 (s.rdW (a + 4 * i)).toNat, none) := by
  induction n generalizing a acc with
  | zero => simp [State.monGetAll]
  | succ n ih =>
    obtain ⟨ram, sound⟩ := h 0 (by omega)
    rw [Nat.mul_zero, Nat.add_zero] at ram sound
    obtain ⟨lo, hi⟩ := (inSram_iff _).mp ram
    have same : a % 2 ^ 32 = a := Nat.mod_eq_of_lt (by omega)
    have ecc : s.eccAt .sram a .ok = .ok := by simp [State.eccAt, sound]
    have rest := ih (a + 4) (acc ++ beOctets 4 (s.rdW a).toNat) fun i hi => by
      have k := h (i + 1) (by omega)
      rwa [show a + 4 * (i + 1) = a + 4 + 4 * i by omega] at k
    have step : State.monGetAll [] (n + 1) a acc s = State.monGetAll [] n (a + 4) (acc ++ beOctets 4 (s.rdW a).toNat) s := by
      rw [State.monGetAll, same]
      simp only [region_sram ram, Option.getD_some, List.headD_nil, List.tail_nil, ecc]
      rw [if_neg (by omega)]
      rfl
    rw [step, rest, List.range_succ_eq_map, List.flatMap_cons, List.flatMap_map, List.append_assoc]
    simp only [Nat.mul_zero, Nat.add_zero, Nat.succ_eq_add_one, show ∀ i, a + 4 * (i + 1) = a + 4 + 4 * i by intro i; omega]

/-- A READ of sound words of SRAM answers them, and moves nothing. -/
theorem monRead1_sram (s : State) (c : MonCall) {a n : Nat} (h4 : s.lcs.state ≠ 4) (ha : a % 4 = 0) (lo : inSram a = true) (hi : inSram (a + 4 * n - 1) = true)
    (sound : ∀ i, i < n → s.badWord (a + 4 * i) = false) :
    s.monRead1 c a n [] = s.monAnswer c 0 (s.etick ++ (List.range n).flatMap fun i => beOctets 4 (s.rdW (a + 4 * i)).toNat) := by
  have ram (i : Nat) (h : i < n) : inSram (a + 4 * i) = true := by
    rw [inSram_iff] at lo hi ⊢; omega
  have same (i : Nat) (h : i < n) : (a + 4 * i) % 2 ^ 32 = a + 4 * i := Nat.mod_eq_of_lt (by have k := (inSram_iff _).mp (ram i h); omega)
  have allowed : ((List.range n).find? fun i => s.monRdStatus ((a + 4 * i) % 2 ^ 32) != 0) = none := by
    rw [List.find?_eq_none]
    intro i hi
    have h := List.mem_range.mp hi
    rw [same i h, monRdStatus_sram (ram i h) h4 (by omega)]
    simp
  have free : ((List.range n).any fun i => s.flashWait ((memRegion ((a + 4 * i) % 2 ^ 32)).getD .sram)) = false := by
    rw [List.any_eq_false]
    intro i hi
    have h := List.mem_range.mp hi
    rw [same i h, region_sram (ram i h)]
    simp [State.flashWait]
  unfold State.monRead1
  simp only [allowed, free, Bool.false_eq_true, ite_false, monGetAll_sram s n a [] fun i h => ⟨ram i h, sound i h⟩, List.nil_append]

theorem request_read {s : State} {seq a n : Nat} (h : s.Hears 2 seq) (h1 : 1 ≤ n) (h60 : n ≤ 60) :
    s.monRequest (.read a n []) seq true = s.monRead1 ⟨.read a n [], seq % 256, true⟩ a n [] :=
  (monRequest_heard h).trans ((if_neg (by simp [MonReq.code, monAvail])).trans (if_neg (by simp [MonReq.inRange, h1, h60])))

/-! ### A store of the monitor to SRAM -/

/-- Where tracked memory is not closed to it, the monitor stores a word of SRAM (R776). -/
theorem monPut_sram {s : State} {a : Nat} (w : Word) (h2 : s.lcs.state ≠ 2) (h4 : s.lcs.state ≠ 4) (ha : a % 4 = 0) (h : inSram a = true) (hd : s.monMemDenied a = false) :
    s.monPut a w = (s.memStore a 4 w, 0) := by
  obtain ⟨lo, hi⟩ := (inSram_iff _).mp h
  have reach : s.monReach .store .sram = true := by simp [State.monReach, h2, h4, widthOk]
  have free : (s.frozen && s.tracked a) = false := by
    rw [Bool.and_eq_false_iff]
    by_cases hf : s.frozen = true
    · have joined : s.paired = true := by
        simp only [State.frozen, Bool.and_eq_true, beq_iff_eq] at hf
        simp [State.paired, hf.1]
      simp only [State.monMemDenied, joined, Bool.true_and] at hd
      exact .inr hd
    · exact .inl (by simpa using hf)
  unfold State.monPut
  rw [if_neg (by omega), if_neg (by omega), region_sram h]
  simp only [reach, hd, free, Bool.not_true, Bool.false_eq_true, ite_false]

/-- A word stored by the monitor, and its answer. -/
def State.monStored (s : State) (c : MonCall) (a : Nat) (w : Word) (payload : List Byte) : State := ((s.memStore a 4 w).monSpend 1).monAnswer c 0 payload

theorem monSpend_eq (s : State) (n : Nat) : ∃ p, s.monSpend n = { s with tck := { s.tck with phase := p } } := by
  unfold State.monSpend
  split_ifs
  · exact ⟨_, rfl⟩
  · exact ⟨s.tck.phase, rfl⟩

/-- What the store of a word leaves: the word, every other byte, and of the monitor and the tick what the answer and the cycle do not move. -/
theorem monStored_spec (s : State) (c : MonCall) {a : Nat} (w : Word) (payload : List Byte) (h : inSram a = true) :
    (s.monStored c a w payload).rdW a = w ∧ (∀ b, b < a ∨ a + 4 ≤ b → (s.monStored c a w payload).rdB b = s.rdB b) ∧ (s.monStored c a w payload).mon.wait = s.mon.wait ∧
      (s.monStored c a w payload).mon.buf = s.mon.buf := by
  obtain ⟨x, pb, ps, e⟩ := memStore_eq s a 4 w (carrier_sram h)
  obtain ⟨p, k⟩ := monSpend_eq (s.memStore a 4 w) 1
  have bytes (b : Nat) : (s.monStored c a w payload).rdB b = (s.memStore a 4 w).rdB b := by rw [State.monStored, k]; rfl
  refine ⟨?_, fun b hb => ?_, ?_, ?_⟩
  · rw [rdW_eq, bytes, bytes, bytes, bytes, ← rdW_eq, rdW_memStore _ _ (carrier_sram h)]
  · rw [bytes, rdB_memStore _ _ _ (carrier_sram h), storedByte, if_neg (by omega)]
  · rw [State.monStored, k, e]; rfl
  · rw [State.monStored, k, e]; rfl

/-- The tick's number in an answer is the one that stood before the store. -/
theorem etick_memStore (s : State) {a : Nat} (w : Word) (h : inSram a = true) : (s.memStore a 4 w).etick = s.etick := by
  obtain ⟨x, pb, ps, e⟩ := memStore_eq s a 4 w (carrier_sram h)
  rw [e]; rfl

theorem etick_monSpend (s : State) (n : Nat) : (s.monSpend n).etick = s.etick := by
  obtain ⟨p, e⟩ := monSpend_eq s n
  rw [e]; rfl

section store
variable {s : State} {a : Nat} (h2 : s.lcs.state ≠ 2) (h4 : s.lcs.state ≠ 4) (ha : a % 4 = 0) (h : inSram a = true) (hd : s.monMemDenied a = false)
include h2 h4 ha h hd

theorem monLandWrite_sram (c : MonCall) (w : Word) : s.monLandWrite c a [w] = s.monStored c a w s.etick := by
  have same : a % 2 ^ 32 = a := Nat.mod_eq_of_lt (by have k := (inSram_iff _).mp h; omega)
  have put := monPut_sram w h2 h4 ha h hd
  have checked : s.monCheckAll [w] a = 0 := by simp only [State.monCheckAll, same, put, ne_eq, not_true_eq_false, ite_false]
  have stored : State.monPutAll [w] a s = (s.memStore a 4 w).monSpend 1 := by simp only [State.monPutAll, same, put]
  simp only [State.monLandWrite, checked, stored, ite_true, etick_monSpend, etick_memStore s w h]
  rfl

theorem monLandModify_sram (c : MonCall) (d m : Word) (hb : s.badWord a = false) :
    s.monLandModify c a d m .ok = s.monStored c a ((s.rdW a &&& ~~~m) ||| (d &&& m)) (s.etick ++ beOctets 4 (s.rdW a).toNat) := by
  obtain ⟨lo, hi⟩ := (inSram_iff _).mp h
  have put (w : Word) := monPut_sram w h2 h4 ha h hd
  have ecc : s.eccAt .sram a .ok = .ok := by simp [State.eccAt, hb]
  have word : s.memWord .sram a = s.rdW a := if_neg (by decide)
  have read : (s.memReport .sram a P.MON .ok).memCheck .sram a = s := if_neg (by decide)
  unfold State.monLandModify
  extract_lets status _ _ g old r x t u
  have hs : status = 0 := monRdStatus_sram h h4 ha
  have hg : g = .sram := by simp only [g, region_sram h, Option.getD_some]
  have hv : old = s.rdW a := by simp only [old, hg, word]
  have hr : r.2 = 0 := congrArg Prod.snd (put _)
  have hx : x = .ok := by simp only [x, hg, ecc]
  have ht : t = s := by simp only [t, hg, hx, read]
  have hu : u = s.memStore a 4 ((s.rdW a &&& ~~~m) ||| (d &&& m)) := by simp only [u, ht, hv, put]
  rw [if_neg (by simp [hs]), if_neg (by omega), if_neg (by simp [hr]), if_neg (by simp [hx]), hu, hv, etick_memStore s _ h]
  rfl

end store

theorem request_write {s : State} {seq a : Nat} {w : Word} (h : s.Hears 3 seq) (h4 : s.lcs.state ≠ 4) : s.monRequest (.write a 1 [w]) seq true =
    if s.monOpen 1 then s.monLandWrite ⟨.write a 1 [w], seq % 256, true⟩ a [w] else { s with mon := { s.mon with wait := some ⟨.write a 1 [w], seq % 256, true⟩ } } :=
  (monRequest_heard h).trans ((if_neg (by simp [MonReq.code, monAvail, h4])).trans (if_neg (by simp [MonReq.inRange])))

theorem request_modify {s : State} {seq a : Nat} {d m : Word} {e : Ecc} (h : s.Hears 4 seq) (h4 : s.lcs.state ≠ 4) : s.monRequest (.modify a d m e) seq true =
    if s.monOpen 1 then s.monLandModify ⟨.modify a d m e, seq % 256, true⟩ a d m e else { s with mon := { s.mon with wait := some ⟨.modify a d m e, seq % 256, true⟩ } } :=
  (monRequest_heard h).trans ((if_neg (by simp [MonReq.code, monAvail, h4])).trans (if_neg (by simp [MonReq.inRange])))

/-- Settling reads memory as it stands. -/
theorem Ended.rdB {s t u : State} (e : Ended s t u) (b : Nat) : u.rdB b = t.rdB b := (landed_of_ended e).rdB b
theorem Ended.rdW {s t u : State} (e : Ended s t u) (a : Nat) : u.rdW a = t.rdW a := by simp only [rdW_eq, e.rdB]

/-! ### A write that waited -/

theorem monNext_idle {s : State} (h : s.mon.buf = none) : s.monNext = s := by
  unfold State.monNext
  rw [h]
  cases s.mon.wait <;> rfl

/-- The monitor with no request that waits. -/
def State.unwaited (s : State) : State := { s with mon := { s.mon with wait := none } }

/-- A WRITE that waits lands, and the request behind it is taken up. -/
theorem monLands_write {s : State} {a n k : Nat} {l : List Word} {f : Bool} (h : s.mon.wait = some ⟨.write a n l, k, f⟩) :
    s.monLands = (s.unwaited.monLandWrite ⟨.write a n l, k, f⟩ a l).monNext := by
  simp only [State.monLands, State.monServe, h]
  rfl

theorem partTo_self (s : State) : s.partTo s.tck.step 0 = s := by
  rw [State.partTo, Nat.max_zero]

/-- The time for a landing has come: nothing holds it back, or it is the window's turn and the core is parked; then it begins. -/
theorem monWindow_open {s : State} (h : s.monNow = true ∨ (s.turn 2 s.guardG = true ∧ s.cpu.parked = true)) : ∃ k p, s.monWindow = (s.partTo k p).monLands := by
  unfold State.monWindow
  by_cases hn : s.monNow = true
  · exact ⟨s.tck.step, 0, by rw [if_pos hn, partTo_self]⟩
  · obtain ⟨ht, hp⟩ := h.resolve_left hn
    rw [if_neg hn, if_pos (by simp [ht, hp])]
    exact ⟨_, _, rfl⟩

end Sys2Proof.Machine

namespace Sys2Proof.Machine

/-! ### STEP and HALT -/

/-- A check of an authorisation touches nothing the monitor holds, nor the number of ticks that are left. -/
theorem authorise_mon (s : State) (num : Word) (edge done : LineTime) :
    (s.authorise 2 num edge done).1.mon = s.mon ∧
      (s.authCode 2 num edge done = 0 → (s.authorise 2 num edge done).1.tck.pend = some ⟨num, edge⟩) ∧
      (s.authCode 2 num edge done ≠ 0 → (s.authorise 2 num edge done).1.tck.pend = s.tck.pend) := by
  unfold State.authorise
  extract_lets w
  have c := authCode_cases s 2 num edge done
  change w < 10 ∨ w = 14 ∨ w = 15 at c
  split_ifs with h0 h14 h15
  · have mon : (s.authTake num edge done).mon = s.mon := by dsimp only [State.authTake]; split_ifs <;> rfl
    exact ⟨mon, fun _ => congrArg TckSt.pend (authTake_spec s num edge done).1, fun n => absurd h0 n⟩
  · exact ⟨spine_mon (s := s) (spine_raise _ _ _), fun e => absurd e h0, fun _ => (authDrop_spec s (by decide)).1⟩
  · exact ⟨spine_mon (s := s) (spine_raise _ _ _), fun e => absurd e h0, fun _ => (authDrop_spec s (by decide)).1⟩
  · exact ⟨spine_mon (s := s) (spine_raise _ _ _), fun e => absurd e h0, fun _ => (authRej_spec s (by omega)).1⟩

/-- A STEP that is refused answers why, and leaves what is pending (R778). -/
theorem monStep_refused {s : State} (c : MonCall) (n : Nat) (hr : s.fd R.MON_STEPREM 0 16 = 0) (hw : s.authCode 2 (s.tck.now + 1#32) s.stepEdge s.lt ≠ 0) :
    s.monStep c n = (s.authorise 2 (s.tck.now + 1#32) s.stepEdge s.lt).1.monAnswer c 7 (beOctets 1 (s.authCode 2 (s.tck.now + 1#32) s.stepEdge s.lt)) := by
  unfold State.monStep
  rw [if_neg (by simp [hr])]
  exact if_pos hw

/-- A STEP that is accepted authorises its tick (R778). -/
theorem monStep_accepted {s : State} (c : MonCall) (n : Nat) (hr : s.fd R.MON_STEPREM 0 16 = 0) (hw : s.authCode 2 (s.tck.now + 1#32) s.stepEdge s.lt = 0) :
    let t := (s.authorise 2 (s.tck.now + 1#32) s.stepEdge s.lt).1.setF R.MON_STEPREM 0 16 n
    s.monStep c n = ({ t with mon := { t.mon with stepping := true } } : State).monAnswer c 0 (beOctets 4 (s.tck.now + 1#32).toNat ++ beOctets 6 s.stepEdge.toNat) := by
  unfold State.monStep
  rw [if_neg (by simp [hr])]
  exact if_neg (by simp [hw])

/-- The number of ticks that are left reads as it was put. -/
theorem fd_stepRem (s : State) {n : Nat} (h : n ≤ 65535) : (s.setF R.MON_STEPREM 0 16 n).fd R.MON_STEPREM 0 16 = n := by
  rw [State.fd, State.setF, State.rd_wr_self, fld_setFld _ (by decide), Nat.mod_eq_of_lt (by omega)]

theorem request_step {s : State} {seq n : Nat} (h : s.Hears 5 seq) (h4 : s.lcs.state ≠ 4) (h1 : 1 ≤ n) (hn : n ≤ 65535) :
    s.monRequest (.step n) seq true = s.monStep ⟨.step n, seq % 256, true⟩ n :=
  (monRequest_heard h).trans ((if_neg (by simp [MonReq.code, monAvail, h4])).trans (if_neg (by simp [MonReq.inRange, h1, hn])))

theorem request_halt {s : State} {seq : Nat} (h : s.Hears 6 seq) (h4 : s.lcs.state ≠ 4) : s.monRequest .halt seq true = s.monHalt ⟨.halt, seq % 256, true⟩ :=
  (monRequest_heard h).trans ((if_neg (by simp [MonReq.code, monAvail, h4])).trans (if_neg (by simp [MonReq.inRange])))

/-- Where the ports work the part runs. -/
theorem awake_of_monOn {s : State} (h : s.monOn = true) : s.awake = true ∧ s.lineOn = true := by
  simp only [State.monOn, State.portsOn, Bool.and_eq_true, beq_iff_eq, Bool.not_eq_true'] at h
  obtain ⟨⟨⟨hr, hm⟩, -⟩, -⟩ := h
  simp [State.awake, State.lineOn, hr, hm]

/-- What a STEP takes line-time for moves nothing it looks at but line-time. -/
theorem elapse_hears {s : State} (dt : LineTime) {cmd seq : Nat} (h : s.Hears cmd seq) :
    (s.elapse dt).Hears cmd seq ∧ (s.elapse dt).lcs = s.lcs ∧ (s.elapse dt).regs = s.regs ∧ (s.elapse dt).tck.now = s.tck.now ∧ (s.elapse dt).tck.pend = s.tck.pend := by
  obtain ⟨p, e⟩ := elapse_eq s dt
  rw [e]
  exact ⟨h, rfl, rfl, rfl, rfl⟩

/-- The clauses of STEP (R778). -/
theorem step_clauses {s : State} {seq n : Nat} (dt : LineTime) (hon : s.monOn = true) (h : s.Hears 5 seq) (h4 : s.lcs.state ≠ 4) (h1 : 1 ≤ n) (hn : n ≤ 65535)
    (hr : s.fd R.MON_STEPREM 0 16 = 0) :
    let v := s.elapse dt
    let w := v.authCode 2 (s.tck.now + 1#32) v.stepEdge v.lt
    (w = 0 → ∃ u, exec (.step seq true n dt) s = .next u ∧ u.fd R.MON_STEPREM 0 16 = n ∧ u.mon.stepping = true ∧ u.tck.pend = some ⟨s.tck.now + 1#32, v.stepEdge⟩ ∧
        u.Answers 5 seq 0 (beOctets 4 (s.tck.now + 1#32).toNat ++ beOctets 6 v.stepEdge.toNat)) ∧
      (w ≠ 0 → ∃ u, exec (.step seq true n dt) s = .next u ∧ u.Answers 5 seq 7 (beOctets 1 w) ∧ u.tck.pend = s.tck.pend) := by
  obtain ⟨hears, hl, regs, now, pend⟩ := elapse_hears dt h
  rw [exec_step, if_pos (awake_of_monOn hon).2, request_step hears (by rwa [hl]) h1 hn, ← now, ← pend]
  have hr : (s.elapse dt).fd R.MON_STEPREM 0 16 = 0 := by rwa [State.fd, rd_of_regs regs]
  generalize s.elapse dt = v at hr
  obtain ⟨-, taken, left⟩ := authorise_mon v (v.tck.now + 1#32) v.stepEdge v.lt
  refine ⟨fun hw => ?_, fun hw => ?_⟩
  · rw [monStep_accepted _ n hr hw]
    exact done_of fun u e => ⟨(e.fd (by decide)).trans (fd_stepRem _ hn), by rw [e.mon]; rfl, e.tck_pend.trans (taken hw), e.answers (answers_monAnswer _ (.step n) seq true 0 _)⟩
  · rw [monStep_refused _ n hr hw]
    exact done_of fun u e => ⟨e.answers (answers_monAnswer _ (.step n) seq true 7 _), e.tck_pend.trans (left hw)⟩

/-- The clauses of HALT (R780). -/
theorem halt_clauses {s : State} {seq : Nat} (h : s.Hears 6 seq) (h4 : s.lcs.state ≠ 4) :
    ∃ u, exec (.halt seq true) s = .next u ∧ u.fd R.MON_STEPREM 0 16 = 0 ∧ u.Answers 6 seq 0 s.etick ∧
      if s.mon.stepping then u.tck.pend = none ∧ u.mon.stepping = s.tck.inTick else u.tck.pend = s.tck.pend := by
  rw [exec_halt, request_halt h h4]
  unfold State.monHalt
  cases s.mon.stepping with
  | true => exact done_of fun u e => ⟨(e.fd (by decide)).trans (fd_stepRem s (by decide)), e.answers rfl, e.tck_pend, by rw [e.mon]; rfl⟩
  | false => exact done_of fun u e => ⟨(e.fd (by decide)).trans (fd_stepRem s (by decide)), e.answers rfl, e.tck_pend⟩

/-- The last stepped tick has ended (R779). -/
theorem stepDone_clauses {s : State} (hs : s.mon.stepping = true) (hr : s.fd R.MON_STEPREM 0 16 = 0) (hi : s.tck.inTick = false) (hp : s.tck.pend = none) :
    ∃ u, exec .stepDone s = .next u ∧ u.mon.stepping = false ∧ u.bit (rEVT P.MON) 3 = true := by
  have e : s.stepDone = ({ s with mon := { s.mon with stepping := false } } : State).raise P.MON 3 := if_pos (by simp [hs, hr, hi, hp])
  rw [exec_stepDone, e]
  refine done_of fun u e => ⟨?_, e.evt (bit_raise _ _ _ (by decide))⟩
  rw [e.mon, spine_mon (spine_raise _ _ _)]

/-! ### GO and RESET -/

theorem request_go {s : State} {seq a : Nat} (h : s.Hears 7 seq) (h2 : s.lcs.state ≠ 2) (h4 : s.lcs.state ≠ 4) : s.monRequest (.go a) seq true = s.monGo ⟨.go a, seq % 256, true⟩ a :=
  (monRequest_heard h).trans ((if_neg (by simp [MonReq.code, monAvail, h2, h4])).trans (if_neg (by simp [MonReq.inRange])))

/-- A core reset keeps the registers of the pages of others. -/
theorem rd_coreReset (s : State) {a : Nat} (h : a / 256 ≠ P.CPU) : s.coreReset.rd a = s.rd a := rd_filter rfl fun _ => by simp [h]

/-- The clause of GO (R781). -/
theorem go_clause {s : State} {seq a : Nat} (h : s.Hears 7 seq) (h2 : s.lcs.state ≠ 2) (h4 : s.lcs.state ≠ 4) (hb : s.fd R.MON_BOOT 0 2 = 1) (ha : a % 4 = 0)
    (hm : inSram a = true ∨ inPflash a = true) (hd : s.direct = true) :
    ∃ u, exec (.monGo seq true a) s = .next u ∧ u.Answers 7 seq 0 [] ∧ u.rd R.MON_GOADDR = wd (a + 1) ∧ u.cpu = { resetCpu with parked := false } ∧ u.bit R.SYS_RSTCAUSE 7 = true := by
  have e : s.monGo ⟨.go a, seq % 256, true⟩ a = ((s.wr R.MON_GOADDR (wd (a + 1))).monAnswer ⟨.go a, seq % 256, true⟩ 0 []).coreResetReq := by
    unfold State.monGo
    rw [if_neg (by simp [hb]), if_neg (by rcases hm with hm | hm <;> simp [ha, hm])]
  have direct : ((s.wr R.MON_GOADDR (wd (a + 1))).monAnswer ⟨.go a, seq % 256, true⟩ 0 []).direct = true := hd
  rw [exec_monGo, request_go h h2 h4, e, coreResetReq_direct direct]
  refine done_of fun u e => ⟨e.answers rfl, ?_, e.cpu.trans (coreReset_cpu direct), ?_⟩
  · rw [e.rd (by decide), State.setF, State.rd_wr_ne _ _ (by decide), rd_coreReset _ (by decide)]
    exact State.rd_wr_self _ _ _
  · rw [e.bit (by decide), State.setF, State.bit, State.rd_wr_self]
    exact (bitOf_setBit _ 7 7 true (by decide) (by decide)).trans (if_pos rfl)

theorem request_reset {s : State} {seq : Nat} (h : s.Hears 8 seq) :
    let t := s.monAnswer ⟨.reset 1, seq % 256, true⟩ 0 []
    let u := t.sysReset 4 false false
    s.monRequest (.reset 1) seq true = { u with mon := { u.mon with answer := t.mon.answer } } :=
  (monRequest_heard h).trans ((if_neg (by simp [MonReq.code, monAvail])).trans (if_neg (by simp [MonReq.inRange])))

/-- The clause of RESET (R782). -/
theorem reset_clause {s : State} {seq : Nat} (h : s.Hears 8 seq) :
    ∃ u, exec (.monReset seq true 1) s = .next u ∧ u.ResetInForce ∧ u.Answers 8 seq 0 [] ∧ u.rd R.SYS_RSTCAUSE = setBit (s.rd R.SYS_RSTCAUSE) 4 true := by
  rw [exec_monReset, request_reset h]
  have k := resetFrom_sysReset (s.monAnswer ⟨.reset 1, seq % 256, true⟩ 0 []) 4 false false
  refine done_of fun u e => ?_
  have r : ResetFrom (s.monAnswer ⟨.reset 1, seq % 256, true⟩ 0 []) 4 false u := (landed_of_ended e).resetFrom { k with }
  exact ⟨r.inForce e.out, e.answers rfl, r.named⟩

end Sys2Proof.Machine

namespace Sys2Proof.Machine

/-! ### RETURN -/

/-- What the monitor holds, the life cycle and the fuses: no entry of the log moves them. -/
def State.lifeline (s : State) : MonSt × LcsSt × Fuses := (s.mon, s.lcs, s.fuses)

theorem lifeline_of_quiet {s t : State} (h : t.quiet = s.quiet) : t.lifeline = s.lifeline := by
  have e := congrArg State.lifeline h; exact e

theorem lifeline_logWrite (s : State) : s.logWrite.lifeline = s.lifeline := by
  unfold State.logWrite
  split
  · rfl
  · extract_lets want fits i ent x src y
    have hx : x.lifeline = s.lifeline := by unfold x; split_ifs <;> rfl
    split_ifs
    · exact (lifeline_of_quiet (quiet_raise _ _ _)).trans hx
    · exact hx

theorem lifeline_logFlush (s : State) (n : Nat) : (s.logFlush n).lifeline = s.lifeline := by
  induction n generalizing s with
  | zero => rfl
  | succ n ih => exact (ih _).trans (lifeline_logWrite s)

/-- A transition that begins is pending; the monitor and the fuses stand (R731). -/
theorem lcBegin_spec (s : State) (p : Path) : (s.lcBegin p).mon = s.mon ∧ (s.lcBegin p).lcs.pend = true ∧ (s.lcBegin p).fuses = s.fuses := by
  have k : (s.lcBegin p).lifeline = ({ s with lcs := { s.lcs with pend := true } } : State).lifeline :=
    (lifeline_logFlush _ 8).trans (lifeline_of_quiet (quiet_logPush _ _ _ _ _))
  exact ⟨congrArg (·.1) k, congrArg (·.2.1.pend) k, congrArg (·.2.2) k⟩

/-- A refusal leaves its reason and its event. -/
theorem lcRefuse_spec (s : State) (w : Nat) : (s.lcRefuse w).lcs = { s.lcs with cmdWhy := w } ∧ (s.lcRefuse w).fuses = s.fuses ∧ Keeps P.LCS s (s.lcRefuse w) ∧
    (s.lcRefuse w).bit (rEVT P.LCS) 0 = true := by
  have k : (s.lcRefuse w).lifeline = ({ s with lcs := { s.lcs with cmdWhy := w } } : State).lifeline := lifeline_of_quiet (quiet_raise _ _ _)
  exact ⟨congrArg (·.2.1) k, congrArg (·.2.2) k, Keeps.trans (t := { s with lcs := { s.lcs with cmdWhy := w } }) (.of_regs rfl) (keeps_raise _ _ _), bit_raise _ _ _ (by decide)⟩

theorem newChallenge_spec (s : State) : s.newChallenge.lcs = { s.lcs with chalV := true } ∧ s.newChallenge.fuses = s.fuses ∧
    s.newChallenge.rd R.LCS_AUTHFAIL = s.rd R.LCS_AUTHFAIL := by
  refine ⟨rfl, rfl, ?_⟩
  show ((((({ s with free := s.free + 1 } : State).wr _ _).wr _ _).wr _ _).wr _ _).rd _ = _
  rw [State.rd_wr_ne _ _ (by decide), State.rd_wr_ne _ _ (by decide), State.rd_wr_ne _ _ (by decide), State.rd_wr_ne _ _ (by decide)]
  rfl

/-- The challenge a response answers. -/
def State.challenge (s : State) : BitVec 128 := s.rd R.LCS_CHAL0 ++ s.rd R.LCS_CHAL1 ++ s.rd R.LCS_CHAL2 ++ s.rd R.LCS_CHAL3

/-- A response that verifies leaves a new challenge alone. -/
theorem lcResponse_good {s : State} {resp : List Byte} (h : Config.ecdsaOk resp s.challenge s.fuses.uid = true) : s.lcResponse resp = (s.newChallenge, true) := if_pos h

/-- One that does not is counted and raised, and the third locks (R734, R735). -/
theorem lcResponse_bad {s : State} {resp : List Byte} (h : ¬ Config.ecdsaOk resp s.challenge s.fuses.uid = true) :
    let n := min 3 (s.fd R.LCS_AUTHFAIL 0 2 + 1)
    let t := (s.lcResponse resp).1
    (s.lcResponse resp).2 = false ∧ t.lcs.pend = s.lcs.pend ∧ t.lcs.lockout = (s.lcs.lockout || n == 3) ∧ t.fuses = s.fuses ∧ t.rd R.LCS_AUTHFAIL = wd n ∧
      t.bit (rEVT P.LCS) 1 = true := by
  intro n t
  obtain ⟨lcs, fuses, fails⟩ := newChallenge_spec s
  have hn : min 3 (s.newChallenge.fd R.LCS_AUTHFAIL 0 2 + 1) = n := by rw [State.fd, fails]; rfl
  have e : s.lcResponse resp = _ := if_neg h
  rw [hn] at e
  have k : (((s.newChallenge.wr R.LCS_AUTHFAIL (wd n)).raise P.LCS 1)).lifeline = s.newChallenge.lifeline := lifeline_of_quiet (quiet_raise _ _ _)
  have kl : ((s.newChallenge.wr R.LCS_AUTHFAIL (wd n)).raise P.LCS 1).lcs = s.newChallenge.lcs := congrArg (·.2.1) k
  have kf : ((s.newChallenge.wr R.LCS_AUTHFAIL (wd n)).raise P.LCS 1).fuses = s.newChallenge.fuses := congrArg (·.2.2) k
  simp only [t, e]
  refine ⟨trivial, by rw [kl, lcs], by rw [kl, lcs], kf.trans fuses, ?_, bit_raise _ _ _ (by decide)⟩
  exact ((keeps_raise _ P.LCS 1).rd _ (by decide)).trans (State.rd_wr_self _ _ _)

theorem request_return {s : State} {seq : Nat} {resp : List Byte} (h : s.Hears 9 seq) (h2 : s.lcs.state = 2) (hl : resp.length = 64) :
    s.monRequest (.ret resp) seq true = s.monRet ⟨.ret resp, seq % 256, true⟩ resp :=
  (monRequest_heard h).trans ((if_neg (by simp [MonReq.code, monAvail, h2])).trans (if_neg (by simp [MonReq.inRange, hl])))

/-- A RETURN the life cycle refuses (R783). -/
theorem monRet_refused {s : State} (c : MonCall) (resp : List Byte) (hp : s.lcs.pend = false) (hw : s.lcWhy .monitor 3 (some true) ≠ 0) :
    s.monRet c resp = (s.lcRefuse (s.lcWhy .monitor 3 (some true))).monAnswer c 8 (beOctets 1 (s.lcWhy .monitor 3 (some true))) := by
  unfold State.monRet
  rw [if_neg (by simp [hp])]
  exact if_pos hw

/-- One whose response is evaluated: the transition begins, or the failure is answered. -/
theorem monRet_evaluated {s : State} (c : MonCall) (resp : List Byte) (hp : s.lcs.pend = false) (hw : s.lcWhy .monitor 3 (some true) = 0) :
    s.monRet c resp = if (s.lcResponse resp).2 then ((s.lcResponse resp).1.monAnswer c 0 []).lcBegin .monitor
      else ((s.lcResponse resp).1.lcRefuse 8).monAnswer c 8 (beOctets 1 8) := by
  unfold State.monRet
  rw [if_neg (by simp [hp])]
  exact if_neg (by simp [hw])

/-- The clauses of RETURN (R783). -/
theorem return_clauses {s : State} {seq : Nat} (resp : List Byte) (h : s.Hears 9 seq) (h2 : s.lcs.state = 2) (hl : resp.length = 64) (hp : s.lcs.pend = false) :
    let w := s.lcWhy .monitor 3 (some true)
    (w ≠ 0 → ∃ u, exec (.returnReq seq true resp) s = .next u ∧ u.fuses = s.fuses ∧ u.Answers 9 seq 8 (beOctets 1 w) ∧ u.lcs = { s.lcs with cmdWhy := w } ∧
        u.bit (rEVT P.LCS) 0 = true) ∧
      (w = 0 → ∃ u, exec (.returnReq seq true resp) s = .next u ∧ u.fuses = s.fuses ∧
        if Config.ecdsaOk resp s.challenge s.fuses.uid = true then u.Answers 9 seq 0 [] ∧ u.lcs.pend = true
        else u.Answers 9 seq 8 (beOctets 1 8) ∧ u.lcs.pend = false ∧ u.rd R.LCS_AUTHFAIL = wd (min 3 (s.fd R.LCS_AUTHFAIL 0 2 + 1)) ∧ u.bit (rEVT P.LCS) 1 = true ∧
          (2 ≤ s.fd R.LCS_AUTHFAIL 0 2 → u.lcs.lockout = true)) := by
  intro w
  rw [exec_returnReq, request_return h h2 hl]
  refine ⟨fun hw => ?_, fun hw => ?_⟩
  · rw [monRet_refused _ _ hp hw]
    obtain ⟨lcs, fuses, -, told⟩ := lcRefuse_spec s w
    exact done_of fun u e => ⟨e.fuses.trans fuses, e.answers rfl, e.lcs.trans lcs, e.evt told⟩
  · rw [monRet_evaluated _ _ hp hw]
    by_cases ok : Config.ecdsaOk resp s.challenge s.fuses.uid = true
    · simp only [ok, lcResponse_good ok, ite_true]
      obtain ⟨mon, pend, fuses⟩ := lcBegin_spec (s.newChallenge.monAnswer ⟨.ret resp, seq % 256, true⟩ 0 []) .monitor
      exact done_of fun u e => ⟨e.fuses.trans fuses, e.answers (State.Answers.of_mon (answers_monAnswer _ (.ret resp) seq true 0 []) mon), by rw [e.lcs, pend]⟩
    · obtain ⟨bad, pend, lockout, fuses, fails, told⟩ := lcResponse_bad ok
      simp only [ok, bad, Bool.false_eq_true, ite_false]
      obtain ⟨lcs, fuses', keeps, -⟩ := lcRefuse_spec (s.lcResponse resp).1 8
      refine done_of fun u e => ?_
      have life : u.lcs = { (s.lcResponse resp).1.lcs with cmdWhy := 8 } := e.lcs.trans lcs
      refine ⟨e.fuses.trans (fuses'.trans fuses), e.answers rfl, ?_, ?_, e.evt (keeps.evt _ _ told), fun h3 => ?_⟩
      · rw [life]; exact pend.trans hp
      · exact (e.rd (by decide)).trans ((keeps.rd _ (by decide)).trans fails)
      · rw [life, lockout, show min 3 (s.fd R.LCS_AUTHFAIL 0 2 + 1) = 3 by omega]
        exact Bool.or_true _

/-! ## MonitorCommands -/

/-- The clauses of a WRITE of a word of SRAM: it lands, or waits, or lands in the guard window (R144, R776). -/
theorem write_clauses {s : State} {seq a : Nat} (w : Word) (hon : s.monOn = true) (h2 : s.lcs.state ≠ 2) (h4 : s.lcs.state ≠ 4) (ha : a % 4 = 0) (h : inSram a = true)
    (hd : s.monMemDenied a = false) :
    (s.Hears 3 seq → s.monOpen 1 = true →
      ∃ u, exec (.monWrite seq true a 1 [w]) s = .next u ∧ u.rdW a = w ∧ (∀ b, b < a ∨ a + 4 ≤ b → u.rdB b = s.rdB b) ∧ u.Answers 3 seq 0 s.etick) ∧
    (s.Hears 3 seq → s.monOpen 1 = false →
      ∃ u, exec (.monWrite seq true a 1 [w]) s = .next u ∧ u.mon = { s.mon with wait := some ⟨.write a 1 [w], seq % 256, true⟩ } ∧ u.mem = s.mem) ∧
    (s.mon.wait = some ⟨.write a 1 [w], seq % 256, true⟩ → s.mon.buf = none → s.monNow = true ∨ (s.turn 2 s.guardG = true ∧ s.cpu.parked = true) →
      ∃ u, exec .monitorWriteLanding s = .next u ∧ u.rdW a = w ∧ (∀ b, b < a ∨ a + 4 ≤ b → u.rdB b = s.rdB b) ∧ u.mon.wait = none ∧ u.Answers 3 seq 0 s.etick) := by
  refine ⟨fun hears ho => ?_, fun hears ho => ?_, fun hw hb hn => ?_⟩
  · rw [exec_monWrite, request_write hears h4, if_pos ho, monLandWrite_sram h2 h4 ha h hd]
    obtain ⟨word, bytes, -, -⟩ := monStored_spec s ⟨.write a 1 [w], seq % 256, true⟩ w s.etick h
    exact done_of fun u e => ⟨(e.rdW a).trans word, fun b k => (e.rdB b).trans (bytes b k), e.answers rfl⟩
  · rw [exec_monWrite, request_write hears h4, if_neg (by simp [ho])]
    exact done_of fun u e => ⟨e.mon, e.mem⟩
  · obtain ⟨k, p, e⟩ := monWindow_open hn
    have land : (s.partTo k p).unwaited.monLandWrite ⟨.write a 1 [w], seq % 256, true⟩ a [w] = (s.partTo k p).unwaited.monStored ⟨.write a 1 [w], seq % 256, true⟩ a w s.etick :=
      monLandWrite_sram (s := (s.partTo k p).unwaited) h2 h4 ha h hd _ w
    have taken : s.monWindow = ((s.partTo k p).unwaited.monLandWrite ⟨.write a 1 [w], seq % 256, true⟩ a [w]).monNext := e.trans (monLands_write (s := s.partTo k p) hw)
    obtain ⟨word, bytes, wait, buf⟩ := monStored_spec (s.partTo k p).unwaited ⟨.write a 1 [w], seq % 256, true⟩ w s.etick h
    rw [exec_monitorWriteLanding, if_pos (awake_of_monOn hon).1, taken, land, monNext_idle (buf.trans hb)]
    exact done_of fun u e => ⟨(e.rdW a).trans word, fun b k => (e.rdB b).trans (bytes b k), by rw [e.mon, wait]; rfl, e.answers rfl⟩

/-- Settles O60: each request is taken up by its own command, whose effect and answer the settling leaves. -/
theorem monitorCommands : Obligations.MonitorCommands := by
  unfold Obligations.MonitorCommands
  refine fun s seq hon => ⟨fun h => ?_, fun a n h h4 h1 h60 ha lo hi sound => ?_, fun a w h2 h4 ha h hd => write_clauses w hon h2 h4 ha h hd, fun a d m h h2 h4 ha hs hd hb ho => ?_,
    fun n dt h h4 h1 hn hr => step_clauses dt hon h h4 h1 hn hr, stepDone_clauses, halt_clauses, fun a => go_clause, reset_clause, fun resp h h2 hl hp => return_clauses resp h h2 hl hp⟩
  · rw [exec_ping, request_ping h]
    exact done_of fun u e => e.answers rfl
  · rw [exec_monRead, request_read h h1 h60, monRead1_sram s _ h4 ha lo hi sound]
    exact done_of fun u e => ⟨e.mem, e.answers rfl⟩
  · rw [exec_monModify, request_modify h h4, if_pos ho, monLandModify_sram h2 h4 ha hs hd _ _ _ hb]
    obtain ⟨word, -⟩ := monStored_spec s ⟨.modify a d m .ok, seq % 256, true⟩ ((s.rdW a &&& ~~~m) ||| (d &&& m)) (s.etick ++ beOctets 4 (s.rdW a).toNat) hs
    exact done_of fun u e => ⟨(e.rdW a).trans word, e.answers rfl⟩

end Sys2Proof.Machine

namespace Sys2Proof.Machine

/-! ## The line port: what its counts, its figure of quality and its events leave alone -/

/-- The port's state without the counts held back (R199) and the deviations SQI is computed of (R192). -/
def LnkSt.port (l : LnkSt) : LnkSt := { l with held := [], jit := [] }

/-- Everything but what counts, SQI and events touch. -/
def State.ported (s : State) : State := { s.quiet with lnk := s.lnk.port }

/-- The registers a frame is counted and noted in: the LNS counters, SQI, the receive stamp, CYC.TXRSP. -/
def lineNote (a : Nat) : Bool := lnsCounters.contains a || a == R.LNK_SQI || a == R.LNK_STAMP_LO || a == R.LNK_STAMP_HI || a == R.CYC_TXRSP

/-- The registers the port's counts, notes and events can change. -/
def lineTouches (a : Nat) : Bool := lineNote a || raiseTouches P.LNK a || raiseTouches P.LNS a

/-- What the port's counts, notes and events keep. -/
structure PortKept (s t : State) : Prop where
  steady : Steady noNode s t
  ported : t.ported = s.ported
  rd : ∀ a, lineTouches a = false → t.rd a = s.rd a

theorem plainReg_lineNote {a : Nat} (h : lineNote a = true) : plainReg a = true := by
  have counters : ∀ b ∈ lnsCounters, plainReg b = true := by decide
  simp only [lineNote, Bool.or_eq_true, beq_iff_eq, List.contains_iff_mem] at h
  obtain (((h | rfl) | rfl) | rfl) | rfl := h
  · exact counters a h
  all_goals decide

/-- A change of the port's own state leaves a steady change steady. -/
theorem Steady.withLnk {N : Nat → Prop} {s t : State} (h : Steady N s t) (l k : LnkSt) : Steady N { s with lnk := l } { t with lnk := k } :=
  ⟨h.spine, h.node, h.rd, h.evt, h.flt, h.rel⟩

namespace PortKept

theorem refl (s : State) : PortKept s s := ⟨.refl s, rfl, fun _ _ => rfl⟩

theorem trans {s t u : State} (h : PortKept s t) (k : PortKept t u) : PortKept s u :=
  ⟨h.steady.trans k.steady, k.ported.trans h.ported, fun a ha => (k.rd a ha).trans (h.rd a ha)⟩

theorem of_keeps {p : Nat} {s t : State} (q : t.quiet = s.quiet) (k : Keeps p s t) (hp : p = P.LNK ∨ p = P.LNS) : PortKept s t where
  steady := .of_keeps q k
  ported := congrArg (fun q : State => { q with lnk := q.lnk.port }) q
  rd a ha := k.rd a (by
    simp only [lineTouches, Bool.or_eq_false_iff] at ha
    obtain ⟨⟨-, lnk⟩, lns⟩ := ha
    rcases hp with rfl | rfl
    · exact lnk
    · exact lns)

theorem ite {s t u : State} {c : Prop} [Decidable c] (h : PortKept s t) (k : PortKept s u) : PortKept s (if c then t else u) := by
  split_ifs <;> assumption

variable {s t : State} (h : PortKept s t)
include h

/-- A field or condition that does not look at counts and registers stands. -/
theorem keep {α : Type} (f : State → α) (hf : ∀ s : State, f s.ported = f s := by exact fun _ => rfl) : f t = f s :=
  (hf t).symm.trans ((congrArg f h.ported).trans (hf s))

theorem fd {a lo w : Nat} (ha : lineTouches a = false := by decide) : t.fd a lo w = s.fd a lo w := congrArg (fld · lo w) (h.rd a ha)
theorem bit {a n : Nat} (ha : lineTouches a = false := by decide) : t.bit a n = s.bit a n := congrArg (bitOf · n) (h.rd a ha)
theorem evt {p n : Nat} (hb : s.bit (rEVT p) n = true) : t.bit (rEVT p) n = true := h.steady.evt p n hb
theorem flt {p n : Nat} (hb : s.bit (rFLT p) n = true) : t.bit (rFLT p) n = true := h.steady.flt p n hb

/-- The same change of the port's state on both sides, one that does not look at the counts. -/
theorem withLnk (g : LnkSt → LnkSt) (hg : ∀ l : LnkSt, (g l.port).port = (g l).port := by exact fun _ => rfl) :
    PortKept { s with lnk := g s.lnk } { t with lnk := g t.lnk } where
  steady := h.steady.withLnk _ _
  ported := by
    have e := congrArg (fun q : State => { q with lnk := (g q.lnk).port }) h.ported
    simp only [State.ported, hg] at e
    exact e
  rd := h.rd

theorem wr {a : Nat} {v : Word} (ha : lineNote a = true := by decide) : PortKept s (t.wr a v) :=
  h.trans ⟨.wr (.refl t) (plainReg_lineNote ha), rfl, fun b hb => State.rd_wr_ne _ _ (by rintro rfl; simp [lineTouches, ha] at hb)⟩

theorem raise {p n : Nat} (hp : p = P.LNK ∨ p = P.LNS := by decide) : PortKept s (t.raise p n) := h.trans (of_keeps (quiet_raise t p n) (keeps_raise t p n) hp)
theorem raiseIf {c : Bool} {p n : Nat} (hp : p = P.LNK ∨ p = P.LNS := by decide) : PortKept s (t.raiseIf c p n) :=
  h.trans (of_keeps (quiet_raiseIf t c p n) (keeps_raiseIf t c p n) hp)

/-- A count of the LNS page, held back or not (R199, R200). -/
theorem lns {a n : Nat} (ha : lineNote a = true := by decide) : PortKept s (t.lns a n) := by
  have held (l : List (Nat × Nat)) : PortKept t { t with lnk := { t.lnk with held := l } } := ⟨.of_regs, rfl, fun _ _ => rfl⟩
  exact .ite h (.ite h (.ite (h.trans (held _)) (.raiseIf (h.wr ha))))

omit h in
/-- What a change of LSTATE raises (R189). -/
theorem linkEv {f : State → State} (k : PortKept s (f t)) : PortKept s (t.linkEv f) := .ite k.raise.lns k.raiseIf

omit h in
theorem setLink (s : State) (l : LinkState) : PortKept { s with lnk := { s.lnk with link := l } } (s.setLink l) := linkEv (.refl _)

/-- SQI takes the deviation of a frame (R192, R193). -/
theorem sqi {jit : Nat} : PortKept s (t.sqi jit) := by
  have noted (l : List Nat) : PortKept t { t with lnk := { t.lnk with jit := l } } := ⟨.of_regs, rfl, fun _ _ => rfl⟩
  exact .raiseIf (.wr (h.trans (noted _)))

end PortKept

/-! ### A counter -/

/-- A count leaves the other registers, but for what SAT's event touches. -/
theorem rd_lns (s : State) (a n : Nat) {b : Nat} (hb : b ≠ a) (ht : raiseTouches P.LNS b = false := by decide) : (s.lns a n).rd b = s.rd b := by
  have added : (s.lnsAdd a n).rd b = s.rd b := (rd_raiseIf _ ht).trans (State.rd_wr_ne _ _ hb)
  unfold State.lns
  split_ifs
  · rfl
  · rfl
  · rfl
  · exact added

/-- A counter of every profile counts while FREEZE is 0 (R198 to R200). -/
theorem rd_lns_self {s : State} {a : Nat} (hp : everyProfile a = true) (hf : s.bit (rCTRL P.LNS) 1 = false) (ht : raiseTouches P.LNS a = false := by decide) :
    (s.lns a 1).rd a = wd (satAdd 32 (s.rd a).toNat 1) := by
  have counts : s.lns a 1 = s.lnsAdd a 1 := by simp [State.lns, hp, hf]
  rw [counts]
  exact (rd_raiseIf _ ht).trans (State.rd_wr_self ..)

/-! ## The energy detector and the settings in force -/

/-- The port with the detector's report of the amplitude (R160, R161, R187). -/
def State.sensed (s : State) : State :=
  let on := decide (s.lnk.amp > s.edThr)
  { s with lnk := { s.lnk with energy := on, jabRx := s.lnk.jabRx && on, gain := if on then s.lnk.gain else 7 } }

/-- The link state the detector's report leaves (Table 4-4). -/
def State.sensedLink (s : State) : LinkState :=
  if s.sensed.lnk.energy && s.portOn && s.lnk.profact != 3 && s.lnk.link == .down then .energy else s.lnk.link

theorem portKept_energyNow (s : State) : PortKept { s.sensed with lnk := { s.sensed.lnk with link := s.sensedLink } } s.energyNow := by
  have e : s.energyNow = if s.sensed.lnk.energy && s.portOn && s.lnk.profact != 3 && s.lnk.link == .down then s.sensed.setLink .energy else s.sensed := rfl
  unfold State.sensedLink
  rw [e]
  split_ifs
  · exact .setLink _ _
  · exact .refl _

theorem sensed_quiet {s : State} (h : s.lnk.amp ≤ s.edThr) : s.sensed.lnk.energy = false ∧ s.sensed.lnk.gain = 7 ∧ s.sensedLink = s.lnk.link := by
  have off : decide (s.lnk.amp > s.edThr) = false := by simpa using h
  simp [State.sensedLink, State.sensed, off]

theorem sensed_energy {s : State} (h : s.edThr < s.lnk.amp) : s.sensed.lnk.energy = true ∧ s.sensed.lnk.gain = s.lnk.gain := by
  have on : decide (s.lnk.amp > s.edThr) = true := by simpa using h
  simp [State.sensed, on]

theorem sensedLink_rises {s : State} (h : s.edThr < s.lnk.amp) (hp : s.portOn = true) (ht : s.t1s = true) (hl : s.lnk.link = .down) : s.sensedLink = .energy := by
  have p3 : s.lnk.profact ≠ 3 := by rintro e; simp [State.t1s, e] at ht
  simp [State.sensedLink, (sensed_energy h).1, hp, p3, hl]

/-- The settings of the port in force are those written (R195). -/
structure Configured (s : State) (l : LnkSt) : Prop where
  plca : l.plca = s.rd R.LNK_PLCA
  burst : l.burst = s.rd R.LNK_BURST
  txcfg : l.txcfg = s.rd R.LNK_TXCFG
  rxcfg : l.rxcfg = s.rd R.LNK_RXCFG

theorem edThr_configured {s t : State} (h : Configured s t.lnk) : t.edThr = 25 * fld (s.rd R.LNK_RXCFG) 0 4 := congrArg (25 * fld · 0 4) h.rxcfg

/-- The detector leaves the settings. -/
theorem Configured.energyNow {s t : State} (h : Configured s t.lnk) : Configured s t.energyNow.lnk := by
  have k := portKept_energyNow t
  exact ⟨(k.keep (·.lnk.plca)).trans h.plca, (k.keep (·.lnk.burst)).trans h.burst, (k.keep (·.lnk.txcfg)).trans h.txcfg, (k.keep (·.lnk.rxcfg)).trans h.rxcfg⟩

/-- The settings written come into force, and the detector follows its threshold (R195). -/
theorem lnkApply_eq (s : State) : ∃ t : State, s.lnkApply = t.energyNow ∧ Configured s t.lnk ∧ t.lnk.amp = s.lnk.amp := by
  refine ⟨_, rfl, ?_⟩
  dsimp only
  split_ifs <;> exact ⟨⟨rfl, rfl, rfl, rfl⟩, rfl⟩

theorem configured_lnkApply (s : State) : Configured s s.lnkApply.lnk := by
  obtain ⟨t, e, c, -⟩ := lnkApply_eq s
  rw [e]
  exact c.energyNow

end Sys2Proof.Machine

namespace Sys2Proof.Machine

/-! ## LineReceive -/

theorem exec_rxFrame (oct : List Byte) (dt back : LineTime) (rate : Int) (jit sym : Nat) (s : State) :
    exec (.rxFrame oct dt back rate jit sym) s = s.done (if s.lineOn then ((s.elapse dt).lineSeen oct).rxFrame oct back rate jit sym else s) := rfl
theorem exec_linkWindowExpiry (quiet : Bool) (s : State) : exec (.linkWindowExpiry quiet) s = s.done (if s.lineOn then s.linkWindow quiet else s) := rfl
theorem exec_lnkConfigApply (s : State) : exec .lnkConfigApply s = s.done (if s.lineOn && s.portIdle then s.lnkApply else s) := rfl
theorem exec_lineEnergy (mv gain noise : Nat) (outS : Bool) (s : State) : exec (.lineEnergy mv gain noise outS) s = s.done (s.lineEnergy mv gain noise outS) := rfl
theorem exec_detectorSettled (s : State) :
    exec .detectorSettled s = s.done (if s.pwr.inReset then s else { s with lnk := { s.lnk with settling := false } }) := rfl
theorem exec_jabberRx (s : State) : exec .jabberRx s = s.done (if s.lineOn then s.rxJabber else s) := rfl

/-- What does not look at line-time and the phase stands as time passes. -/
theorem elapse_keep {α : Type} (s : State) (dt : LineTime) (f : State → α)
    (hf : ∀ (s : State) (t : LineTime) (p : Nat), f { s with lt := t, tck := { s.tck with phase := p } } = f s := by exact fun _ _ _ => rfl) : f (s.elapse dt) = f s := by
  obtain ⟨p, e⟩ := elapse_eq s dt
  rw [e]
  exact hf s _ p

theorem elapse_lt (s : State) (dt : LineTime) : (s.elapse dt).lt = s.lt + dt := by
  obtain ⟨p, e⟩ := elapse_eq s dt
  rw [e]

/-- A frame that completes notes no more than the lead on the line (R689). -/
theorem lineSeen_keep {α : Type} (s : State) (oct : List Byte) (f : State → α) (hf : ∀ (s : State) (w : TwnSt), f { s with twn := w } = f s := by exact fun _ _ => rfl) :
    f (s.lineSeen oct) = f s := by
  unfold State.lineSeen
  split_ifs
  · exact hf s _
  · rfl

/-! ### The check of a frame (R165, R166, R168) -/

/-- The frame goes to the cycle engine with what it is checked against (R333). -/
def State.handed (s : State) (oct : List Byte) (stamp : LineTime) (done : LineTime) (rate : Int) : List Handed :=
  s.cyc.handover ++ [⟨oct, stamp, done, rate, s.mac, s.fd R.CYC_NODE 0 16, s.fd R.CYC_ETYPE 0 16⟩]

theorem PortKept.handed {s t : State} (h : PortKept s t) (oct : List Byte) (stamp done : LineTime) (rate : Int) : t.handed oct stamp done rate = s.handed oct stamp done rate := by
  have mac : t.mac = s.mac := by rw [State.mac, State.mac, h.rd R.CYC_MAC_HI (by decide), h.rd R.CYC_MAC_LO (by decide)]
  rw [State.handed, State.handed, h.keep (·.cyc.handover), mac, h.fd, h.fd]

/-- A frame of a right length and FCS is counted, stamped and handed over. -/
theorem rxCheck_passes {s : State} {oct : List Byte} (hl : 64 ≤ oct.length) (hu : oct.length ≤ 1522) (hf : fcsOk oct = true) (stamp done : LineTime) (rate : Int) :
    ∃ t, PortKept s t ∧ t.rd R.LNK_STAMP_LO = stamp.setWidth 32 ∧
      s.rxCheck oct stamp done rate = { t with cyc := { t.cyc with handover := t.handed oct stamp done rate } } := by
  refine ⟨((s.lns R.LNS_RXOK 1).wr R.LNK_STAMP_LO (stamp.setWidth 32)).wr R.LNK_STAMP_HI (wd (stamp.toNat / 2 ^ 32)), (PortKept.refl s).lns.wr.wr, ?_, ?_⟩
  · exact (State.rd_wr_ne _ _ (by decide)).trans (State.rd_wr_self ..)
  · unfold State.rxCheck
    simp only [hl, hu, hf, decide_true, Bool.and_self, Bool.not_true, Bool.false_eq_true, ite_false]
    rfl

/-- One with a bad FCS is counted alone. -/
theorem rxCheck_badFcs {s : State} {oct : List Byte} (hl : 64 ≤ oct.length) (hu : oct.length ≤ 1522) (hf : fcsOk oct = false) (stamp done : LineTime) (rate : Int) :
    s.rxCheck oct stamp done rate = s.lns R.LNS_RXFCS 1 := by
  simp [State.rxCheck, hl, hu, hf]

/-! ### A frame at the receiver -/

/-- The receiver's gain after a frame (R161, R162). -/
def LnkSt.gained (l : LnkSt) (agc : Nat) : LnkSt := { l with agc := agc, gain := 7 }

/-- The port as a frame is checked: its gain code is kept and the gain returned (R161, R162). -/
def State.heard (s : State) (sym : Nat) : State := { s.lns R.LNS_RXSYM sym with lnk := (s.lns R.LNS_RXSYM sym).lnk.gained s.gainNow }

theorem portKept_heard (s : State) (sym : Nat) : PortKept { s with lnk := s.lnk.gained s.gainNow } (s.heard sym) :=
  (PortKept.refl s).lns.withLnk (LnkSt.gained · s.gainNow)

/-- A frame of a right FCS brings the link up, and SQI takes its deviation, before the check (R188, R192). -/
theorem rxFrame_eq {s : State} (h : s.rxOn = true) (oct : List Byte) (back : LineTime) (rate : Int) (jit sym : Nat) :
    s.rxFrame oct back rate jit sym = (if fcsOk oct then ((s.heard sym).setLink .up).sqi jit else s.heard sym).rxCheck oct (s.lt - back) s.lt rate := by
  have k : PortKept s (s.lns R.LNS_RXSYM sym) := (PortKept.refl s).lns
  have heard : { s.lns R.LNS_RXSYM sym with lnk := { (s.lns R.LNS_RXSYM sym).lnk with agc := (s.lns R.LNS_RXSYM sym).gainNow, gain := 7 } } = s.heard sym := by
    rw [k.keep State.gainNow]; rfl
  have time : (if fcsOk oct then ((s.heard sym).setLink .up).sqi jit else s.heard sym).lt = s.lt := by
    split_ifs
    · exact (((PortKept.refl _).sqi.keep (·.lt)).trans ((PortKept.setLink _ _).keep (·.lt))).trans ((portKept_heard s sym).keep (·.lt))
    · exact (portKept_heard s sym).keep (·.lt)
  unfold State.rxFrame
  simp only [h, Bool.not_true, Bool.false_eq_true, ite_false, heard, time]

/-- A frame that is passed on. -/
theorem rxFrame_passes {s : State} (h : s.rxOn = true) {oct : List Byte} (hl : 64 ≤ oct.length) (hu : oct.length ≤ 1522) (hf : fcsOk oct = true) (back : LineTime)
    (rate : Int) (jit sym : Nat) :
    ∃ t, PortKept { s with lnk := { s.lnk.gained s.gainNow with link := .up } } t ∧ t.rd R.LNK_STAMP_LO = (s.lt - back).setWidth 32 ∧
      s.rxFrame oct back rate jit sym = { t with cyc := { t.cyc with handover := s.handed oct (s.lt - back) s.lt rate } } := by
  obtain ⟨t, k, stamp, e⟩ := rxCheck_passes (s := ((s.heard sym).setLink .up).sqi jit) hl hu hf (s.lt - back) s.lt rate
  have up : PortKept { s with lnk := { s.lnk.gained s.gainNow with link := .up } } t :=
    ((((portKept_heard s sym).withLnk fun l => { l with link := .up }).trans (.setLink _ _)).sqi).trans k
  refine ⟨t, up, stamp, ?_⟩
  rw [rxFrame_eq h, if_pos hf, e, up.handed]
  rfl

theorem rxFrame_badFcs {s : State} (h : s.rxOn = true) {oct : List Byte} (hl : 64 ≤ oct.length) (hu : oct.length ≤ 1522) (hf : fcsOk oct = false) (back : LineTime)
    (rate : Int) (jit sym : Nat) : s.rxFrame oct back rate jit sym = (s.heard sym).lns R.LNS_RXFCS 1 := by
  rw [rxFrame_eq h, if_neg (by simp [hf]), rxCheck_badFcs hl hu hf]

/-- The clauses of a frame's reception. -/
theorem rxFrame_clauses {s : State} (hon : s.lineOn = true) (hrx : s.rxOn = true) {oct : List Byte} (hl : 64 ≤ oct.length) (hu : oct.length ≤ 1522) (dt back : LineTime) (rate : Int)
    (jit sym : Nat) :
    (fcsOk oct = true → ∃ u, exec (.rxFrame oct dt back rate jit sym) s = .next u ∧ u.lt = s.lt + dt ∧ u.lnk.link = .up ∧ u.lnk.agc = s.gainNow ∧ u.lnk.gain = 7 ∧
      u.cyc.handover = s.cyc.handover ++ [⟨oct, s.lt + dt - back, s.lt + dt, rate, s.mac, s.fd R.CYC_NODE 0 16, s.fd R.CYC_ETYPE 0 16⟩] ∧
      u.rd R.LNK_STAMP_LO = (s.lt + dt - back).setWidth 32) ∧
    (fcsOk oct = false → ∃ u, exec (.rxFrame oct dt back rate jit sym) s = .next u ∧ u.lt = s.lt + dt ∧ u.lnk.link = s.lnk.link ∧ u.cyc.handover = s.cyc.handover ∧
      (s.bit (rCTRL P.LNS) 1 = false → u.rd R.LNS_RXFCS = wd (satAdd 32 (s.rd R.LNS_RXFCS).toNat 1))) := by
  have lt : ((s.elapse dt).lineSeen oct).lt = s.lt + dt := (lineSeen_keep _ oct (·.lt)).trans (elapse_lt s dt)
  have link : ((s.elapse dt).lineSeen oct).lnk.link = s.lnk.link := (lineSeen_keep _ oct (·.lnk.link)).trans (elapse_keep s dt (·.lnk.link))
  have gain : ((s.elapse dt).lineSeen oct).gainNow = s.gainNow := (lineSeen_keep _ oct State.gainNow).trans (elapse_keep s dt State.gainNow)
  have rx : ((s.elapse dt).lineSeen oct).rxOn = true := ((lineSeen_keep _ oct State.rxOn).trans (elapse_keep s dt State.rxOn)).trans hrx
  have rd (a : Nat) : ((s.elapse dt).lineSeen oct).rd a = s.rd a := (lineSeen_keep _ oct (·.rd a)).trans (elapse_keep s dt (·.rd a))
  have hand (stamp done : LineTime) : ((s.elapse dt).lineSeen oct).handed oct stamp done rate = s.handed oct stamp done rate :=
    (lineSeen_keep _ oct (·.handed oct stamp done rate)).trans (elapse_keep s dt (·.handed oct stamp done rate))
  have queue : ((s.elapse dt).lineSeen oct).cyc.handover = s.cyc.handover := (lineSeen_keep _ oct (·.cyc.handover)).trans (elapse_keep s dt (·.cyc.handover))
  rw [exec_rxFrame, if_pos hon]
  generalize (s.elapse dt).lineSeen oct = v at lt link gain rx rd hand queue
  refine ⟨fun hf => ?_, fun hf => ?_⟩
  · obtain ⟨t, k, stamp, e⟩ := rxFrame_passes rx hl hu hf back rate jit sym
    rw [e, lt, hand]
    rw [lt] at stamp
    exact done_of fun u e => ⟨(e.lt.trans (k.keep (·.lt))).trans lt, (congrArg LnkSt.link e.lnk).trans (k.keep (·.lnk.link)),
      ((congrArg LnkSt.agc e.lnk).trans (k.keep (·.lnk.agc))).trans gain, (congrArg LnkSt.gain e.lnk).trans (k.keep (·.lnk.gain)), e.cyc_handover, (e.rd (by decide)).trans stamp⟩
  · have k : PortKept { v with lnk := v.lnk.gained v.gainNow } ((v.heard sym).lns R.LNS_RXFCS 1) := (portKept_heard v sym).lns
    rw [rxFrame_badFcs rx hl hu hf]
    refine done_of fun u e => ⟨(e.lt.trans (k.keep (·.lt))).trans lt, ((congrArg LnkSt.link e.lnk).trans (k.keep (·.lnk.link))).trans link,
      (e.cyc_handover.trans (k.keep (·.cyc.handover))).trans queue, fun hz => ?_⟩
    have other : (v.heard sym).rd R.LNS_RXFCS = s.rd R.LNS_RXFCS := (rd_lns v _ _ (by decide)).trans (rd _)
    have thawed : (v.heard sym).bit (rCTRL P.LNS) 1 = false := ((portKept_heard v sym).bit.trans (congrArg (bitOf · 1) (rd _))).trans hz
    rw [e.rd (by decide), rd_lns_self rfl thawed, other]

/-! ### Windows, energy, jabber -/

theorem t1s_not_isinasia {s : State} (h : s.t1s = true) : s.lnk.profact ≠ 3 := by rintro e; simp [State.t1s, e] at h

/-- What a change of the link alone leaves as a command. -/
theorem done_setLink (s : State) (l : LinkState) : ∃ u, s.done (s.setLink l) = .next u ∧ u.lnk.link = l :=
  done_of fun _ e => (congrArg LnkSt.link e.lnk).trans ((PortKept.setLink s l).keep (·.lnk.link))

/-- The window of the link passes without a frame (Table 4-4). -/
theorem linkWindow_clauses {s : State} (hon : s.lineOn = true) (ht : s.t1s = true) (quiet : Bool) :
    (s.lnk.link = .up → ∃ u, exec (.linkWindowExpiry quiet) s = .next u ∧ u.lnk.link = if quiet && !s.lnk.energy then .down else .energy) ∧
    (s.lnk.link = .energy → quiet = true → s.lnk.energy = false → ∃ u, exec (.linkWindowExpiry quiet) s = .next u ∧ u.lnk.link = .down) := by
  have window : s.linkWindow quiet = match s.lnk.link with
      | .up => s.setLink (if quiet && !s.lnk.energy then .down else .energy)
      | .energy => if quiet && !s.lnk.energy then s.setLink .down else s
      | _ => s := if_pos (by simpa using t1s_not_isinasia ht)
  rw [exec_linkWindowExpiry, if_pos hon, window]
  refine ⟨fun hl => ?_, fun hl hq he => ?_⟩
  · rw [hl]
    exact done_setLink _ _
  · rw [hl]
    simp only [hq, he, Bool.not_false, Bool.and_self, if_true]
    exact done_setLink _ _

/-- The port with an amplitude on the line. -/
def State.amplified (s : State) (mv : Nat) (outS : Bool) : State := { s with lnk := { s.lnk with amp := mv, outS := outS } }

/-- The port with a gain code. -/
def State.gainSet (s : State) (code : Nat) : State := { s with lnk := { s.lnk with gain := code } }

/-- Energy that begins sets the gain; while it lasts no setting comes into force (R160, R161). -/
theorem lineEnergy_loud {s : State} {mv : Nat} (h : s.edThr < mv) (gain noise : Nat) (outS : Bool) :
    s.lineEnergy mv gain noise outS = if s.lnk.energy then (s.amplified mv outS).energyNow else (s.amplified mv outS).energyNow.gainSet (gain % 8) := by
  unfold State.lineEnergy
  extract_lets was _ s1 _ s2 s3
  have on : s1.lnk.energy = true := ((portKept_energyNow _).keep (·.lnk.energy)).trans (sensed_energy (s := s.amplified mv outS) h).1
  have e2 : s2 = if s.lnk.energy then s1 else s1.gainSet (gain % 8) := by
    by_cases he : s.lnk.energy = true
    · rw [if_pos he]
      exact if_neg (by simp [was, he])
    · rw [if_neg he]
      exact if_pos (by simp [was, he, on])
  have on2 : s2.lnk.energy = true := by rw [e2]; split_ifs <;> exact on
  have e3 : s3 = s2 := if_neg (by simp [on2])
  rw [e3, State.lnkWritten, if_neg (by simp [State.portIdle, on2])]
  exact e2

/-- Without energy the settings written come into force; the noise alone is noted before (R160, R195). -/
theorem lineEnergy_quiet {s : State} {mv : Nat} (hp : s.portOn = true) (h : mv ≤ s.edThr) (gain noise : Nat) (outS : Bool) :
    ∃ t : State, s.lineEnergy mv gain noise outS = t.lnkApply ∧ t.lnk.amp = mv ∧ t.rd R.LNK_RXCFG = s.rd R.LNK_RXCFG := by
  have k1 := portKept_energyNow (s.amplified mv outS)
  have k3 := k1.wr (a := R.LNK_SQI) (v := setFld ((s.amplified mv outS).energyNow.rd R.LNK_SQI) 8 8 noise)
  refine ⟨_, ?_, k3.keep (·.lnk.amp), k3.rd _ (by decide)⟩
  unfold State.lineEnergy
  extract_lets was _ s1 _ s2 s3
  obtain ⟨quiet, -, -⟩ := sensed_quiet (s := s.amplified mv outS) h
  have off : s1.lnk.energy = false := (k1.keep (·.lnk.energy)).trans quiet
  have on : s1.portOn = true := (k1.keep State.portOn).trans hp
  have e2 : s2 = s1 := if_neg (by simp [off])
  have e3 : s3 = s1.setF R.LNK_SQI 8 8 noise := by
    unfold s3
    rw [e2, if_pos (by simp [off, on])]
  have idle : (s1.setF R.LNK_SQI 8 8 noise).portIdle = true := by show (!s1.lnk.energy) = true; rw [off]; rfl
  have run : (s1.setF R.LNK_SQI 8 8 noise).portOn = true := on
  rw [e3, State.lnkWritten, if_pos (by simp [idle, run])]
  rfl

/-- The clauses of the energy detector. -/
theorem lineEnergy_clauses {s : State} (hon : s.lineOn = true) (mv gain noise : Nat) (outS : Bool) :
    (s.edThr < mv → ∃ u, exec (.lineEnergy mv gain noise outS) s = .next u ∧ u.lnk.energy = true ∧ (s.lnk.energy = false → u.lnk.gain = gain % 8) ∧
      (s.t1s = true → s.lnk.link = .down → u.lnk.link = .energy)) ∧
    (mv ≤ s.edThr → mv ≤ 25 * fld (s.rd R.LNK_RXCFG) 0 4 → ∃ u, exec (.lineEnergy mv gain noise outS) s = .next u ∧ u.lnk.energy = false ∧ u.lnk.gain = 7) := by
  rw [exec_lineEnergy]
  refine ⟨fun h => ?_, fun h hw => ?_⟩
  · have k := portKept_energyNow (s.amplified mv outS)
    obtain ⟨on, -⟩ := sensed_energy (s := s.amplified mv outS) h
    have energy : (s.amplified mv outS).energyNow.lnk.energy = true := (k.keep (·.lnk.energy)).trans on
    have link (ht : s.t1s = true) (hl : s.lnk.link = .down) : (s.amplified mv outS).energyNow.lnk.link = .energy :=
      (k.keep (·.lnk.link)).trans (sensedLink_rises (s := s.amplified mv outS) h hon ht hl)
    rw [lineEnergy_loud h]
    by_cases he : s.lnk.energy = true
    · rw [if_pos he]
      exact done_of fun u e => ⟨(congrArg LnkSt.energy e.lnk).trans energy, fun hn => by simp [he] at hn, fun ht hl => (congrArg LnkSt.link e.lnk).trans (link ht hl)⟩
    · rw [if_neg he]
      exact done_of fun u e => ⟨(congrArg LnkSt.energy e.lnk).trans energy, fun _ => congrArg LnkSt.gain e.lnk, fun ht hl => (congrArg LnkSt.link e.lnk).trans (link ht hl)⟩
  · obtain ⟨t, e, amp, cfg⟩ := lineEnergy_quiet hon h gain noise outS
    obtain ⟨v, ev, c, ampv⟩ := lnkApply_eq t
    have thr : v.lnk.amp ≤ v.edThr := by rw [edThr_configured c, cfg, ampv, amp]; exact hw
    obtain ⟨off, seven, -⟩ := sensed_quiet thr
    have k := portKept_energyNow v
    rw [e, ev]
    exact done_of fun u e => ⟨((congrArg LnkSt.energy e.lnk).trans (k.keep (·.lnk.energy))).trans off, ((congrArg LnkSt.gain e.lnk).trans (k.keep (·.lnk.gain))).trans seven⟩

/-- The settings written come into force (R195). -/
theorem configApply_clause {s : State} (hon : s.lineOn = true) (hi : s.portIdle = true) :
    ∃ u, exec .lnkConfigApply s = .next u ∧ u.lnk.plca = s.rd R.LNK_PLCA ∧ u.lnk.burst = s.rd R.LNK_BURST ∧ u.lnk.txcfg = s.rd R.LNK_TXCFG ∧ u.lnk.rxcfg = s.rd R.LNK_RXCFG := by
  obtain ⟨plca, burst, txcfg, rxcfg⟩ := configured_lnkApply s
  rw [exec_lnkConfigApply, if_pos (by simp [hon, hi])]
  refine done_of fun u e => ?_
  rw [e.lnk]
  exact ⟨plca, burst, txcfg, rxcfg⟩

/-- A jabber on the line (R187). -/
theorem jabberRx_clause {s : State} (hon : s.lineOn = true) (hp : s.lnk.profact ≠ 0) :
    ∃ u, exec .jabberRx s = .next u ∧ u.lnk.jabRx = true ∧ u.bit (rEVT P.LNK) 3 = true := by
  have on : s.portOn = true := hon
  have e : s.rxJabber = (({ s with lnk := { s.lnk with jabRx := true } } : State).lns R.LNS_RXJAB 1).raise P.LNK 3 := if_pos (by simp [on, hp])
  have k : PortKept { s with lnk := { s.lnk with jabRx := true } } ((({ s with lnk := { s.lnk with jabRx := true } } : State).lns R.LNS_RXJAB 1).raise P.LNK 3) := (PortKept.refl _).lns.raise
  rw [exec_jabberRx, if_pos hon, e]
  exact done_of fun u e => ⟨(congrArg LnkSt.jabRx e.lnk).trans (k.keep (·.lnk.jabRx)), e.evt (bit_raise _ _ _ (by decide))⟩

/-- Settles O25: a frame by the check of its length and FCS, the rest by what each command makes of the port's own state. -/
theorem lineReceive : Obligations.LineReceive := by
  unfold Obligations.LineReceive
  intro s hon
  refine ⟨fun oct dt back rate jit sym hrx hl hu => rxFrame_clauses hon hrx hl hu dt back rate jit sym, fun quiet ht => linkWindow_clauses hon ht quiet, configApply_clause hon,
    lineEnergy_clauses hon, ?_, jabberRx_clause hon⟩
  rw [exec_detectorSettled, if_neg (by simp [inReset_of_lineOn hon])]
  exact done_of fun u e => ⟨e, congrArg LnkSt.settling e.lnk⟩

end Sys2Proof.Machine

namespace Sys2Proof.Machine

/-! ## Transmission -/

/-- The port once the waiting frame has left its place. -/
def State.taken (s : State) : State :=
  { s with
    cyc := if s.cyc.txNow.isSome then { s.cyc with txNow := none } else { s.cyc with txbuf := none }
    lnk := { s.lnk with attempts := 0, backoff := false } }

theorem taken_txbuf {s : State} (h : s.cyc.txNow = none) : s.taken.cyc.txbuf = none := by simp [State.taken, h]

/-- The frame that leaves is counted alone (Table 6-8). -/
theorem txTake_cases (s : State) : s.txTake = s.taken ∨ s.txTake = s.taken.inc R.CYC_TXRSP := by
  unfold State.txTake State.taken
  by_cases h : s.cyc.txNow.isSome = true
  · exact .inl (by simp only [h, if_true])
  · exact .inr (by simp only [h, if_false, Bool.false_eq_true]; rfl)

theorem portKept_txTake (s : State) : PortKept s.taken s.txTake := by
  rcases txTake_cases s with e | e
  · rw [e]; exact .refl _
  · rw [e]; exact (PortKept.refl _).wr

theorem rd_txTake (s : State) {a : Nat} (ha : a ≠ R.CYC_TXRSP) : s.txTake.rd a = s.rd a := by
  rcases txTake_cases s with e | e
  · rw [e]; rfl
  · rw [e]; exact State.rd_wr_ne _ _ ha

/-- The transmitter with a frame sent and when it ends. -/
def LnkSt.sent (l : LnkSt) (o : List Byte) (fin : LineTime) : LnkSt := { l with lastTx := o, txEnd := fin }

/-- The waiting frame is transmitted with its stamp (R170, R815). -/
theorem txSend_eq {s : State} {f : List Byte} (h : s.txFront = some f) :
    ∃ fin, s.txSend = State.lns { s.txTake with lnk := s.txTake.lnk.sent (stamped f s.lt) fin } R.LNS_TXOK 1 := by
  unfold State.txSend
  rw [h]
  exact ⟨_, rfl⟩

/-- What a transmission leaves: the frame with its stamp, gone from its place, and the port otherwise as a frame leaves it. -/
structure FrameSent (s : State) (f : List Byte) (t : State) : Prop where
  kept : ∃ fin, PortKept { s.taken with lnk := s.taken.lnk.sent (stamped f s.lt) fin } t
  counted : s.bit (rCTRL P.LNS) 1 = false → t.rd R.LNS_TXOK = wd (satAdd 32 (s.rd R.LNS_TXOK).toNat 1)

theorem txSend_sent {s : State} {f : List Byte} (h : s.txFront = some f) : FrameSent s f s.txSend := by
  obtain ⟨fin, e⟩ := txSend_eq h
  rw [e]
  refine ⟨⟨fin, ((portKept_txTake s).withLnk (LnkSt.sent · _ fin)).lns⟩, fun hz => ?_⟩
  have ctrl : s.txTake.bit (rCTRL P.LNS) 1 = false := (congrArg (bitOf · 1) (rd_txTake s (by decide))).trans hz
  have before : s.txTake.rd R.LNS_TXOK = s.rd R.LNS_TXOK := rd_txTake s (by decide)
  have count := rd_lns_self (s := { s.txTake with lnk := s.txTake.lnk.sent (stamped f s.lt) fin }) (a := R.LNS_TXOK) rfl ctrl
  exact count.trans (congrArg (fun w : Word => wd (satAdd 32 w.toNat 1)) before)

namespace FrameSent
variable {s t : State} {f : List Byte} (h : FrameSent s f t)
include h

theorem lastTx : t.lnk.lastTx = stamped f s.lt := by obtain ⟨fin, k⟩ := h.kept; exact k.keep (·.lnk.lastTx)
theorem attempts : t.lnk.attempts = 0 := by obtain ⟨fin, k⟩ := h.kept; exact k.keep (·.lnk.attempts)
theorem opp : t.lnk.opp = s.lnk.opp := by obtain ⟨fin, k⟩ := h.kept; exact k.keep (·.lnk.opp)
theorem oppNo : t.lnk.oppNo = s.lnk.oppNo := by obtain ⟨fin, k⟩ := h.kept; exact k.keep (·.lnk.oppNo)
theorem txbuf (hn : s.cyc.txNow = none) : t.cyc.txbuf = none := by obtain ⟨fin, k⟩ := h.kept; exact (k.keep (·.cyc.txbuf)).trans (taken_txbuf hn)

end FrameSent

/-! ### When the transmitter may begin -/

theorem lineOn_of_awake {s : State} (h : s.awake = true) : s.lineOn = true := by
  simp only [State.awake, Bool.and_eq_true] at h
  simp [State.lineOn, h.1, h.2]

/-- A transmitter that is not silent is not that of a SHADOW, and does not loop back (R171). -/
theorem of_not_txsil {s : State} (h : s.txsil = false) : s.bit (rCTRL P.LNK) 4 = false ∧ s.isShadow = false := by
  simp only [State.txsil, Bool.or_eq_false_iff] at h
  simp [h]

theorem csmaOk_iff (s : State) : s.csmaOk = true ↔ s.portOn = true ∧ s.t1s = true ∧ s.txsil = false ∧ s.testing = false ∧ s.lnk.backoff = false ∧ s.lnk.energy = false ∧
    (s.plcaOn = false ∨ (s.lnk.plcaStat = .searching ∧ bitOf s.lnk.plca 25 = true)) := by
  simp [State.csmaOk, and_assoc]

theorem plcaTx_iff (s : State) : s.plcaTx = true ↔ s.portOn = true ∧ s.plcaActive = true ∧ s.txsil = false ∧ s.testing = false := by
  simp [State.plcaTx, and_assoc]

end Sys2Proof.Machine

namespace Sys2Proof.Machine

/-! ## LineCsma -/

theorem exec_txFrame (dt : LineTime) (s : State) : exec (.txFrame dt) s = s.done (if s.awake then (s.elapse dt).txHand else s) := rfl
theorem exec_collision (bits : Nat) (s : State) : exec (.collision bits) s = s.done (if s.awake then s.collision bits else s) := rfl
theorem exec_backoffEnd (s : State) : exec .backoffEnd s = s.done (if s.awake then s.backoffEnd else s) := rfl
theorem exec_jabberTx (s : State) : exec .jabberTx s = s.done (if s.awake then s.txFault 0 else s) := rfl
theorem exec_driverFault (s : State) : exec .driverFault s = s.done (if s.awake then s.txFault 1 else s) := rfl

/-! ### Transmission -/

/-- A transmitter that may begin sends the waiting frame (R170, R181). -/
theorem txHand_csma {s : State} (h : s.csmaOk = true) : s.txHand = s.txSend := by
  obtain ⟨-, t1s, loud, -⟩ := (csmaOk_iff s).mp h
  obtain ⟨plain, -⟩ := of_not_txsil loud
  rw [State.txHand, if_neg (t1s_not_isinasia t1s), State.txFrame, if_neg (by simp [plain]), if_pos h]

/-- One with a burst open sends a further frame of it (R176). -/
theorem txHand_burst {s : State} (hc : s.csmaOk = false) (ht : s.t1s = true) (hb : s.burstOk = true) (hf : s.txFront.isSome = true) :
    s.txHand = State.txSend { s with lnk := { s.lnk with opp := s.lnk.opp - 1 } } := by
  have tx : s.plcaTx = true := by simp only [State.burstOk, Bool.and_eq_true] at hb; exact hb.1.1
  obtain ⟨-, -, loud, -⟩ := (plcaTx_iff s).mp tx
  obtain ⟨plain, -⟩ := of_not_txsil loud
  rw [State.txHand, if_neg (t1s_not_isinasia ht), State.txFrame, if_neg (by simp [plain]), if_neg (by simp [hc]), if_pos (by simp [hb, hf])]

/-- The clause of a transmission under CSMA/CD. -/
theorem txFrame_csma {s : State} {f : List Byte} (dt : LineTime) (ha : s.awake = true) (hf : s.txFront = some f) (hc : s.csmaOk = true) :
    ∃ u, exec (.txFrame dt) s = .next u ∧ u.lnk.lastTx = stamped f (s.lt + dt) ∧ u.lnk.attempts = 0 ∧ (s.cyc.txNow = none → u.cyc.txbuf = none) ∧
      (s.bit (rCTRL P.LNS) 1 = false → u.rd R.LNS_TXOK = wd (satAdd 32 (s.rd R.LNS_TXOK).toNat 1)) := by
  have sent : FrameSent (s.elapse dt) f (s.elapse dt).txSend := txSend_sent ((elapse_keep s dt State.txFront).trans hf)
  rw [exec_txFrame, if_pos ha, txHand_csma ((elapse_keep s dt State.csmaOk).trans hc)]
  refine done_of fun u e => ⟨?_, (congrArg LnkSt.attempts e.lnk).trans sent.attempts, fun hn => e.cyc_txbuf.trans (sent.txbuf ((elapse_keep s dt (·.cyc.txNow)).trans hn)), fun hz => ?_⟩
  · rw [e.lnk, sent.lastTx, elapse_lt]
  · rw [e.rd (by decide), sent.counted ((elapse_keep s dt (·.bit (rCTRL P.LNS) 1)).trans hz), elapse_keep s dt (·.rd R.LNS_TXOK)]

/-- The clause of a further frame of a burst. -/
theorem txFrame_burst {s : State} {f : List Byte} (dt : LineTime) (ha : s.awake = true) (hf : s.txFront = some f) (hc : s.csmaOk = false) (ht : s.t1s = true)
    (hb : (s.elapse dt).burstOk = true) :
    ∃ u, exec (.txFrame dt) s = .next u ∧ u.lnk.lastTx = stamped f (s.lt + dt) ∧ u.lnk.opp = s.lnk.opp - 1 := by
  have front : (s.elapse dt).txFront = some f := (elapse_keep s dt State.txFront).trans hf
  have sent : FrameSent { s.elapse dt with lnk := { (s.elapse dt).lnk with opp := (s.elapse dt).lnk.opp - 1 } } f _ := txSend_sent front
  rw [exec_txFrame, if_pos ha, txHand_burst ((elapse_keep s dt State.csmaOk).trans hc) ((elapse_keep s dt State.t1s).trans ht) hb (by rw [front]; rfl)]
  refine done_of fun u e => ⟨?_, ?_⟩
  · rw [e.lnk, sent.lastTx]
    exact congrArg (stamped f) (elapse_lt s dt)
  · rw [e.lnk, sent.opp]
    exact congrArg (· - 1) (elapse_keep s dt (·.lnk.opp))

/-! ### Collisions (R181, R182) -/

/-- The count of a drop and its event leave the port as the frame left it. -/
theorem dropped_clause {s x t : State} {a n : Nat} (k : PortKept x.taken t) (ha : lineNote a = true) (hn : n < 32) :
    ∃ u, s.done ((t.lns a 1).raise P.LNK n) = .next u ∧ u.bit (rEVT P.LNK) n = true ∧ u.lnk.attempts = 0 ∧ u.lnk.backoff = false := by
  have kept : PortKept x.taken ((t.lns a 1).raise P.LNK n) := (k.lns ha).raise
  exact done_of fun u e => ⟨e.evt (bit_raise _ _ _ hn), (congrArg LnkSt.attempts e.lnk).trans (kept.keep (·.lnk.attempts)), (congrArg LnkSt.backoff e.lnk).trans (kept.keep (·.lnk.backoff))⟩

/-- A frame that is kept is the one to transmit next, one attempt on and behind a back-off drawn from the noise source. -/
def State.retried (s : State) (f : Option (List Byte)) : State :=
  { s.draw.1 with
    lnk := { s.draw.1.lnk with attempts := s.draw.1.lnk.attempts + 1, backoff := true }
    cyc := { s.draw.1.cyc with txNow := f, txbuf := if s.draw.1.cyc.txNow.isSome then s.draw.1.cyc.txbuf else none } }

/-- A collision in the first 512 bit times has the frame retried, up to the sixteenth attempt. -/
theorem collision_retries {s : State} {bits : Nat} (hc : (s.csmaOk && s.txFront.isSome) = true) (hb : bits ≤ 512) (hn : s.lnk.attempts < 15) :
    ∃ t : State, PortKept s t ∧ s.collision bits = t.retried s.txFront := by
  have k : PortKept s (s.lns R.LNS_TXCOLL 1) := (PortKept.refl s).lns
  have early : ¬ (s.lns R.LNS_TXCOLL 1).lnk.attempts + 1 ≥ 16 := by rw [k.keep (·.lnk.attempts)]; omega
  refine ⟨if (s.lns R.LNS_TXCOLL 1).cyc.txNow.isSome then s.lns R.LNS_TXCOLL 1 else (s.lns R.LNS_TXCOLL 1).inc R.CYC_TXRSP, .ite k k.wr, ?_⟩
  rw [← k.keep State.txFront]
  exact (if_pos hc).trans ((if_neg (by omega)).trans (if_neg early))

/-- The clauses of a collision. -/
theorem collision_clauses {s : State} {f : List Byte} (bits : Nat) (ha : s.awake = true) (hf : s.txFront = some f) (hc : s.csmaOk = true) :
    (512 < bits → ∃ u, exec (.collision bits) s = .next u ∧ u.bit (rEVT P.LNK) 7 = true ∧ u.lnk.attempts = 0 ∧ u.lnk.backoff = false) ∧
    (bits ≤ 512 → 15 ≤ s.lnk.attempts → ∃ u, exec (.collision bits) s = .next u ∧ u.bit (rEVT P.LNK) 6 = true ∧ u.lnk.attempts = 0 ∧ u.lnk.backoff = false) ∧
    (bits ≤ 512 → s.lnk.attempts < 15 →
      ∃ u, exec (.collision bits) s = .next u ∧ u.txFront = some f ∧ u.lnk.attempts = s.lnk.attempts + 1 ∧ u.lnk.backoff = true) := by
  have waits : s.txFront.isSome = true := by rw [hf]; rfl
  have taken : (s.csmaOk && s.txFront.isSome) = true := by simp [hc, waits]
  rw [exec_collision, if_pos ha]
  refine ⟨fun h => ?_, fun h hn => ?_, fun h hn => ?_⟩
  · have late : s.collision bits = (s.txTake.lns R.LNS_TXLATE 1).raise P.LNK 7 := (if_pos taken).trans (if_pos h)
    rw [late]
    exact dropped_clause (portKept_txTake s) (by decide) (by decide)
  · have k : PortKept s (s.lns R.LNS_TXCOLL 1) := (PortKept.refl s).lns
    have last : (s.lns R.LNS_TXCOLL 1).lnk.attempts + 1 ≥ 16 := by rw [k.keep (·.lnk.attempts)]; omega
    have excess : s.collision bits = ((s.lns R.LNS_TXCOLL 1).txTake.lns R.LNS_TXEXC 1).raise P.LNK 6 := (if_pos taken).trans ((if_neg (by omega)).trans (if_pos last))
    rw [excess]
    exact dropped_clause (portKept_txTake _) (by decide) (by decide)
  · obtain ⟨t, k, e⟩ := collision_retries taken h hn
    rw [e]
    refine done_of fun u e => ⟨?_, ?_, congrArg LnkSt.backoff e.lnk⟩
    · have now : u.cyc.txNow = some f := e.cyc_txNow.trans hf
      rw [State.txFront, now]
      rfl
    · rw [e.lnk]
      exact congrArg (· + 1) (k.keep (·.lnk.attempts))

/-! ### Faults of the transmitter (R183, R184, R186) -/

theorem silent_of_quiet {s t : State} (q : t.quiet = s.quiet) : t.lnk.silent = s.lnk.silent := by
  have e := congrArg (fun q : State => q.lnk.silent) q
  exact e

theorem silent_of_calms {s t : State} (k : Calms s t) : t.lnk.silent = s.lnk.silent := by
  have e := congrArg (fun q : State => q.lnk.silent) k.calm
  exact e

/-- Where both branches leave the transmitter as it stood, the choice does. -/
theorem silent_ite {s t u : State} {c : Prop} [Decidable c] (h : t.lnk.silent = s.lnk.silent) (k : u.lnk.silent = s.lnk.silent) :
    (if c then t else u).lnk.silent = s.lnk.silent := by
  split_ifs <;> assumption

/-- A verdict ends the silence of an ECAN test alone (R722). -/
theorem silent_verdict (s : State) (j : Job) (res spare : Nat) : (s.verdict j res spare).lnk.silent = s.lnk.silent := by
  unfold State.verdict
  extract_lets b lasting d0 s1 s2 s3 s4 s5 _ s6
  have noted : (s.noteLast j d0).lnk.silent = s.lnk.silent := silent_of_calms (calms_noteLast s j d0)
  have h1 : s1.lnk.silent = s.lnk.silent := noted
  have h2 : s2.lnk.silent = s.lnk.silent := silent_ite ((silent_of_calms (calms_noteNoTest s1)).trans h1) h1
  have h3 : s3.lnk.silent = s.lnk.silent := silent_ite ((silent_of_calms (calms_noteRepair s2 _ _)).trans h2) h2
  have h4 : s4.lnk.silent = s.lnk.silent := (silent_of_calms (calms_logPush s3 _ _ _ _)).trans h3
  have h5 : s5.lnk.silent = s.lnk.silent := silent_ite ((silent_of_calms (calms_noteLasting s4)).trans h4) h4
  have h6 : s6.lnk.silent = s.lnk.silent := silent_ite h5 h5
  exact silent_ite h6 h6

/-- A report to self-test leaves the transmitter as it stood. -/
theorem silent_detect (s : State) (src page : Nat) (unit : Word) : (s.detect src page unit).lnk.silent = s.lnk.silent := by
  unfold State.detect
  extract_lets test j s1 s2 s3
  have h2 : s2.lnk.silent = s.lnk.silent := (silent_of_calms (calms_logPush s1 _ _ _ _)).trans (silent_of_quiet (quiet_raise s _ _))
  have h3 : s3.lnk.silent = s.lnk.silent := h2
  have lane (l : Nat) (x : Lane) : (s3.setLane l x).lnk.silent = s.lnk.silent := silent_ite h3 (silent_ite h3 h3)
  have judged (k : Job) : (s3.verdict k 3 0).lnk.silent = s.lnk.silent := (silent_verdict s3 k 3 0).trans h3
  exact silent_ite (judged _) (silent_ite h3 (silent_ite (silent_ite h3 h3) (silent_ite (lane _ _) (silent_ite (lane _ _) (judged _)))))

/-- A report raises SLF's event of a detected error and clears no bit (R713). -/
theorem steady_detect (s : State) (src page : Nat) (unit : Word) : Steady noNode (s.raise P.SLF 0) (s.detect src page unit) := by
  unfold State.detect
  extract_lets test j s1 s2 s3
  have counted : Steady noNode (s.raise P.SLF 0) s3 := .incBucket (.logPush (.inc (.refl _))) (testOf_le src)
  exact .ite counted.verdict (.ite (counted.trans .of_regs) (.ite (.ite (counted.trans .of_regs) counted) (.ite counted.setLane (.ite counted.setLane counted.verdict))))

/-- The transmitter silenced, with a bit of LNK.FLT. -/
def State.silenced (s : State) (n : Nat) : State := ({ s with lnk := { s.lnk with silent := true } } : State).setFlt P.LNK n

theorem silent_silenced (s : State) (n : Nat) : (s.silenced n).lnk.silent = true := silent_of_quiet (quiet_setFlt _ _ _)
theorem flt_silenced (s : State) {n : Nat} (hn : n < 32) : (s.silenced n).bit (rFLT P.LNK) n = true := bit_setFlt _ _ hn

/-- A fault of the transmitter: it is silent, its bit stands, and self-test has the report. -/
theorem txFault_clause {s : State} {n : Nat} (hp : s.portOn = true) (hs : s.txsil = false) (hn : n < 32) :
    ∃ u, s.done (s.txFault n) = .next u ∧ u.lnk.silent = true ∧ u.bit (rFLT P.LNK) n = true ∧ u.bit (rEVT P.SLF) 0 = true ∧ (n = 0 → u.bit (rEVT P.LNK) 2 = true) := by
  unfold State.txFault
  rw [if_pos (by simp [hp, hs])]
  extract_lets s1 s2 s3
  have k2 : PortKept (s1.silenced n) s2 := PortKept.linkEv (.refl _)
  have k3 : PortKept (s1.silenced n) s3 := k2.raiseIf
  have kept : PortKept (s1.silenced n) (s3.lns R.LNS_TXJAB 1) := k3.lns
  have told := steady_detect (s3.lns R.LNS_TXJAB 1) 0xA P.LNK (wd n)
  have rest : Steady noNode (s3.lns R.LNS_TXJAB 1) ((s3.lns R.LNS_TXJAB 1).detect 0xA P.LNK (wd n)) := (Steady.refl _).detect
  refine done_of fun u e => ⟨?_, e.flt (rest.flt _ _ (kept.flt (flt_silenced s1 hn))), e.evt (told.evt _ _ (bit_raise _ _ _ (by decide))), fun h0 => ?_⟩
  · rw [e.lnk, silent_detect, kept.keep (·.lnk.silent), silent_silenced]
  · have jab : s3.bit (rEVT P.LNK) 2 = true := bit_raiseIf s2 P.LNK (by simp [h0]) (by decide)
    have counted : PortKept s3 (s3.lns R.LNS_TXJAB 1) := (PortKept.refl s3).lns
    exact e.evt (rest.evt _ _ (counted.evt jab))

/-- Settles O27: a frame by what its sending leaves, a collision by how late it comes and how many went before, a fault by its latch and its report. -/
theorem lineCsma : Obligations.LineCsma := by
  unfold Obligations.LineCsma
  intro s ha
  refine ⟨fun f dt hf hc => txFrame_csma dt ha hf hc, fun f dt hf hc ht hb => txFrame_burst dt ha hf hc ht hb, fun f bits hf hc => collision_clauses bits ha hf hc, ?_, ?_⟩
  · rw [exec_backoffEnd, if_pos ha]
    exact done_of fun u e => ⟨e, congrArg LnkSt.backoff e.lnk⟩
  · have on : s.portOn = true := lineOn_of_awake ha
    intro e he hs
    simp only [List.mem_cons, List.not_mem_nil, or_false] at he
    rcases he with rfl | rfl
    · rw [exec_jabberTx, if_pos ha]
      exact txFault_clause on hs (by decide)
    · rw [exec_driverFault, if_pos ha]
      exact txFault_clause on hs (by decide)

end Sys2Proof.Machine

namespace Sys2Proof.Machine

/-! ## LinePlca -/

theorem exec_beaconRx (dt : LineTime) (s : State) : exec (.beaconRx dt) s = s.done (if s.lineOn then (s.elapse dt).beaconRx else s) := rfl
theorem exec_plcaLoss (s : State) : exec .plcaLoss s = s.done (if s.lineOn then s.plcaLoss else s) := rfl
theorem exec_beaconTx (dt : LineTime) (s : State) : exec (.beaconTx dt) s = s.done (if s.awake then (s.elapse dt).beaconTx else s) := rfl
theorem exec_plcaTxOpportunity (dt : LineTime) (s : State) : exec (.plcaTxOpportunity dt) s = s.done (if s.lineOn then (s.elapse dt).plcaOpp else s) := rfl
theorem exec_idClash (s : State) : exec .idClash s = s.done (if s.awake then s.idClash else s) := rfl

/-! ### The BEACON and its loss (R174, R175) -/

/-- The port's state as a PLCA cycle begins. -/
def LnkSt.cycled (l : LnkSt) (t : LineTime) : LnkSt := { l with opp := 0, oppNo := 0, bcnAt := t, clash := if l.clashed then l.clash else 0, clashed := false }

/-- The port's state as a BEACON leaves it: the link is up and a PLCA cycle begins. -/
def LnkSt.beaconed (l : LnkSt) (t : LineTime) : LnkSt := { l with link := .up, opp := 0, oppNo := 0, bcnAt := t, clash := if l.clashed then l.clash else 0, clashed := false }

/-- The port as a BEACON leaves it. -/
def State.beaconed (s : State) : State := { s with lnk := s.lnk.beaconed s.lt }

theorem portKept_beaconed (s : State) : PortKept s.beaconed ((s.lns R.LNS_BCNRX 1).setLink .up).plcaCycle := by
  have up : PortKept { s with lnk := { s.lnk with link := .up } } ((s.lns R.LNS_BCNRX 1).setLink .up) :=
    ((PortKept.refl s).lns.withLnk fun l => { l with link := .up }).trans (.setLink _ _)
  have time : ((s.lns R.LNS_BCNRX 1).setLink .up).plcaCycle = { (s.lns R.LNS_BCNRX 1).setLink .up with lnk := ((s.lns R.LNS_BCNRX 1).setLink .up).lnk.cycled s.lt } :=
    congrArg (fun t => { (s.lns R.LNS_BCNRX 1).setLink .up with lnk := ((s.lns R.LNS_BCNRX 1).setLink .up).lnk.cycled t }) (up.keep (·.lt))
  rw [time]
  exact up.withLnk (LnkSt.cycled · s.lt)

/-- A searching node, not the coordinator, becomes follower at a BEACON (R174). -/
def State.joins (s : State) : Bool := s.plcaOn && s.lnk.plcaStat == .searching && !s.coordinator

theorem beaconRx_eq {s : State} (h : s.rxOn = true) :
    ∃ t, PortKept s.beaconed t ∧ s.beaconRx = if s.joins then State.raise { t with lnk := { t.lnk with plcaStat := .follower } } P.LNK 4 else t := by
  have k := portKept_beaconed s
  refine ⟨_, k, (if_pos h).trans ?_⟩
  have joins : s.joins = ((s.lns R.LNS_BCNRX 1).setLink .up).plcaCycle.joins := (k.keep State.joins).symm
  rw [joins]
  rfl

/-- What a received BEACON leaves of the port. -/
theorem beaconRx_leaves {α : Type} {s : State} (h : s.rxOn = true) (f : State → α) (hf : ∀ s : State, f s.ported = f s := by exact fun _ => rfl)
    (hp : ∀ (s : State) (p : PlcaState), f { s with lnk := { s.lnk with plcaStat := p } } = f s := by exact fun _ _ => rfl) : f s.beaconRx = f s.beaconed := by
  obtain ⟨t, k, e⟩ := beaconRx_eq h
  rw [e]
  split_ifs
  · exact (((PortKept.refl _).raise.keep f hf).trans (hp t _)).trans (k.keep f hf)
  · exact k.keep f hf

/-- The clauses of a BEACON that is received. -/
theorem beaconRx_clauses {s : State} (hon : s.lineOn = true) (hrx : s.rxOn = true) (dt : LineTime) :
    (∃ u, exec (.beaconRx dt) s = .next u ∧ u.lt = s.lt + dt ∧ u.lnk.link = .up ∧ u.lnk.opp = 0 ∧ u.lnk.oppNo = 0 ∧ u.lnk.bcnAt = s.lt + dt) ∧
    (s.plcaOn = true → s.lnk.plcaStat = .searching → s.coordinator = false →
      ∃ u, exec (.beaconRx dt) s = .next u ∧ u.lnk.plcaStat = .follower ∧ u.bit (rEVT P.LNK) 4 = true) := by
  have rx : (s.elapse dt).rxOn = true := (elapse_keep s dt State.rxOn).trans hrx
  rw [exec_beaconRx, if_pos hon]
  refine ⟨done_of fun u e => ?_, fun hp hs hc => ?_⟩
  · have lnk := e.lnk
    exact ⟨(e.lt.trans (beaconRx_leaves rx (·.lt))).trans (elapse_lt s dt), (congrArg LnkSt.link lnk).trans (beaconRx_leaves rx (·.lnk.link)),
      (congrArg LnkSt.opp lnk).trans (beaconRx_leaves rx (·.lnk.opp)), (congrArg LnkSt.oppNo lnk).trans (beaconRx_leaves rx (·.lnk.oppNo)),
      ((congrArg LnkSt.bcnAt lnk).trans (beaconRx_leaves rx (·.lnk.bcnAt))).trans (elapse_lt s dt)⟩
  · obtain ⟨t, -, e⟩ := beaconRx_eq rx
    have joins : (s.elapse dt).joins = true := (elapse_keep s dt State.joins).trans (by simp [State.joins, hp, hs, hc])
    rw [e, if_pos joins]
    exact done_of fun u e => ⟨(congrArg LnkSt.plcaStat e.lnk).trans ((PortKept.refl _).raise.keep (·.lnk.plcaStat)), e.evt (bit_raise _ _ _ (by decide))⟩

/-- The clauses of the loss of BEACON. -/
theorem plcaLoss_clauses {s : State} (hon : s.lineOn = true) :
    (s.lnk.plcaStat = .follower → ∃ u, exec .plcaLoss s = .next u ∧ u.lnk.plcaStat = .searching ∧ u.lnk.opp = 0 ∧ u.bit (rEVT P.LNK) 5 = true) ∧
    (s.lnk.plcaStat ≠ .follower → ∃ u, exec .plcaLoss s = .next u ∧ Ended s s u) := by
  rw [exec_plcaLoss, if_pos hon]
  refine ⟨fun h => ?_, fun h => ?_⟩
  · have k : PortKept { s with lnk := { s.lnk with plcaStat := .searching, opp := 0, clash := 0, clashed := false } } s.plcaLoss := by
      rw [State.plcaLoss, if_pos (by simp [h])]
      exact (PortKept.refl _).lns.raise
    refine done_of fun u e => ⟨(congrArg LnkSt.plcaStat e.lnk).trans (k.keep (·.lnk.plcaStat)), (congrArg LnkSt.opp e.lnk).trans (k.keep (·.lnk.opp)), e.evt ?_⟩
    rw [State.plcaLoss, if_pos (by simp [h])]
    exact bit_raise _ _ _ (by decide)
  · rw [State.plcaLoss, if_neg (by simp [h])]
    exact done_of fun u e => e

/-- The clause of the coordinator's BEACON (R175). -/
theorem beaconTx_clause {s : State} (ha : s.awake = true) (dt : LineTime) (hc : s.coordinator = true) (hs : s.txsil = false) (ht : s.testing = false)
    (hd : (s.elapse dt).cycleDue = true) :
    ∃ u, exec (.beaconTx dt) s = .next u ∧ u.lnk.plcaStat = .coordinator ∧ u.lnk.coordHalt = false ∧ u.lnk.oppNo = 0 ∧ u.lnk.bcnAt = s.lt + dt ∧
      (s.lnk.plcaStat ≠ .coordinator → u.bit (rEVT P.LNK) 4 = true) := by
  have may : ((s.elapse dt).portOn && (s.elapse dt).coordinator && !(s.elapse dt).txsil && !(s.elapse dt).testing && (s.elapse dt).cycleDue) = true := by
    have on : s.portOn = true := lineOn_of_awake ha
    rw [elapse_keep s dt State.portOn, elapse_keep s dt State.coordinator, elapse_keep s dt State.txsil, elapse_keep s dt State.testing]
    simp [on, hc, hs, ht, hd]
  have k : PortKept (State.plcaCycle { s.elapse dt with lnk := { (s.elapse dt).lnk with plcaStat := .coordinator, coordHalt := false } }) (s.elapse dt).beaconTx := by
    rw [State.beaconTx, if_pos may]
    exact (PortKept.refl _).raiseIf
  rw [exec_beaconTx, if_pos ha]
  refine done_of fun u e => ⟨(congrArg LnkSt.plcaStat e.lnk).trans (k.keep (·.lnk.plcaStat)), (congrArg LnkSt.coordHalt e.lnk).trans (k.keep (·.lnk.coordHalt)),
    (congrArg LnkSt.oppNo e.lnk).trans (k.keep (·.lnk.oppNo)), ((congrArg LnkSt.bcnAt e.lnk).trans (k.keep (·.lnk.bcnAt))).trans (elapse_lt s dt), fun hn => e.evt ?_⟩
  rw [State.beaconTx, if_pos may]
  exact bit_raiseIf _ _ (by rw [elapse_keep s dt (·.lnk.plcaStat)]; simp [hn]) (by decide)

/-! ### The own opportunity (R176, R180) -/

/-- The own opportunity begins: the count of the cycle passes the node's ID, and `burst` further frames may follow. -/
def State.opened (s : State) (burst : Nat) : State := { s with lnk := { s.lnk with oppNo := s.plcaId + 1, opp := burst } }

theorem plcaOpp_eq {s : State} (hp : s.portOn = true) (ha : s.plcaActive = true) (hd : s.ownDue = true) :
    s.plcaOpp = if s.isShadow then s.opened 0
      else if s.txFront.isSome && s.plcaTx then ((s.opened (fld s.lnk.burst 0 4)).lns R.LNS_TXOPP 1).txSend
      else (s.opened 0).lns R.LNS_TXYIELD 1 := if_neg (by simp [hp, ha, hd])

/-- With a frame the node transmits it (R176). -/
theorem plcaOpp_transmits {s : State} {f : List Byte} (hf : s.txFront = some f) (ht : s.plcaTx = true) (hd : s.ownDue = true) :
    ∃ t, PortKept (s.opened (fld s.lnk.burst 0 4)) t ∧ FrameSent t f s.plcaOpp := by
  obtain ⟨on, active, loud, -⟩ := (plcaTx_iff s).mp ht
  obtain ⟨-, lead⟩ := of_not_txsil loud
  have k : PortKept (s.opened (fld s.lnk.burst 0 4)) ((s.opened (fld s.lnk.burst 0 4)).lns R.LNS_TXOPP 1) := (PortKept.refl _).lns
  refine ⟨_, k, ?_⟩
  rw [plcaOpp_eq on active hd, if_neg (by simp [lead]), if_pos (by simp [hf, ht])]
  exact txSend_sent ((k.keep State.txFront).trans hf)

/-- Without one, or where it may not transmit, it yields; a SHADOW only counts (R106, R180). -/
theorem plcaOpp_yields {s : State} (h : s.txFront = none ∨ s.plcaTx = false) (hp : s.portOn = true) (ha : s.plcaActive = true) (hd : s.ownDue = true) :
    PortKept (s.opened 0) s.plcaOpp := by
  have waits : ¬ (s.txFront.isSome && s.plcaTx) = true := by rcases h with h | h <;> simp [h]
  rw [plcaOpp_eq hp ha hd, if_neg waits]
  exact .ite (.refl _) (PortKept.refl _).lns

/-- The clauses of the own opportunity. -/
theorem plcaOpp_clauses {s : State} (haw : s.awake = true) (dt : LineTime) (ha : s.plcaActive = true) (hd : (s.elapse dt).ownDue = true) :
    (∀ f, s.txFront = some f → s.plcaTx = true → ∃ u, exec (.plcaTxOpportunity dt) s = .next u ∧ u.lnk.lastTx = stamped f (s.lt + dt) ∧
      u.lnk.opp = fld s.lnk.burst 0 4 ∧ u.lnk.oppNo = s.plcaId + 1 ∧ (s.cyc.txNow = none → u.cyc.txbuf = none)) ∧
    (s.txFront = none ∨ s.plcaTx = false → ∃ u, exec (.plcaTxOpportunity dt) s = .next u ∧ u.lnk.lastTx = s.lnk.lastTx ∧ u.lnk.opp = 0 ∧ u.lnk.oppNo = s.plcaId + 1 ∧
      u.cyc.txbuf = s.cyc.txbuf) := by
  have lt : (s.elapse dt).lt = s.lt + dt := elapse_lt s dt
  have on : (s.elapse dt).portOn = true := (elapse_keep s dt State.portOn).trans (lineOn_of_awake haw)
  have active : (s.elapse dt).plcaActive = true := (elapse_keep s dt State.plcaActive).trans ha
  have front : (s.elapse dt).txFront = s.txFront := elapse_keep s dt State.txFront
  have tx : (s.elapse dt).plcaTx = s.plcaTx := elapse_keep s dt State.plcaTx
  have lnk : (s.elapse dt).lnk = s.lnk := elapse_keep s dt State.lnk
  have cyc : (s.elapse dt).cyc = s.cyc := elapse_keep s dt State.cyc
  have id : (s.elapse dt).plcaId = s.plcaId := elapse_keep s dt State.plcaId
  rw [exec_plcaTxOpportunity, if_pos (lineOn_of_awake haw), ← lt, ← front, ← tx, ← lnk, ← cyc, ← id]
  generalize s.elapse dt = v at hd on active
  refine ⟨fun f hf ht => ?_, fun h => ?_⟩
  · obtain ⟨t, k, sent⟩ := plcaOpp_transmits hf ht hd
    refine done_of fun u e => ⟨?_, ((congrArg LnkSt.opp e.lnk).trans sent.opp).trans (k.keep (·.lnk.opp)), ((congrArg LnkSt.oppNo e.lnk).trans sent.oppNo).trans (k.keep (·.lnk.oppNo)),
      fun hn => e.cyc_txbuf.trans (sent.txbuf ((k.keep (·.cyc.txNow)).trans hn))⟩
    rw [e.lnk, sent.lastTx]
    exact congrArg (stamped f) (k.keep (·.lt))
  · have k := plcaOpp_yields h on active hd
    exact done_of fun u e => ⟨(congrArg LnkSt.lastTx e.lnk).trans (k.keep (·.lnk.lastTx)), (congrArg LnkSt.opp e.lnk).trans (k.keep (·.lnk.opp)),
      (congrArg LnkSt.oppNo e.lnk).trans (k.keep (·.lnk.oppNo)), e.cyc_txbuf.trans (k.keep (·.cyc.txbuf))⟩

/-! ### A collision in the own opportunity (R179) -/

theorem spine_taken (s : State) : s.taken.spine = s.spine := by
  unfold State.taken
  split_ifs <;> rfl

theorem ported_taken (s : State) : s.ported.taken.ported = s.taken.ported := by
  have same : s.ported.cyc.txNow = s.cyc.txNow := rfl
  unfold State.taken
  rw [same]
  split_ifs <;> rfl

/-- What a frame that is kept by counts and notes is, once it has left its place. -/
theorem PortKept.taken {s t : State} (h : PortKept s t) : PortKept s.taken t.taken where
  steady := ⟨by rw [spine_taken, spine_taken, h.steady.spine], h.steady.node, h.steady.rd, h.steady.evt, h.steady.flt, h.steady.rel⟩
  ported := by
    rw [← ported_taken, h.ported, ported_taken]
  rd := h.rd

/-- The PLCA cycles with a collision that run, the present one among them. -/
def State.clashes (s : State) : Nat := if s.lnk.clashed then s.lnk.clash else s.lnk.clash + 1

/-- The port's state after a collision in its opportunity, the `k`th cycle running with one. -/
def LnkSt.collided (l : LnkSt) (k no : Nat) : LnkSt := { l with clash := k % 3, clashed := true, opp := 0, oppNo := no }

/-- The port after a collision in its opportunity: the frame is gone and the opportunity over. -/
def State.collided (s : State) : State := { s.taken with lnk := s.taken.lnk.collided s.clashes (s.plcaId + 1) }

/-- A collision is counted and told; the third cycle running with one silences the transmitter. -/
theorem idClash_eq {s : State} (h : (s.plcaTx && s.txFront.isSome && (decide (s.lnk.opp > 0) || decide (s.lnk.oppNo ≤ s.plcaId))) = true) :
    ∃ t, PortKept s.collided t ∧ t.bit (rEVT P.LNK) 10 = true ∧ s.idClash = if s.clashes ≥ 3 then t.linkEv fun s => s.silenced 2 else t := by
  have opened : PortKept s (if s.lnk.opp = 0 then s.lns R.LNS_TXOPP 1 else s) := .ite (PortKept.refl s).lns (.refl s)
  have gone : PortKept s.taken (((if s.lnk.opp = 0 then s.lns R.LNS_TXOPP 1 else s).txTake.lns R.LNS_TXCOLL 1).raise P.LNK 10) :=
    (opened.taken.trans (portKept_txTake _)).lns.raise
  rw [State.idClash, if_pos h]
  extract_lets s1 s2 k _ s3
  have run : k = s.clashes := gone.keep State.clashes
  have no : s2.plcaId = s.plcaId := gone.keep State.plcaId
  have e3 : s3 = { s2 with lnk := s2.lnk.collided s.clashes (s.plcaId + 1) } := by rw [← run, ← no]; rfl
  refine ⟨s3, ?_, bit_raise _ P.LNK 10 (by decide), by rw [← run]; rfl⟩
  rw [e3]
  exact gone.withLnk (LnkSt.collided · s.clashes (s.plcaId + 1))

/-- The silencing of the transmitter clears no event bit. -/
theorem steady_silenced (s : State) (n : Nat) : Steady noNode s (s.silenced n) := .setFlt ((Steady.refl s).withLnk _ _)

/-- Of the fields that do not look at counts and registers, the silencing changes its own alone. -/
theorem silenced_keep {α : Type} (s : State) (n : Nat) (f : State → α) (hf : ∀ s : State, f s.ported = f s := by exact fun _ => rfl) :
    f (s.silenced n) = f { s with lnk := { s.lnk with silent := true } } := by
  have q : (s.silenced n).quiet = ({ s with lnk := { s.lnk with silent := true } } : State).quiet := quiet_setFlt _ _ _
  have e := congrArg (fun q : State => f { q with lnk := q.lnk.port }) q
  exact ((hf _).symm.trans e).trans (hf _)

/-- The clause of a collision in the own opportunity. -/
theorem idClash_clause {s : State} (haw : s.awake = true) (ht : s.plcaTx = true) (hf : s.txFront.isSome = true) (ho : 0 < s.lnk.opp ∨ s.lnk.oppNo ≤ s.plcaId) :
    ∃ u, exec .idClash s = .next u ∧ u.lnk.clash = s.clashes % 3 ∧ u.lnk.opp = 0 ∧ (s.cyc.txNow = none → u.cyc.txbuf = none) ∧ u.bit (rEVT P.LNK) 10 = true ∧
      (3 ≤ s.clashes → u.lnk.silent = true ∧ u.bit (rFLT P.LNK) 2 = true) := by
  obtain ⟨t, k, told, e⟩ := idClash_eq (s := s) (by simp [ht, hf, ho])
  rw [exec_idClash, if_pos haw, e]
  by_cases h3 : s.clashes ≥ 3
  · have still : PortKept (t.silenced 2) (t.linkEv fun s => s.silenced 2) := .linkEv (.refl _)
    rw [if_pos h3]
    refine done_of fun u e => ⟨?_, ?_, fun hn => ?_, e.evt (still.evt ((steady_silenced t 2).evt _ _ told)), fun _ => ⟨?_, e.flt (still.flt (flt_silenced t (by decide)))⟩⟩
    · rw [e.lnk, still.keep (·.lnk.clash), silenced_keep t 2 (·.lnk.clash)]
      exact k.keep (·.lnk.clash)
    · rw [e.lnk, still.keep (·.lnk.opp), silenced_keep t 2 (·.lnk.opp)]
      exact k.keep (·.lnk.opp)
    · rw [e.cyc_txbuf, still.keep (·.cyc.txbuf), silenced_keep t 2 (·.cyc.txbuf)]
      exact (k.keep (·.cyc.txbuf)).trans (taken_txbuf hn)
    · rw [e.lnk, still.keep (·.lnk.silent), silent_silenced]
  · rw [if_neg h3]
    exact done_of fun u e => ⟨(congrArg LnkSt.clash e.lnk).trans (k.keep (·.lnk.clash)), (congrArg LnkSt.opp e.lnk).trans (k.keep (·.lnk.opp)),
      fun hn => (e.cyc_txbuf.trans (k.keep (·.cyc.txbuf))).trans (taken_txbuf hn), e.evt told, fun h => absurd h h3⟩

/-- Settles O26: what a BEACON, an opportunity and a collision make of the port's state, and the counts and events that leave it. -/
theorem linePlca : Obligations.LinePlca := by
  unfold Obligations.LinePlca
  intro s ha
  have on : s.lineOn = true := lineOn_of_awake ha
  exact ⟨fun dt hrx => beaconRx_clauses on hrx dt, (plcaLoss_clauses on).1, (plcaLoss_clauses on).2, fun dt => beaconTx_clause ha dt, fun dt => plcaOpp_clauses ha dt, idClash_clause ha⟩

end Sys2Proof.Machine

namespace Sys2Proof.Machine

/-! ## LineCommands -/

theorem exec_cdgPulseTrain (s : State) : exec .cdgPulseTrain s = s.done (if s.lineOn then s.cdgPulses else s) := rfl
theorem exec_cdgDone (peaks : List (Nat × Int)) (s : State) : exec (.cdgDone peaks) s = s.done (if s.lineOn then s.cdgFinish peaks else s) := rfl
theorem exec_disturbed (s : State) : exec .disturbed s = s.done (if s.lineOn then s.cdgStop true else s) := rfl

theorem Landed.isn {s t u : State} (h : Landed s t u) : u.isn = t.isn := by
  have e := congrArg (fun q : State => q.isn) h.near.shape
  exact e

/-! ### A restart of the port (R196, R241) -/

/-- What a restart leaves: the events that stood, the port without attempts and down, Isinasia at its stage 7, the measurement as it was. -/
structure Restarted (s t : State) : Prop where
  steady : Steady noNode s t
  stage : t.isn.stage = 7
  attempts : t.lnk.attempts = 0
  cdg : t.lnk.cdg = s.lnk.cdg
  cdgDone : t.lnk.cdgDone = s.lnk.cdgDone
  cdgRes : t.lnk.cdgRes = s.lnk.cdgRes
  down : s.lnk.amp ≤ 25 * fld (s.rd R.LNK_RXCFG) 0 4 → t.lnk.link = .down

/-- The restart of Isinasia leaves the port's own state. -/
theorem isnReset_lnk (s : State) : s.isnReset.lnk = s.lnk := rfl
theorem steady_isnReset (s : State) : Steady noNode s s.isnReset := by
  have clear : Steady noNode s s.isnClear := .wr (.wr .of_regs)
  exact clear.trans .of_regs

/-- The port restarts down with its written settings; the detector then reports the energy. -/
theorem lnkRestart_eq (s : State) :
    ∃ t : State, s.lnkRestart = t.energyNow ∧ Steady noNode s t ∧ t.lnk.link = .down ∧ t.lnk.attempts = 0 ∧ t.lnk.cdg = s.lnk.cdg ∧ t.lnk.cdgDone = s.lnk.cdgDone ∧
      t.lnk.cdgRes = s.lnk.cdgRes ∧ t.lnk.amp = s.lnk.amp ∧ t.lnk.rxcfg = s.rd R.LNK_RXCFG := by
  have k : PortKept { s with lnk := { s.lnk with link := .down } } (s.setLink .down) := .setLink s .down
  have stopped : Steady noNode s (s.setLink .down) := .trans .of_regs k.steady
  exact ⟨_, rfl, stopped.trans .of_regs, k.keep (·.lnk.link), rfl, k.keep (·.lnk.cdg), k.keep (·.lnk.cdgDone), k.keep (·.lnk.cdgRes), k.keep (·.lnk.amp), k.rd _ (by decide)⟩

theorem restarted_portRestart (s : State) : Restarted s s.portRestart := by
  obtain ⟨t, e, steady, link, attempts, cdg, cdgDone, cdgRes, amp, rxcfg⟩ := lnkRestart_eq s
  have k := portKept_energyNow t
  have lnk : s.portRestart.lnk = t.energyNow.lnk := (isnReset_lnk _).trans (congrArg State.lnk e)
  have sensed : Steady noNode t t.energyNow := .trans .of_regs k.steady
  refine ⟨?_, rfl, ?_, ?_, ?_, ?_, fun h => ?_⟩
  · rw [State.portRestart, e]
    exact (steady.trans sensed).trans (steady_isnReset _)
  · rw [lnk]; exact (k.keep (·.lnk.attempts)).trans attempts
  · rw [lnk]; exact (k.keep (·.lnk.cdg)).trans cdg
  · rw [lnk]; exact (k.keep (·.lnk.cdgDone)).trans cdgDone
  · rw [lnk]; exact (k.keep (·.lnk.cdgRes)).trans cdgRes
  · have quiet : t.lnk.amp ≤ t.edThr := by rw [amp, State.edThr, rxcfg]; exact h
    obtain ⟨-, -, still⟩ := sensed_quiet quiet
    rw [lnk]
    exact ((k.keep (·.lnk.link)).trans still).trans link

/-- The clause of RESTART. -/
theorem restart_clause {s : State} {path : Path} (h : s.Opens path (rCTRL P.LNK)) :
    ∃ u, exec (.restart path) s = .next u ∧ Landed s s.portRestart u ∧ u.isn.stage = 7 ∧ u.lnk.attempts = 0 ∧
      (s.lnk.amp ≤ 25 * fld (s.rd R.LNK_RXCFG) 0 4 → u.lnk.link = .down) := by
  have r := restarted_portRestart s
  refine landed_of (exec_restart h) fun u e => ⟨e, ?_, ?_, fun hq => ?_⟩
  · rw [e.isn, r.stage]
  · rw [e.lnk, r.attempts]
  · rw [e.lnk, r.down hq]

/-! ### The line statistics (R199) -/

/-- Registers set to zero one after another read zero; the others stand. -/
theorem rd_foldl_zero (l : List Nat) (s : State) (a : Nat) : (l.foldl (fun s a => s.wr a 0#32) s).rd a = if a ∈ l then 0#32 else s.rd a := by
  induction l generalizing s with
  | nil => simp
  | cons x xs ih =>
    rw [List.foldl_cons, ih]
    by_cases hx : a = x
    · simp [hx]
    · simp [hx, State.rd_wr_ne]

theorem lnk_foldl_wr (l : List Nat) (v : Word) (s : State) : (l.foldl (fun s a => s.wr a v) s).lnk = s.lnk := by
  induction l generalizing s with
  | nil => rfl
  | cons x xs ih => exact ih _

/-- The clause of CLR. -/
theorem lnsClr_clause {s : State} {path : Path} (h : s.Takes path (rCTRL P.LNS)) :
    ∃ u, exec (.lnsClr path) s = .next u ∧ Landed s s.lnsClear u ∧ u.lnk.held = [] ∧ ∀ a ∈ lnsCounters, u.rd a = 0#32 := by
  have plain : ∀ a ∈ lnsCounters, landTouches a = false := by decide
  refine landed_of (exec_lnsClr h) fun u e => ⟨e, ?_, fun a ha => ?_⟩
  · rw [e.lnk, State.lnsClear, lnk_foldl_wr]
  · rw [e.rd (plain a ha), State.lnsClear, rd_foldl_zero, if_pos ha]

/-- LNS.CTRL as a write of FREEZE makes it. -/
def State.freezeWord (s : State) (on : Bool) : Word := mergeMask (s.rd (rCTRL P.LNS)) (s.modWord (rCTRL P.LNS) (wd (2 * on.toNat)) 2#32) 2#32

theorem freezeWord_bit (s : State) (on : Bool) : bitOf (s.freezeWord on) 1 = on := by
  have e : s.modWord (rCTRL P.LNS) (wd (2 * on.toNat)) 2#32 = (s.readReg (rCTRL P.LNS) &&& ~~~1#32 &&& ~~~2#32) ||| (wd (2 * on.toNat) &&& 2#32) := rfl
  unfold State.freezeWord mergeMask bitOf
  rw [e]
  cases on <;> simp [wd]

/-- A write of FREEZE sets no action bit. -/
theorem freeze_noAction (s : State) (on : Bool) : s.modWord (rCTRL P.LNS) (wd (2 * on.toNat)) 2#32 &&& 1#32 = 0#32 := by
  have own : s.modWord (rCTRL P.LNS) (wd (2 * on.toNat)) 2#32 &&& 1#32 = wd (2 * on.toNat) &&& 2#32 &&& 1#32 := modBits _ _ _ _
  rw [own, BitVec.and_assoc, show 2#32 &&& 1#32 = 0#32 by decide, BitVec.and_zero]

theorem landNow_freeze (s : State) (path : Path) (on : Bool) (d : RegDesc) (hw : wd d.wmask = 2#32) (hm : d.wmask ≠ 0) :
    s.landNow path (rCTRL P.LNS) d (s.modWord (rCTRL P.LNS) (wd (2 * on.toNat)) 2#32) = s.putReg (rCTRL P.LNS) (s.freezeWord on) := by
  have acc (raw : Word) : s.accept path (rCTRL P.LNS) (s.rd (rCTRL P.LNS)) (s.freezeWord on) raw = (s.freezeWord on, none) := rfl
  have win : isWindow (rCTRL P.LNS) = false := by decide
  have ew : mergeMask (s.rd (rCTRL P.LNS)) (s.modWord (rCTRL P.LNS) (wd (2 * on.toNat)) 2#32) 2#32 = s.freezeWord on := rfl
  unfold State.landNow
  simp only [hw, ew, acc, win, hm, Bool.false_eq_true, if_false]

/-- A write of FREEZE lands as the register's own. -/
theorem exec_freeze {s : State} {path : Path} (on : Bool) (h : s.Takes path (rCTRL P.LNS)) :
    ∃ u, exec (.lnsFreeze path on) s = .next u ∧ Landed s (s.putReg (rCTRL P.LNS) (s.freezeWord on)) u := by
  have hd : regDesc (rCTRL P.LNS) = some ⟨4, .rw, 2, 1, 0⟩ := rfl
  have k := landed_bits (b := wd (2 * on.toNat)) (m := 2#32) h hd (fetchReg_plain _ hd (by decide) (.inl rfl))
  have still (t : State) : t.act path (rCTRL P.LNS) 0#32 = t := rfl
  have e : (s.landBlock path (rCTRL P.LNS) ⟨4, .rw, 2, 1, 0⟩ (s.modWord (rCTRL P.LNS) (wd (2 * on.toNat)) 2#32)).1 =
      (s.landNow path (rCTRL P.LNS) ⟨4, .rw, 2, 1, 0⟩ (s.modWord (rCTRL P.LNS) (wd (2 * on.toNat)) 2#32)).act path (rCTRL P.LNS)
        (s.modWord (rCTRL P.LNS) (wd (2 * on.toNat)) 2#32 &&& 1#32) := rfl
  rw [landReg_own (by decide), e, freeze_noAction, still, landNow_freeze _ _ _ _ rfl (by decide)] at k
  exact k

/-- What the write of FREEZE does to the register: its end releases the counts held back. -/
theorem putReg_freeze (s : State) (on : Bool) :
    ∃ t : State, t.bit (rCTRL P.LNS) 1 = on ∧ t.lnk = s.lnk ∧
      s.putReg (rCTRL P.LNS) (s.freezeWord on) = if s.bit (rCTRL P.LNS) 1 && !on then t.lnsRelease else t := by
  have word := freezeWord_bit s on
  refine ⟨if s.freezeWord on = s.rd (rCTRL P.LNS) then s else s.wr (rCTRL P.LNS) (s.freezeWord on), ?_, ?_, ?_⟩
  · split_ifs with h
    · exact (congrArg (bitOf · 1) h).symm.trans word
    · exact (congrArg (bitOf · 1) (State.rd_wr_self ..)).trans word
  · split_ifs <;> rfl
  · have own : s.putReg (rCTRL P.LNS) (s.freezeWord on) = if bitOf (s.rd (rCTRL P.LNS)) 1 && !bitOf (s.freezeWord on) 1
        then (if s.freezeWord on = s.rd (rCTRL P.LNS) then s else s.wr (rCTRL P.LNS) (s.freezeWord on)).lnsRelease
        else if s.freezeWord on = s.rd (rCTRL P.LNS) then s else s.wr (rCTRL P.LNS) (s.freezeWord on) := rfl
    rw [own, word]
    rfl

/-- Nothing is held back once the counts are released. -/
theorem lnsRelease_held (s : State) : s.lnsRelease.lnk.held = [] := by
  have added (l : List (Nat × Nat)) (s : State) : (l.foldl (fun s c => s.lnsAdd c.1 c.2) s).lnk = s.lnk := by
    induction l generalizing s with
    | nil => rfl
    | cons c cs ih =>
      have e := congrArg State.lnk (quiet_raiseIf (s.wr c.1 (wd (satAdd 32 (s.rd c.1).toNat c.2))) (s.rd c.1 != 0xFFFFFFFF#32 && satAdd 32 (s.rd c.1).toNat c.2 == 0xFFFFFFFF) P.LNS 0)
      exact (ih _).trans e
  rw [State.lnsRelease, added]

/-- The clauses of FREEZE. -/
theorem lnsFreeze_clauses {s : State} {path : Path} (h : s.Takes path (rCTRL P.LNS)) :
    (∃ u, exec (.lnsFreeze path true) s = .next u ∧ u.bit (rCTRL P.LNS) 1 = true ∧ u.lnk.held = s.lnk.held) ∧
    (s.lnk.held = [] → ∃ u, exec (.lnsFreeze path false) s = .next u ∧ u.bit (rCTRL P.LNS) 1 = false ∧ u.lnk.held = []) ∧
    (s.bit (rCTRL P.LNS) 1 = true → ∃ u, exec (.lnsFreeze path false) s = .next u ∧ u.lnk.held = []) := by
  obtain ⟨t, on, lnk, e⟩ := putReg_freeze s true
  obtain ⟨v, off, lnkv, ev⟩ := putReg_freeze s false
  refine ⟨?_, fun hn => ?_, fun hb => ?_⟩
  · rw [Bool.not_true, Bool.and_false, if_neg (by decide)] at e
    refine landed_of (exec_freeze true h) fun u k => ?_
    rw [e] at k
    exact ⟨(k.bit (by decide)).trans on, by rw [k.lnk, lnk]⟩
  · have none : v.lnk.held = [] := by rw [lnkv, hn]
    have released : v.lnsRelease = v := by
      rw [State.lnsRelease, none, List.foldl_nil, ← none]
    rw [released, ite_self] at ev
    refine landed_of (exec_freeze false h) fun u k => ?_
    rw [ev] at k
    exact ⟨(k.bit (by decide)).trans off, by rw [k.lnk, none]⟩
  · rw [hb, Bool.not_false, Bool.and_self, if_pos rfl] at ev
    refine landed_of (exec_freeze false h) fun u k => ?_
    rw [k.lnk, ev, lnsRelease_held]

/-! ### A measurement (R201 to R204, R207) -/

/-- The port with a START noted: no result stands. -/
def State.cdgNoted (s : State) : State := State.cdgInvalid { s with lnk := { s.lnk with cdgDone := false, cdgRes := 0 } }

/-- The port as a measurement takes it from the line. -/
def LnkSt.measuring (l : LnkSt) : LnkSt := { l with cdg := .quiet, profact := 0, plcaStat := .off, cdgRefuse := 0, opp := 0, pulses := 0, nego := false }

/-- A START that is taken leaves the link as it stands, but for that of Isinasia, which goes down (R190, R202). -/
theorem cdgStart_taken {s : State} (h : s.cdgRefusal = 0) :
    ∃ t : State, s.cdgStart.lnk = t.lnk.measuring ∧ t.lnk.cdgRes = 0 ∧ t.lnk.link = if s.lnk.profact = 3 then .down else s.lnk.link := by
  refine ⟨if s.cdgNoted.lnk.profact = 3 then s.cdgNoted.isnReset.setLink .down else s.cdgNoted, ?_, ?_⟩
  · exact congrArg State.lnk (if_neg (not_not_intro h))
  · by_cases p3 : s.lnk.profact = 3
    · have k := PortKept.setLink s.cdgNoted.isnReset .down
      rw [if_pos (show s.cdgNoted.lnk.profact = 3 from p3), if_pos p3]
      exact ⟨k.keep (·.lnk.cdgRes), k.keep (·.lnk.link)⟩
    · rw [if_neg (show ¬ s.cdgNoted.lnk.profact = 3 from p3), if_neg p3]
      exact ⟨rfl, rfl⟩

/-- The clauses of START. -/
theorem cdgStart_clauses {s : State} {path : Path} (h : s.Takes path (rCTRL P.CDG)) :
    (s.cdgRefusal = 0 → ∃ u, exec (.cdgStart path) s = .next u ∧ Landed s s.cdgStart u ∧ u.lnk.cdg = .quiet ∧ u.lnk.profact = 0 ∧ u.lnk.plcaStat = .off ∧ u.lnk.cdgRes = 0 ∧
      u.lnk.link = if s.lnk.profact = 3 then .down else s.lnk.link) ∧
    (s.cdgRefusal ≠ 0 → ∃ u, exec (.cdgStart path) s = .next u ∧ Landed s s.cdgStart u ∧ u.lnk.cdg = s.lnk.cdg ∧ u.lnk.cdgRefuse = s.cdgRefusal ∧ u.bit (rEVT P.CDG) 1 = true) := by
  refine ⟨fun h0 => ?_, fun h0 => ?_⟩
  · obtain ⟨t, lnk, res, link⟩ := cdgStart_taken h0
    refine landed_of (exec_cdgStart h) fun u k => ⟨k, ?_⟩
    rw [k.lnk, lnk]
    exact ⟨rfl, rfl, rfl, res, link⟩
  · have e : s.cdgStart = State.raise { s.cdgNoted with lnk := { s.cdgNoted.lnk with cdgRefuse := s.cdgRefusal } } P.CDG 1 := if_pos h0
    have lnk : s.cdgStart.lnk = { s.cdgNoted.lnk with cdgRefuse := s.cdgRefusal } := by
      rw [e]
      exact congrArg State.lnk (quiet_raise _ P.CDG 1)
    refine landed_of (exec_cdgStart h) fun u k => ⟨k, ?_, ?_, k.evt ?_⟩
    · rw [k.lnk, lnk]; rfl
    · rw [k.lnk, lnk]
    · rw [e]; exact bit_raise _ _ _ (by decide)

/-- The port with a measurement ended and its result. -/
def State.cdgEnded (s : State) (res : Nat) : State := { s with lnk := { s.lnk with cdg := .none, cdgDone := true, cdgRes := res } }

/-- A restart after the end of a measurement and what is told of it. -/
theorem restarted_cdgEnded {s t : State} {res : Nat} (q : t.quiet = (s.cdgEnded res).quiet) :
    t.portRestart.lnk.cdg = .none ∧ t.portRestart.lnk.cdgDone = true ∧ t.portRestart.lnk.cdgRes = res := by
  have r := restarted_portRestart t
  have lnk : t.lnk = (s.cdgEnded res).lnk := by
    have e := congrArg State.lnk q
    exact e
  exact ⟨r.cdg.trans (congrArg LnkSt.cdg lnk), r.cdgDone.trans (congrArg LnkSt.cdgDone lnk), r.cdgRes.trans (congrArg LnkSt.cdgRes lnk)⟩

/-- A measurement that is stopped has no result (R203, R204). -/
theorem cdgStop_eq {s : State} (h : s.cdgBusy = true) (ev : Bool) : s.cdgStop ev = ((s.cdgInvalid.cdgEnded 0).raiseIf ev P.CDG 2).portRestart := if_neg (by simp [h])

theorem cdgStop_idle {s : State} (h : s.cdgBusy = false) (ev : Bool) : s.cdgStop ev = s := if_pos (by simp [h])

/-- The clauses of ABORT. -/
theorem cdgAbort_clauses {s : State} {path : Path} (h : s.Takes path (rCTRL P.CDG)) :
    (s.cdgBusy = true → ∃ u, exec (.cdgAbort path) s = .next u ∧ Landed s (s.cdgStop false) u ∧ u.lnk.cdg = .none ∧ u.lnk.cdgDone = true ∧ u.lnk.cdgRes = 0) ∧
    (s.cdgBusy = false → ∃ u, exec (.cdgAbort path) s = .next u ∧ Landed s s u) := by
  refine ⟨fun hb => ?_, fun hb => ?_⟩
  · refine landed_of (exec_cdgAbort h) fun u k => ⟨k, ?_⟩
    rw [k.lnk, cdgStop_eq hb]
    exact restarted_cdgEnded (quiet_raiseIf _ _ _ _)
  · refine landed_of (exec_cdgAbort h) fun u k => ?_
    rwa [cdgStop_idle hb] at k

/-- The clauses of the pulses. -/
theorem cdgPulseTrain_clauses {s : State} (hon : s.lineOn = true) (hq : s.lnk.cdg = .quiet) :
    (s.lnk.energy = false →
      ∃ u, exec .cdgPulseTrain s = .next u ∧ Ended s { s with lnk := { s.lnk with cdg := .pulses, pulses := 2 ^ s.fd R.CDG_CFG 24 4 } } u ∧ u.lnk.cdg = .pulses) ∧
    (s.lnk.energy = true → ∃ u, exec .cdgPulseTrain s = .next u ∧ Ended s s u) := by
  rw [exec_cdgPulseTrain, if_pos hon]
  refine ⟨fun he => ?_, fun he => ?_⟩
  · rw [State.cdgPulses, if_pos (by simp [hq, he])]
    exact done_of fun u e => ⟨e, congrArg LnkSt.cdg e.lnk⟩
  · rw [State.cdgPulses, if_neg (by simp [he])]
    exact done_of fun u e => e

/-- A measurement that is done ends with the class of its first reflection (R202). -/
theorem cdgFinish_eq {s : State} (h : s.lnk.cdg = .pulses) (peaks : List (Nat × Int)) :
    ∃ (t : State) (res : Nat), s.cdgFinish peaks = ((t.cdgEnded res).raise P.CDG 0).portRestart :=
  ⟨_, _, if_neg (by simp [h])⟩

/-- The clause of the end of a measurement. -/
theorem cdgDone_clause {s : State} (hon : s.lineOn = true) (h : s.lnk.cdg = .pulses) (peaks : List (Nat × Int)) :
    ∃ u, exec (.cdgDone peaks) s = .next u ∧ u.lnk.cdg = .none ∧ u.lnk.cdgDone = true ∧ u.bit (rEVT P.CDG) 0 = true := by
  obtain ⟨t, res, e⟩ := cdgFinish_eq h peaks
  obtain ⟨cdg, cdgDone, -⟩ := restarted_cdgEnded (quiet_raise (t.cdgEnded res) P.CDG 0)
  have r := restarted_portRestart ((t.cdgEnded res).raise P.CDG 0)
  rw [exec_cdgDone, if_pos hon, e]
  exact done_of fun u k => ⟨(congrArg LnkSt.cdg k.lnk).trans cdg, (congrArg LnkSt.cdgDone k.lnk).trans cdgDone, k.evt (r.steady.evt _ _ (bit_raise _ _ _ (by decide)))⟩

/-- The clause of foreign energy. -/
theorem disturbed_clause {s : State} (hon : s.lineOn = true) (hb : s.cdgBusy = true) :
    ∃ u, exec .disturbed s = .next u ∧ u.lnk.cdg = .none ∧ u.lnk.cdgDone = true ∧ u.lnk.cdgRes = 0 ∧ u.bit (rEVT P.CDG) 2 = true := by
  obtain ⟨cdg, cdgDone, cdgRes⟩ := restarted_cdgEnded (quiet_raiseIf (s.cdgInvalid.cdgEnded 0) true P.CDG 2)
  have r := restarted_portRestart ((s.cdgInvalid.cdgEnded 0).raiseIf true P.CDG 2)
  rw [exec_disturbed, if_pos hon, cdgStop_eq hb]
  exact done_of fun u k => ⟨(congrArg LnkSt.cdg k.lnk).trans cdg, (congrArg LnkSt.cdgDone k.lnk).trans cdgDone, (congrArg LnkSt.cdgRes k.lnk).trans cdgRes,
    k.evt (r.steady.evt _ _ (bit_raiseIf _ _ rfl (by decide)))⟩

/-- Settles O28: the writes of action bits by what a restart, a clear and a stop leave, FREEZE by its register, the measurement by its steps. -/
theorem lineCommands : Obligations.LineCommands := by
  unfold Obligations.LineCommands
  exact fun s path => ⟨restart_clause, lnsClr_clause, lnsFreeze_clauses, cdgStart_clauses, cdgAbort_clauses, fun hon =>
    ⟨fun hq => (cdgPulseTrain_clauses hon hq).1, fun hq => (cdgPulseTrain_clauses hon hq).2, cdgDone_clause hon, disturbed_clause hon⟩⟩

end Sys2Proof.Machine

namespace Sys2Proof.Machine

/-! ## What the other blocks leave of Isinasia -/

/-- The registers of the pages ISN and ISC, but for the words of events and faults. -/
def isnReg (a : Nat) : Bool := (a / 256 == P.ISN || a / 256 == P.ISC) && a % 256 != 0x0C && a % 256 != 0x18

/-- What an operation of another block keeps: the state of Isinasia, its registers, and what a steady change keeps. -/
structure IsnKept (s t : State) : Prop where
  steady : Steady noNode s t
  isn : t.isn = s.isn
  rd : ∀ a, isnReg a = true → t.rd a = s.rd a

theorem isnReg_page {a : Nat} (h : isnReg a = true) : a / 256 = P.ISN ∨ a / 256 = P.ISC := by
  simp only [isnReg, Bool.and_eq_true, Bool.or_eq_true, beq_iff_eq] at h
  exact h.1.1

theorem isnReg_word {a : Nat} (h : isnReg a = true) : a % 256 ≠ 0x0C ∧ a % 256 ≠ 0x18 := by
  simp only [isnReg, Bool.and_eq_true, bne_iff_ne] at h
  exact ⟨h.1.2, h.2⟩

theorem isnReg_ne {a b : Nat} (h : isnReg a = true) (hb : isnReg b = false := by decide) : a ≠ b := by
  rintro rfl
  simp [h] at hb

theorem isnReg_touch {a : Nat} (p : Nat) (h : isnReg a = true) : raiseTouches p a = false := by
  have event (q : Nat) : (a == rEVT q) = false := by
    rw [beq_eq_false_iff_ne]
    rintro rfl
    exact (isnReg_word h).1 (by unfold rEVT; omega)
  have other (b : Nat) (hb : isnReg b = false) : (a == b) = false := beq_eq_false_iff_ne.mpr (isnReg_ne h hb)
  simp [raiseTouches, event, other R.QUE_EVLOSTCT rfl, other R.LOG_LOSTCT rfl, other R.TRC_LOST rfl]

theorem isnReg_line {a : Nat} (h : isnReg a = true) : lineTouches a = false := by
  have notes : ∀ b ∈ lnsCounters, isnReg b = false := by decide
  have counter : lnsCounters.contains a = false := by
    rw [← Bool.not_eq_true, List.contains_iff_mem]
    intro m
    simp [notes a m] at h
  have other (b : Nat) (hb : isnReg b = false) : (a == b) = false := beq_eq_false_iff_ne.mpr (isnReg_ne h hb)
  simp [lineTouches, lineNote, isnReg_touch _ h, counter, other R.LNK_SQI rfl, other R.LNK_STAMP_LO rfl, other R.LNK_STAMP_HI rfl, other R.CYC_TXRSP rfl,
    -List.contains_eq_mem]

theorem isnReg_settle {a : Nat} (h : isnReg a = true) : settleTouches a = false := by
  have fault (q : Nat) : (a == rFLT q) = false := by
    rw [beq_eq_false_iff_ne]
    rintro rfl
    exact (isnReg_word h).2 (by unfold rFLT; omega)
  have other (b : Nat) (hb : isnReg b = false) : (a == b) = false := beq_eq_false_iff_ne.mpr (isnReg_ne h hb)
  simp [settleTouches, isnReg_touch _ h, fault, other R.PST_TRIPCT rfl, other R.PST_LAST rfl, other R.PST_LASTTICK rfl, other R.SLF_LASTV rfl, other R.SLF_LASTU rfl,
    other R.SLF_LASTTICK rfl, other R.SLF_LASTCT rfl, other R.SLF_TRANCT rfl, other R.SLF_NOTESTCT rfl, other R.SLF_DETCT rfl, other R.SLF_BKT1 rfl]

/-- The link state that follows the aligner is the port's own (R190, R278). -/
theorem portKept_isnLink (s : State) : ∃ l, PortKept { s with lnk := { s.lnk with link := l } } s.isnLink := by
  unfold State.isnLink
  extract_lets _ l
  split_ifs
  · exact ⟨s.lnk.link, .refl s⟩
  · exact ⟨l, .setLink s l⟩

theorem isn_of_quiet {s t : State} (q : t.quiet = s.quiet) : t.isn = s.isn := by
  have e := congrArg State.isn q
  exact e

namespace IsnKept

theorem refl (s : State) : IsnKept s s := ⟨.refl s, rfl, fun _ _ => rfl⟩

theorem trans {s t u : State} (h : IsnKept s t) (k : IsnKept t u) : IsnKept s u :=
  ⟨h.steady.trans k.steady, k.isn.trans h.isn, fun a ha => (k.rd a ha).trans (h.rd a ha)⟩

/-- A change of fields outside Isinasia and what a steady change keeps. -/
theorem of_regs {s t : State} (h : Steady noNode s t := by exact .of_regs) (hi : t.isn = s.isn := by exact rfl) (hr : t.regs = s.regs := by exact rfl) : IsnKept s t :=
  ⟨h, hi, fun a _ => by simp only [State.rd, hr]⟩

theorem of_keeps {p : Nat} {s t : State} (q : t.quiet = s.quiet) (k : Keeps p s t) : IsnKept s t :=
  ⟨.of_keeps q k, isn_of_quiet q, fun a ha => k.rd a (isnReg_touch p ha)⟩

theorem of_calms {s t : State} (k : Calms s t) : IsnKept s t :=
  ⟨.of_calms k, by have e := congrArg State.isn k.calm; exact e, fun a ha => k.rd a (isnReg_settle ha)⟩

theorem of_port {s t : State} (k : PortKept s t) : IsnKept s t := ⟨k.steady, k.keep State.isn, fun a ha => k.rd a (isnReg_line ha)⟩

theorem ite {s t u : State} {c : Prop} [Decidable c] (h : IsnKept s t) (k : IsnKept s u) : IsnKept s (if c then t else u) := by
  split_ifs <;> assumption

variable {s t : State} (h : IsnKept s t)
include h

theorem fd {a lo w : Nat} (ha : isnReg a = true := by decide) : t.fd a lo w = s.fd a lo w := congrArg (fld · lo w) (h.rd a ha)
theorem bit {a n : Nat} (ha : isnReg a = true := by decide) : t.bit a n = s.bit a n := congrArg (bitOf · n) (h.rd a ha)
theorem evt {p n : Nat} (hb : s.bit (rEVT p) n = true) : t.bit (rEVT p) n = true := h.steady.evt p n hb
theorem flt {p n : Nat} (hb : s.bit (rFLT p) n = true) : t.bit (rFLT p) n = true := h.steady.flt p n hb
theorem lt : t.lt = s.lt := spine_lt h.steady.spine

theorem raise {p n : Nat} : IsnKept s (t.raise p n) := h.trans (.of_keeps (quiet_raise t p n) (keeps_raise t p n))
theorem raiseIf {c : Bool} {p n : Nat} : IsnKept s (t.raiseIf c p n) := h.trans (.of_keeps (quiet_raiseIf t c p n) (keeps_raiseIf t c p n))
theorem logPush {k p : Nat} {a b : Word} : IsnKept s (t.logPush k p a b) := h.trans (.of_keeps (quiet_logPush t k p a b) (keeps_logPush 0 t k p a b))
theorem lns {a n : Nat} (ha : lineNote a = true := by decide) : IsnKept s (t.lns a n) := h.trans (.of_port ((PortKept.refl t).lns ha))

/-- A write of a register of another block. -/
theorem wr {a : Nat} {v : Word} (ha : plainReg a = true := by decide) (hi : isnReg a = false := by decide) : IsnKept s (t.wr a v) :=
  h.trans ⟨.wr (.refl t) ha, rfl, fun _ hb => State.rd_wr_ne _ _ (isnReg_ne hb hi)⟩

theorem setLink {l : LinkState} : IsnKept s (t.setLink l) := (h.trans .of_regs).trans (.of_port (.setLink t l))

theorem setFlt {p n : Nat} : IsnKept s (t.setFlt p n) := by
  have word (v : Word) : ∀ a, isnReg a = true → (t.wr (rFLT p) v).rd a = t.rd a := fun a ha =>
    State.rd_wr_ne _ _ fun e => (isnReg_word ha).2 (by rw [e]; unfold rFLT; omega)
  refine h.trans ⟨.setFlt (.refl t), isn_of_quiet (quiet_setFlt t p n), fun a ha => ?_⟩
  unfold State.setFlt
  split_ifs
  · rfl
  · exact ((keeps_logPush 0 _ _ _ _ _).rd a (isnReg_touch _ ha)).trans (word _ a ha)

/-- LNK's state follows the aligner (R190, R278). -/
theorem isnLink : IsnKept s t.isnLink := .ite h h.setLink

/-! ### Self-test -/

theorem verdict {j : Job} {res spare : Nat} : IsnKept s (t.verdict j res spare) := by
  unfold State.verdict
  extract_lets b lasting d0 s1 s2 s3 s4 s5 _ s6
  have k1 : IsnKept s s1 := by
    have noted : IsnKept s (t.noteLast j d0) := h.trans (.of_calms (calms_noteLast t j d0))
    unfold s1
    cases lasting <;> exact noted.wr
  have k2 : IsnKept s s2 := .ite (k1.trans (.of_calms (calms_noteNoTest s1))) k1
  have k3 : IsnKept s s3 := .ite (k2.trans (.of_calms (calms_noteRepair s2 _ _))) k2
  have k5 : IsnKept s s5 := .ite (k3.logPush.trans (.of_calms (calms_noteLasting s4))) k3.logPush
  have k6 : IsnKept s s6 := .ite (k5.trans .of_regs) k5
  exact .ite (k6.trans .of_regs) k6

theorem incBucket {test : Nat} (ht : test ≤ 10) : IsnKept s (t.incBucket test) := by
  have lanes : ∀ k < 3, isnReg (R.SLF_BKT0 + 4 * k) = false := by decide
  exact h.wr (plainReg_bucket ht) (lanes _ (by omega))

theorem setLane {l : Nat} {x : Lane} : IsnKept s (t.setLane l x) := h.trans (.ite .of_regs (.ite .of_regs .of_regs))

/-- A report to self-test (R713). -/
theorem detect {src page : Nat} {u : Word} : IsnKept s (t.detect src page u) := by
  unfold State.detect
  extract_lets test j s1 s2 s3
  have counted : IsnKept s s3 := .incBucket (.logPush (.wr h.raise)) (testOf_le src)
  exact .ite counted.verdict (.ite (counted.trans .of_regs) (.ite (.ite (counted.trans .of_regs) counted) (.ite counted.setLane (.ite counted.setLane counted.verdict))))

/-- A frame that is checked (R165). -/
theorem rxCheck {oct : List Byte} {stamp done : LineTime} {rate : Int} : IsnKept s (t.rxCheck oct stamp done rate) := by
  unfold State.rxCheck
  extract_lets n ok s1 s2
  have k2 : IsnKept s s2 := h.lns.wr.wr
  exact .ite h.lns (.ite h.lns (k2.trans .of_regs))

end IsnKept

/-! ## Tables, messages and proposals

They move the carrier table and, of Isinasia, the units to be sent, the proposal, the seed that waits for its ACK, and the numbers of both. -/

/-- The state with a carrier table and what waits to be sent or answered. -/
def State.sending (s : State) (mem : List Host.Cell) (prop : Option Prop5) (seq : Nat) (units : List (Bool × List Byte)) (seed : Option Nat) : State :=
  { s with mem := mem, isn := { s.isn with prop := prop, msgSeq := seq, units := units, seedSeq := seed } }

/-- What an operation that sends messages may change. -/
def Sends (s t : State) : Prop := ∃ mem prop seq units seed, t = s.sending mem prop seq units seed

namespace Sends

theorem refl (s : State) : Sends s s := ⟨s.mem, s.isn.prop, s.isn.msgSeq, s.isn.units, s.isn.seedSeq, rfl⟩

theorem trans {s t u : State} (h : Sends s t) (k : Sends t u) : Sends s u := by
  obtain ⟨mem, prop, seq, units, seed, rfl⟩ := h
  obtain ⟨mem', prop', seq', units', seed', rfl⟩ := k
  exact ⟨mem', prop', seq', units', seed', rfl⟩

theorem ite {s t u : State} {c : Prop} [Decidable c] (h : Sends s t) (k : Sends s u) : Sends s (if c then t else u) := by
  split_ifs <;> assumption

variable {s t : State} (h : Sends s t)
include h

/-- What does not look at the table and at what waits stands. -/
theorem keep {α : Type} (f : State → α) (hf : ∀ (s : State) mem prop seq units seed, f (s.sending mem prop seq units seed) = f s := by exact fun _ _ _ _ _ _ => rfl) : f t = f s := by
  obtain ⟨mem, prop, seq, units, seed, rfl⟩ := h
  exact hf s mem prop seq units seed

end Sends

/-- A carrier's word is memory. -/
theorem wrW_mem (s : State) (a : Nat) (v : Word) : ∃ mem, s.wrW a v = { s with mem := mem } := ⟨_, wrN_eq s a v.toNat 4⟩

theorem setLoads_mem (s : State) (j : Nat) (slot : Bool) (l : List Nat) : ∃ mem, s.setLoads j slot l = { s with mem := mem } := by
  have fold (es : List (Nat × Nat)) : ∀ s : State, ∃ mem, es.foldl (fun s e => s.setCarr e.2 j (if slot then 8 else 0) 4 e.1) s = { s with mem := mem } := by
    induction es with
    | nil => exact fun s => ⟨s.mem, rfl⟩
    | cons e es ih =>
      intro s
      obtain ⟨mem, first⟩ : ∃ mem, s.setCarr e.2 j (if slot then 8 else 0) 4 e.1 = { s with mem := mem } := wrW_mem s _ _
      rw [List.foldl_cons, first]
      exact ih _
  exact fold _ s

theorem sends_setLoads (s : State) (j : Nat) (slot : Bool) (l : List Nat) : Sends s (s.setLoads j slot l) := by
  obtain ⟨mem, e⟩ := setLoads_mem s j slot l
  exact ⟨mem, _, _, _, _, e⟩

/-- The units with a message put behind the messages and ahead of the frames (R266). -/
def IsnSt.queued (i : IsnSt) (body : List Byte) : List (Bool × List Byte) := i.units.filter (·.1) ++ [(true, mkMsg body)] ++ i.units.filter fun u => !u.1

theorem sendMsg_sent {s : State} (h : s.isShadow = false) (body : List Byte) : s.sendMsg body = { s with isn := { s.isn with units := s.isn.queued body } } :=
  if_neg (by simp [h])

theorem queued_length (i : IsnSt) (body : List Byte) : (i.queued body).length = i.units.length + 1 := by
  have split := List.length_eq_length_filter_add (l := i.units) (·.1)
  simp only [IsnSt.queued, List.length_append, List.length_singleton]
  omega

theorem mem_queued (i : IsnSt) (body : List Byte) : (true, mkMsg body) ∈ i.queued body := by simp [IsnSt.queued]

/-- A message changes no more than the units. -/
theorem sendMsg_units (s : State) (body : List Byte) : ∃ units, s.sendMsg body = { s with isn := { s.isn with units := units } } := by
  by_cases h : s.isShadow = true
  · exact ⟨s.isn.units, if_pos h⟩
  · exact ⟨_, if_neg h⟩

theorem sends_sendMsg (s : State) (body : List Byte) : Sends s (s.sendMsg body) := by
  obtain ⟨units, e⟩ := sendMsg_units s body
  exact ⟨_, _, _, units, _, e⟩

theorem sends_propose (s : State) (l : List Nat) : Sends s (s.propose l) := by
  unfold State.propose
  extract_lets p s1
  obtain ⟨mem, e⟩ := setLoads_mem s 1 p.slot l
  have proposed : Sends s { s1 with isn := { s1.isn with prop := some p, msgSeq := (s1.isn.msgSeq + 1) % 256 } } := by
    unfold s1
    rw [e]
    exact ⟨mem, _, _, _, _, rfl⟩
  exact .ite (.refl s) (proposed.trans (sends_sendMsg _ _))

/-- A proposal stands under the number that was next, for the slot not in force (R265, R267). -/
theorem propose_prop {s : State} (hs : s.isShadow = false) (hp : s.isn.prop = none) (l : List Nat) : (s.propose l).isn.prop = some ⟨s.isn.msgSeq, !s.isn.ltRx, 0, 0⟩ := by
  unfold State.propose
  extract_lets p s1
  rw [if_neg (by simp [hs, hp])]
  obtain ⟨units, e⟩ := sendMsg_units { s1 with isn := { s1.isn with prop := some p, msgSeq := (s1.isn.msgSeq + 1) % 256 } } _
  exact (congrArg (fun t : State => t.isn.prop) e :)

theorem sends_stageX (s : State) : Sends s s.stageX := by
  unfold State.stageX
  extract_lets q _ s1 s2
  have numbered : Sends s s1 := by
    unfold s1
    split_ifs
    · exact ⟨s.mem, _, _, _, _, rfl⟩
    · exact .refl s
  have seeded : Sends s s2 := .ite (.refl s) (numbered.trans (sends_sendMsg _ _))
  refine .ite ?_ (.refl s)
  split
  · exact .ite (seeded.trans (sends_sendMsg _ _)) seeded
  · exact .ite seeded (seeded.trans (sends_propose _ _))

end Sys2Proof.Machine

namespace Sys2Proof.Machine

/-! ## IsinasiaTraining -/

theorem exec_negotiation (s : State) : exec .negotiation s = s.done (if s.lineOn then s.negotiate else s) := rfl
theorem exec_negDone (page : Word) (id : Option (BitVec 24)) (base : Bool) (more : Nat) (s : State) :
    exec (.negDone page id base more) s = s.done (if s.lineOn then s.negDone page id base more else s) := rfl
theorem exec_trainingStart (s : State) :
    exec .trainingStart s = s.done (if s.lineOn && s.lnk.profact == 3 && s.isn.stage == 7 && s.isn.left == 0 then s.trainStart else s) := rfl
theorem exec_trainingRestart (s : State) :
    exec .trainingRestart s = s.done (if s.lineOn && s.lnk.profact == 3 && s.tmaster && s.isn.stage == 7 && s.isn.left == 0 then s.trainStart else s) := rfl
theorem exec_trainingStageEnd (echo : Nat) (s : State) : exec (.trainingStageEnd echo) s = s.done (if s.lineOn then s.stageEnd echo else s) := rfl
theorem exec_acqTone (present : Bool) (rate : Int) (s : State) : exec (.acqTone present rate) s = s.done (if s.lineOn then s.acqTone present rate else s) := rfl

theorem lnk_raise (s : State) (p n : Nat) : (s.raise p n).lnk = s.lnk := by
  have e := congrArg State.lnk (quiet_raise s p n)
  exact e

/-! ### Negotiation (R238 to R240) -/

/-- The port that has taken a partner's page and acknowledged `more` further ones. -/
def State.negTook (s : State) (page : Word) (more : Nat) : State := State.wr { s with isn := { s.isn with negAcks := s.isn.negAcks + more } } R.ISN_NEGRES page

/-- The port in a profile that was negotiated. -/
def LnkSt.profiled (l : LnkSt) (prof : Nat) : LnkSt := { l with profact := prof, nego := false }

/-- What the pages of both ends give the link: the master, the smaller largest loading, low-power idle where both have it (R239, R240). -/
def negLink (own page : Word) (m : Bool) : NegLink := ⟨m, min (fld own 20 4) (fld page 20 4), bitOf own 19 && bitOf page 19⟩

/-- The port in Isinasia with a link. -/
def State.negIsinasia (s : State) (n : NegLink) : State := { s with lnk := s.lnk.profiled 3, isn := { s.isn with negd := some n, stage := 7, left := 0 } }

/-- A port the negotiation has completed for names Isinasia with the same identifier at both ends, the same version and one master. -/
theorem negDone_isinasia {s : State} {page : Word} {id : Option (BitVec 24)} {m : Bool} (base : Bool) (more : Nat) (hn : s.lnk.nego = true) (ho : s.isn.negOut ≠ []) (hi : s.sameId id = true)
    (ha : bitOf s.isn.negPage 27 = true) (hb : bitOf page 27 = true) (hv : fld s.isn.negPage 28 4 = fld page 28 4) (hm : masterOf s.isn.negPage page = some m) :
    ∃ t, IsnKept ((s.negTook page more).negIsinasia (negLink s.isn.negPage page m)) t ∧ t.lnk.profact = 3 ∧ t.lnk.nego = false ∧ s.negDone page id base more = t.raise P.ISN 8 := by
  have id' : State.sameId { s with isn := { s.isn with negAcks := s.isn.negAcks + more } } id = true := hi
  have e : s.negDone page id base more = State.raise (if s.lnk.link = .energy then ((s.negTook page more).negIsinasia (negLink s.isn.negPage page m)).setLink .down
      else (s.negTook page more).negIsinasia (negLink s.isn.negPage page m)) P.ISN 8 := by
    unfold State.negDone
    simp only [hn, id', ha, hb, hv, hm, List.isEmpty_eq_false_iff.mpr ho, Bool.not_true, Bool.or_self, Bool.and_self, beq_self_eq_true, Bool.false_eq_true, if_false, if_true]
    rfl
  refine ⟨_, .ite (IsnKept.refl _).setLink (.refl _), ?_, ?_, e⟩
  · split_ifs
    · exact (PortKept.setLink _ _).keep (·.lnk.profact)
    · rfl
  · split_ifs
    · exact (PortKept.setLink _ _).keep (·.lnk.nego)
    · rfl

/-- Without the same identifier the partner's base page alone decides for 10BASE-T1S (R240). -/
theorem negDone_base {s : State} (page : Word) {id : Option (BitVec 24)} (more : Nat) (hn : s.lnk.nego = true) (ho : s.isn.negOut ≠ []) (hi : s.sameId id = false) :
    s.negDone page id true more = State.raise (State.energyNow (State.plcaStart { s.negTook page more with lnk := s.lnk.profiled 2 })) P.ISN 8 := by
  have id' : State.sameId { s with isn := { s.isn with negAcks := s.isn.negAcks + more } } id = false := hi
  unfold State.negDone
  simp only [hn, id', List.isEmpty_eq_false_iff.mpr ho, Bool.not_true, Bool.or_self, Bool.false_and, Bool.false_eq_true, if_false, if_true]
  rfl

/-- Where neither profile is chosen the pages are composed anew (R240). -/
theorem negDone_again {s : State} (page : Word) {id : Option (BitVec 24)} (more : Nat) (hn : s.lnk.nego = true) (ho : s.isn.negOut ≠ []) (hi : s.sameId id = false) :
    s.negDone page id false more = { s with isn := { s.isn with negAcks := s.isn.negAcks + more, negOut := [], negPage := 0#32 } } := by
  have id' : State.sameId { s with isn := { s.isn with negAcks := s.isn.negAcks + more } } id = false := hi
  unfold State.negDone
  simp only [hn, id', List.isEmpty_eq_false_iff.mpr ho, Bool.not_true, Bool.or_self, Bool.false_and, Bool.false_eq_true, if_false]

theorem negotiation_clause {s : State} (hon : s.lineOn = true) (hn : s.lnk.nego = true) :
    ∃ u, exec .negotiation s = .next u ∧ Ended s { s with isn := { s.isn with
      negPage := s.ownPage, negOut := [.base true true, .message (BitVec.ofNat 24 (s.fd R.ISN_NEGID 0 24)), .unformatted s.ownPage], negAcks := 0 } } u ∧ u.isn.negPage = s.ownPage := by
  rw [exec_negotiation, if_pos hon, State.negotiate, if_pos hn]
  exact done_of fun u e => ⟨e, congrArg IsnSt.negPage e.isn⟩

/-- The clause of a negotiation that chooses Isinasia. -/
theorem negDone_isinasia_clause {s : State} (hon : s.lineOn = true) {page : Word} {id : Option (BitVec 24)} {m : Bool} (base : Bool) (more : Nat) (hn : s.lnk.nego = true)
    (ho : s.isn.negOut ≠ []) (hi : s.sameId id = true) (ha : bitOf s.isn.negPage 27 = true) (hb : bitOf page 27 = true) (hv : fld s.isn.negPage 28 4 = fld page 28 4)
    (hm : masterOf s.isn.negPage page = some m) :
    ∃ u, exec (.negDone page id base more) s = .next u ∧ u.lnk.profact = 3 ∧ u.lnk.nego = false ∧ u.rd R.ISN_NEGRES = page ∧ u.bit (rEVT P.ISN) 8 = true ∧ u.isn.stage = 7 ∧
      u.isn.negd = some ⟨m, min (fld s.isn.negPage 20 4) (fld page 20 4), bitOf s.isn.negPage 19 && bitOf page 19⟩ := by
  obtain ⟨t, k, prof, nego, e⟩ := negDone_isinasia base more hn ho hi ha hb hv hm
  have page : (t.raise P.ISN 8).rd R.ISN_NEGRES = page := (k.raise.rd R.ISN_NEGRES (by decide)).trans (State.rd_wr_self ..)
  rw [exec_negDone, if_pos hon, e]
  refine done_of fun u d => ⟨?_, ?_, ?_, d.evt (bit_raise _ _ _ (by decide)), ?_, ?_⟩
  · rw [d.lnk, lnk_raise, prof]
  · rw [d.lnk, lnk_raise, nego]
  · rw [d.rd (by decide), page]
  · rw [d.isn, k.raise.isn]; rfl
  · rw [d.isn, k.raise.isn]; rfl

/-- The clause of a negotiation that chooses 10BASE-T1S. -/
theorem negDone_base_clause {s : State} (hon : s.lineOn = true) (page : Word) {id : Option (BitVec 24)} (more : Nat) (hn : s.lnk.nego = true) (ho : s.isn.negOut ≠ [])
    (hi : s.sameId id = false) :
    ∃ u, exec (.negDone page id true more) s = .next u ∧ u.lnk.profact = 2 ∧ u.lnk.nego = false ∧ u.rd R.ISN_NEGRES = page ∧ u.bit (rEVT P.ISN) 8 = true := by
  rw [exec_negDone, if_pos hon, negDone_base page more hn ho hi]
  have k := portKept_energyNow (State.plcaStart { s.negTook page more with lnk := s.lnk.profiled 2 })
  refine done_of fun u d => ⟨?_, ?_, ?_, d.evt (bit_raise _ _ _ (by decide))⟩
  · rw [d.lnk, lnk_raise, k.keep (·.lnk.profact)]; rfl
  · rw [d.lnk, lnk_raise, k.keep (·.lnk.nego)]; rfl
  · rw [d.rd (by decide), rd_raise _, k.rd _ (by decide)]; exact State.rd_wr_self ..

theorem negDone_again_clause {s : State} (hon : s.lineOn = true) (page : Word) {id : Option (BitVec 24)} (more : Nat) (hn : s.lnk.nego = true) (ho : s.isn.negOut ≠ [])
    (hi : s.sameId id = false) :
    ∃ u, exec (.negDone page id false more) s = .next u ∧
      Ended s { s with isn := { s.isn with negAcks := s.isn.negAcks + more, negOut := [], negPage := 0#32 } } u ∧ u.isn.negOut = [] := by
  rw [exec_negDone, if_pos hon, negDone_again page more hn ho hi]
  exact done_of fun u d => ⟨d, congrArg IsnSt.negOut d.isn⟩

/-! ### Training (R242 to R244, R249) -/

/-- A training that starts is at QUIET, with both seeds reset (R227, R242). -/
structure TrainStarted (t : State) : Prop where
  stage : t.isn.stage = 5
  left : t.isn.left = 10
  done : t.isn.done = false
  txseed : t.rd R.ISN_TXSEED = 0x7FFFFF#32
  rxseed : t.rd R.ISN_RXSEED = 0x7FFFFF#32

theorem isnClear_seeds (s : State) : s.isnClear.rd R.ISN_TXSEED = 0x7FFFFF#32 ∧ s.isnClear.rd R.ISN_RXSEED = 0x7FFFFF#32 := by
  unfold State.isnClear
  exact ⟨(State.rd_wr_ne _ _ (by decide)).trans (State.rd_wr_self ..), State.rd_wr_self ..⟩

theorem trainStart_started (s : State) : TrainStarted s.trainStart := by
  have k : IsnKept { s.isnClear.newSeed with isn := { s.isnClear.newSeed.isn with stage := 5, left := 10 } } s.trainStart := (IsnKept.refl _).isnLink
  obtain ⟨tx, rx⟩ := isnClear_seeds s
  exact ⟨by rw [k.isn], by rw [k.isn], by rw [k.isn]; rfl, (k.rd _ (by decide)).trans tx, (k.rd _ (by decide)).trans rx⟩

theorem TrainStarted.ended {s t u : State} (h : TrainStarted t) (e : Ended s t u) : TrainStarted u :=
  ⟨by rw [e.isn, h.stage], by rw [e.isn, h.left], by rw [e.isn, h.done], by rw [e.rd (by decide), h.txseed], by rw [e.rd (by decide), h.rxseed]⟩

theorem trainingStart_clauses {s : State} (hon : s.lineOn = true) (hp : s.lnk.profact = 3) (h7 : s.isn.stage = 7) (h0 : s.isn.left = 0) :
    (∃ u, exec .trainingStart s = .next u ∧ u.isn.stage = 5 ∧ u.isn.left = 10 ∧ u.isn.done = false ∧ u.rd R.ISN_TXSEED = 0x7FFFFF#32 ∧ u.rd R.ISN_RXSEED = 0x7FFFFF#32) ∧
    (s.tmaster = true → ∃ u, exec .trainingRestart s = .next u ∧ u.isn.stage = 5 ∧ u.isn.left = 10 ∧ u.isn.done = false) := by
  refine ⟨?_, fun hm => ?_⟩
  · rw [exec_trainingStart, if_pos (by simp [hon, hp, h7, h0])]
    refine done_of fun u e => ?_
    obtain ⟨stage, left, done, tx, rx⟩ := (trainStart_started s).ended e
    exact ⟨stage, left, done, tx, rx⟩
  · rw [exec_trainingRestart, if_pos (by simp [hon, hp, hm, h7, h0])]
    refine done_of fun u e => ?_
    obtain ⟨stage, left, done, -⟩ := (trainStart_started s).ended e
    exact ⟨stage, left, done⟩

/-- The count of a stage that begins. -/
def State.atStage (s : State) (stage : Nat) : State := { s with isn := { s.isn with stage := stage, left := s.stageLen stage } }

/-- The tables stage X begins with, QPSK on the sync carriers in slot A of both directions (R245). -/
def State.stageTables (s : State) : State :=
  (s.setLoads 0 false (usable.map fun k => if isSync k then 2 else 0)).setLoads 1 false (usable.map fun k => if isSync k then 2 else 0)

/-- A payload stream that begins. -/
def State.freshStream (s : State) : State := { s with isn := { s.isn with skip := false, rxBuf := [], tapBuf := [] } }

theorem freshStream_regs (s : State) : s.freshStream.regs = s.regs := rfl

/-- The state a stage begins in. -/
def State.enteringStage (s : State) (stage : Nat) : State := if stage = 4 then (s.atStage stage).stageTables.freshStream else s.atStage stage

theorem enterStage_eq (s : State) (stage : Nat) : s.enterStage stage = (s.enteringStage stage).isnLink := rfl

theorem enteringStage_spec (s : State) (stage : Nat) :
    (s.enteringStage stage).isn.stage = stage ∧ (s.enteringStage stage).isn.left = s.stageLen stage ∧ (s.enteringStage stage).regs = s.regs := by
  have tables : Sends (s.atStage stage) (s.atStage stage).stageTables := (sends_setLoads _ _ _ _).trans (sends_setLoads _ _ _ _)
  unfold State.enteringStage
  split_ifs
  · exact ⟨tables.keep (·.isn.stage), tables.keep (·.isn.left), (freshStream_regs _).trans (tables.keep State.regs)⟩
  · exact ⟨rfl, rfl, rfl⟩

/-- A stage that is entered counts its superframes; LNK's state follows (R243, R278). -/
theorem enterStage_kept (s : State) (stage : Nat) :
    ∃ t : State, PortKept t (s.enterStage stage) ∧ t.isn.stage = stage ∧ t.isn.left = s.stageLen stage ∧ t.regs = s.regs := by
  obtain ⟨l, k⟩ := portKept_isnLink (s.enteringStage stage)
  exact ⟨_, k, enteringStage_spec s stage⟩

theorem enterStage_isn (s : State) (stage : Nat) : (s.enterStage stage).isn.stage = stage ∧ (s.enterStage stage).isn.left = s.stageLen stage := by
  obtain ⟨t, k, h, left, -⟩ := enterStage_kept s stage
  rw [k.keep State.isn]
  exact ⟨h, left⟩

/-- A stage that is entered leaves the registers but for those the link state's events touch. -/
theorem rd_enterStage (s : State) (stage : Nat) {a : Nat} (ha : lineTouches a = false) : (s.enterStage stage).rd a = s.rd a := by
  obtain ⟨t, k, -, -, regs⟩ := enterStage_kept s stage
  rw [k.rd a ha, State.rd, regs]
  rfl

/-- The residual echo of a solo stage, as it is noted. -/
def State.echoNoted (s : State) (solo : Bool) (echo : Nat) : State := if solo then s.setF R.ISC_ECRES 0 8 echo else s

/-- An end in its solo stage (R250). -/
def State.soloStage (s : State) : Bool := (s.isn.stage == 1 && s.tmaster) || (s.isn.stage == 2 && !s.tmaster)

theorem rd_echoNoted (s : State) (solo : Bool) (echo : Nat) {a : Nat} (h : a ≠ R.ISC_ECRES) : (s.echoNoted solo echo).rd a = s.rd a := by
  unfold State.echoNoted
  split_ifs
  · exact State.rd_wr_ne _ _ h
  · rfl

theorem echoNoted_eq (s : State) (solo : Bool) (echo : Nat) : ∃ regs, s.echoNoted solo echo = { s with regs := regs } := by
  unfold State.echoNoted
  split_ifs
  · exact ⟨_, rfl⟩
  · exact ⟨_, rfl⟩

theorem tmaster_congr {s t : State} (hr : t.rd (rCTRL P.ISN) = s.rd (rCTRL P.ISN)) (hn : t.isn.negd = s.isn.negd) : t.tmaster = s.tmaster := by
  simp only [State.tmaster, State.bit, hr, hn]

/-- The echo is no part of what a stage's length looks at. -/
theorem stageLen_echoNoted (s : State) (solo : Bool) (echo stage : Nat) : (s.echoNoted solo echo).stageLen stage = s.stageLen stage := by
  have res : (s.echoNoted solo echo).bit R.ISN_NEGRES 24 = s.bit R.ISN_NEGRES 24 := congrArg (bitOf · 24) (rd_echoNoted s solo echo (by decide))
  have ctrl := rd_echoNoted s solo echo (a := rCTRL P.ISN) (by decide)
  obtain ⟨regs, e⟩ := echoNoted_eq s solo echo
  have master : (s.echoNoted solo echo).tmaster = s.tmaster := tmaster_congr ctrl (by rw [e])
  have pair : (s.echoNoted solo echo).paired = s.paired := by rw [e]; rfl
  simp only [State.stageLen, master, res, pair]

/-- A stage that is over, its canceller converged, gives way to the next (R243). -/
theorem stageEnd_next {s : State} {echo : Nat} (hp : s.lnk.profact = 3) (h0 : s.isn.left = 0) (hc : 120 ≤ echo) (e : Nat × Nat × Bool)
    (he : e ∈ [(5, 6, s.tmaster), (6, 1, s.tmaster), (1, 2, s.tmaster || s.isn.locked), (2, 3, !s.tmaster || s.isn.locked), (3, 4, !s.isn.done)])
    (hs : s.isn.stage = e.1) (ht : e.2.2 = true) : s.stageEnd echo = (s.echoNoted s.soloStage echo).enterStage e.2.1 := by
  have conv : ¬ echo < 120 := by omega
  simp only [List.mem_cons, List.not_mem_nil, or_false] at he
  rcases he with rfl | rfl | rfl | rfl | rfl
  · simp_all [State.stageEnd, State.echoNoted, State.soloStage]
  · simp_all [State.stageEnd, State.echoNoted, State.soloStage]
  · cases hm : s.tmaster <;> simp_all [State.stageEnd, State.echoNoted, State.soloStage, State.setF]
  · cases hm : s.tmaster <;> simp_all [State.stageEnd, State.echoNoted, State.soloStage, State.setF]
  · simp_all [State.stageEnd, State.echoNoted, State.soloStage]

/-- The master's canceller that has not converged fails the training (R249, R251). -/
theorem stageEnd_fails {s : State} {echo : Nat} (hp : s.lnk.profact = 3) (h0 : s.isn.left = 0) (hc : echo < 120) (hm : s.tmaster = true) (h1 : s.isn.stage = 1) :
    s.stageEnd echo = ((s.echoNoted true echo).setFlt P.ISN 0).trainFail := by
  simp [State.stageEnd, State.echoNoted, hp, h0, hc, hm, h1]

/-- What a training that fails leaves: its event, and a master that is silent for 50 superframes (R249). -/
structure TrainFailed (s t : State) : Prop where
  steady : Steady noNode s t
  event : t.bit (rEVT P.ISN) 3 = true
  locked : t.isn.locked = false
  cands : t.isn.cands = []
  rd : ∀ a, isnReg a = true → a ≠ R.ISN_TXSEED → a ≠ R.ISN_RXSEED → t.rd a = s.rd a
  master : s.tmaster = true → t.isn.stage = 7 ∧ t.isn.left = 50

theorem rd_isnClear (s : State) {a : Nat} (ht : a ≠ R.ISN_TXSEED) (hr : a ≠ R.ISN_RXSEED) : s.isnClear.rd a = s.rd a :=
  (State.rd_wr_ne _ _ hr).trans (State.rd_wr_ne _ _ ht)

theorem steady_isnClear (s : State) : Steady noNode s s.isnClear := .wr (.wr .of_regs)

/-- The state a failed training is left in. -/
def State.failedAt (s : State) : State :=
  { s.isnClear with isn := { s.isnClear.isn with stage := if s.isnClear.tmaster then 7 else 5, left := if s.isnClear.tmaster then 50 else 0 } }

theorem trainFailed (s : State) : TrainFailed s s.trainFail := by
  have k : IsnKept s.failedAt s.trainFail := (IsnKept.refl s.failedAt).raise.isnLink
  have last : IsnKept (s.failedAt.raise P.ISN 3) s.trainFail := (IsnKept.refl _).isnLink
  have stopped : Steady noNode s s.failedAt := (steady_isnClear s).trans .of_regs
  refine ⟨stopped.trans k.steady, last.evt (bit_raise _ _ _ (by decide)), ?_, ?_, fun a ha ht hr => (k.rd a ha).trans (rd_isnClear s ht hr), fun hm => ?_⟩
  · rw [k.isn]; rfl
  · rw [k.isn]; rfl
  · have master : s.isnClear.tmaster = true := (tmaster_congr (rd_isnClear s (by decide) (by decide)) rfl).trans hm
    rw [k.isn]
    exact ⟨if_pos master, if_pos master⟩

theorem trainingStageEnd_clauses {s : State} (hon : s.lineOn = true) (hp : s.lnk.profact = 3) (h0 : s.isn.left = 0) (echo : Nat) :
    (∀ e ∈ [(5, 6, s.tmaster), (6, 1, s.tmaster), (1, 2, s.tmaster || s.isn.locked), (2, 3, !s.tmaster || s.isn.locked), (3, 4, !s.isn.done)],
      120 ≤ echo → s.isn.stage = e.1 → e.2.2 = true → ∃ u, exec (.trainingStageEnd echo) s = .next u ∧ u.isn.stage = e.2.1 ∧ u.isn.left = s.stageLen e.2.1) ∧
    (echo < 120 → s.tmaster = true → s.isn.stage = 1 →
      ∃ u, exec (.trainingStageEnd echo) s = .next u ∧ u.isn.stage = 7 ∧ u.isn.left = 50 ∧ u.bit (rFLT P.ISN) 0 = true ∧ u.bit (rEVT P.ISN) 3 = true) := by
  rw [exec_trainingStageEnd, if_pos hon]
  refine ⟨fun e he hc hs ht => ?_, fun hc hm h1 => ?_⟩
  · obtain ⟨stage, left⟩ := enterStage_isn (s.echoNoted s.soloStage echo) e.2.1
    rw [stageEnd_next hp h0 hc e he hs ht]
    refine done_of fun u d => ⟨?_, ?_⟩
    · rw [d.isn, stage]
    · rw [d.isn, left, stageLen_echoNoted]
  · rw [stageEnd_fails hp h0 hc hm h1]
    have noted : (s.echoNoted true echo).tmaster = true := (tmaster_congr (rd_echoNoted s true echo (by decide)) rfl).trans hm
    have fault : IsnKept (s.echoNoted true echo) ((s.echoNoted true echo).setFlt P.ISN 0) := (IsnKept.refl _).setFlt
    have master : ((s.echoNoted true echo).setFlt P.ISN 0).tmaster = true := (tmaster_congr (fault.rd _ (by decide)) (by rw [fault.isn])).trans noted
    have f := trainFailed ((s.echoNoted true echo).setFlt P.ISN 0)
    obtain ⟨stage, left⟩ := f.master master
    refine done_of fun u d => ⟨?_, ?_, d.flt (f.steady.flt _ _ (bit_setFlt _ _ (by decide))), d.evt f.event⟩
    · rw [d.isn, stage]
    · rw [d.isn, left]

/-! ### The tone (R242) -/

theorem acqTone_clauses {s : State} (hon : s.lineOn = true) (hp : s.lnk.profact = 3) (hm : s.tmaster = false) (rate : Int) :
    (s.isn.stage = 5 → ∃ u, exec (.acqTone true rate) s = .next u ∧ u.isn.stage = 6) ∧
    (s.isn.stage = 6 → ∃ u, exec (.acqTone false rate) s = .next u ∧ u.isn.stage = 1 ∧ (s.clk.state ≠ .ref → s.clk.state ≠ .osc → u.rd R.CLK_DCOW = s.rd R.CLK_DCOW - wdI rate)) := by
  refine ⟨fun h5 => ?_, fun h6 => ?_⟩
  · have e : s.acqTone true rate = s.isnClear.newSeed.enterStage 6 := by simp [State.acqTone, hp, hm, h5]
    rw [exec_acqTone, if_pos hon, e]
    exact done_of fun u d => by rw [d.isn, (enterStage_isn _ 6).1]
  · have e : s.acqTone false rate = (if s.clk.state = .ref ∨ s.clk.state = .osc then s else s.dcoSet rate).enterStage 1 := by simp [State.acqTone, hp, hm, h6]
    rw [exec_acqTone, if_pos hon, e]
    refine done_of fun u d => ⟨by rw [d.isn, (enterStage_isn _ 1).1], fun hr ho => ?_⟩
    rw [d.rd (by decide), rd_enterStage _ _ (by decide), if_neg (not_or.mpr ⟨hr, ho⟩)]
    exact State.rd_wr_self ..

/-! ### The commands of the pages ISN and ISC -/

theorem loadnow_clauses {s : State} {path : Path} (h : s.Opens path (rCTRL P.ISN)) :
    (∃ u, exec (.loadnow path) s = .next u ∧ Landed s s.loadNow u) ∧
    (s.showtime = true → s.isShadow = false → s.isn.prop = none → ∃ u, exec (.loadnow path) s = .next u ∧ u.isn.prop = some ⟨s.isn.msgSeq, !s.isn.ltRx, 0, 0⟩) := by
  refine ⟨exec_loadnow h, fun hs hn hp => landed_of (exec_loadnow h) fun u k => ?_⟩
  rw [k.isn, State.loadNow, if_pos hs, propose_prop hn hp]

theorem rcv_clauses {s : State} {path : Path} (h : s.Opens path (rCTRL P.ISN)) :
    (s.showtime = true → ∃ u, exec (.rcv path) s = .next u ∧ Landed s s.rcvTrigger u ∧ u.isn.rcvPend = true) ∧
    (s.showtime = false → ∃ u, exec (.rcv path) s = .next u ∧ Landed s s u) := by
  refine ⟨fun hs => landed_of (exec_rcv h) fun u k => ⟨k, ?_⟩, fun hs => landed_of (exec_rcv h) fun u k => ?_⟩
  · rw [k.isn, State.rcvTrigger, if_pos hs]
  · rwa [State.rcvTrigger, if_neg (by simp [hs])] at k

theorem retrain_clause {s : State} {path : Path} (h : s.Opens path (rCTRL P.ISN)) :
    ∃ u, exec (.retrain path) s = .next u ∧ Landed s s.portRestart u ∧ u.isn.stage = 7 ∧ (s.lnk.amp ≤ 25 * fld (s.rd R.LNK_RXCFG) 0 4 → u.lnk.link = .down) := by
  have r := restarted_portRestart s
  refine landed_of (exec_retrain h) fun u k => ⟨k, ?_, fun hq => ?_⟩
  · rw [k.isn, r.stage]
  · rw [k.lnk, r.down hq]

theorem iscClr_clause {s : State} {path : Path} (h : s.Takes path (rCTRL P.ISC)) :
    ∃ u, exec (.iscClr path) s = .next u ∧ Landed s s.iscClear u ∧
      ∀ a ∈ [R.ISC_HDRERR, R.ISC_SYNCMISS, R.ISC_LOCKLOSS, R.ISC_SWAPS, R.ISC_RECONVS, R.ISC_PAYDROP, R.ISC_UNITERR, R.ISC_TAPMISS], u.rd a = 0#32 := by
  refine landed_of (exec_iscClr h) fun u k => ⟨k, fun a ha => ?_⟩
  have plain : ∀ a ∈ [R.ISC_HDRERR, R.ISC_SYNCMISS, R.ISC_LOCKLOSS, R.ISC_SWAPS, R.ISC_RECONVS, R.ISC_PAYDROP, R.ISC_UNITERR, R.ISC_TAPMISS], landTouches a = false := by decide
  rw [k.rd (plain a ha), State.iscClear, rd_foldl_zero, if_pos ha]

/-- Settles O29: the negotiation by what its result chooses, a stage by the one it gives way to, the writes of action bits by what they start. -/
theorem isinasiaTraining : Obligations.IsinasiaTraining := by
  unfold Obligations.IsinasiaTraining
  refine fun s => ⟨fun hon => ⟨negotiation_clause hon, fun page id base more hn ho => ⟨fun m => negDone_isinasia_clause hon base more hn ho, ?_, ?_⟩, trainingStart_clauses hon,
    trainingStageEnd_clauses hon, acqTone_clauses hon⟩, fun path => ⟨fun h => ?_, iscClr_clause⟩⟩
  · rintro hi rfl
    exact negDone_base_clause hon page more hn ho hi
  · rintro hi rfl
    exact negDone_again_clause hon page more hn ho hi
  · obtain ⟨now, proposed⟩ := loadnow_clauses h
    obtain ⟨asked, idle⟩ := rcv_clauses h
    exact ⟨now, proposed, asked, idle, retrain_clause h⟩

end Sys2Proof.Machine

namespace Sys2Proof.Machine

/-! ## IsinasiaMessages -/

theorem exec_loadPropose (s : State) : exec .loadPropose s = s.done (if s.lineOn then s.withMsg 1 State.onPropose else s) := rfl
theorem exec_ack (s : State) : exec .ack s = s.done (if s.lineOn then s.withMsg 2 State.onAck else s) := rfl
theorem exec_seed (s : State) : exec .seed s = s.done (if s.lineOn then s.withMsg 3 State.onSeed else s) := rfl
theorem exec_lqiReport (s : State) : exec .lqiReport s = s.done (if s.lineOn then s.withMsg 4 State.onLqi else s) := rfl
theorem exec_lqiReportSend (s : State) : exec .lqiReportSend s = s.done (if s.lineOn then s.sendLqi else s) := rfl
theorem exec_swapFlip (s : State) : exec .swapFlip s = s.done (if s.lineOn then s.swapFlip else s) := rfl
theorem exec_proposalTimeout (s : State) : exec .proposalTimeout s = s.done (if s.lineOn then s.propTimeout else s) := rfl
theorem exec_loadingPeriod (s : State) : exec .loadingPeriod s = s.done (if s.lineOn then s.loadPeriod else s) := rfl

/-- The state with what is left of the queue of messages. -/
def State.popped (s : State) (r : List (List Byte)) : State := { s with isn := { s.isn with msgq := r } }

/-- The first message of a type is taken from the queue and handled. -/
theorem withMsg_popped {s : State} {ty : Nat} {m : List Byte} {r : List (List Byte)} (h : popMsg ty s.isn.msgq = some (m, r)) (f : State → List Byte → State) :
    s.withMsg ty f = f (s.popped r) m := by
  simp only [State.withMsg, h]
  rfl

/-! ### A proposal (R267) -/

/-- A countdown runs: SWP counts, or the flip is due. -/
def IsnSt.counting (i : IsnSt) : Prop := 1 ≤ i.cd ∧ i.cd ≤ 3 ∨ i.cd = 6

theorem onPropose_counting {s : State} (h : s.isn.counting) (m : List Byte) : s.onPropose m = s.sendAck (msgOct m 1) 1 := by
  have on : (decide (1 ≤ s.isn.cd ∧ s.isn.cd ≤ 3) || s.isn.cd == 6) = true := by simpa [IsnSt.counting] using h
  simp only [State.onPropose, on, if_true]

/-- The table of a proposal that fits, in the other slot, with its number. -/
def State.tableTaken (s : State) (seq : Nat) (slot : Bool) (loads : List Nat) : State :=
  { s.setLoads 0 slot loads with isn := { (s.setLoads 0 slot loads).isn with cdSeq := some seq, cd := if (s.setLoads 0 slot loads).isn.cd = 4 then 4 else 5, cdSlot := slot } }

/-- A proposal that fits is accepted. -/
theorem onPropose_fits {s : State} {m : List Byte} (hc : ¬ s.isn.counting) (hn : s.isShadow = false) (hs : msgOct m 2 ≤ 1) (hl : (msgOct m 2 == 1) ≠ s.isn.ltTx)
    (hb : (octLoads ((m.drop 3).take 29)).any (fun b => decide (b > s.isnBmax)) = false) :
    s.onPropose m = (s.tableTaken (msgOct m 1) (msgOct m 2 == 1) (octLoads ((m.drop 3).take 29))).sendAck (msgOct m 1) 0 := by
  have off : (decide (1 ≤ s.isn.cd ∧ s.isn.cd ≤ 3) || s.isn.cd == 6) = false := by simpa [IsnSt.counting] using hc
  have fits : ¬ (decide (msgOct m 2 > 1) || (msgOct m 2 == 1) == s.isn.ltTx || (octLoads ((m.drop 3).take 29)).any (fun b => decide (b > s.isnBmax))) = true := by
    simp [hb, hl, hs]
  have alone : (s.setLoads 0 (msgOct m 2 == 1) (octLoads ((m.drop 3).take 29))).isShadow = false := ((sends_setLoads s 0 _ _).keep State.isShadow).trans hn
  unfold State.onPropose
  extract_lets seq slot loads counting t _ t2
  have alone2 : t2.isShadow = false := alone
  rw [if_neg (by simp [counting, off]), if_neg (by simpa [slot, loads] using fits), if_neg (by simp [alone2])]
  rfl

theorem loadPropose_clauses {s : State} (hon : s.lineOn = true) {m : List Byte} {r : List (List Byte)} (h : popMsg 1 s.isn.msgq = some (m, r)) :
    (s.isn.counting → ∃ u, exec .loadPropose s = .next u ∧ u.isn.msgq = r ∧ u.isn.cd = s.isn.cd ∧ u.mem = s.mem) ∧
    (¬ s.isn.counting → s.isShadow = false → msgOct m 2 ≤ 1 → (msgOct m 2 == 1) ≠ s.isn.ltTx → (octLoads ((m.drop 3).take 29)).any (fun b => decide (b > s.isnBmax)) = false →
      ∃ u, exec .loadPropose s = .next u ∧ u.isn.msgq = r ∧ u.isn.cd = (if s.isn.cd = 4 then 4 else 5) ∧ u.isn.cdSlot = (msgOct m 2 == 1) ∧
        (true, mkMsg [2#8, BitVec.ofNat 8 (msgOct m 1), 0#8]) ∈ u.isn.units) := by
  rw [exec_loadPropose, if_pos hon, withMsg_popped h]
  refine ⟨fun hc => ?_, fun hc hn hs hl hb => ?_⟩
  · have counts : (s.popped r).isn.counting := hc
    obtain ⟨units, e⟩ := sendMsg_units (s.popped r) [2#8, BitVec.ofNat 8 (msgOct m 1), BitVec.ofNat 8 1]
    rw [onPropose_counting counts, State.sendAck, e]
    exact done_of fun u d => ⟨congrArg IsnSt.msgq d.isn, (congrArg IsnSt.cd d.isn :), d.mem⟩
  · have idle : ¬ (s.popped r).isn.counting := hc
    have tables := sends_setLoads (s.popped r) 0 (msgOct m 2 == 1) (octLoads ((m.drop 3).take 29))
    have alone : ((s.popped r).tableTaken (msgOct m 1) (msgOct m 2 == 1) (octLoads ((m.drop 3).take 29))).isShadow = false := (tables.keep State.isShadow).trans hn
    rw [onPropose_fits idle hn hs hl hb, State.sendAck, sendMsg_sent alone]
    refine done_of fun u d => ⟨?_, ?_, ?_, ?_⟩
    · rw [d.isn]; exact tables.keep (·.isn.msgq)
    · rw [d.isn]; exact congrArg (fun n : Nat => if n = 4 then 4 else 5) (tables.keep (·.isn.cd))
    · rw [d.isn]; rfl
    · rw [d.isn]; exact mem_queued _ _

/-! ### Answers (R268, R269) -/

/-- The state with a proposal, or none. -/
def State.proposing (s : State) (p : Option Prop5) : State := { s with isn := { s.isn with prop := p } }

/-- The ACK of the proposal that waits. -/
theorem onAck_prop {s : State} {p : Prop5} {m : List Byte} (hp : s.isn.prop = some p) (hs : p.seq = msgOct m 1) (ha : p.ack = 0) :
    s.onAck m = if msgOct m 2 = 0 then s.proposing (some { p with ack := 1 }) else if msgOct m 2 = 1 then s.proposing (some { p with ack := 2 }) else (s.proposing none).raise P.ISN 5 := by
  simp only [State.onAck, hp, hs, ha, and_self, if_true]
  rfl

/-- The ACK of the seed that waits. -/
theorem onAck_seed {s : State} {m : List Byte} (hp : s.isn.prop = none) (hs : s.isn.seedSeq = some (msgOct m 1)) (h0 : msgOct m 2 = 0) :
    s.onAck m = { s with isn := { s.isn with seedAck := true } } := by
  simp only [State.onAck, hp, hs, h0, if_true]

theorem ack_clauses {s : State} (hon : s.lineOn = true) {m : List Byte} {r : List (List Byte)} (h : popMsg 2 s.isn.msgq = some (m, r)) :
    (∀ p, s.isn.prop = some p → p.seq = msgOct m 1 → p.ack = 0 →
      (msgOct m 2 = 0 → ∃ u, exec .ack s = .next u ∧ u.isn.msgq = r ∧ u.isn.prop = some { p with ack := 1 }) ∧
      (msgOct m 2 = 1 → ∃ u, exec .ack s = .next u ∧ u.isn.msgq = r ∧ u.isn.prop = some { p with ack := 2 }) ∧
      (2 ≤ msgOct m 2 → ∃ u, exec .ack s = .next u ∧ u.isn.msgq = r ∧ u.isn.prop = none ∧ u.bit (rEVT P.ISN) 5 = true)) ∧
    (s.isn.prop = none → s.isn.seedSeq = some (msgOct m 1) → msgOct m 2 = 0 → ∃ u, exec .ack s = .next u ∧ u.isn.msgq = r ∧ u.isn.seedAck = true) := by
  rw [exec_ack, if_pos hon, withMsg_popped h]
  refine ⟨fun p hp hs ha => ?_, fun hp hs h0 => ?_⟩
  · have hp' : (s.popped r).isn.prop = some p := hp
    rw [onAck_prop hp' hs ha]
    refine ⟨fun h0 => ?_, fun h1 => ?_, fun h2 => ?_⟩
    · rw [if_pos h0]
      exact done_of fun u d => ⟨congrArg IsnSt.msgq d.isn, congrArg IsnSt.prop d.isn⟩
    · rw [if_neg (by omega), if_pos h1]
      exact done_of fun u d => ⟨congrArg IsnSt.msgq d.isn, congrArg IsnSt.prop d.isn⟩
    · rw [if_neg (by omega), if_neg (by omega)]
      have isn : ∀ t : State, (t.raise P.ISN 5).isn = t.isn := fun t => isn_of_quiet (quiet_raise t P.ISN 5)
      refine done_of fun u d => ⟨?_, ?_, d.evt (bit_raise _ _ _ (by decide))⟩
      · rw [d.isn, isn]; rfl
      · rw [d.isn, isn]; rfl
  · rw [onAck_seed (s := s.popped r) hp hs h0]
    exact done_of fun u d => ⟨congrArg IsnSt.msgq d.isn, congrArg IsnSt.seedAck d.isn⟩

/-! ### A seed and a report (R269, R270) -/

/-- The state with the seed of the partner, to come into force with its LT, and the answer it had. -/
def State.seeded (s : State) (v seq : Nat) : State := { s with isn := { s.isn with rxSeedNext := some v, seedDone := some (seq, 0) } }

theorem onSeed_stored {s : State} {m : List Byte} (hd : s.isn.seedDone = none) (hx : s.inX = true) (hv : beNat ((m.drop 2).take 3) % 2 ^ 23 ≠ 0) :
    s.onSeed m = (s.seeded (beNat ((m.drop 2).take 3) % 2 ^ 23) (msgOct m 1)).sendAck (msgOct m 1) 0 := by
  have taken : (s.inX && beNat ((m.drop 2).take 3) % 2 ^ 23 != 0) = true := by
    rw [hx, Bool.true_and, bne_iff_ne]
    exact hv
  simp only [State.onSeed, hd, taken, if_true]
  rfl

theorem seed_clause {s : State} (hon : s.lineOn = true) {m : List Byte} {r : List (List Byte)} (h : popMsg 3 s.isn.msgq = some (m, r)) (hd : s.isn.seedDone = none) (hx : s.inX = true)
    (hv : beNat ((m.drop 2).take 3) % 2 ^ 23 ≠ 0) :
    ∃ u, exec .seed s = .next u ∧ u.isn.msgq = r ∧ u.isn.rxSeedNext = some (beNat ((m.drop 2).take 3) % 2 ^ 23) ∧ u.isn.seedDone = some (msgOct m 1, 0) := by
  obtain ⟨units, e⟩ := sendMsg_units ((s.popped r).seeded (beNat ((m.drop 2).take 3) % 2 ^ 23) (msgOct m 1)) [2#8, BitVec.ofNat 8 (msgOct m 1), BitVec.ofNat 8 0]
  rw [exec_seed, if_pos hon, withMsg_popped h, onSeed_stored (s := s.popped r) hd hx hv, State.sendAck, e]
  exact done_of fun u d => ⟨congrArg IsnSt.msgq d.isn, congrArg IsnSt.rxSeedNext d.isn, congrArg IsnSt.seedDone d.isn⟩

theorem lqiReport_clause {s : State} (hon : s.lineOn = true) {m : List Byte} {r : List (List Byte)} (h : popMsg 4 s.isn.msgq = some (m, r)) :
    ∃ u, exec .lqiReport s = .next u ∧ u.isn.msgq = r ∧ u.rd R.ISC_FARLQI = wd (msgOct m 1 + beNat ((m.drop 2).take 2) * 256 + msgOct m 4 % 64 * 2 ^ 24) := by
  rw [exec_lqiReport, if_pos hon, withMsg_popped h]
  exact done_of fun u d => ⟨congrArg IsnSt.msgq d.isn, (d.rd (by decide)).trans (State.rd_wr_self ..)⟩

theorem lqiReportSend_clause {s : State} (hon : s.lineOn = true) (hs : s.showtime = true) (hn : s.isShadow = false) :
    ∃ u, exec .lqiReportSend s = .next u ∧ u.isn.units.length = s.isn.units.length + 1 ∧ Ended s s.sendLqi u := by
  have sent : s.sendLqi.isn.units.length = s.isn.units.length + 1 := by
    rw [State.sendLqi, if_pos hs, sendMsg_sent hn]
    exact queued_length _ _
  rw [exec_lqiReportSend, if_pos hon]
  exact done_of fun u d => ⟨by rw [d.isn, sent], d⟩

/-! ### The flip (R247, R267) -/

/-- The state with LT at the new slot, and in stage X with the new seed in force and the transmitter in showtime. -/
def State.flipped (s : State) : State :=
  { (if s.isn.stage = 4 then s.wr R.ISN_TXSEED (wd s.isn.seed) else s) with isn := { s.isn with cd := 0, ltTx := s.isn.cdSlot, stage := if s.isn.stage = 4 then 0 else s.isn.stage } }

theorem swapFlip_due {s : State} (h : s.isn.cd = 6) : s.swapFlip = s.flipped.isnLink := by
  unfold State.swapFlip State.flipped
  rw [if_neg (by simp [h])]
  by_cases h4 : s.isn.stage = 4
  · simp only [h4, if_true, State.wr_isn]
  · simp only [h4, if_false]

theorem swapFlip_idle {s : State} (h : s.isn.cd ≠ 6) : s.swapFlip = s := if_pos h

theorem swapFlip_clauses {s : State} (hon : s.lineOn = true) (h : s.isn.cd = 6) :
    (s.isn.stage = 4 → ∃ u, exec .swapFlip s = .next u ∧ u.isn.cd = 0 ∧ u.isn.ltTx = s.isn.cdSlot ∧ u.isn.stage = 0 ∧ u.rd R.ISN_TXSEED = wd s.isn.seed) ∧
    (s.isn.stage ≠ 4 → ∃ u, exec .swapFlip s = .next u ∧ u.isn.cd = 0 ∧ u.isn.ltTx = s.isn.cdSlot ∧ u.isn.stage = s.isn.stage) := by
  have k : IsnKept s.flipped s.flipped.isnLink := (IsnKept.refl _).isnLink
  rw [exec_swapFlip, if_pos hon, swapFlip_due h]
  refine ⟨fun h4 => done_of fun u d => ?_, fun h4 => done_of fun u d => ?_⟩
  · have seed : s.flipped.rd R.ISN_TXSEED = wd s.isn.seed := by
      have e : s.flipped.rd R.ISN_TXSEED = (if s.isn.stage = 4 then s.wr R.ISN_TXSEED (wd s.isn.seed) else s).rd R.ISN_TXSEED := rfl
      rw [e, if_pos h4, State.rd_wr_self]
    rw [d.isn, k.isn, d.rd (by decide), k.rd _ (by decide), seed]
    exact ⟨rfl, rfl, if_pos h4, rfl⟩
  · rw [d.isn, k.isn]
    exact ⟨rfl, rfl, if_neg h4⟩

/-! ### A proposal without an answer (R265, R268) -/

theorem propTimeout_again {s : State} {p : Prop5} (hp : s.isn.prop = some p) (ha : p.ack = 0) (ht : p.tries < 3) :
    s.propTimeout = (s.proposing (some { p with tries := p.tries + 1 })).sendProp { p with tries := p.tries + 1 } := by
  simp only [State.propTimeout, hp, ha, ht, ne_eq, not_true_eq_false, if_false, if_true]
  rfl

theorem propTimeout_fails {s : State} {p : Prop5} (hp : s.isn.prop = some p) (ha : p.ack = 0) (ht : 3 ≤ p.tries) : s.propTimeout = (s.proposing none).raise P.ISN 5 := by
  simp only [State.propTimeout, hp, ha, Nat.not_lt.mpr ht, ne_eq, not_true_eq_false, if_false]
  rfl

theorem proposalTimeout_clauses {s : State} (hon : s.lineOn = true) {p : Prop5} (hp : s.isn.prop = some p) (ha : p.ack = 0) :
    (p.tries < 3 → ∃ u, exec .proposalTimeout s = .next u ∧ u.isn.prop = some { p with tries := p.tries + 1 }) ∧
    (3 ≤ p.tries → ∃ u, exec .proposalTimeout s = .next u ∧ u.isn.prop = none ∧ u.bit (rEVT P.ISN) 5 = true) := by
  rw [exec_proposalTimeout, if_pos hon]
  refine ⟨fun ht => ?_, fun ht => ?_⟩
  · rw [propTimeout_again hp ha ht, State.sendProp]
    obtain ⟨units, e⟩ := sendMsg_units (s.proposing (some { p with tries := p.tries + 1 }))
      ([1#8, BitVec.ofNat 8 p.seq, BitVec.ofNat 8 p.slot.toNat] ++ loadOcts (usable.map ((s.proposing (some { p with tries := p.tries + 1 })).rxLoad p.slot)))
    rw [e]
    exact done_of fun u d => congrArg IsnSt.prop d.isn
  · rw [propTimeout_fails hp ha ht]
    refine done_of fun u d => ⟨?_, d.evt (bit_raise _ _ _ (by decide))⟩
    rw [d.isn, isn_of_quiet (quiet_raise _ _ _)]
    rfl

theorem loadingPeriod_clause {s : State} (hon : s.lineOn = true) (hs : s.showtime = true) (hn : s.isShadow = false) (hc : s.fd R.ISN_LOADCFG 16 16 ≠ 0) (ht : s.calcTable ≠ s.rxTable)
    (hp : s.isn.prop = none) : ∃ u, exec .loadingPeriod s = .next u ∧ u.isn.prop = some ⟨s.isn.msgSeq, !s.isn.ltRx, 0, 0⟩ := by
  rw [exec_loadingPeriod, if_pos hon, State.loadPeriod, if_pos (by simp [hs, hc, ht])]
  exact done_of fun u d => by rw [d.isn, propose_prop hn hp]

/-- Settles O30: each message by what its handling makes of the queue and of what it answers, the flip by its new slot, a proposal by how often it was sent. -/
theorem isinasiaMessages : Obligations.IsinasiaMessages := by
  unfold Obligations.IsinasiaMessages
  exact fun s hon => ⟨fun m r h => loadPropose_clauses hon h, fun m r h => ack_clauses hon h, fun m r h => seed_clause hon h, fun m r h => lqiReport_clause hon h,
    lqiReportSend_clause hon, fun h => (swapFlip_clauses hon h).1, fun h => (swapFlip_clauses hon h).2, fun p => proposalTimeout_clauses hon, loadingPeriod_clause hon⟩

end Sys2Proof.Machine

namespace Sys2Proof.Machine

/-! ## The aligner: what the operations beside it leave of it -/

/-- What the aligner holds: LOCKED, its candidates, misses in a row, the expected position, the header and whether it told of low-power idle. -/
def IsnSt.alignment (i : IsnSt) : Bool × List Cand × Nat × Nat × Nat × Bool := (i.locked, i.cands, i.miss, i.expect, i.rxHdr, i.lpiRx)

/-- The registers of the aligner: the distance it detects by and the count of locks lost. -/
def alignReg (a : Nat) : Bool := a == R.ISN_RXCFG || a == R.ISC_LOCKLOSS

/-- What an operation beside the aligner keeps. -/
structure AlignKept (s t : State) : Prop where
  alignment : t.isn.alignment = s.isn.alignment
  evt : ∀ q n, s.bit (rEVT q) n = true → t.bit (rEVT q) n = true
  rd : ∀ a, alignReg a = true → t.rd a = s.rd a

theorem alignReg_isn {a : Nat} (h : alignReg a = true) : isnReg a = true := by
  simp only [alignReg, Bool.or_eq_true, beq_iff_eq] at h
  rcases h with rfl | rfl <;> decide

namespace AlignKept

/-- A change of fields beside the aligner. -/
theorem of_regs {s t : State} (ha : t.isn.alignment = s.isn.alignment := by exact rfl) (hr : t.regs = s.regs := by exact rfl) : AlignKept s t :=
  ⟨ha, fun q n hb => by simpa only [State.bit, State.rd, hr] using hb, fun a _ => by simp only [State.rd, hr]⟩

theorem refl (s : State) : AlignKept s s := .of_regs

theorem trans {s t u : State} (h : AlignKept s t) (k : AlignKept t u) : AlignKept s u :=
  ⟨k.alignment.trans h.alignment, fun q n hb => k.evt q n (h.evt q n hb), fun a ha => (k.rd a ha).trans (h.rd a ha)⟩

theorem ite {s t u : State} {c : Prop} [Decidable c] (h : AlignKept s t) (k : AlignKept s u) : AlignKept s (if c then t else u) := by
  split_ifs <;> assumption

theorem of_kept {s t : State} (k : IsnKept s t) : AlignKept s t := ⟨congrArg IsnSt.alignment k.isn, k.steady.evt, fun a ha => k.rd a (alignReg_isn ha)⟩

theorem of_sends {s t : State} (k : Sends s t) : AlignKept s t := .of_regs (k.keep (·.isn.alignment)) (k.keep (·.regs))

variable {s t : State} (h : AlignKept s t)
include h

theorem locked : t.isn.locked = s.isn.locked := congrArg (·.1) h.alignment
theorem cands : t.isn.cands = s.isn.cands := congrArg (·.2.1) h.alignment
theorem miss : t.isn.miss = s.isn.miss := congrArg (·.2.2.1) h.alignment
theorem expect : t.isn.expect = s.isn.expect := congrArg (·.2.2.2.1) h.alignment
theorem rxHdr : t.isn.rxHdr = s.isn.rxHdr := congrArg (·.2.2.2.2.1) h.alignment
theorem lpiRx : t.isn.lpiRx = s.isn.lpiRx := congrArg (·.2.2.2.2.2) h.alignment
theorem detected (w : Win) : t.detected w = s.detected w := congrArg (fun v => decide (w.dist ≤ fld v 0 3)) (h.rd R.ISN_RXCFG rfl)

/-- The same change of the aligner on both sides leaves what is kept. -/
theorem withIsn {i j : IsnSt} (e : j.alignment = i.alignment) : AlignKept { s with isn := i } { t with isn := j } := ⟨e, h.evt, h.rd⟩

theorem raise {p n : Nat} : AlignKept s (t.raise p n) := h.trans (.of_kept (IsnKept.refl t).raise)
theorem raiseIf {c : Bool} {p n : Nat} : AlignKept s (t.raiseIf c p n) := h.trans (.of_kept (IsnKept.refl t).raiseIf)
theorem isnLink : AlignKept s t.isnLink := h.trans (.of_kept (IsnKept.refl t).isnLink)
theorem propose {l : List Nat} : AlignKept s (t.propose l) := h.trans (.of_sends (sends_propose t l))

theorem wr {a : Nat} {v : Word} (ha : alignReg a = false := by decide) (he : a % 256 ≠ 0x0C := by decide) : AlignKept s (t.wr a v) := by
  refine h.trans ⟨rfl, fun q n hb => ?_, fun b hb => State.rd_wr_ne _ _ (by rintro rfl; simp [ha] at hb)⟩
  have : rEVT q ≠ a := by rintro rfl; exact he (by unfold rEVT; omega)
  simpa [State.bit, State.rd_wr_ne _ _ this] using hb

theorem inc {a : Nat} (ha : alignReg a = false := by decide) (he : a % 256 ≠ 0x0C := by decide) : AlignKept s (t.inc a) := h.wr ha he

omit h in
theorem foldl {α : Type} {f : State → α → State} (l : List α) {s t : State} (h : AlignKept s t) (k : ∀ t x, AlignKept s t → AlignKept s (f t x)) : AlignKept s (l.foldl f t) := by
  induction l generalizing t with
  | nil => exact h
  | cons x l ih => exact ih (k t x h)

/-! ### Measurement (R256, R263, R264, R275 to R277) -/

theorem setCarr {k j lo w n : Nat} : AlignKept s (t.setCarr k j lo w n) := by
  obtain ⟨mem, e⟩ : ∃ mem, t.setCarr k j lo w n = { t with mem := mem } := wrW_mem t _ _
  rw [e]
  exact h.trans .of_regs

theorem snrTake {k : Nat} {m : Meas} : AlignKept s (t.snrTake k m) := .setCarr (h.trans .of_regs)

theorem eqTake {first : Bool} {k : Nat} {m : Meas} : AlignKept s (t.eqTake first k m) := by
  obtain ⟨mem, e⟩ : ∃ mem, t.eqTake first k m = { t with mem := mem } := wrW_mem t _ _
  rw [e]
  exact h.trans .of_regs

theorem lqiEval : AlignKept s t.lqiEval := .raiseIf (h.trans .of_regs)

theorem lqiWrite : AlignKept s t.lqiWrite := by
  unfold State.lqiWrite
  exact .lqiEval (.wr (.foldl _ h fun _ _ k => k.setCarr))

theorem measure {rx : SfRx} : AlignKept s (t.measure rx) := .lqiWrite (.foldl _ h fun _ _ k => k.snrTake.eqTake)

theorem measureRev {rx : SfRx} : AlignKept s (t.measureRev rx) := by
  unfold State.measureRev
  extract_lets first f l r _
  have estimated (l : List (Nat × Meas)) (a : State × List Nat) (k : AlignKept s a.1) : AlignKept s (l.foldl (fun (a : State × List Nat) e =>
      ((if f then a.1.snrTake e.1 e.2 else a.1).eqTake (first && !a.2.contains e.1) e.1 e.2, e.1 :: a.2)) a).1 := by
    induction l generalizing a with
    | nil => exact k
    | cons e l ih => exact ih _ (.eqTake (.ite k.snrTake k))
  exact .ite h ((estimated l (t, []) h).trans .of_regs)

theorem dropCheck : AlignKept s t.dropCheck := .ite h.propose h
theorem rcvTrigger : AlignKept s t.rcvTrigger := .ite (h.trans .of_regs) h
theorem gainTrack {d : Int} : AlignKept s (t.gainTrack d) := .ite (.ite h (h.trans .of_regs)) (h.trans .of_regs)
theorem gainSearch {start : Nat} {peak : List Int} {found : List Nat} : AlignKept s (t.gainSearch start peak found) := h.trans .of_regs
theorem dcoCorrect {lim : Int} : AlignKept s (t.dcoCorrect lim) := .wr (h.trans .of_regs)

/-! ### The twin's tap (R279 to R283) -/

theorem tapMsg {m : List Byte} : AlignKept s (t.tapMsg m) := .ite (h.trans (.of_sends (sends_setLoads ..))) (.ite (h.trans .of_regs) (.ite (h.trans .of_regs) h))

theorem tapFollow {r : TapRec} : AlignKept s (t.tapFollow r) := by
  unfold State.tapFollow
  extract_lets st swp cd s1 _ s2 n bits buf u _ s3
  have seeded : AlignKept s s1 := .ite h.wr h
  have followed : AlignKept s s2 := seeded.trans .of_regs
  exact .ite h (.ite followed (.foldl _ (followed.trans .of_regs) fun _ _ k => k.tapMsg))

theorem tapTake {aligned : Bool} : AlignKept s (t.tapTake aligned) := by
  unfold State.tapTake
  extract_lets r s1
  have dropped : AlignKept s s1 := h.trans .of_regs
  clear_value r s1
  cases r with
  | some r => exact .ite h dropped.tapFollow
  | none => exact .ite h (.ite dropped (.raise (.inc (dropped.trans .of_regs))))

/-! ### The payload (R228 to R230, R235) -/

theorem deliver {u : Bool × List Byte} {stamp : LineTime} : AlignKept s (t.deliver u stamp) := by
  have checked : AlignKept s (t.rxCheck u.2 stamp t.lt 0) := h.trans (.of_kept (IsnKept.refl t).rxCheck)
  exact .ite (.ite (h.trans .of_regs) h.inc) checked

end AlignKept
end Sys2Proof.Machine

namespace Sys2Proof.Machine

namespace AlignKept
variable {s t : State} (h : AlignKept s t)
include h

theorem delivered (us : List (Bool × List Byte)) (first stamp : LineTime) :
    AlignKept s (us.foldl (fun (a : State × LineTime) u => (a.1.deliver u a.2, stamp)) (t, first)).1 := by
  induction us generalizing t first with
  | nil => exact h
  | cons u us ih => exact ih h.deliver stamp

theorem payload {oct : List Byte} {fptr : Option Nat} {stamp : LineTime} : AlignKept s (t.payload oct fptr stamp) := by
  unfold State.payload
  extract_lets start drop resume r s1
  have started (t : State) (l : List Byte) (k : AlignKept s t) : AlignKept s (start t l).1 := (k.delivered _ _ stamp).trans .of_regs
  have dropped (t : State) (k : AlignKept s t) : AlignKept s (drop t) := k.trans .of_regs
  have resumed (t : State) (p : Nat) (k : AlignKept s t) : AlignKept s (resume t p) := by
    have begun : AlignKept s (start { t with isn := { t.isn with rxBuf := [], skip := false } } (oct.drop p)).1 := started _ _ (k.trans .of_regs)
    exact .ite (dropped _ begun.inc) begun
  have k1 : AlignKept s s1 := dropped _ (started t oct h).inc
  cases fptr with
  | none => exact .ite h (.ite k1 (started t oct h))
  | some p => exact .ite (.ite (resumed t p h) h) (.ite (.ite (resumed _ p k1) k1) (started t oct h))

end AlignKept

/-! ## The receiver (R257 to R261) -/

/-- The state with a header taken: its number, its slots, low-power idle and reconvergence (R243, R248, R261). -/
def State.headerTaken (s : State) (h : Nat) : State :=
  { s with isn := { s.isn with
    rxHdr := h, rxSfn := hfld h 38 12, ltRx := hfld h 37 1 == 1, lpiRx := hfld h 34 1 == 1, rcvRx := s.isn.rcvRx || (hfld h 33 1 == 1 && s.isn.done) } }

theorem alignKept_sfValid (s : State) (h : Nat) (rx : SfRx) (lost : Bool) : AlignKept (s.headerTaken h) (s.sfValid h rx lost) := by
  unfold State.sfValid
  extract_lets lt stage _ s0 _ s1 s2 _ s3 _ s4 _ s5
  have k0 : AlignKept (s.headerTaken h) s0 := .refl _
  have k1 : AlignKept (s.headerTaken h) s1 := .ite (k0.trans .of_regs) k0
  have k2 : AlignKept (s.headerTaken h) s2 := .ite k1.rcvTrigger k1
  have k3 : AlignKept (s.headerTaken h) s3 := by
    unfold s3
    split
    · exact .ite (.wr (k2.trans .of_regs)) k2
    · exact k2
  have k4 : AlignKept (s.headerTaken h) s4 := by
    unfold s4
    split
    · exact .ite (.ite (.propose (k3.trans .of_regs)) k3) (.ite (.raise (.inc (k3.trans .of_regs))) k3)
    · exact k3
  have k5 : AlignKept (s.headerTaken h) s5 := .ite (.raise (k4.trans .of_regs)) k4
  exact .ite k5.isnLink.payload k5.isnLink

/-- A residual echo of 10 dB and more leaves the port as it is (R252, R254). -/
theorem echoCheck_passes (s : State) {rx : SfRx} (h : 40 ≤ rx.echo) : (s.echoCheck rx).2 = false ∧ AlignKept s (s.echoCheck rx).1 := by
  unfold State.echoCheck
  extract_lets s1 s2 high run age fire _ s3
  have noted : AlignKept s s1 := (AlignKept.refl s).wr
  have judged : AlignKept s s2 := .ite (noted.trans (.of_kept (IsnKept.refl s1).setFlt.detect)) noted
  have counted : AlignKept s s3 := judged.trans .of_regs
  have calm : ¬(s2.showtime && !s2.isShadow && decide (rx.echo < 40)) = true := by simp [h]
  rw [if_neg calm]
  exact ⟨rfl, .ite counted.rcvTrigger counted⟩

/-! ### The search (R258) -/

/-- The detections of a superframe's time. -/
def State.dets (s : State) (rx : SfRx) : List Win := mergeWins [] (rx.wins.filter s.detected)

/-- What becomes of the candidates. -/
def State.candEnds (s : State) (rx : SfRx) : List CandEnd := s.isn.cands.map (candStep (s.dets rx) rx.wins (rx.wins.foldl (fun m w => max m w.pos) 0))

/-- The detections that belong to no candidate. -/
def State.fresh (s : State) (rx : SfRx) : List Win := (s.dets rx).filter fun w => s.isn.cands.all fun c => w.pos != c.pos && w.pos != c.pos + 800

/-- The state locked, the next superframe expected at a position. -/
def State.lockedAt (s : State) (pos : Nat) (stamp : LineTime) : State :=
  { s with isn := { s.isn with locked := true, cands := [], miss := 0, expect := pos, rxStart := stamp } }

theorem sfSearch_searches {s : State} {rx : SfRx} (h : firstLock (s.candEnds rx) = none) :
    (s.sfSearch rx).isn.locked = s.isn.locked ∧
    (s.sfSearch rx).isn.cands = (kept (s.candEnds rx) ++ (s.fresh rx).map fun w => (⟨w.pos, false⟩ : Cand)).take 8 := by
  unfold State.sfSearch
  extract_lets found dets top ends s1
  have unlocked : firstLock ends = none := h
  rw [unlocked]
  have kept : AlignKept s ((s1.tapTake false).measureRev rx) := (AlignKept.refl s).gainSearch.tapTake.measureRev
  exact ⟨kept.locked, rfl⟩

/-- Locking is the same on both sides. -/
theorem AlignKept.lockedAt {s t : State} (h : AlignKept s t) (pos : Nat) (stamp : LineTime) : AlignKept (s.lockedAt pos stamp) (t.lockedAt pos stamp) :=
  h.withIsn (by simp only [IsnSt.alignment, h.rxHdr, h.lpiRx])

theorem AlignKept.headerTaken {s t : State} (h : AlignKept s t) (hdr : Nat) : AlignKept (s.headerTaken hdr) (t.headerTaken hdr) :=
  h.withIsn (by simp only [IsnSt.alignment, h.locked, h.cands, h.miss, h.expect])

/-- A superframe that is measured and whose header is taken. -/
theorem AlignKept.measured (s : State) (rx : SfRx) (h : Nat) (lost : Bool) : AlignKept (s.headerTaken h) (((s.measure rx).measureRev rx).sfValid h rx lost).isnLink :=
  (((AlignKept.refl s).measure.measureRev.headerTaken h).trans (alignKept_sfValid ..)).isnLink

theorem sfSearch_locks {s : State} {rx : SfRx} {p h : Nat} (e : firstLock (s.candEnds rx) = some (p, h)) :
    ∃ pos, AlignKept ((s.lockedAt pos rx.stamp).headerTaken h) (s.sfSearch rx) ∧ (s.sfSearch rx).bit (rEVT P.ISN) 0 = true := by
  unfold State.sfSearch
  extract_lets found dets top ends s1 lost s2
  have lock : firstLock ends = some (p, h) := e
  rw [lock]
  have noticed : AlignKept s s2 := (AlignKept.refl s).gainSearch.tapTake
  have reported := (noticed.lockedAt (p + 800 + rx.slip).toNat rx.stamp).raise (p := P.ISN) (n := 0)
  have valid := AlignKept.measured ((s2.lockedAt (p + 800 + rx.slip).toNat rx.stamp).raise P.ISN 0) rx h lost
  exact ⟨_, (reported.headerTaken h).trans valid, valid.evt _ _ (bit_raise _ P.ISN 0 (by decide))⟩

/-! ### In LOCKED (R259, R260) -/

/-- The state that expects its next superframe at a position, after so many misses in a row. -/
def State.trackedAt (s : State) (pos miss : Nat) : State := { s with isn := { s.isn with expect := pos, miss := miss } }

/-- The position of the superframe that follows. -/
def State.nextPos (s : State) (rx : SfRx) : Nat := (s.isn.expect + 800 + rx.slip).toNat

/-- The state after so many misses in a row. -/
def State.missed (s : State) (miss : Nat) : State := { s with isn := { s.isn with miss := miss } }

theorem AlignKept.trackedAt {s t : State} (h : AlignKept s t) (pos miss : Nat) : AlignKept (s.trackedAt pos miss) (t.trackedAt pos miss) :=
  h.withIsn (by simp only [IsnSt.alignment, h.locked, h.cands, h.rxHdr, h.lpiRx])

theorem AlignKept.missed {s t : State} (h : AlignKept s t) (miss : Nat) : AlignKept (s.missed miss) (t.missed miss) :=
  h.withIsn (by simp only [IsnSt.alignment, h.locked, h.cands, h.expect, h.rxHdr, h.lpiRx])

/-- A superframe with its S detected and its header whole is a hit; one with neither, outside low-power idle and after three misses, ends the lock. -/
theorem sfLocked_cases (s : State) (rx : SfRx) :
    (∀ w h, rx.wins.find? (fun w => w.pos == s.isn.expect) = some w → s.detected w = true → w.hdr = some h → hcrcOk h = true →
      AlignKept ((s.trackedAt (s.nextPos rx) 0).headerTaken h) (s.sfLocked rx)) ∧
    (rx.wins.find? (fun w => w.pos == s.isn.expect) = none → s.isn.lpiRx = false → 3 ≤ s.isn.miss →
      ∃ t, AlignKept (s.trackedAt (s.nextPos rx) (s.isn.miss + 1)) t ∧ s.sfLocked rx = t.unlock) := by
  unfold State.sfLocked
  extract_lets w det hdr lost s1 _ s2 s3 s4 s5 hit _ s6 s7 s8 _ gone s9
  have k1 : AlignKept s s1 := (AlignKept.refl s).tapTake
  have pos : s1.nextPos rx = s.nextPos rx := congrArg (fun n : Nat => ((n : Int) + 800 + rx.slip).toNat) k1.expect
  have k2 : AlignKept (s.trackedAt (s.nextPos rx) s.isn.miss) s2 := by
    rw [← pos, ← k1.miss]
    exact (k1.trackedAt (s1.nextPos rx) s1.isn.miss).trans .of_regs
  have k3 : AlignKept (s.trackedAt (s.nextPos rx) s.isn.miss) s3 := .ite k2 (.ite k2.dcoCorrect (.ite k2.dcoCorrect k2))
  have k4 : AlignKept (s.trackedAt (s.nextPos rx) s.isn.miss) s4 := .ite k3 k3.inc
  have k5 : AlignKept (s.trackedAt (s.nextPos rx) s.isn.miss) s5 := .ite k4 k4.inc
  have counted : s5.isn.miss = s.isn.miss := k5.miss
  have k6 : AlignKept (s.trackedAt (s.nextPos rx) (if hit then 0 else s.isn.miss + 1)) s6 := by
    rw [← counted]
    exact k5.missed (if hit then 0 else s5.isn.miss + 1)
  have k7 : AlignKept (s.trackedAt (s.nextPos rx) (if hit then 0 else s.isn.miss + 1)) s7 := .measureRev (.ite k6.gainTrack.measure k6)
  have k8 : AlignKept (s.trackedAt (s.nextPos rx) (if hit then 0 else s.isn.miss + 1)) s8 := .ite k7.dropCheck k7
  refine ⟨fun v h hw hd hh hc => ?_, fun hw hl hm => ?_⟩
  · have whole : hdr = some h := by
      have found : w = some v := hw
      simp only [hdr, found, Option.bind_some, hh, Option.filter_some_pos hc]
    have struck : hit = true := by
      have found : w = some v := hw
      simp only [hit, whole, det, found, hd, Option.isSome_some, Bool.true_or, Bool.true_and]
    rw [struck, if_pos rfl] at k8
    have valid : s9 = s8.sfValid h rx lost := by simp only [s9, whole]
    have taken : AlignKept ((s.trackedAt (s.nextPos rx) 0).headerTaken h) s9 := valid ▸ (k8.headerTaken h).trans (alignKept_sfValid ..)
    have cleared : s9.isn.miss = 0 := taken.miss
    rw [if_neg (by omega)]
    exact taken
  · have broken : hdr = none := by
      have found : w = none := hw
      simp only [hdr, found, Option.bind_none, Option.filter_none]
    have missed : hit = false := by
      have found : w = none := hw
      simp only [hit, det, found, Bool.false_and]
    rw [missed, if_neg Bool.false_ne_true] at k8
    have loud : s8.isn.lpiRx = false := k8.lpiRx.trans hl
    have skipped : AlignKept (s.trackedAt (s.nextPos rx) (s.isn.miss + 1)) gone := k8.trans .of_regs
    have dropped : AlignKept (s.trackedAt (s.nextPos rx) (s.isn.miss + 1)) s9 := by
      simp only [s9, broken, loud, Bool.false_eq_true, if_false]
      exact .ite skipped.inc skipped
    have fourth : s9.isn.miss = s.isn.miss + 1 := dropped.miss
    exact ⟨s9, dropped, if_pos (by omega)⟩

/-- The state as the lock ends, its loss not yet counted. -/
def State.losingLock (s : State) : State := { s with isn := { s.isn with locked := false, cands := [], miss := 0, skip := true, rxBuf := [], fine := 0 } }

theorem unlock_lost (s : State) :
    s.unlock.isn.locked = false ∧ s.unlock.isn.cands = [] ∧ s.unlock.rd R.ISC_LOCKLOSS = incSat (s.rd R.ISC_LOCKLOSS) ∧ s.unlock.bit (rEVT P.ISN) 1 = true := by
  unfold State.unlock
  extract_lets _ s1 s2
  have told : IsnKept s1 s2 := (IsnKept.refl s1).raise
  have event : s2.bit (rEVT P.ISN) 1 = true := bit_raise _ _ _ (by decide)
  have count : s2.rd R.ISC_LOCKLOSS = incSat (s.rd R.ISC_LOCKLOSS) := (told.rd _ (by decide)).trans (State.rd_wr_self ..)
  split
  · have failed := trainFailed s2
    exact ⟨failed.locked, failed.cands, (failed.rd _ (by decide) (by decide) (by decide)).trans count, failed.steady.evt _ _ event⟩
  · have k : IsnKept s2 s2.isnLink := (IsnKept.refl s2).isnLink
    have kept : s2.isnLink.isn = s.losingLock.isn := k.isn.trans told.isn
    exact ⟨congrArg IsnSt.locked kept, congrArg IsnSt.cands kept, (k.rd _ (by decide)).trans count, k.evt event⟩

/-! ### A superframe's time of the receiver -/

/-- The residuals leave the aligner alone, and the aligner follows. -/
theorem exec_superframeRx {s : State} {rx : SfRx} (hon : s.lineOn = true) (hp : s.lnk.profact = 3) (h7 : s.isn.stage ≠ 7) (he : 40 ≤ rx.echo) :
    ∃ e, AlignKept s e ∧ (s.isn.locked = true → exec (.superframeRx rx) s = s.done (e.sfLocked rx)) ∧ (s.isn.locked = false → exec (.superframeRx rx) s = s.done (e.sfSearch rx)) := by
  obtain ⟨passed, k⟩ := echoCheck_passes s he
  have port : s.portOn = true := hon
  have run : exec (.superframeRx rx) s = s.done (s.sfRx rx) := congrArg s.done (if_pos hon)
  have received : s.sfRx rx = if (s.echoCheck rx).1.isn.locked then (s.echoCheck rx).1.sfLocked rx else (s.echoCheck rx).1.sfSearch rx := by
    simp [State.sfRx, hp, h7, port, passed]
  rw [run, received, k.locked]
  exact ⟨_, k, fun hl => by rw [if_pos hl], fun hl => by rw [hl, if_neg Bool.false_ne_true]⟩

section
variable {s : State} {rx : SfRx} {w : Win} (hw : rx.wins = [w])
include hw

theorem dets_single (hd : s.detected w = true) : s.dets rx = [w] := by
  simp only [State.dets, hw, List.filter_cons_of_pos hd, List.filter_nil]
  rfl

/-- The search with no candidate takes up the position detected. -/
theorem search_begins (hd : s.detected w = true) (hc : s.isn.cands = []) : (s.sfSearch rx).isn.locked = s.isn.locked ∧ (s.sfSearch rx).isn.cands = [⟨w.pos, false⟩] := by
  have ends : s.candEnds rx = [] := by simp only [State.candEnds, hc, List.map_nil]
  have fresh : s.fresh rx = [w] := by simp [State.fresh, dets_single hw hd, hc]
  obtain ⟨locked, cands⟩ := sfSearch_searches (s := s) (rx := rx) (by rw [ends]; rfl)
  exact ⟨locked, by rw [cands, ends, fresh]; rfl⟩

/-- VERIFY: detected again 800 samples on, the candidate is to be checked. -/
theorem search_verifies {p : Nat} (hd : s.detected w = true) (hc : s.isn.cands = [⟨p, false⟩]) (hpos : w.pos = p + 800) (hn : w.hdr = none) :
    (s.sfSearch rx).isn.locked = s.isn.locked ∧ (s.sfSearch rx).isn.cands = [⟨w.pos, true⟩] := by
  have ends : s.candEnds rx = [.keep ⟨w.pos, true⟩] := by simp [State.candEnds, dets_single hw hd, hc, candStep, hpos, hn, checkHdr]
  have fresh : s.fresh rx = [] := by simp [State.fresh, dets_single hw hd, hc, hpos]
  obtain ⟨locked, cands⟩ := sfSearch_searches (s := s) (rx := rx) (by rw [ends]; rfl)
  exact ⟨locked, by rw [cands, ends, fresh]; rfl⟩

/-- CHECK: a candidate with a valid header locks. -/
theorem search_checks {h : Nat} (hc : s.isn.cands = [⟨w.pos, true⟩]) (hh : w.hdr = some h) (hok : hdrOk h = true) : firstLock (s.candEnds rx) = some (w.pos, h) := by
  have ends : s.candEnds rx = [.lock w.pos h] := by simp [State.candEnds, hc, candStep, hw, hh, checkHdr, hok]
  rw [ends]
  rfl

theorem superframeRx_clauses (hon : s.lineOn = true) (hp : s.lnk.profact = 3) (h7 : s.isn.stage ≠ 7) (he : 40 ≤ rx.echo) :
    (s.isn.locked = false → s.detected w = true → s.isn.cands = [] → ∃ u, exec (.superframeRx rx) s = .next u ∧ u.isn.locked = false ∧ u.isn.cands = [⟨w.pos, false⟩]) ∧
    (∀ p, s.isn.locked = false → s.detected w = true → s.isn.cands = [⟨p, false⟩] → w.pos = p + 800 → w.hdr = none →
      ∃ u, exec (.superframeRx rx) s = .next u ∧ u.isn.locked = false ∧ u.isn.cands = [⟨w.pos, true⟩]) ∧
    (∀ h, s.isn.locked = false → s.isn.cands = [⟨w.pos, true⟩] → w.hdr = some h → hdrOk h = true →
      ∃ u, exec (.superframeRx rx) s = .next u ∧ u.isn.locked = true ∧ u.isn.cands = [] ∧ u.isn.miss = 0 ∧ u.isn.rxHdr = h ∧ u.bit (rEVT P.ISN) 0 = true) ∧
    (∀ h, s.isn.locked = true → w.pos = s.isn.expect → s.detected w = true → w.hdr = some h → hcrcOk h = true →
      ∃ u, exec (.superframeRx rx) s = .next u ∧ u.isn.locked = true ∧ u.isn.miss = 0 ∧ u.isn.rxHdr = h ∧ u.isn.expect = (s.isn.expect + 800 + rx.slip).toNat) := by
  obtain ⟨e, k, locked, search⟩ := exec_superframeRx hon hp h7 he
  refine ⟨fun hl hd hc => ?_, fun p hl hd hc hpos hn => ?_, fun h hl hc hh hok => ?_, fun h hl hpos hd hh hok => ?_⟩
  · obtain ⟨unlocked, cands⟩ := search_begins hw ((k.detected w).trans hd) (k.cands.trans hc)
    rw [search hl]
    exact done_of fun u d => ⟨by rw [d.isn, unlocked, k.locked, hl], by rw [d.isn, cands]⟩
  · obtain ⟨unlocked, cands⟩ := search_verifies hw ((k.detected w).trans hd) (k.cands.trans hc) hpos hn
    rw [search hl]
    exact done_of fun u d => ⟨by rw [d.isn, unlocked, k.locked, hl], by rw [d.isn, cands]⟩
  · obtain ⟨pos, lock, event⟩ := sfSearch_locks (search_checks hw (k.cands.trans hc) hh hok)
    rw [search hl]
    refine done_of fun u d => ?_
    rw [d.isn]
    exact ⟨lock.locked, lock.cands, lock.miss, lock.rxHdr, d.evt event⟩
  · have found : rx.wins.find? (fun w => w.pos == e.isn.expect) = some w := by simp [hw, k.expect, hpos]
    have hit := (sfLocked_cases e rx).1 w h found ((k.detected w).trans hd) hh hok
    rw [locked hl]
    refine done_of fun u d => ?_
    rw [d.isn]
    have next : e.nextPos rx = s.nextPos rx := congrArg (fun n : Nat => ((n : Int) + 800 + rx.slip).toNat) k.expect
    exact ⟨hit.locked.trans (k.locked.trans hl), hit.miss, hit.rxHdr, hit.expect.trans next⟩

end

theorem superframeRx_unlocks {s : State} {rx : SfRx} (hon : s.lineOn = true) (hp : s.lnk.profact = 3) (h7 : s.isn.stage ≠ 7) (he : 40 ≤ rx.echo) (hw : rx.wins = [])
    (hl : s.isn.locked = true) (hi : s.isn.lpiRx = false) (hm : 3 ≤ s.isn.miss) :
    ∃ u, exec (.superframeRx rx) s = .next u ∧ u.isn.locked = false ∧ u.isn.cands = [] ∧ u.rd R.ISC_LOCKLOSS = incSat (s.rd R.ISC_LOCKLOSS) ∧ u.bit (rEVT P.ISN) 1 = true := by
  obtain ⟨e, k, locked, _⟩ := exec_superframeRx hon hp h7 he
  obtain ⟨t, missed, ends⟩ := (sfLocked_cases e rx).2 (by rw [hw]; rfl) (k.lpiRx.trans hi) (k.miss ▸ hm)
  obtain ⟨unlocked, cands, count, event⟩ := unlock_lost t
  have before : t.rd R.ISC_LOCKLOSS = s.rd R.ISC_LOCKLOSS := (missed.rd _ (by decide)).trans (k.rd _ (by decide))
  rw [locked hl, ends]
  refine done_of fun u d => ?_
  rw [d.isn]
  exact ⟨unlocked, cands, by rw [d.rd (by decide), count, before], d.evt event⟩

end Sys2Proof.Machine

namespace Sys2Proof.Machine

/-! ## The transmitter (R229, R233, R271) -/

theorem exec_superframeTx (dt : LineTime) (s : State) : exec (.superframeTx dt) s = s.done (if s.lineOn then (s.elapse dt).sfTx else s) := rfl
theorem exec_reconvergenceStart (s : State) : exec .reconvergenceStart s = s.done (if s.lineOn then s.reconvStart else s) := rfl
theorem exec_reconvergenceEnd (s : State) : exec .reconvergenceEnd s = s.done (if s.lineOn then s.reconvEnd else s) := rfl
theorem exec_lpiEnter (s : State) : exec .lpiEnter s = s.done (if s.lineOn then s.lpiEnter else s) := rfl
theorem exec_lpiExit (s : State) : exec .lpiExit s = s.done (if s.lineOn then s.lpiExit else s) := rfl

/-- Line-time, the number of the next superframe, its slot, and the countdown of a swap. -/
def State.txCount (s : State) : LineTime × Nat × Bool × Nat := (s.lt, s.isn.txSfn, s.isn.ltTx, s.isn.cd)

/-- A frame handed over becomes a unit behind those that wait (R229). -/
theorem isnTake_taken {s : State} {f : List Byte} (hp : s.lnk.profact = 3) (hd : s.isn.done = true) (hs : s.isnSilent = false) (hm : s.pwr.mode = .run) (hf : s.txFront = some f) :
    s.isnTake = { s.txTake with isn := { s.txTake.isn with units := s.txTake.isn.units ++ [(false, f)] } } := by
  simp [State.isnTake, hp, hd, hs, hm, hf]

theorem txCount_isnTake (s : State) : s.isnTake.txCount = s.txCount := by
  have taken : s.txTake.txCount = s.txCount := (portKept_txTake s).keep State.txCount
  unfold State.isnTake
  split_ifs
  · split
    · exact taken
    · rfl
  · rfl

theorem txCount_tapSend (s : State) (r : TapRec) : (s.tapSend r).txCount = s.txCount := by
  unfold State.tapSend
  split_ifs <;> rfl

/-- The number of the next superframe, its slot, and the symbols on the line. -/
def IsnSt.onLine (i : IsnSt) : Nat × Bool × List (List Carr) := (i.txSfn, i.ltTx, i.txLevels)

/-- The cancellers adapt: their coefficients alone change (R250). -/
theorem adapt_keeps (s : State) : s.adapt.lt = s.lt ∧ s.adapt.isn.onLine = s.isn.onLine := ⟨rfl, rfl⟩

/-- A superframe with no swap under way takes the next number and is sent with its S and four data symbols. -/
theorem sfHeaded_sent {s : State} (hc : s.isn.cd = 0) :
    s.sfHeaded.lt = s.lt ∧ s.sfHeaded.isn.txSfn = (s.isn.txSfn + 1) % 4096 ∧ s.sfHeaded.isn.ltTx = s.isn.ltTx ∧ s.sfHeaded.isn.txLevels.length = 5 := by
  unfold State.sfHeaded
  extract_lets s1 x swp rcv lpi idle load p n held sent f fptr h bits pay acked s2 _ s3 s4
  have steady : s.isnTake.swapFlip = s.isnTake := swapFlip_idle (by have e : s.isnTake.isn.cd = s.isn.cd := congrArg (·.2.2.2) (txCount_isnTake s); omega)
  have k1 : s1.txCount = s.txCount := by
    unfold s1
    rw [steady, (sends_stageX _).keep State.txCount, txCount_isnTake]
  have k2 : s2.txCount = s.txCount := (txCount_tapSend ..).trans k1
  have k4 : IsnKept s3 s4 := .ite (IsnKept.refl s3).lns (.refl s3)
  have k5 : IsnKept s4.adapt s4.adapt.isnLink := (IsnKept.refl _).isnLink
  have sent : s4.adapt.isnLink.isn.onLine = s3.isn.onLine := (congrArg IsnSt.onLine k5.isn).trans ((adapt_keeps s4).2.trans (congrArg IsnSt.onLine k4.isn))
  have time : s2.lt = s.lt := congrArg (·.1) k2
  have number : s2.isn.txSfn = s.isn.txSfn := congrArg (·.2.1) k2
  have slot : s2.isn.ltTx = s.isn.ltTx := congrArg (·.2.2.1) k2
  have numbered : s4.adapt.isnLink.isn.txSfn = (s2.isn.txSfn + 1) % 4096 := congrArg (·.1) sent
  have slotted : s4.adapt.isnLink.isn.ltTx = s2.isn.ltTx := congrArg (·.2.1) sent
  have levels : s4.adapt.isnLink.isn.txLevels = superframe load h (!x) (if x then bits else []) := congrArg (·.2.2) sent
  have timed : s4.adapt.isnLink.lt = s3.lt := k5.lt.trans ((adapt_keeps s4).1.trans k4.lt)
  exact ⟨timed.trans time, by rw [numbered, number], slotted.trans slot, by rw [levels]; rfl⟩

/-- A superframe of low-power idle takes the next number and is S alone (R271). -/
theorem sfIdle_sent (s : State) : s.sfIdle.isn.txSfn = (s.isn.txSfn + 1) % 4096 ∧ s.sfIdle.isn.txLevels = [symbolS, symbol0, symbol0, symbol0, symbol0] :=
  ⟨congrArg (fun c : LineTime × Nat × Bool × Nat => (c.2.1 + 1) % 4096) (txCount_tapSend s _), rfl⟩

/-- In showtime a superframe that is due is sent at once: no reconvergence begins or ends, and low-power idle goes on as it is. -/
theorem sfTx_due {s : State} (hp : s.lnk.profact = 3) (hs : s.isnSilent = false) (h0 : s.isn.stage = 0) (hr : s.isn.rcvTx = false) (hd : s.sfDue = true)
    (hl : s.isn.done = true ∨ s.isn.left ≠ 0) (hi : s.isn.lpiTx = false ∨ s.lpiReady = true) : s.sfTx = if s.lpiQuiet then s.sfIdle else s.sfHeaded := by
  have ended : s.reconvEnd = s := if_neg (by simp [h0])
  have started : s.reconvStart = s := if_neg (by simp [hr])
  have stays : s.lpiExit = s := if_neg (by rcases hi with hi | hi <;> simp [hi])
  have headed : s.headed = true := by simp [State.headed, h0]
  have more : s.stageOver = false := by rcases hl with hl | hl <;> simp [State.stageOver, hl]
  simp [State.sfTx, hp, ended, started, stays, hs, headed, more, hd]

theorem superframeTx_clauses {s : State} (hon : s.lineOn = true) (dt : LineTime) (hp : s.lnk.profact = 3) (hs : s.isnSilent = false) (h0 : s.isn.stage = 0) (hr : s.isn.rcvTx = false)
    (hd : (s.elapse dt).sfDue = true) :
    (s.isn.done = true ∨ s.isn.left ≠ 0 → s.isn.cd = 0 → s.isn.lpiTx = false →
      ∃ u, exec (.superframeTx dt) s = .next u ∧ u.lt = s.lt + dt ∧ u.isn.txSfn = (s.isn.txSfn + 1) % 4096 ∧ u.isn.ltTx = s.isn.ltTx ∧ u.isn.txLevels.length = 5) ∧
    (s.isn.lpiTx = true → s.isn.lpiFirst = false → s.lpiReady = true →
      ∃ u, exec (.superframeTx dt) s = .next u ∧ u.isn.txSfn = (s.isn.txSfn + 1) % 4096 ∧ u.isn.txLevels = [symbolS, symbol0, symbol0, symbol0, symbol0]) := by
  have isn : (s.elapse dt).isn = s.isn := elapse_keep s dt State.isn
  have lnk : (s.elapse dt).lnk.profact = 3 := (elapse_keep s dt (·.lnk.profact)).trans hp
  have loud : (s.elapse dt).isnSilent = false := (elapse_keep s dt State.isnSilent).trans hs
  have ready : (s.elapse dt).lpiReady = s.lpiReady := elapse_keep s dt State.lpiReady
  have due := sfTx_due lnk loud (isn ▸ h0) (isn ▸ hr) hd
  rw [isn, ready] at due
  rw [exec_superframeTx, if_pos hon]
  refine ⟨fun hl hc hi => ?_, fun hi hf hq => ?_⟩
  · have busy : (s.elapse dt).lpiQuiet = false := by simp [State.lpiQuiet, isn, hi]
    obtain ⟨time, number, slot, levels⟩ := sfHeaded_sent (isn ▸ hc : (s.elapse dt).isn.cd = 0)
    rw [due hl (.inl hi), busy, if_neg Bool.false_ne_true]
    exact done_of fun u d => ⟨by rw [d.lt, time, elapse_lt], by rw [d.isn, number, isn], by rw [d.isn, slot, isn], by rw [d.isn, levels]⟩
  · have quiet : (s.elapse dt).lpiQuiet = true := by simp [State.lpiQuiet, isn, hi, hf]
    have done : s.isn.done = true := by
      simp only [State.lpiReady, State.showtime, Bool.and_eq_true] at hq
      tauto
    obtain ⟨number, levels⟩ := sfIdle_sent (s.elapse dt)
    rw [due (.inl done) (.inr hq), quiet, if_pos rfl]
    exact done_of fun u d => ⟨by rw [d.isn, number, isn], by rw [d.isn, levels]⟩

theorem txFrame_clause {s : State} {f : List Byte} (dt : LineTime) (hp : s.lnk.profact = 3) (hd : s.isn.done = true) (hs : s.isnSilent = false) (haw : s.awake = true)
    (hf : s.txFront = some f) : ∃ u, exec (.txFrame dt) s = .next u ∧ u.isn.units = s.isn.units ++ [(false, f)] ∧ (s.cyc.txNow = none → u.cyc.txbuf = none) := by
  have run : s.pwr.mode = .run := by simpa [State.awake] using And.right (Bool.and_eq_true_iff.mp haw)
  have isn : (s.elapse dt).isn = s.isn := elapse_keep s dt State.isn
  have cyc : (s.elapse dt).cyc = s.cyc := elapse_keep s dt State.cyc
  have lnk : (s.elapse dt).lnk.profact = 3 := (elapse_keep s dt (·.lnk.profact)).trans hp
  have taken : PortKept (s.elapse dt).taken (s.elapse dt).txTake := portKept_txTake _
  have units : (s.elapse dt).txTake.isn.units = s.isn.units := (taken.keep (·.isn.units)).trans (congrArg IsnSt.units isn)
  rw [exec_txFrame, if_pos haw, State.txHand, if_pos lnk, isnTake_taken lnk (isn ▸ hd) ((elapse_keep s dt State.isnSilent).trans hs) ((elapse_keep s dt (·.pwr.mode)).trans run)
    ((elapse_keep s dt State.txFront).trans hf)]
  refine done_of fun u d => ⟨?_, fun hn => ?_⟩
  · rw [d.isn, ← units]
  · have empty : (s.elapse dt).taken.cyc.txbuf = none := taken_txbuf (cyc ▸ hn)
    exact d.cyc_txbuf.trans ((taken.keep (·.cyc.txbuf)).trans empty)

/-! ## Reconvergence and low-power idle (R253, R271, R272) -/

theorem reconvergenceStart_clause {s : State} (hon : s.lineOn = true) (hs : s.showtime = true) (ht : s.isn.rcvTx = true) (hr : s.isn.rcvRx = true) (hc : s.isn.cd = 0) :
    ∃ u, exec .reconvergenceStart s = .next u ∧ u.isn.stage = 3 ∧ u.isn.left = 50 ∧ u.isn.rcvPend = false := by
  rw [exec_reconvergenceStart, if_pos hon, State.reconvStart, if_pos (by simp [hs, ht, hr, hc])]
  exact done_of fun u d => ⟨congrArg IsnSt.stage d.isn, congrArg IsnSt.left d.isn, congrArg IsnSt.rcvPend d.isn⟩

/-- The state in showtime again, its residual echo the new base. -/
def State.reconverged (s : State) : State := { s with isn := { s.isn with stage := 0, echoBase := s.fd R.ISC_ECRES 0 8, echoHigh := 0 } }

theorem reconvergenceEnd_clause {s : State} (hon : s.lineOn = true) (hp : s.lnk.profact = 3) (hd : s.isn.done = true) (h3 : s.isn.stage = 3) (h0 : s.isn.left = 0) :
    ∃ u, exec .reconvergenceEnd s = .next u ∧ u.isn.stage = 0 ∧ u.rd R.ISC_RECONVS = incSat (s.rd R.ISC_RECONVS) ∧ u.bit (rEVT P.ISN) 6 = true := by
  have ends : s.reconvEnd = ((s.reconverged.inc R.ISC_RECONVS).raise P.ISN 6).isnLink := if_pos (by simp [hp, hd, h3, h0])
  have told : IsnKept (s.reconverged.inc R.ISC_RECONVS) ((s.reconverged.inc R.ISC_RECONVS).raise P.ISN 6).isnLink := (IsnKept.refl _).raise.isnLink
  have linked : IsnKept ((s.reconverged.inc R.ISC_RECONVS).raise P.ISN 6) ((s.reconverged.inc R.ISC_RECONVS).raise P.ISN 6).isnLink := (IsnKept.refl _).isnLink
  rw [exec_reconvergenceEnd, if_pos hon, ends]
  refine done_of fun u d => ⟨?_, ?_, d.evt (linked.evt (bit_raise _ _ _ (by decide)))⟩
  · rw [d.isn, told.isn]; rfl
  · rw [d.rd (by decide), told.rd _ (by decide)]; exact State.rd_wr_self ..

theorem lpiEnter_clause {s : State} (hon : s.lineOn = true) (hs : s.showtime = true) (hn : s.isnLpi = true) (hi : s.isn.lpiTx = false) (hc : s.isn.cd = 0) (hp : s.isn.prop = none)
    (hr : s.isn.rcvPend = false) (hw : s.lpiWanted = true) :
    ∃ u, exec .lpiEnter s = .next u ∧ u.isn.lpiTx = true ∧ u.isn.lpiFirst = true ∧ u.bit (rEVT P.ISN) 9 = true := by
  have ready : s.lpiReady = true := by simp [State.lpiReady, hs, hn, hc, hp, hr, hw]
  rw [exec_lpiEnter, if_pos hon, State.lpiEnter, if_pos (by simp [ready, hi])]
  refine done_of fun u d => ?_
  rw [d.isn, isn_of_quiet (quiet_raise _ _ _)]
  exact ⟨rfl, rfl, d.evt (bit_raise _ _ _ (by decide))⟩

theorem lpiExit_clause {s : State} (hon : s.lineOn = true) (hi : s.isn.lpiTx = true) (hr : s.lpiReady = false) :
    ∃ u, exec .lpiExit s = .next u ∧ u.isn.lpiTx = false ∧ u.isn.lpiFirst = true ∧ u.bit (rEVT P.ISN) 10 = true := by
  rw [exec_lpiExit, if_pos hon, State.lpiExit, if_pos (by simp [hr, hi])]
  refine done_of fun u d => ?_
  rw [d.isn, isn_of_quiet (quiet_raise _ _ _)]
  exact ⟨rfl, rfl, d.evt (bit_raise _ _ _ (by decide))⟩

/-- Settles O31: the transmitter by the superframe it sends, the aligner by its search, its lock and its misses, reconvergence and low-power idle by the state they mark. -/
theorem isinasiaShowtime : Obligations.IsinasiaShowtime := by
  unfold Obligations.IsinasiaShowtime
  exact fun s hon => ⟨superframeTx_clauses hon, fun f dt => txFrame_clause dt, fun rx w hp h7 he hw => superframeRx_clauses hw hon hp h7 he,
    fun rx hp h7 he hw hl hi _ => superframeRx_unlocks hon hp h7 he hw hl hi, reconvergenceStart_clause hon, reconvergenceEnd_clause hon, lpiEnter_clause hon, lpiExit_clause hon⟩

end Sys2Proof.Machine

namespace Sys2Proof.Machine

/-! ## What the other blocks leave of the cycle engine and the host SPI port

The frames handed over, the marks of the host, the commands and responses that wait, the frame to be sent, the SPI port, the tick number that answers carry, and the registers that
count and number frames. -/

/-- CYC.RXOK, CYC.FSEQ, CYC.HMAC_LO and QUE.RLOSTCT. -/
def frameReg (a : Nat) : Bool := a == R.CYC_RXOK || a == R.CYC_FSEQ || a == R.CYC_HMAC_LO || a == R.QUE_RLOSTCT

/-- The frames handed over, the marks, the queues, the frame to be sent, the SPI port and the tick number. -/
structure Queues where
  handover : List Handed
  seqv : Bool
  hmacv : Bool
  cmdq : List Cmd
  rspq : List Resp
  txbuf : Option (List Byte)
  hsp : HspSt
  now : Word

/-- The queues of a state. -/
def State.queues (s : State) : Queues := ⟨s.cyc.handover, s.cyc.seqv, s.cyc.hmacv, s.cyc.cmdq, s.cyc.rspq, s.cyc.txbuf, s.hsp, s.tck.now⟩

/-- An operation of another block leaves them. -/
structure QueuesKept (s t : State) : Prop where
  queues : t.queues = s.queues
  rd : ∀ a, frameReg a = true → t.rd a = s.rd a

theorem frameReg_word {a : Nat} (h : frameReg a = true) : a % 256 ≠ 0x0C ∧ a % 256 ≠ 0x18 ∧ a % 256 ≠ 0x1C := by
  simp only [frameReg, Bool.or_eq_true, beq_iff_eq] at h
  rcases h with ((rfl | rfl) | rfl) | rfl <;> decide

/-- No event's routes write them. -/
theorem frameReg_touch {a : Nat} (p : Nat) (h : frameReg a = true) : raiseTouches p a = false := by
  have event (q : Nat) : (a == rEVT q) = false := beq_eq_false_iff_ne.mpr (ne_rEVT q (frameReg_word h).1)
  have count (b : Nat) (hb : frameReg b = false) : (a == b) = false := by rw [beq_eq_false_iff_ne]; rintro rfl; simp [hb] at h
  simp [raiseTouches, event, count R.QUE_EVLOSTCT rfl, count R.LOG_LOSTCT rfl, count R.TRC_LOST rfl]

/-- Nor does the settling of the output state. -/
theorem frameReg_settle {a : Nat} (h : frameReg a = true) : settleTouches a = false := by
  simp only [frameReg, Bool.or_eq_true, beq_iff_eq] at h
  rcases h with ((rfl | rfl) | rfl) | rfl <;> decide

/-- They lie below the pages of the core, the stage and the engine. -/
theorem frameReg_above {a : Nat} (h : 0x1200 ≤ a) : frameReg a = false := by
  refine Bool.eq_false_iff.mpr fun e => ?_
  simp only [frameReg, Bool.or_eq_true, beq_iff_eq] at e
  rcases e with ((rfl | rfl) | rfl) | rfl <;> exact absurd h (by decide)

namespace QueuesKept

theorem refl (s : State) : QueuesKept s s := ⟨rfl, fun _ _ => rfl⟩

theorem trans {s t u : State} (h : QueuesKept s t) (k : QueuesKept t u) : QueuesKept s u :=
  ⟨k.queues.trans h.queues, fun a ha => (k.rd a ha).trans (h.rd a ha)⟩

/-- A change of other fields. -/
theorem of_regs {s t : State} (h : (t.queues, t.regs) = (s.queues, s.regs)) : QueuesKept s t := by
  obtain ⟨queues, regs⟩ := Prod.mk.inj h
  exact ⟨queues, fun a _ => rd_of_regs regs a⟩

theorem of_keeps {p : Nat} {s t : State} (q : t.quiet = s.quiet) (k : Keeps p s t) : QueuesKept s t :=
  ⟨by have e := congrArg State.queues q; exact e, fun a ha => k.rd a (frameReg_touch p ha)⟩

theorem of_calms {s t : State} (k : Calms s t) : QueuesKept s t :=
  ⟨by have e := congrArg State.queues k.calm; exact e, fun a ha => k.rd a (frameReg_settle ha)⟩

theorem ite {s t u : State} {c : Prop} [Decidable c] (h : QueuesKept s t) (k : QueuesKept s u) : QueuesKept s (if c then t else u) := by
  split_ifs <;> assumption

theorem foldl {α : Type} {f : State → α → State} {l : List α} {s t : State} (h : QueuesKept s t) (k : ∀ t, ∀ x ∈ l, QueuesKept s t → QueuesKept s (f t x)) :
    QueuesKept s (l.foldl f t) := by
  induction l generalizing t with
  | nil => exact h
  | cons x l ih => exact ih (k t x (.head l) h) fun t y hy => k t y (.tail x hy)

variable {s t : State} (h : QueuesKept s t)
include h

/-! ### By name -/

theorem handover : t.cyc.handover = s.cyc.handover := congrArg Queues.handover h.queues
theorem seqv : t.cyc.seqv = s.cyc.seqv := congrArg Queues.seqv h.queues
theorem hmacv : t.cyc.hmacv = s.cyc.hmacv := congrArg Queues.hmacv h.queues
theorem cmdq : t.cyc.cmdq = s.cyc.cmdq := congrArg Queues.cmdq h.queues
theorem rspq : t.cyc.rspq = s.cyc.rspq := congrArg Queues.rspq h.queues
theorem txbuf : t.cyc.txbuf = s.cyc.txbuf := congrArg Queues.txbuf h.queues
theorem hsp : t.hsp = s.hsp := congrArg Queues.hsp h.queues
theorem now : t.tck.now = s.tck.now := congrArg Queues.now h.queues

/-! ### Registers, events, memory -/

theorem wr {a : Nat} {v : Word} (ha : frameReg a = false) : QueuesKept s (t.wr a v) :=
  h.trans ⟨rfl, fun b hb => State.rd_wr_ne _ _ (by rintro rfl; simp [ha] at hb)⟩

theorem inc {a : Nat} (ha : frameReg a = false) : QueuesKept s (t.inc a) := h.wr ha
theorem setF {a lo w n : Nat} (ha : frameReg a = false) : QueuesKept s (t.setF a lo w n) := h.wr ha
theorem raise {p n : Nat} : QueuesKept s (t.raise p n) := h.trans (.of_keeps (quiet_raise t p n) (keeps_raise t p n))
theorem raiseIf {c : Bool} {p n : Nat} : QueuesKept s (t.raiseIf c p n) := h.trans (.of_keeps (quiet_raiseIf t c p n) (keeps_raiseIf t c p n))
theorem logPush {k p : Nat} {a b : Word} : QueuesKept s (t.logPush k p a b) := h.trans (.of_keeps (quiet_logPush t k p a b) (keeps_logPush 0 t k p a b))
theorem askSafe {c : Nat} : QueuesKept s (t.askSafe c) := h.trans (.of_keeps (quiet_askSafe t c) (keeps_askSafe 0 t c))
theorem stageSafe : QueuesKept s t.stageSafe := h.trans (.of_calms (calms_stageSafe t))

theorem setFlt {p n : Nat} : QueuesKept s (t.setFlt p n) := by
  have set : QueuesKept t (t.wr (rFLT p) (setBit (t.rd (rFLT p)) n true)) :=
    ⟨rfl, fun b hb => State.rd_wr_ne _ _ (by rintro rfl; exact (frameReg_word hb).2.1 (rFLT_mod p))⟩
  exact .ite h (h.trans set).logPush

theorem presentAll : QueuesKept s t.presentAll :=
  .foldl (h.trans (.of_regs (by rfl))) fun t e _ k => k.trans (.of_keeps (quiet_routes quiet_raise t e.1 e.2.1 e.2.2) (keeps_routes keeps_raise 0 t e.1 e.2.1 e.2.2))

theorem sendTwin {l : List Byte} : QueuesKept s (t.sendTwin l) := h.trans (.of_regs (by rfl))

theorem note {w a : Nat} {d : Word} {cls : Nat} : QueuesKept s (t.note w a d cls) := by
  have put : QueuesKept s (t.digPut (digKey cls a) (w, a, d)) := h.trans (.of_regs (by rfl))
  unfold State.note
  refine .ite ?_ h
  split
  · exact .ite (put.trans (.of_regs (by rfl))) put
  · exact .ite put h

theorem hw {a : Nat} {v : Word} (ha : frameReg a = false) : QueuesKept s (t.hw a v) := by
  have kept : QueuesKept s (t.keepReg a) := .ite (h.trans (.of_regs (by rfl))) h
  exact (kept.wr ha).note

theorem wrN {a v w : Nat} : QueuesKept s (t.wrN a v w) := by
  induction w generalizing t a v with
  | zero => exact h
  | succ w ih => exact ih (h.trans (.of_regs (by rfl)))

theorem putMem {a w : Nat} {v : Word} {cls : Nat} : QueuesKept s (t.putMem a w v cls) := by
  unfold State.putMem
  refine .note ?_
  have sound : QueuesKept s (if w = 4 then (t.wrN a v.toNat w).soundWord a else t.wrN a v.toNat w) := .ite (h.wrN.trans (.of_regs (by rfl))) h.wrN
  exact .ite (sound.trans (.of_regs (by rfl))) sound

theorem memStore {a w : Nat} {v : Word} : QueuesKept s (t.memStore a w v) := .putMem (h.trans (.of_regs (by rfl)))
theorem hwStore {a : Nat} {v : Word} : QueuesKept s (t.hwStore a v) := .putMem (.ite (h.trans (.of_regs (by rfl))) h)

/-! ### Reports of self-test -/

theorem verdict {j : Job} {res spare : Nat} : QueuesKept s (t.verdict j res spare) := by
  unfold State.verdict
  extract_lets b lasting d0 s1 s2 s3 s4 s5 _ s6
  have h1 : QueuesKept s s1 := by
    have noted : QueuesKept s (t.noteLast j d0) := h.trans (.of_calms (calms_noteLast t j d0))
    unfold s1
    cases lasting <;> exact noted.inc (by rfl)
  have h2 : QueuesKept s s2 := .ite (h1.trans (.of_calms (calms_noteNoTest s1))) h1
  have h3 : QueuesKept s s3 := .ite (h2.trans (.of_calms (calms_noteRepair s2 _ _))) h2
  have h5 : QueuesKept s s5 := .ite (h3.logPush.trans (.of_calms (calms_noteLasting s4))) h3.logPush
  have h6 : QueuesKept s s6 := .ite (h5.trans (.of_regs (by rfl))) h5
  exact .ite (h6.trans (.of_regs (by rfl))) h6

theorem incBucket {test : Nat} : QueuesKept s (t.incBucket test) := h.wr (frameReg_above (Nat.le_trans (by decide) (Nat.le_add_right R.SLF_BKT0 _)))

theorem setLane {l : Nat} {x : Lane} : QueuesKept s (t.setLane l x) := h.trans (.ite (.of_regs (by rfl)) (.ite (.of_regs (by rfl)) (.of_regs (by rfl))))

theorem detect {src page : Nat} {u : Word} : QueuesKept s (t.detect src page u) := by
  unfold State.detect
  extract_lets test j s1 s2 s3
  have counted : QueuesKept s s3 := .incBucket (.logPush (.inc h.raise (by rfl)))
  exact .ite counted.verdict (.ite (counted.trans (.of_regs (by rfl))) (.ite (.ite (counted.trans (.of_regs (by rfl))) counted) (.ite counted.setLane (.ite counted.setLane counted.verdict))))

/-! ### Reads -/

theorem listCheck {w : Nat} : QueuesKept s (t.listCheck w) := .ite h.detect.setFlt h

/-- A read of a register leaves the queues. -/
theorem fetchReg {a : Nat} : QueuesKept s (t.fetchReg a).1 := by
  unfold State.fetchReg
  split
  · exact h.trans (.of_regs (by rfl))
  split
  · exact h.trans (.of_regs (by rfl))
  split
  · exact h.trans (.of_regs (by rfl))
  split
  · exact h.trans (.of_regs (by rfl))
  split
  · exact h.listCheck
  split
  · exact h.trans (.of_regs (by rfl))
  · exact h

theorem fetchAll {l : List Nat} : QueuesKept s (t.fetchAll l).1 := by
  have step (l : List Nat) : ∀ p : State × List Word, QueuesKept s p.1 →
      QueuesKept s (l.foldl (fun (p : State × List Word) a => ((p.1.fetchReg a).1, p.2 ++ [(p.1.fetchReg a).2])) p).1 := by
    induction l with
    | nil => exact fun _ k => k
    | cons a l ih => exact fun p k => ih _ k.fetchReg
  exact step l (t, []) h

end QueuesKept

end Sys2Proof.Machine

namespace Sys2Proof.Machine

/-! ## Commands of the queue (R299, R314, R315) -/

/-- A response of the network takes its place in the queue. -/
theorem respond_network {s : State} {c : Cmd} (hp : c.path = .network) (hl : s.cyc.rspq.length < 32) (w : Nat) (v : Word) :
    s.respond c w v = { s with cyc := { s.cyc with rspq := s.cyc.rspq ++ [⟨c.tag, w, c.addr, if w = 0 then v else 0#32, s.tck.now⟩] } } := by
  unfold State.respond
  simp only [hp, if_neg (Nat.not_le.mpr hl)]

/-- A response of the SPI port takes its place in the FIFO. -/
theorem respond_spi {s : State} {c : Cmd} (hp : c.path = .spi) (hl : s.hsp.fifo.length < 16) (w : Nat) (v : Word) :
    s.respond c w v = { s with hsp := { s.hsp with fifo := s.hsp.fifo ++ [⟨c.tag, w, c.addr, if w = 0 then v else 0#32, s.tck.now⟩] } } := by
  unfold State.respond
  simp only [hp, if_neg (Nat.not_le.mpr hl)]

/-- A response takes no command from its queue. -/
theorem respond_waiting (s : State) (c : Cmd) (w : Nat) (v : Word) : (s.respond c w v).cyc.cmdq = s.cyc.cmdq ∧ (s.respond c w v).cyc.fifo = s.cyc.fifo := by
  unfold State.respond
  dsimp only
  split
  · split_ifs <;> exact ⟨rfl, rfl⟩
  · split_ifs <;> exact ⟨rfl, rfl⟩
  · exact ⟨rfl, rfl⟩

theorem execCmd_read {s : State} {c : Cmd} (h : c.op = 1) (hd : c.data = 0#32) (hm : c.mask = 0#32) (hr : s.rdStatus c.path c.addr = 0) :
    s.execCmd c = (s.fetchReg c.addr).1.respond c 0 (s.fetchReg c.addr).2 := by
  unfold State.execCmd
  simp only [h, hr]
  exact if_neg (by simp [hd, hm])

theorem execCmd_read_refused {s : State} {c : Cmd} (h : c.op = 1) (hd : c.data = 0#32) (hm : c.mask = 0#32) (hr : s.rdStatus c.path c.addr ≠ 0) :
    s.execCmd c = s.respond c (s.rdStatus c.path c.addr) 0#32 := by
  unfold State.execCmd
  simp only [h]
  exact (if_neg (by simp [hd, hm])).trans (if_pos hr)

theorem execCmd_write {s : State} {c : Cmd} (h : c.op = 2) (hm : c.mask = 0#32) :
    s.execCmd c = (s.landWrite c.path c.addr c.data).1.respond c (s.landWrite c.path c.addr c.data).2 c.data := by
  unfold State.execCmd
  simp only [h]
  exact if_neg (by simp [hm])

/-- A write that cannot reach a register changes nothing (R123, R140). -/
theorem landWrite_refused {s : State} {p : Path} {a : Nat} (h : s.wrStatus p a ≠ 0) (v : Word) : s.landWrite p a v = (s, s.wrStatus p a) := if_pos h

theorem execCmd_write_refused {s : State} {c : Cmd} (h : c.op = 2) (hm : c.mask = 0#32) (hw : s.wrStatus c.path c.addr ≠ 0) :
    s.execCmd c = s.respond c (s.wrStatus c.path c.addr) c.data := by
  rw [execCmd_write h hm, landWrite_refused hw]

theorem execCmd_modify {s : State} {c : Cmd} (h : c.op = 3) (hw : s.wrStatus c.path c.addr = 0) :
    s.execCmd c = ((s.fetchReg c.addr).1.landModify c.path c.addr c.data c.mask).1.respond c ((s.fetchReg c.addr).1.landModify c.path c.addr c.data c.mask).2 (s.fetchReg c.addr).2 := by
  unfold State.execCmd
  simp only [h, hw, if_true]

theorem execCmd_modify_refused {s : State} {c : Cmd} (h : c.op = 3) (hw : s.wrStatus c.path c.addr ≠ 0) : s.execCmd c = s.respond c (s.wrStatus c.path c.addr) 0#32 := by
  unfold State.execCmd State.landModify
  simp only [h, if_neg hw, landWrite_refused hw]

theorem execCmd_flushmark {s : State} {c : Cmd} (h : c.op = 4) (hm : c.mask = 0#32) (ha : c.addr % 4 = 0) : s.execCmd c = s.respond c 0 0#32 := by
  unfold State.execCmd
  simp only [h]
  exact (if_neg (by simp [hm])).trans (if_neg (by simp [ha]))

/-- The state without the command in front. -/
def State.dequeued (s : State) (rest : List Cmd) : State := { s with cyc := { s.cyc with cmdq := rest } }

/-- A command of the operation in front executes at once outside RUN and HOLDOVER (R52, R315). -/
theorem execFront_front {s : State} {c : Cmd} {rest : List Cmd} (ha : s.awake = true) (hq : s.cyc.cmdq = c :: rest) (hd : s.direct = true) :
    (if s.awake && s.frontIs c.op then s.execFront else s) = (s.dequeued rest).execCmd c := by
  have front : s.frontIs c.op = true := by unfold State.frontIs; simp [hq, hd]
  rw [if_pos (by simp [ha, front])]
  unfold State.execFront
  simp only [hq]
  rfl

theorem exec_cmdRead (s : State) : exec .cmdRead s = s.done (if s.awake && s.frontIs 1 then s.execFront else s) := rfl
theorem exec_cmdWrite (s : State) : exec .cmdWrite s = s.done (if s.awake && s.frontIs 2 then s.execFront else s) := rfl
theorem exec_cmdModify (s : State) : exec .cmdModify s = s.done (if s.awake && s.frontIs 3 then s.execFront else s) := rfl
theorem exec_cmdFlushmark (s : State) : exec .cmdFlushmark s = s.done (if s.awake && s.frontIs 4 then s.execFront else s) := rfl

/-- A command that answers leaves the queue it was taken from and its response behind those that wait. -/
theorem done_respond {s t : State} {c : Cmd} {rest : List Cmd} (k : QueuesKept (s.dequeued rest) t) (hp : c.path = .network) (hl : s.cyc.rspq.length < 32) (w : Nat) (v : Word) :
    ∃ u, s.done (t.respond c w v) = .next u ∧ u.cyc.cmdq = rest ∧ u.cyc.rspq = s.cyc.rspq ++ [⟨c.tag, w, c.addr, if w = 0 then v else 0#32, s.tck.now⟩] := by
  have queue : t.cyc.rspq = s.cyc.rspq := k.rspq
  rw [respond_network hp (queue ▸ hl), queue, (k.now : t.tck.now = s.tck.now)]
  exact done_of fun u e => ⟨e.cyc_cmdq.trans k.cmdq, e.cyc_rspq⟩

/-- A command that is refused answers its status, without data. -/
theorem done_refused {s : State} {c : Cmd} {rest : List Cmd} (hp : c.path = .network) (hl : s.cyc.rspq.length < 32) {w : Nat} (hw : w ≠ 0) (v : Word) :
    ∃ u, s.done ((s.dequeued rest).respond c w v) = .next u ∧ u.cyc.cmdq = rest ∧ u.cyc.rspq = s.cyc.rspq ++ [⟨c.tag, w, c.addr, 0#32, s.tck.now⟩] := by
  have answer := done_respond (QueuesKept.refl (s.dequeued rest)) hp hl w v
  rwa [if_neg hw] at answer

/-! ### Admission and FLUSH (R318, R322) -/

theorem exec_sectionAdmit (s : State) : exec .sectionAdmit s = s.done (if s.awake then s.admitNow else s) := rfl

theorem admitNow_fits {s : State} {sec : List Cmd} {rest : List (List Cmd)} (hf : s.cyc.fifo = sec :: rest) (hm : s.mayAdmit sec.length = true) :
    s.admitNow = { s with cyc := { s.cyc with fifo := rest, waited := false, cmdq := s.cyc.cmdq ++ sec } } := by
  unfold State.admitNow
  simp only [hf]
  exact if_pos hm

theorem admitNow_waits {s : State} {sec : List Cmd} {rest : List (List Cmd)} (hf : s.cyc.fifo = sec :: rest) (hm : s.mayAdmit sec.length = false) :
    s.admitNow = if s.cyc.waited then s else (({ s with cyc := { s.cyc with waited := true } } : State).inc R.QUE_CVIOLCT).raise P.CYC 3 := by
  unfold State.admitNow
  simp only [hf]
  exact if_neg (by simp [hm])

theorem sectionAdmit_clauses {s : State} (ha : s.awake = true) {sec : List Cmd} {rest : List (List Cmd)} (hf : s.cyc.fifo = sec :: rest) :
    (s.mayAdmit sec.length = true → ∃ u, exec .sectionAdmit s = .next u ∧ Ended s { s with cyc := { s.cyc with fifo := rest, waited := false, cmdq := s.cyc.cmdq ++ sec } } u ∧
      u.cyc.cmdq = s.cyc.cmdq ++ sec) ∧
    (s.mayAdmit sec.length = false → s.cyc.waited = false → ∃ u, exec .sectionAdmit s = .next u ∧ u.cyc.fifo = s.cyc.fifo ∧ u.cyc.waited = true ∧
      u.rd R.QUE_CVIOLCT = incSat (s.rd R.QUE_CVIOLCT) ∧ u.bit (rEVT P.CYC) 3 = true) ∧
    (s.mayAdmit sec.length = false → s.cyc.waited = true → ∃ u, exec .sectionAdmit s = .next u ∧ Ended s s u) := by
  rw [exec_sectionAdmit, if_pos ha]
  refine ⟨fun hm => ?_, fun hm hw => ?_, fun hm hw => ?_⟩
  · rw [admitNow_fits hf hm]
    exact done_of fun u e => ⟨e, e.cyc_cmdq⟩
  · rw [admitNow_waits hf hm, if_neg (by simp [hw])]
    generalize hv : ({ s with cyc := { s.cyc with waited := true } } : State) = v
    have q : ((v.inc R.QUE_CVIOLCT).raise P.CYC 3).quiet = v.quiet := quiet_raise _ _ _
    have fifo : ((v.inc R.QUE_CVIOLCT).raise P.CYC 3).cyc.fifo = v.cyc.fifo := by have e := congrArg (fun q : State => q.cyc.fifo) q; exact e
    have waited : ((v.inc R.QUE_CVIOLCT).raise P.CYC 3).cyc.waited = v.cyc.waited := by have e := congrArg (fun q : State => q.cyc.waited) q; exact e
    refine done_of fun u e => ⟨?_, ?_, ?_, e.evt (bit_raise _ _ _ (by decide))⟩
    · rw [e.cyc_fifo, fifo, ← hv]
    · rw [e.cyc_waited, waited, ← hv]
    · rw [e.rd (by decide), rd_raise _ (by decide), State.inc, State.rd_wr_self, ← hv]; rfl
  · rw [admitNow_waits hf hm, if_pos hw]
    exact done_of fun u e => e

/-- FLUSH leaves no command (R322). -/
theorem flush_empties (s : State) : s.flush.cyc.cmdq = [] ∧ s.flush.cyc.fifo = [] := by
  have answers (l : List Cmd) (t : State) : (l.foldl (fun (s : State) c => s.respond c 6 0#32) t).cyc.cmdq = t.cyc.cmdq ∧
      (l.foldl (fun (s : State) c => s.respond c 6 0#32) t).cyc.fifo = t.cyc.fifo := by
    induction l generalizing t with
    | nil => exact ⟨rfl, rfl⟩
    | cons c l ih =>
      obtain ⟨cmdq, fifo⟩ := respond_waiting t c 6 0#32
      exact ⟨(ih _).1.trans cmdq, (ih _).2.trans fifo⟩
  exact answers _ _

/-- Settles O34: a section by whether it fits, a command by its operation and the status of its register, FLUSH by the answers it gives. -/
theorem commandQueue : Obligations.CommandQueue := by
  unfold Obligations.CommandQueue
  intro s ha
  refine ⟨fun sec rest => sectionAdmit_clauses ha, fun c rest hq hd hp hl => ?_, fun path ht => ?_⟩
  · have front := execFront_front ha hq hd
    refine ⟨fun ho h0 hm hr => ?_, fun ho h0 hm hr => ?_, fun ho hm => ?_, fun ho hm hw => ?_, fun ho hw => ?_, fun ho hw => ?_, fun ho hm h4 => ?_⟩ <;> rw [ho] at front
    · rw [exec_cmdRead, front, execCmd_read (s := s.dequeued rest) ho h0 hm hr]
      exact done_respond (QueuesKept.refl _).fetchReg hp hl 0 _
    · rw [exec_cmdRead, front, execCmd_read_refused (s := s.dequeued rest) ho h0 hm hr]
      exact done_refused hp hl hr _
    · rw [exec_cmdWrite, front, execCmd_write ho hm]
      exact done_of fun u e => e
    · rw [exec_cmdWrite, front, execCmd_write_refused (s := s.dequeued rest) ho hm hw]
      exact done_refused hp hl hw _
    · intro v
      rw [exec_cmdModify, front, execCmd_modify (s := s.dequeued rest) ho hw]
      exact done_of fun u e => e
    · rw [exec_cmdModify, front, execCmd_modify_refused (s := s.dequeued rest) ho hw]
      exact done_refused hp hl hw _
    · rw [exec_cmdFlushmark, front, execCmd_flushmark ho hm h4]
      exact done_respond (.refl _) hp hl 0 0#32
  · obtain ⟨cmdq, fifo⟩ := flush_empties s
    refine landed_of (exec_flush ht) fun u k => ⟨k, ?_, ?_⟩
    · have e := congrArg (fun q : State => q.cyc.cmdq) k.near.shape
      exact (show u.cyc.cmdq = s.flush.cyc.cmdq from e).trans cmdq
    · have e := congrArg (fun q : State => q.cyc.fifo) k.near.shape
      exact (show u.cyc.fifo = s.flush.cyc.fifo from e).trans fifo

end Sys2Proof.Machine

namespace Sys2Proof.Machine

/-! ## A check of an authorisation, beside the tick block -/

/-- The check leaves line-time and the queues. -/
theorem authorise_keeps (s : State) (src : Nat) (num : Word) (edge done : LineTime) :
    (s.authorise src num edge done).1.lt = s.lt ∧ QueuesKept s (s.authorise src num edge done).1 := by
  have dropped (ev : Nat) : (s.authDrop ev).lt = s.lt ∧ QueuesKept s (s.authDrop ev) := ⟨spine_lt (s := s) (spine_raise _ _ _), ((QueuesKept.refl s).inc (by rfl)).raise⟩
  unfold State.authorise
  extract_lets w
  split_ifs
  · dsimp only [State.authTake]
    have taken : QueuesKept s ((({ s with tck := { s.tck with pend := some ⟨num, edge⟩, pnum := num, pedge := edge } } : State)).wr R.TCK_MARGIN (wd (min (ahead edge done) 0xFFFFF))) :=
      .wr (.of_regs (by rfl)) (by rfl)
    split_ifs
    · exact ⟨rfl, taken.wr (by rfl)⟩
    · exact ⟨rfl, taken⟩
  · exact dropped 0
  · exact dropped 1
  · have rejected : QueuesKept s (s.authRej w) := .raise (((QueuesKept.refl s).wr (a := R.TCK_REJ) (by rfl)).trans (.of_regs (by rfl)))
    exact ⟨spine_lt (s := s) (spine_raise _ _ _), rejected⟩

/-! ## Transactions of the host SPI port (R768 to R772) -/

/-- The port once a good transaction has presented its entry: what is left in the FIFO, what was removed, and the status cleared (R769). -/
def State.spiPresented (s : State) (rep mode3 : Bool) : State :=
  let o := s.spiOpen rep mode3
  { o with hsp := { o.hsp with
      fifo := if rep then s.hsp.fifo else s.hsp.fifo.tail, removed := if rep then s.hsp.removed else s.hsp.fifo.head?.or s.hsp.removed, last := 0 } }

theorem spiWith_on {s : State} (h : s.portsOn = true) (rep mode3 : Bool) (f : State → State) : s.spiWith rep mode3 f = f (s.spiPresented rep mode3) := by
  have taken : ({ (s.spiOpen rep mode3).spiTaken rep with hsp := { ((s.spiOpen rep mode3).spiTaken rep).hsp with last := 0 } } : State) = s.spiPresented rep mode3 := by
    cases rep
    · have fifo : (s.spiOpen false mode3).hsp.fifo = s.hsp.fifo := rfl
      unfold State.spiTaken State.spiPresented
      simp only [Bool.false_eq_true, if_false]
      rw [← fifo]
      split
      · next e => simp only [e]; rfl
      · next x l e => simp only [e]; rfl
    · rfl
  unfold State.spiWith
  rw [if_pos h]
  exact congrArg f taken

/-- Without VIO, or where the part does not run, a transaction does nothing. -/
theorem spiWith_off {s : State} (h : s.portsOn = false) (rep mode3 : Bool) (f : State → State) : s.spiWith rep mode3 f = s := if_neg (by simp [h])

theorem length_beOctets (n v : Nat) : (beOctets n v).length = n := by
  induction n with
  | zero => rfl
  | succ n ih => exact congrArg (· + 1) ih

theorem length_octets (e : Resp) : e.octets.length = 12 := by simp only [Resp.octets, List.length_append, length_beOctets]

/-- A transaction carries 16 octets (R769). -/
theorem length_sdo (s : State) (rep mode3 : Bool) : (s.spiOpen rep mode3).hsp.sdo.length = 16 := by
  have entry (o : Option Resp) : (match o with | some e => e.octets | none => List.replicate 12 0#8).length = 12 := by
    cases o with
    | none => rfl
    | some e => exact length_octets e
  unfold State.spiOpen
  simp only [List.length_append, length_beOctets]
  exact congrArg (fun n => 1 + 1 + n + 2) (entry _)

/-- The register operations of the port, each with its code (Table 16-3). -/
def spiOps (rep mode3 : Bool) (tag addr : Nat) (data mask : Word) : List (Instr × Nat) :=
  [(.spiRead rep mode3 tag addr data mask, 1), (.spiWrite rep mode3 tag addr data mask, 2), (.spiModify rep mode3 tag addr data mask, 3),
    (.spiFlushmark rep mode3 tag addr data mask, 4)]

theorem exec_spiNop (rep mode3 : Bool) (tag addr : Nat) (s : State) : exec (.spiNop rep mode3 0 tag addr) s = s.done (s.spiWith rep mode3 id) := rfl

theorem exec_spiOps {rep mode3 : Bool} {tag addr : Nat} {data mask : Word} (s : State) {e : Instr × Nat} (h : e ∈ spiOps rep mode3 tag addr data mask) :
    exec e.1 s = s.done (s.spiWith rep mode3 fun t => t.spiOp e.2 tag addr data mask) := by
  simp only [spiOps, List.mem_cons, List.not_mem_nil, or_false] at h
  rcases h with rfl | rfl | rfl | rfl <;> rfl

theorem exec_frameErr (rep mode3 : Bool) (s : State) : exec (.frameErr rep mode3) s = s.done (s.spiError rep mode3) := rfl

theorem exec_spiTick (rep mode3 : Bool) (num : Word) (edge dt : LineTime) (s : State) :
    exec (.spiTick rep mode3 num edge dt) s = s.done ((if s.lineOn then s.elapse dt else s).spiWith rep mode3 fun t => t.spiTick num edge) := rfl

/-! ### A register operation (R314, R319, R771) -/

/-- What the port counts and reports beside what it holds: a counter of HSP one up, and an event of HSP. -/
theorem done_counted {s t : State} {a n : Nat} (hn : n < 32) (hf : frameReg a = false) (ht : raiseTouches P.HSP a = false)
    (hs : settleTouches a = false) :
    ∃ u, s.done ((t.inc a).raise P.HSP n) = .next u ∧ u.hsp = t.hsp ∧ u.cyc.cmdq = t.cyc.cmdq ∧ u.rd a = incSat (t.rd a) ∧ u.bit (rEVT P.HSP) n = true := by
  have k : QueuesKept t ((t.inc a).raise P.HSP n) := ((QueuesKept.refl t).inc hf).raise
  exact done_of fun u e => ⟨e.hsp.trans k.hsp, e.cyc_cmdq.trans k.cmdq, (e.rd hs).trans ((rd_raise _ ht).trans (State.rd_wr_self ..)), e.evt (bit_raise _ _ _ hn)⟩

theorem spiOp_busy {t : State} (h : t.spiBusy = true) (op tag addr : Nat) (data mask : Word) :
    t.spiOp op tag addr data mask = (({ t with hsp := { t.hsp with last := 2 } } : State).inc R.HSP_BUSYCT).raise P.HSP 1 := if_pos h

theorem spiOp_waits {t : State} (h : t.spiBusy = false) (hd : t.atOnce = false) (op tag addr : Nat) (data mask : Word) :
    t.spiOp op tag addr data mask = { t with cyc := { t.cyc with cmdq := t.cyc.cmdq ++ [⟨.spi, op, tag % 256, addr % 65536, data, mask⟩] } } :=
  (if_neg (by simp [h])).trans (if_neg (by simp [hd]))

theorem spiOp_executes {t : State} (h : t.spiBusy = false) (hd : t.atOnce = true) (op tag addr : Nat) (data mask : Word) :
    t.spiOp op tag addr data mask = t.execCmd ⟨.spi, op, tag % 256, addr % 65536, data, mask⟩ := (if_neg (by simp [h])).trans (if_pos hd)

/-- A port that is not busy has room for a response. -/
theorem fifo_room {t : State} (h : t.spiBusy = false) : t.hsp.fifo.length < 16 := by
  unfold State.spiBusy at h
  simp only [Bool.or_eq_false_iff, decide_eq_false_iff_not] at h
  omega

theorem spiOps_clauses {s : State} (hp : s.portsOn = true) (rep mode3 : Bool) (tag addr : Nat) (data mask : Word) {e : Instr × Nat} (he : e ∈ spiOps rep mode3 tag addr data mask) :
    let t := s.spiPresented rep mode3
    (t.spiBusy = true → ∃ u, exec e.1 s = .next u ∧ u.hsp = { t.hsp with last := 2 } ∧ u.cyc.cmdq = s.cyc.cmdq ∧ u.rd R.HSP_BUSYCT = incSat (s.rd R.HSP_BUSYCT) ∧
      u.bit (rEVT P.HSP) 1 = true) ∧
    (t.spiBusy = false → s.atOnce = false → ∃ u, exec e.1 s = .next u ∧ u.hsp = t.hsp ∧ u.cyc.cmdq = s.cyc.cmdq ++ [⟨.spi, e.2, tag % 256, addr % 65536, data, mask⟩]) ∧
    (t.spiBusy = false → s.atOnce = true → ∃ u, exec e.1 s = .next u ∧ Ended s (t.execCmd ⟨.spi, e.2, tag % 256, addr % 65536, data, mask⟩) u) := by
  intro t
  rw [exec_spiOps s he, spiWith_on hp]
  refine ⟨fun hb => ?_, fun hb hd => ?_, fun hb hd => ?_⟩
  · rw [spiOp_busy hb]
    exact done_counted (by decide) (by rfl) (by decide) (by decide)
  · rw [spiOp_waits hb hd]
    exact done_of fun u k => ⟨k.hsp, k.cyc_cmdq⟩
  · rw [spiOp_executes hb hd]
    exact done_of fun u k => k

/-- A READ at once leaves its response in the FIFO, with the value (R314, R770). -/
theorem spiRead_clause {s : State} (hp : s.portsOn = true) (rep mode3 : Bool) (tag : Nat) {addr : Nat} {data mask : Word} (hb : (s.spiPresented rep mode3).spiBusy = false)
    (hd : s.atOnce = true) (ha : addr < 65536) (h0 : data = 0#32) (hm : mask = 0#32) (hr : s.rdStatus .spi addr = 0) :
    ∃ u, exec (.spiRead rep mode3 tag addr data mask) s = .next u ∧
      u.hsp.fifo = (s.spiPresented rep mode3).hsp.fifo ++ [⟨tag % 256, 0, addr, ((s.spiPresented rep mode3).fetchReg addr).2, s.tck.now⟩] := by
  have k : QueuesKept (s.spiPresented rep mode3) ((s.spiPresented rep mode3).fetchReg addr).1 := (QueuesKept.refl _).fetchReg
  have now : ((s.spiPresented rep mode3).fetchReg addr).1.tck.now = s.tck.now := k.now
  rw [exec_spiOps (e := (.spiRead rep mode3 tag addr data mask, 1)) s (.head _), spiWith_on hp, spiOp_executes hb hd, Nat.mod_eq_of_lt ha,
    execCmd_read (s := s.spiPresented rep mode3) (c := ⟨.spi, 1, tag % 256, addr, data, mask⟩) rfl h0 hm hr, respond_spi rfl (k.hsp ▸ fifo_room hb), k.hsp, now]
  exact done_of fun u e => congrArg HspSt.fifo e.hsp

/-! ### A frame error (R768) -/

theorem frameErr_clause {s : State} (hp : s.portsOn = true) (rep mode3 : Bool) :
    ∃ u, exec (.frameErr rep mode3) s = .next u ∧ u.hsp = { (s.spiOpen rep mode3).hsp with last := 1 } ∧ u.hsp.fifo = s.hsp.fifo ∧ u.rd R.HSP_FRAMECT = incSat (s.rd R.HSP_FRAMECT) ∧
      u.bit (rEVT P.HSP) 0 = true := by
  have error : s.spiError rep mode3 = (({ s.spiOpen rep mode3 with hsp := { (s.spiOpen rep mode3).hsp with last := 1 } } : State).inc R.HSP_FRAMECT).raise P.HSP 0 := if_pos hp
  obtain ⟨u, hu, hsp, -, count, event⟩ := done_counted (s := s)
    (t := { s.spiOpen rep mode3 with hsp := { (s.spiOpen rep mode3).hsp with last := 1 } }) (a := R.HSP_FRAMECT) (n := 0) (by decide) rfl (by decide) (by decide)
  rw [exec_frameErr, error]
  exact ⟨u, hu, hsp, (congrArg HspSt.fifo hsp).trans rfl, count, event⟩

theorem lineOn_of_portsOn {s : State} (h : s.portsOn = true) : s.lineOn = true := by
  unfold State.portsOn at h
  unfold State.lineOn
  simp only [Bool.and_eq_true] at h ⊢
  obtain ⟨⟨hr, hm⟩, -⟩ := h
  simp [hr, hm]

/-! ### A TICK (R66, R772) -/

theorem authCode_presented (s : State) (rep mode3 : Bool) (src : Nat) (num : Word) (edge done : LineTime) :
    (s.spiPresented rep mode3).authCode src num edge done = s.authCode src num edge done := rfl

theorem spiTick_accepted {t : State} {num : Word} {edge : LineTime} (h : t.authCode 1 num edge t.lt = 0) :
    (t.spiTick num edge).lt = t.lt ∧ (t.spiTick num edge).hsp = t.hsp ∧ (t.spiTick num edge).tck.pend = some ⟨num, edge⟩ := by
  obtain ⟨lt, k⟩ := authorise_keeps t 1 num edge t.lt
  have taken : t.spiTick num edge = (t.authorise 1 num edge t.lt).1 := if_pos h
  rw [taken]
  exact ⟨lt, k.hsp, congrArg TckSt.pend ((authorisations t 1 num edge t.lt).2.1 h).1⟩

theorem spiTick_refused {t : State} {num : Word} {edge : LineTime} (h : t.authCode 1 num edge t.lt ≠ 0) :
    (t.spiTick num edge).lt = t.lt ∧ (t.spiTick num edge).hsp = { t.hsp with last := 3 } ∧ (t.spiTick num edge).rd R.HSP_TICKWHY = wd (t.authCode 1 num edge t.lt) ∧
      (t.spiTick num edge).bit (rEVT P.HSP) 2 = true ∧ (t.spiTick num edge).tck.pend = t.tck.pend := by
  obtain ⟨lt, k⟩ := authorise_keeps t 1 num edge t.lt
  have pend := ((authorisations t 1 num edge t.lt).2.2 h).1
  unfold State.spiTick
  rw [if_neg h]
  generalize (t.authorise 1 num edge t.lt).1 = r at lt k pend ⊢
  have told (v : State) : ((v.wr R.HSP_TICKWHY (wd (t.authCode 1 num edge t.lt))).raise P.HSP 2).spine = v.spine := spine_raise _ _ _
  have kept (v : State) : QueuesKept v ((v.wr R.HSP_TICKWHY (wd (t.authCode 1 num edge t.lt))).raise P.HSP 2) := ((QueuesKept.refl v).wr (by rfl)).raise
  refine ⟨(spine_lt (told _)).trans lt, (kept _).hsp.trans ?_, (rd_raise _ (by decide)).trans (State.rd_wr_self ..), bit_raise _ _ _ (by decide), (spine_pend (told _)).trans pend⟩
  exact congrArg (fun h : HspSt => { h with last := 3 }) k.hsp

theorem spiTick_clauses {s : State} (hp : s.portsOn = true) (rep mode3 : Bool) (num : Word) (edge dt : LineTime) :
    let left := if rep then s.hsp.fifo else s.hsp.fifo.tail
    let w := (s.elapse dt).authCode 1 num edge (s.elapse dt).lt
    (w = 0 → ∃ u, exec (.spiTick rep mode3 num edge dt) s = .next u ∧ u.lt = s.lt + dt ∧ u.hsp.fifo = left ∧ u.hsp.last = 0 ∧ u.tck.pend = some ⟨num, edge⟩) ∧
    (w ≠ 0 → ∃ u, exec (.spiTick rep mode3 num edge dt) s = .next u ∧ u.lt = s.lt + dt ∧ u.hsp.fifo = left ∧ u.hsp.last = 3 ∧ u.rd R.HSP_TICKWHY = wd w ∧
      u.bit (rEVT P.HSP) 2 = true ∧ u.tck.pend = s.tck.pend) := by
  have on : (s.elapse dt).portsOn = true := (elapse_keep s dt State.portsOn).trans hp
  have lt := elapse_lt s dt
  have hsp : (s.elapse dt).hsp = s.hsp := elapse_keep s dt State.hsp
  have pend : (s.elapse dt).tck.pend = s.tck.pend := elapse_keep s dt (·.tck.pend)
  rw [exec_spiTick, if_pos (lineOn_of_portsOn hp), spiWith_on on]
  generalize s.elapse dt = v at lt hsp pend ⊢
  have fifo : (v.spiPresented rep mode3).hsp.fifo = if rep then s.hsp.fifo else s.hsp.fifo.tail := hsp ▸ rfl
  refine ⟨fun h => ?_, fun h => ?_⟩
  · obtain ⟨alt, ahsp, apend⟩ := spiTick_accepted (t := v.spiPresented rep mode3) (num := num) (edge := edge) h
    refine done_of fun u e => ⟨e.lt.trans (alt.trans lt), ?_, ?_, e.tck_pend.trans apend⟩
    · rw [e.hsp, ahsp, fifo]
    · rw [e.hsp, ahsp]; rfl
  · obtain ⟨rlt, rhsp, why, event, rpend⟩ := spiTick_refused (t := v.spiPresented rep mode3) (num := num) (edge := edge) h
    refine done_of fun u e => ⟨e.lt.trans (rlt.trans lt), ?_, ?_, (e.rd (by decide)).trans why, e.evt event, e.tck_pend.trans (rpend.trans pend)⟩
    · rw [e.hsp, rhsp]; exact fifo
    · rw [e.hsp, rhsp]

/-- Settles O58: a good transaction by the port it presents, its operation by whether the port is busy and the part takes it at once, a TICK by its check. -/
theorem hostSpi : Obligations.HostSpi := by
  unfold Obligations.HostSpi
  intro s rep mode3 tag addr data mask o left t ops
  refine ⟨fun hp => ⟨?_, fun e he => spiOps_clauses hp rep mode3 tag addr data mask he, spiRead_clause hp rep mode3 tag, frameErr_clause hp rep mode3⟩, fun hp c hc => ?_,
    fun num edge dt hp => spiTick_clauses hp rep mode3 num edge dt⟩
  · rw [exec_spiNop, spiWith_on hp]
    exact done_of fun u e => ⟨e, e.hsp, (congrArg (·.sdo.length) e.hsp).trans (length_sdo s rep mode3)⟩
  · have nothing : exec c s = s.done s := by
      rcases List.mem_append.mp hc with h | h
      · simp only [List.mem_cons, List.not_mem_nil, or_false] at h
        rcases h with rfl | rfl
        · rw [exec_spiNop, spiWith_off hp]
        · exact congrArg s.done (if_neg (by simp [hp]))
      · obtain ⟨e, he, rfl⟩ := List.mem_map.mp h
        rw [exec_spiOps s he, spiWith_off hp]
    rw [nothing]
    exact done_of fun u e => e

end Sys2Proof.Machine

namespace Sys2Proof.Machine

/-! ## The RESPONSE frame (R300, R321, R323) -/

theorem exec_responseAssembly (s : State) :
    exec .responseAssembly s = s.done (if s.turn 6 (s.guardG + 448) then (s.partTo 6 (s.guardG + 448)).tickAssemble else s) := rfl

theorem exec_idleReport (s : State) : exec .idleReport s = s.done (if s.awake then s.idleReport else s) := rfl

theorem drop_length_take {α : Type} (n : Nat) (l : List α) : l.drop (l.take n).length = l.drop n := by
  rw [List.length_take]
  rcases Nat.le_total n l.length with h | h
  · rw [Nat.min_eq_left h]
  · rw [Nat.min_eq_right h, List.drop_length, List.drop_eq_nil_of_le h]

/-- The assembly of a frame in `s` leaves `t`: the responses taken, RSEQ one on, the marks of the last report cleared, and the frame sent where a host is known. -/
structure Reported (s t : State) : Prop where
  rspq : t.cyc.rspq = s.cyc.rspq.drop (s.fd R.CYC_RPTCFG 8 6)
  rseq : t.fd R.CYC_FSEQ 16 16 = (s.fd R.CYC_FSEQ 16 16 + 1) % 65536
  cdrop : t.cyc.cdrop = false
  rejWhy : t.cyc.rejWhy = 0
  sent : s.cyc.hmacv = true → t.cyc.txbuf.isSome = true ∧ (s.cyc.txbuf.isSome = true → t.rd R.QUE_RLOSTCT = incSat (s.rd R.QUE_RLOSTCT))
  unsent : s.cyc.hmacv = false → t.cyc.txbuf = s.cyc.txbuf

/-- Moving RSEQ on leaves every other register. -/
theorem rseq_next {s t : State} (h : t.rd R.CYC_FSEQ = s.rd R.CYC_FSEQ) :
    (t.setF R.CYC_FSEQ 16 16 (t.fd R.CYC_FSEQ 16 16 + 1)).fd R.CYC_FSEQ 16 16 = (s.fd R.CYC_FSEQ 16 16 + 1) % 65536 := by
  unfold State.setF State.fd
  rw [State.rd_wr_self, fld_setFld _ (by decide), h]
  rfl

theorem assemble_reported (s : State) : Reported s s.assemble := by
  unfold State.assemble
  extract_lets cfg mvn flg tick edge state perr why got mv g rs ev gcyc g1 rseq hdr pay eth0 eth g2 g3
  have k : QueuesKept s g := (QueuesKept.refl s).fetchAll
  have rspq : g2.cyc.rspq = s.cyc.rspq.drop (s.fd R.CYC_RPTCFG 8 6) := (drop_length_take _ g.cyc.rspq).trans (congrArg _ k.rspq)
  have next : g2.fd R.CYC_FSEQ 16 16 = (s.fd R.CYC_FSEQ 16 16 + 1) % 65536 := rseq_next (t := g1) (k.rd R.CYC_FSEQ rfl)
  have known : g2.cyc.hmacv = s.cyc.hmacv := k.hmacv
  have waiting : g2.cyc.txbuf = s.cyc.txbuf := k.txbuf
  have lost : g2.rd R.QUE_RLOSTCT = s.rd R.QUE_RLOSTCT := (State.rd_wr_ne _ _ (by decide)).trans (k.rd R.QUE_RLOSTCT rfl)
  rw [known]
  cases host : s.cyc.hmacv with
  | false => exact ⟨rspq, next, rfl, rfl, by simp [host], fun _ => waiting⟩
  | true =>
    have g3_rspq : g3.cyc = g2.cyc := by unfold g3; split_ifs <;> rfl
    have g3_fseq : g3.rd R.CYC_FSEQ = g2.rd R.CYC_FSEQ := by
      unfold g3
      split_ifs
      · exact State.rd_wr_ne _ _ (by decide)
      · rfl
    refine ⟨(congrArg CycSt.rspq g3_rspq).trans rspq, (congrArg (fld · 16 16) g3_fseq).trans next, congrArg CycSt.cdrop g3_rspq, congrArg CycSt.rejWhy g3_rspq,
      fun _ => ⟨rfl, fun full => ?_⟩, by simp [host]⟩
    have counted : g3 = g2.inc R.QUE_RLOSTCT := if_pos (waiting ▸ full)
    exact (congrArg (·.rd R.QUE_RLOSTCT) counted).trans ((State.rd_wr_self ..).trans (congrArg incSat lost))

/-- The frame of a tick, in its window. -/
theorem responseAssembly_assembles {s : State} (h : s.turn 6 (s.guardG + 448) = true) :
    exec .responseAssembly s = s.done (s.partTo 6 (s.guardG + 448)).assemble := by
  have inTick : (s.ticking && s.tck.inTick) = true := by
    unfold State.turn at h
    simp only [Bool.and_eq_true] at h ⊢
    exact h.1.1
  rw [exec_responseAssembly, if_pos h]
  exact congrArg s.done (if_pos inTick)

/-- The frame of a report, outside ticks. -/
theorem idleReport_assembles {s : State} (h : s.awake = true) (hd : s.direct = true ∨ s.tck.state = .armed) : exec .idleReport s = s.done s.assemble := by
  rw [exec_idleReport, if_pos h]
  exact congrArg s.done (if_pos (by simpa using hd))

/-- Settles O35: the frame of a tick and the one of a report are the same assembly, which the settling of the stage leaves. -/
theorem responses : Obligations.Responses := by
  unfold Obligations.Responses
  intro s c h taken
  obtain ⟨t, ht, r⟩ : ∃ t, exec c s = s.done t ∧ Reported s t := by
    rcases h with ⟨rfl, turn⟩ | ⟨rfl, awake, untimed⟩
    · obtain ⟨rspq, rseq, cdrop, rejWhy, sent, unsent⟩ := assemble_reported (s.partTo 6 (s.guardG + 448))
      exact ⟨_, responseAssembly_assembles turn, rspq, rseq, cdrop, rejWhy, sent, unsent⟩
    · exact ⟨_, idleReport_assembles awake untimed, assemble_reported s⟩
  have left {u : State} (e : Ended s t u) : taken u :=
    ⟨e.cyc_rspq.trans r.rspq, (e.fd (by decide)).trans r.rseq, e.cyc_cdrop.trans r.cdrop, e.cyc_rejWhy.trans r.rejWhy⟩
  rw [ht]
  refine ⟨fun known => done_of fun u e => ?_, fun unknown => done_of fun u e => ⟨left e, e.cyc_txbuf.trans (r.unsent unknown)⟩⟩
  obtain ⟨some, lost⟩ := r.sent known
  exact ⟨left e, (congrArg Option.isSome e.cyc_txbuf).trans some, fun full => (e.rd (by decide)).trans (lost full)⟩

end Sys2Proof.Machine

namespace Sys2Proof.Machine

/-! ## A write of a block's own register (R3 to R10, R123, R128, R148) -/

theorem exec_registerWrite (path : Path) (a : Nat) (v : Word) (s : State) : exec (.registerWrite path a v) s = s.done (s.writeWord path a v) := rfl

theorem writeWord_refused {s : State} {path : Path} {a : Nat} (ha : s.awake = true) (hl : s.landsNow path = true) (h : s.wrStatus path a ≠ 0) (v : Word) :
    s.writeWord path a v = s.answered ⟨path, 2, 0, a % 65536, v, 0#32⟩ (s.wrStatus path a) v := by
  simp [State.writeWord, ha, hl, landWrite_refused h v]

/-- Log entry 53: it waits in the command queue with tag 0. -/
theorem writeWord_waits {s : State} {a : Nat} (ha : s.awake = true) (hd : s.atOnce = false) (hc : s.cfree ≠ 0) (v : Word) :
    s.writeWord .network a v = { s with cyc := { s.cyc with cmdq := s.cyc.cmdq ++ [⟨.network, 2, 0, a % 65536, v, 0#32⟩] } } := by
  have late : s.landsNow .network = false := hd
  simp [State.writeWord, ha, late, State.queueWrite, hc]

/-! ### The value is stored -/

/-- A store of `n` in register `a` of `s` leaves `t`: no other register moves, but by what follows the settings of the port and LQI's threshold. -/
structure Stored (s : State) (a : Nat) (n : Word) (t : State) : Prop where
  value : t.rd a = n
  other : rewrites a = false → ∀ b, b ≠ a → t.rd b = s.rd b
  landed : t.landed = s.landed
  ticking : t.ticking = s.ticking

theorem stored_self (s : State) (a : Nat) : Stored s a (s.rd a) s := ⟨rfl, fun _ _ _ => rfl, rfl, rfl⟩

theorem stored_wr (s : State) (a : Nat) (n : Word) : Stored s a n (s.wr a n) := ⟨State.rd_wr_self .., fun _ _ hb => State.rd_wr_ne _ _ hb, rfl, rfl⟩

/-- What follows the store of a register on which something is acted leaves it. -/
theorem Stored.follows {s t u : State} {a : Nat} {n : Word} (h : Stored s a n t) (hr : rewrites a = true) (ha : u.rd a = t.rd a) (hl : u.landed = t.landed)
    (ht : u.ticking = t.ticking) : Stored s a n u :=
  ⟨ha.trans h.value, by simp [hr], hl.trans h.landed, ht.trans h.ticking⟩

/-- Settings in force move no register but what the detector's report counts. -/
theorem lnkWritten_keeps (s : State) : (∀ a, lineTouches a = false → s.lnkWritten.rd a = s.rd a) ∧ s.lnkWritten.landed = s.landed ∧ s.lnkWritten.ticking = s.ticking := by
  obtain ⟨t, ht, regs, landed, ticking⟩ : ∃ t : State, s.lnkApply = t.energyNow ∧ t.regs = s.regs ∧ t.landed = s.landed ∧ t.ticking = s.ticking := by
    refine ⟨_, rfl, ?_⟩
    dsimp only
    split_ifs <;> exact ⟨rfl, rfl, rfl⟩
  have k := portKept_energyNow t
  unfold State.lnkWritten
  split_ifs
  · rw [ht]
    exact ⟨fun a ha => (k.rd a ha).trans (rd_of_regs regs a), (k.keep State.landed).trans landed, (k.keep State.ticking).trans ticking⟩
  · exact ⟨fun _ _ => rfl, rfl, rfl⟩

theorem lqiEval_keeps (s : State) : (∀ a, raiseTouches P.ISN a = false → s.lqiEval.rd a = s.rd a) ∧ s.lqiEval.landed = s.landed ∧ s.lqiEval.ticking = s.ticking := by
  have k (t : State) (c : Bool) : (t.raiseIf c P.ISN 7).quiet = t.quiet := quiet_raiseIf t c P.ISN 7
  exact ⟨fun a ha => rd_raiseIf _ ha, by have e := congrArg State.landed (k { s with isn := { s.isn with lqiLow := s.lqiBelow } } (s.lqiBelow && !s.isn.lqiLow)); exact e,
    by have e := congrArg State.ticking (k { s with isn := { s.isn with lqiLow := s.lqiBelow } } (s.lqiBelow && !s.isn.lqiLow)); exact e⟩

/-- The registers whose store starts something by the bits that change. -/
def switches (a : Nat) : Bool := a == rCTRL P.CLK || a == rCTRL P.LNK || a == rCTRL P.PST || a == rCTRL P.LNS

theorem stored_putReg (s : State) {a : Nat} (h : switches a = false) (n : Word) : Stored s a n (s.putReg a n) := by
  have base : Stored s a n (if n = s.rd a then s else s.wr a n) := by
    split_ifs with e
    · exact e ▸ stored_self s a
    · exact stored_wr s a n
  simp only [switches, Bool.or_eq_false_iff, beq_eq_false_iff_ne] at h
  obtain ⟨⟨⟨clk, lnk⟩, pst⟩, lns⟩ := h
  simp only [State.putReg, clk, lnk, pst, lns, if_false]
  generalize (if n = s.rd a then s else s.wr a n) = t at base ⊢
  split_ifs with port lqi
  · obtain ⟨rd, landed, ticking⟩ := lnkWritten_keeps t
    refine base.follows ?_ (rd a ?_) landed ticking <;> rcases port with rfl | rfl | rfl | rfl <;> decide
  · obtain ⟨rd, landed, ticking⟩ := lqiEval_keeps t
    subst lqi
    exact base.follows (by decide) (rd _ (by decide)) landed ticking
  · exact base

/-- An accepted value lands: its register takes it. -/
theorem stored_landNow {s : State} {path : Path} {a : Nat} {d : RegDesc} {v : Word} (h : switches a = false) (hw : isWindow a = false)
    (hok : s.accept path a (s.rd a) (mergeMask (s.rd a) v (wd d.wmask)) v = (mergeMask (s.rd a) v (wd d.wmask), none)) :
    Stored s a (mergeMask (s.rd a) v (wd d.wmask)) (s.landNow path a d v) := by
  unfold State.landNow
  simp only [hok, hw, Bool.false_eq_true, if_false]
  split_ifs with empty
  · rw [empty, show wd 0 = 0#32 from rfl, mergeMask_zero]
    exact stored_self s a
  · exact stored_putReg s h _

/-! ### The landing by access code -/

section landBlock
variable {s : State} {path : Path} {a : Nat} {d : RegDesc} {v : Word}

theorem landBlock_ro (h : d.acc = .ro) : s.landBlock path a d v = (s, 0) := by simp only [State.landBlock, h]

theorem landBlock_open (ha : d.amask = 0) (h : d.acc = .rw ∨ (d.acc = .lk ∧ s.openTo path (a / 256) = true)) : s.landBlock path a d v = (s.landNow path a d v, 0) := by
  rcases h with h | ⟨h, o⟩
  · simp only [State.landBlock, h, ha, if_true]
  · simp only [State.landBlock, h, ha, o, if_true]

theorem landBlock_closed (ha : d.amask = 0) (h : d.acc = .lk) (o : s.openTo path (a / 256) = false) : s.landBlock path a d v = (s, 2) := by
  simp only [State.landBlock, h, ha, o, if_true, Bool.false_eq_true, if_false, ite_self]

theorem landBlock_ts (ha : d.amask = 0) (h : d.acc = .ts) (hd : s.direct = false) (hs : Sparse.find s.shadow a = none) (hw : d.wmask ≠ 0)
    (hok : s.accept path a (s.rd a) (mergeMask (s.rd a) v (wd d.wmask)) v = (mergeMask (s.rd a) v (wd d.wmask), none)) :
    s.landBlock path a d v = ({ s with shadow := Sparse.insert s.shadow a (mergeMask (s.rd a) v (wd d.wmask)) }, 0) := by
  simp [State.landBlock, h, State.landTs, hs, hok, ha, hd, hw]

end landBlock

/-! ### Who is told (R148) -/

/-- The path that wrote before is told, whatever paths are told after it. -/
theorem told_of_mem {a : Nat} {w q : Path} {l : List Path} (h : q ∈ l) (s : State) : (l.foldl (fun s q => s.shadowed a w q) s).bit (rEVT (pathPage q)) 15 = true := by
  induction l generalizing s with
  | nil => simp at h
  | cons p l ih =>
    rcases List.mem_cons.mp h with rfl | h
    · exact (near_foldl l _ (fun s p => near_shadowed s a w p) _).evt _ _ (bit_raise _ _ _ (by decide))
    · exact ih h _

theorem markLanded_tells {s : State} {a : Nat} (ht : s.ticking = true) (h : (a, Path.network) ∈ s.landed) : (s.markLanded .coreSup a).bit (rEVT P.CYC) 15 = true := by
  unfold State.markLanded
  rw [if_neg (by simp [ht])]
  refine told_of_mem (q := .network) (List.mem_filter.mpr ⟨.head _, ?_⟩) s
  have wrote : (s.landed.any fun e => e.1 == a && pathCode e.2 == pathCode Path.network) = true := List.any_eq_true.mpr ⟨_, h, by simp⟩
  rw [wrote]
  decide

theorem landed_note (s : State) (w a : Nat) (v : Word) (cls : Nat) : (s.note w a v cls).landed = s.landed ∧ (s.note w a v cls).ticking = s.ticking := by
  have dirty (t : State) (p : Nat) : (t.markDirty p).landed = t.landed ∧ (t.markDirty p).ticking = t.ticking := by
    unfold State.markDirty
    split_ifs <;> exact ⟨rfl, rfl⟩
  unfold State.note
  dsimp only
  split
  · split
    · exact dirty _ _
    · split_ifs <;> exact ⟨rfl, rfl⟩
  · exact ⟨rfl, rfl⟩

/-- A core's write of a register the network wrote in the tick tells the network. -/
theorem landWrite_tells {s : State} {a : Nat} {d : RegDesc} {v : Word} (h : s.Takes .coreSup a) (hd : regDesc a = some d) (ho : a % 256 ≠ 0x1C) (hacc : d.acc = .rw ∨ d.acc = .lk)
    (h0 : (s.landReg .coreSup a d v).2 = 0) (ht : (s.landReg .coreSup a d v).1.ticking = true) (hl : (a, Path.network) ∈ (s.landReg .coreSup a d v).1.landed) :
    (s.landWrite .coreSup a v).1.bit (rEVT P.CYC) 15 = true := by
  obtain ⟨-, -, allowed, unfrozen⟩ := h
  have counts : shadowable a d = true := by rcases hacc with e | e <;> simp [shadowable, e, ho]
  have writes : d.acc ≠ .ro := by rcases hacc with e | e <;> simp [e]
  obtain ⟨noted, time⟩ := landed_note (s.landReg .coreSup a d v).1 4 (0x40000000 + a) v 1
  unfold State.landWrite
  simp only [allowed, hd, unfrozen, h0, counts, writes, hacc, ne_eq, not_true_eq_false, not_false_eq_true, and_self, if_true, if_false, Bool.false_eq_true, decide_true, Bool.and_self]
  refine (calms_settleOut _).evt _ _ (markLanded_tells ?_ ?_)
  · exact time.trans ht
  · exact noted.symm ▸ hl

/-! ### The register write -/

/-- The state a write leaves is both what its effect leaves and what the command ends in. -/
theorem landed_word_ended {s : State} {path : Path} {a : Nat} {v : Word} {d : RegDesc} (h : s.Takes path a) (hd : regDesc a = some d) :
    ∃ u, exec (.registerWrite path a v) s = .next u ∧ Landed s (s.landReg path a d v).1 u ∧ Ended s (s.writeWord path a v) u := by
  obtain ⟨u, hu, landed⟩ := landed_word (v := v) h hd
  obtain ⟨w, hw, ended⟩ := ended_done s (s.writeWord path a v)
  rw [hu] at hw
  obtain rfl : u = w := by injection hw
  exact ⟨u, hu, landed, ended⟩

/-- A landing that changes no register. -/
theorem registerWrite_nothing {s : State} {path : Path} {a : Nat} {v : Word} {d : RegDesc} (h : s.Takes path a) (hd : regDesc a = some d) (hn : (s.landReg path a d v).1 = s) :
    ∃ u, exec (.registerWrite path a v) s = .next u ∧ ∀ b, landTouches b = false → u.rd b = s.rd b := by
  refine landed_of (landed_word h hd) fun u l b hb => ?_
  rw [l.rd hb, hn]

/-- A register that switches something carries action bits, but for CLK's and LNS's. -/
theorem switches_of_no_action {a : Nat} {d : RegDesc} (hd : regDesc a = some d) (ha : d.amask = 0) (hc : a ≠ rCTRL P.CLK) (hl : a ≠ rCTRL P.LNS) : switches a = false := by
  have acts : ∀ b ∈ [rCTRL P.LNK, rCTRL P.PST], (regDesc b).all (·.amask != 0) = true := by decide
  have ne (b : Nat) (hb : b ∈ [rCTRL P.LNK, rCTRL P.PST]) : a ≠ b := by
    rintro rfl
    have nonzero := acts a hb
    simp [hd, ha] at nonzero
  simp [switches, hc, hl, ne _ (.head _), ne _ (.tail _ (.head _))]

theorem landed_shadow {s t u : State} (h : Landed s t u) : u.shadow = t.shadow := by
  have e := congrArg State.shadow h.near.shape
  exact e

/-- Settles O37, by what the landing does for each access code, the store of the value being the one that moves its register. -/
theorem registerWrites : Obligations.RegisterWrites := by
  unfold Obligations.RegisterWrites
  intro s path a v
  refine ⟨fun ha hl hw => ?_, fun ha hd hc => ?_, ?_⟩
  · rw [exec_registerWrite, writeWord_refused ha hl hw]
    exact done_of fun u e => e
  · rw [exec_registerWrite, writeWord_waits ha hd hc]
    exact done_of fun u e => e
  intro take off quiet window hclk hlns d hd amask n hok
  have own : ownOff a = true := by
    simp only [List.forall_mem_cons, List.not_mem_nil, false_implies, implies_true, and_true] at off
    obtain ⟨h1, h2, h3, h4, h5⟩ := off
    simp [ownOff, h1, h2, h3, h4, h5]
  have block : s.landReg path a d v = s.landBlock path a d v := landReg_own own
  refine ⟨fun ro => ?_, fun acc => ?_, fun lk closed => ?_, fun ts direct unshadowed writable => ?_⟩
  · exact registerWrite_nothing take hd (by rw [block, landBlock_ro ro])
  · have lands : s.landReg path a d v = (s.landNow path a d v, 0) := block.trans (landBlock_open amask acc)
    have stored : Stored s a n (s.landNow path a d v) := stored_landNow (switches_of_no_action hd amask hclk hlns) window hok
    obtain ⟨u, hu, landed, ended⟩ := landed_word_ended (v := v) take hd
    rw [lands] at landed
    refine ⟨u, hu, (landed.rd quiet).trans stored.value, fun plain b hb hq => (landed.rd hq).trans (stored.other ?_ b hb), fun ticks core wrote => ?_⟩
    · simpa [rewrites, not_or, and_assoc] using plain
    · subst core
      have told := landWrite_tells (v := v) take hd (off 0x1C (by decide)) (acc.imp id And.left) (by rw [lands]) (by rw [lands]; exact stored.ticking.trans ticks)
        (by rw [lands]; exact stored.landed.symm ▸ wrote)
      obtain ⟨awake, now, -⟩ := take
      have made : s.writeWord .coreSup a v = (s.landWrite .coreSup a v).1.answered ⟨.coreSup, 2, 0, a % 65536, v, 0#32⟩ (s.landWrite .coreSup a v).2 v := by
        simp [State.writeWord, awake, now]
      exact ended.evt (made ▸ (near_answered _ _ _ _).evt _ _ told)
  · exact registerWrite_nothing take hd (by rw [block, landBlock_closed amask lk closed])
  · have lands : s.landReg path a d v = ({ s with shadow := Sparse.insert s.shadow a n }, 0) := block.trans (landBlock_ts amask ts direct unshadowed writable hok)
    obtain ⟨u, hu, landed⟩ := landed_word (v := v) take hd
    rw [lands] at landed
    refine ⟨u, hu, ?_, fun b hb => landed.rd hb⟩
    rw [landed_shadow landed, Sparse.find_insert, if_pos rfl]

end Sys2Proof.Machine

namespace Sys2Proof.Machine

/-! ## The queues through an entry to SAFE and a host frame -/

namespace QueuesKept
variable {s t : State} (h : QueuesKept s t)
include h

theorem hwF {a lo w n : Nat} (ha : frameReg a = false) : QueuesKept s (t.hwF a lo w n) := h.hw ha

/-! ### Channels, loops, generators, injectors, controllers -/

theorem setFm {c : Nat} {x : FmSt} : QueuesKept s (t.setFm c x) := h.trans (.ite (.of_regs (by rfl)) (.of_regs (by rfl)))
theorem setGen {j : Nat} {g : GenSt} : QueuesKept s (t.setGen j g) := h.trans (.of_regs (by rfl))
theorem loopRestart {n : Nat} : QueuesKept s (t.loopRestart n) := h.trans (.of_regs (by rfl))
theorem loopOff {n : Nat} : QueuesKept s (t.loopOff n) := h.trans (.of_regs (by rfl))
theorem genLoad {j : Nat} : QueuesKept s (t.genLoad j) := h.setGen.raiseIf
theorem genMode {j was : Nat} : QueuesKept s (t.genMode j was) := .ite h.setGen h
theorem prfLimit {old : State} {j : Nat} : QueuesKept s (t.prfLimit old j) := h.raiseIf
theorem injStart {k : Nat} : QueuesKept s (t.injStart k) := h.trans (.of_regs (by rfl))
theorem injStop {k : Nat} {done : Bool} : QueuesKept s (t.injStop k done) := .ite (h.trans (.of_regs (by rfl))).raiseIf h
theorem rptEnable {c : Nat} : QueuesKept s (t.rptEnable c) := h.trans (.of_regs (by rfl))
theorem rptClear {c : Nat} : QueuesKept s (t.rptClear c) := h.foldl fun _ _ _ k => k.memStore
theorem groupNone {m : Nat} : QueuesKept s (t.groupNone m) := .ite (h.trans (.of_regs (by rfl))) h
theorem winFall : QueuesKept s t.winFall := h.trans (.of_regs (by rfl))

theorem setRange {c : Nat} {v : Bool} {r : Nat} (hc : c < 2) : QueuesKept s (t.setRange c v r) := by
  unfold State.setRange
  extract_lets x old sel x' s1 s2 src _ s3 s4
  have h2 : QueuesKept s s2 := .inc h.setFm (by interval_cases c <;> rfl)
  have h3 : QueuesKept s s3 := .ite (h2.trans (.of_regs (by rfl))) h2
  have h4 : QueuesKept s s4 := .ite (h3.hwF (by rfl)) h3
  exact .ite h h4.raise

theorem rangeManual {c : Nat} (hc : c < 2) : QueuesKept s (t.rangeManual c) := by
  have first : QueuesKept s (if t.bit (rCTRL (P.FM c)) 5 then t else t.setRange c false (fld (t.rd (R.FM_RANGE c)) 0 3)) := .ite h (h.setRange hc)
  exact .ite first (first.setRange hc)

theorem precStop : QueuesKept s t.precStop := .ite ((h.wr (a := R.ADC_PFLG) (v := 0x10#32) (by rfl)).trans (.of_regs (by rfl))) h

theorem fmOff {c : Nat} (hc : c < 2) : QueuesKept s (t.fmOff c) := by
  interval_cases c <;> exact h.hwF (by rfl)

theorem fmLeave : QueuesKept s t.fmLeave := by
  unfold State.fmLeave
  extract_lets one s1
  have h1 : QueuesKept s s1 := .setFm (.fmOff (.setFm (.fmOff h (by decide))) (by decide))
  exact .ite h1 h1.precStop

/-! ### The staged block, the sequencer -/

theorem dropStaged : QueuesKept s t.dropStaged := by
  unfold State.dropStaged
  split
  · exact h
  · exact .raise (.inc (h.trans (.of_regs (by rfl))) (by rfl))

theorem capWrite {i v : Word} {w2 : Nat} : QueuesKept s (t.capWrite i v w2) := by
  unfold State.capWrite
  extract_lets len wrap first s1 _ s2 full s3 r a s4
  have h1 : QueuesKept s s1 := h.inc (by rfl)
  have h4 : QueuesKept s s4 := .hwStore (.hwStore (.hwStore (.hwStore h.raiseIf)))
  clear_value s4
  exact .ite (.raiseIf (h1.trans (.of_regs (by rfl)))) (h4.trans (.of_regs (by rfl)))

theorem seqPrecStop : QueuesKept s t.seqPrecStop := .ite h.precStop h

theorem seqAbort {why : Nat} : QueuesKept s (t.seqAbort why) := by
  have stopped : QueuesKept s (if t.seq.prec.isSome then t else t.seqPrecStop) := .ite h h.seqPrecStop
  exact .raise (stopped.trans (.of_regs (by rfl)))

theorem precLost : QueuesKept s t.precLost := by
  unfold State.precLost
  split
  · exact h
  · exact .raise (.seqPrecStop (.capWrite (h.trans (.of_regs (by rfl)))))

theorem seqTckLeave : QueuesKept s t.seqTckLeave := .ite h.precLost.seqAbort h.precLost

/-! ### A commit of action bits -/

theorem commitAct {a : Nat} {v : Word} : QueuesKept s (t.commitAct a v) := by
  unfold State.commitAct
  refine .ite (.ite (h.foldl fun _ _ _ k => k.loopRestart) h) (.ite (.ite h.loopRestart h) (.ite (h.foldl fun t j _ k => ?_) (.ite ?_ (.ite ?_ h))))
  · have load : QueuesKept s (if bitOf v j then t.genLoad j else t) := .ite k.genLoad k
    exact .ite load.setGen load
  · have clear : QueuesKept s (if bitOf v 0 then t.rptClear 0 else t) := .ite h.rptClear h
    exact .ite clear.rptClear clear
  · have one {t : State} (k : QueuesKept s t) (n : Nat) :
        QueuesKept s (if bitOf v n then (if bitOf v (4 + n) then t.injStop n true else t).injStart n else if bitOf v (4 + n) then t.injStop n true else t) :=
      .ite (.injStart (.ite k.injStop k)) (.ite k.injStop k)
    exact one (one h 0) 1

theorem commitRest {old : State} {acts : List (Nat × Word)} : QueuesKept s (t.commitRest old acts) := by
  refine .foldl (.winFall (.foldl (.foldl (.foldl (.foldl h.raiseIf ?_) ?_) ?_) ?_)) ?_
  · exact fun _ _ _ k => k.genMode.prfLimit
  · exact fun _ _ _ k => .ite k.rptEnable k
  · exact fun _ _ _ k => .ite k.loopRestart (.ite k.loopOff k)
  · exact fun _ _ _ k => k.groupNone
  · exact fun _ _ _ k => k.commitAct

theorem commit_nil {acts : List (Nat × Word)} : QueuesKept s (t.commit [] acts) := by
  unfold State.commit
  extract_lets old isFm bad good _ s1 s2 s3 s4 s5
  have h1 : QueuesKept s s1 := .ite (h.trans (.of_regs (by rfl))) h
  have h2 : QueuesKept s s2 := h1.foldl fun _ _ hx => absurd hx List.not_mem_nil
  have h3 : QueuesKept s s3 := h2.foldl fun _ _ _ k => k.raise
  have h4 : QueuesKept s s4 := h3.foldl fun _ _ _ k => .ite k k
  have h5 : QueuesKept s s5 := .ite ((h4.rangeManual (by decide)).rangeManual (by decide)) h4
  exact h5.commitRest

/-- Where no value stands in the shadows, a commit at an edge leaves the queues. -/
theorem commitEdge (hs : t.shadow = []) : QueuesKept s t.commitEdge := by
  unfold State.commitEdge State.commitAll
  extract_lets keep l acts l' acts'
  have hl : l = [] := by simp [l, hs]
  have hl' : l' = [] := hs
  rw [hl, hl']
  have unshadowed : QueuesKept s t.unshadowed := h.trans (.of_regs (by rfl))
  exact .ite unshadowed.commit_nil unshadowed.commit_nil

/-! ### The clock -/

theorem loadLt {v : LineTime} : QueuesKept s (t.loadLt v) := .raise (h.trans (.of_regs (by rfl)))
theorem coordLost : QueuesKept s t.coordLost := .ite (.raise (h.trans (.of_regs (by rfl)))) h
theorem dcoSet {rate : Int} : QueuesKept s (t.dcoSet rate) := .wr (h.trans (.of_regs (by rfl))) (by rfl)
theorem dcoCorrect {lim : Int} : QueuesKept s (t.dcoCorrect lim) := .wr (h.trans (.of_regs (by rfl))) (by rfl)

/-- A move of CLK to any state but SEARCH, which ends the sequence of frames. -/
theorem clkTo {st : ClkState} (hst : st ≠ .search) : QueuesKept s (t.clkTo st) := by
  unfold State.clkTo
  extract_lets was s1 _ s2 _ s3 _ s4 _ s5 s6 s7 s8
  have h1 : QueuesKept s s1 := .ite (h.wr (by rfl)) h
  have h2 : QueuesKept s s2 := h1.trans (.of_regs (by rfl))
  have h3 : QueuesKept s s3 := .ite (h2.trans (.of_regs (by rfl))) h2
  have h4 : QueuesKept s s4 := .ite (.wr (h3.trans (.of_regs (by rfl))) (by rfl)) h3
  have e5 : s5 = s4 := if_neg hst
  have e6 : s6 = s4 := (if_neg hst).trans e5
  have h7 : QueuesKept s s7 := by
    unfold s7
    rw [e6]
    exact .ite (h4.inc (by rfl)).raise h4
  exact .ite h (.ite h7.raiseIf.coordLost h7.raiseIf)

theorem enterRef : QueuesKept s t.enterRef := by
  unfold State.enterRef
  extract_lets s1 _ s2
  have h2 : QueuesKept s s2 := (h.clkTo (st := .ref) (by decide)).trans (.of_regs (by rfl))
  exact .ite (h2.trans (.of_regs (by rfl))) (.loadLt (h2.trans (.of_regs (by rfl))))

/-- CLK out of OSC enters no SEARCH by itself. -/
theorem clkEval (hosc : t.clk.state ≠ .osc) : QueuesKept s t.clkEval := by
  unfold State.clkEval
  extract_lets src
  split
  · contradiction
  · exact h
  · exact .ite h.enterRef h

/-! ### An entry to SAFE -/

theorem closePages : QueuesKept s t.closePages := by
  have lock (p : Nat) : frameReg (rLOCK p) = false := Bool.eq_false_iff.mpr fun e => (frameReg_word e).2.2 (by simp only [rLOCK]; omega)
  exact h.foldl fun _ p _ k => .ite k (k.setF (lock p))

theorem leaveRest {was : TckState} : QueuesKept s (t.leaveRest was) := by
  unfold State.leaveRest
  extract_lets s1 s2 s3
  have h1 : QueuesKept s s1 := h.presentAll.dropStaged
  have h2 : QueuesKept s s2 := .ite h1 h1.seqTckLeave
  have h3 : QueuesKept s s3 := .ite h2.fmLeave.injStop.injStop h2
  exact h3.trans (.of_regs (by rfl))

theorem tckLeave {was : TckState} (hs : t.shadow = []) : QueuesKept s (t.tckLeave was) := by
  have cleared : QueuesKept s t.cleared := h.trans (.of_regs (by rfl))
  exact (cleared.commitEdge (t := t.cleared) hs).leaveRest

theorem safeRest {causes : List Nat} (hosc : t.clk.state ≠ .osc) : QueuesKept s (t.safeRest causes) := by
  unfold State.safeRest
  extract_lets s1 s2 _ s3
  have h2 : QueuesKept s s2 := (h.foldl fun _ _ _ k => k.setFlt).raise
  have e2 : s2.clk = t.clk := (spine_clk (spine_raise _ _ _)).trans (spine_clk ((Steady.refl (N := noNode) t).foldl fun _ _ _ k => k.setFlt).spine)
  have h3 : QueuesKept s s3 ∧ s3.clk.state ≠ .osc := by
    rw [← e2] at hosc
    unfold s3
    split
    · exact ⟨.loadLt (h2.trans (.of_regs (by rfl))), by rwa [show (State.loadLt _ _).clk = _ from spine_clk (spine_raise _ _ _)]⟩
    · exact ⟨h2, hosc⟩
  exact h3.1.clkEval h3.2

theorem enterSafe {causes : List Nat} (hs : t.shadow = []) (hosc : t.clk.state ≠ .osc) : QueuesKept s (t.enterSafe causes) := by
  cases hd : t.direct with
  | true =>
    have same : t.enterSafe causes = t := if_pos (by simpa [State.direct, or_comm] using hd)
    rw [same]
    exact h
  | false =>
    rw [enterSafe_eq hd]
    have entered : QueuesKept s (t.inState .safe (safeCause causes)) := h.trans (.of_regs (by rfl))
    have left : QueuesKept s ((t.inState .safe (safeCause causes)).tckLeave t.tck.state).closePages.stageSafe := (entered.tckLeave (t := t.inState .safe (safeCause causes)) hs).closePages.stageSafe
    refine left.safeRest ?_
    have shut : Steady noNode ((t.inState .safe (safeCause causes)).tckLeave t.tck.state) ((t.inState .safe (safeCause causes)).tckLeave t.tck.state).closePages.stageSafe :=
      (Steady.refl _).closePages.stageSafe
    rw [spine_clk shut.spine, spine_clk (spine_tckLeave _ _)]
    exact hosc

theorem safeNow (hs : t.shadow = []) (hosc : t.clk.state ≠ .osc) : QueuesKept s t.safeNow := .ite (h.enterSafe hs hosc) h

/-! ### A host frame, and what an accepted frame carries -/

theorem enterPull {d : LineTime} (hs : t.shadow = []) : QueuesKept s (t.enterPull d) := by
  have pull : QueuesKept s (t.clkTo .pull) := h.clkTo (by decide)
  have shadow : (t.clkTo .pull).shadow = t.shadow := ((Clocked.refl t).clkTo).shadow
  have state : (t.clkTo .pull).clk.state = .pull := clkTo_state t .pull
  have asked {u : State} : (u.askSafe 2).shadow = u.shadow ∧ (u.askSafe 2).clk = u.clk := by
    have k : Steady noNode u (u.askSafe 2) := (Steady.refl u).askSafe
    exact ⟨spine_shadow k.spine, spine_clk k.spine⟩
  unfold State.enterPull
  refine .ite (.safeNow (.askSafe (pull.trans (.of_regs (by rfl)))) (asked.1.trans (shadow.trans hs)) ?_) (.wr pull.loadLt (by rfl))
  rw [asked.2]
  exact fun osc => nomatch state.symm.trans osc

theorem hostFrame {stamp send : LineTime} {rate : Int} (hs : t.shadow = []) : QueuesKept s (t.hostFrame stamp send rate) := by
  unfold State.hostFrame
  extract_lets want d err win inWin _ s1 _ told searching pulling good _ counted bad out corrected _ locked
  have h1 : QueuesKept s s1 := .ite (h.trans (.of_regs (by rfl))) h
  have hs1 : s1.shadow = [] := by unfold s1; split_ifs <;> exact hs
  have h2 : QueuesKept s told := (h1.wr (by rfl)).wr (by rfl)
  refine .ite h ?_
  split
  · exact .ite (.wr (.loadLt (h1.trans (.of_regs (by rfl)))) (by rfl)) (h1.wr (by rfl))
  · have hs2 : searching.shadow = [] := by unfold searching; split_ifs <;> exact hs1
    have h3 : QueuesKept s searching := .ite h2 h2.dcoSet
    exact h3.enterPull hs2
  · have h3 : QueuesKept s counted := h2.dcoCorrect.trans (.of_regs (by rfl))
    exact .ite (h3.clkTo (by decide)) h3
  · have hs2 : corrected.shadow = [] := by unfold corrected; split_ifs <;> exact hs1
    have h3 : QueuesKept s corrected := .ite h2 h2.dcoCorrect
    have h4 : QueuesKept s locked := h3.trans (.of_regs (by rfl))
    exact .ite (h4.enterPull hs2) h4
  · exact .ite (h2.clkTo (by decide)) (h2.dcoCorrect.enterPull hs1)

/-! ### Authorisation, staging, queueing -/

theorem authorise {src : Nat} {num : Word} {edge done : LineTime} : QueuesKept s (t.authorise src num edge done).1 := h.trans (authorise_keeps t src num edge done).2

theorem spDrop : QueuesKept s t.spDrop := (h.inc (by rfl)).raise

theorem stage {tick : Word} {sp : List Word} : QueuesKept s (t.stage tick sp).1 := by
  unfold State.stage
  extract_lets other staged
  split_ifs
  · exact h
  · exact h.spDrop
  · exact .spDrop (h.trans (.of_regs (by rfl)))
  · exact h.trans (.of_regs (by rfl))

theorem enqueue {l : List Cmd} : QueuesKept s (t.enqueue l).1 := by
  unfold State.enqueue
  split_ifs
  · exact h
  · exact .raise (.inc (h.trans (.of_regs (by rfl))) (by rfl))
  · exact h.trans (.of_regs (by rfl))

theorem cycTake {p : List Byte} {done : LineTime} : QueuesKept s (t.cycTake p done).1 := by
  unfold State.cycTake
  extract_lets r st q
  have hr : QueuesKept s r.1 := by
    unfold r
    split_ifs
    · exact h.authorise
    · exact h
  split_ifs
  · exact hr
  · exact hr.stage.enqueue

theorem sendDecision {p : List Byte} {fcs : Word} {out : Nat} : QueuesKept s (t.sendDecision p fcs out) := .ite h.sendTwin h

end QueuesKept

end Sys2Proof.Machine

namespace Sys2Proof.Machine

/-! ## A CYCLE frame (Table 6-6, R303, R306, R673) -/

theorem exec_cycleFrameRx (also dt : Nat) (s : State) : exec (.cycleFrameRx also dt) s = s.done (if s.lineOn then s.cycRx (also &&& alsoMask) dt else s) := rfl

/-- The state in which the frame in front is checked: it has left the hand-over, and `dt` AON cycles have passed. -/
def State.offered (s : State) (rest : List Handed) (dt : Nat) : State := { s with aon := s.aon + wd dt, cyc := { s.cyc with handover := rest } }

/-- The copy of a frame that the twin's comparison keeps. -/
def State.keepCopy (s : State) (h : Handed) : State :=
  { s with twn := { s.twn with copies := (s.twn.copies ++ [(hdrFseq (lanoth h.oct), frameFcs h.oct, lanoth h.oct, h.stamp, h.done)]).drop ((s.twn.copies.length + 1) - 8) } }

/-- What follows the acceptance: in DOZE the frame may wake the part, by the sources of `src`; awake, a shadow keeps it, and any other takes what it carries. -/
def State.received (s : State) (h : Handed) (src : Nat) : State :=
  let wakes := s.pwr.mode == .doze && hdrWake (lanoth h.oct) && s.bit R.PWR_WAKEEN 3
  if s.pwr.mode = .doze ∧ !wakes then s
  else
    let s := if wakes then s.dozeExit src else s
    if s.follows then s.keepCopy h
    else ((s.cycTake (lanoth h.oct) h.done).1.sendDecision (lanoth h.oct) (frameFcs h.oct) (s.cycTake (lanoth h.oct) h.done).2).keepCopy h

section cycRx
variable {s : State} {h : Handed} {rest : List Handed} (hq : s.cyc.handover = h :: rest) (also dt : Nat)
include hq

theorem cycRx_shadow_drops (hk : s.cycCheck h ≠ 0) (hf : s.follows = true) : s.cycRx also dt = (s.offered rest dt).keepCopy h := by
  unfold State.cycRx
  simp only [hq]
  exact (if_pos hk).trans (if_pos hf)

theorem cycRx_drops (hk : s.cycCheck h ≠ 0) (hf : s.follows = false) : s.cycRx also dt = (s.offered rest dt).cycDrop (s.cycCheck h) := by
  unfold State.cycRx
  simp only [hq]
  exact (if_pos hk).trans (if_neg (by exact Bool.eq_false_iff.mp hf))

theorem cycRx_accepts (hk : s.cycCheck h = 0) :
    s.cycRx also dt = ((s.offered rest dt).cycAccept h.oct h.stamp h.rate).received h (s.withTimer (8 ||| also) dt &&& s.wakeMask &&& s.fd R.PWR_WAKEEN 0 7) := by
  unfold State.cycRx
  simp only [hq]
  exact if_neg (not_not.mpr hk)

end cycRx

/-! ### A frame that is dropped -/

/-- The frame is gone, and nothing it carries is taken. -/
def FrameGone (s : State) (rest : List Handed) (dt : Nat) (u : State) : Prop :=
  u.cyc.handover = rest ∧ u.tck.pend = s.tck.pend ∧ u.cyc.fifo = s.cyc.fifo ∧ u.cyc.staged = s.cyc.staged ∧ u.clk = s.clk ∧ u.aon = s.aon + wd dt

theorem FrameGone.ended {s t u : State} {rest : List Handed} {dt : Nat} (h : FrameGone s rest dt t) (e : Ended s t u) : FrameGone s rest dt u := by
  obtain ⟨handover, pend, fifo, staged, clk, aon⟩ := h
  exact ⟨e.cyc_handover.trans handover, e.tck_pend.trans pend, e.cyc_fifo.trans fifo, e.cyc_staged.trans staged, e.clk.trans clk, e.aon.trans aon⟩

theorem quiet_cycDrop (s : State) (k : Nat) : (s.cycDrop k).quiet = s.quiet := by
  unfold State.cycDrop
  split_ifs
  · rfl
  · rfl
  · exact quiet_raise ..
  · exact quiet_raise ..

theorem frameGone_cycDrop (s : State) (rest : List Handed) (dt k : Nat) : FrameGone s rest dt ((s.offered rest dt).cycDrop k) := by
  have q := quiet_cycDrop (s.offered rest dt) k
  generalize (s.offered rest dt).cycDrop k = t at q
  have keep {α : Type} (f : State → α) (hf : ∀ s : State, f s.quiet = f s := by exact fun _ => rfl) : f t = f (s.offered rest dt) := (hf t).symm.trans ((congrArg f q).trans (hf _))
  exact ⟨keep (·.cyc.handover), keep (·.tck.pend), keep (·.cyc.fifo), keep (·.cyc.staged), keep (·.clk), keep (·.aon)⟩

/-- The counter of each check, and its event (Table 6-6). -/
theorem cycDrop_counts (s : State) :
    (s.cycDrop 1).rd R.CYC_RXOTHER = incSat (s.rd R.CYC_RXOTHER) ∧
    (∀ k, k = 2 ∨ k = 4 → (s.cycDrop k).rd R.CYC_RXADDR = incSat (s.rd R.CYC_RXADDR)) ∧
    (∀ k, k = 3 ∨ k = 5 → (s.cycDrop k).rd R.CYC_RXFMT = incSat (s.rd R.CYC_RXFMT) ∧ (s.cycDrop k).bit (rEVT P.CYC) 0 = true) ∧
    (s.cycDrop 6).rd R.CYC_RXSTALE = incSat (s.rd R.CYC_RXSTALE) ∧ (s.cycDrop 6).bit (rEVT P.CYC) 1 = true := by
  have counted (a n : Nat) (ha : raiseTouches P.CYC a = false) : ((s.inc a).raise P.CYC n).rd a = incSat (s.rd a) := (rd_raise _ ha).trans (State.rd_wr_self ..)
  refine ⟨State.rd_wr_self .., fun k hk => ?_, fun k hk => ?_, counted R.CYC_RXSTALE 1 (by decide), bit_raise _ _ _ (by decide)⟩
  · rcases hk with rfl | rfl <;> exact State.rd_wr_self ..
  · rcases hk with rfl | rfl <;> exact ⟨counted R.CYC_RXFMT 0 (by decide), bit_raise _ _ _ (by decide)⟩

/-! ### A frame that is accepted (R306) -/

/-- What an accepted frame leaves of the numbers, marks and counts of reception. -/
structure FrameCounted (s : State) (rest : List Handed) (f : List Byte) (t : State) : Prop where
  handover : t.cyc.handover = rest
  count : t.rd R.CYC_RXOK = incSat (s.rd R.CYC_RXOK)
  fseq : t.fd R.CYC_FSEQ 0 16 = hdrFseq (lanoth f)
  seqv : t.cyc.seqv = true
  hmacv : t.cyc.hmacv = true
  hmac : t.rd R.CYC_HMAC_LO = wd (octs f 8 4)

theorem FrameCounted.kept {s t u : State} {rest : List Handed} {f : List Byte} (h : FrameCounted s rest f t) (k : QueuesKept t u) : FrameCounted s rest f u :=
  ⟨k.handover.trans h.handover, (k.rd _ rfl).trans h.count, (congrArg (fld · 0 16) (k.rd R.CYC_FSEQ rfl)).trans h.fseq, k.seqv.trans h.seqv, k.hmacv.trans h.hmacv,
    (k.rd _ rfl).trans h.hmac⟩

theorem beNat_snoc (l : List Byte) (b : Byte) : beNat (l ++ [b]) = beNat l * 256 + b.toNat := by simp only [beNat, List.foldl_append, List.foldl_cons, List.foldl_nil]

theorem beNat_lt (l : List Byte) : beNat l < 256 ^ l.length := by
  induction l using List.reverseRecOn with
  | nil => decide
  | append_singleton l b ih =>
    have hb : b.toNat < 256 := b.isLt
    rw [beNat_snoc, List.length_append, List.length_singleton, Nat.pow_succ]
    omega

theorem hdrFseq_lt (p : List Byte) : hdrFseq p < 65536 := by
  have short : ((p.drop 20).take 2).length ≤ 2 := List.length_take_le ..
  exact (beNat_lt _).trans_le (Nat.pow_le_pow_right (by decide) short)

/-- The registers that count and number an accepted frame, and the sender's address (R306). -/
def State.countedFrame (s : State) (f : List Byte) : State :=
  (((s.inc R.CYC_RXOK).setF R.CYC_FSEQ 0 16 (hdrFseq (lanoth f))).wr R.CYC_HMAC_HI (wd (octs f 6 2))).wr R.CYC_HMAC_LO (wd (octs f 8 4))

/-- With the marks of a host that is known. -/
def State.numbered (s : State) (f : List Byte) : State :=
  { s.countedFrame f with cyc := { (s.countedFrame f).cyc with seqv := true, hmacv := true } }

theorem rd_countedFrame (s : State) (f : List Byte) :
    (s.countedFrame f).rd R.CYC_RXOK = incSat (s.rd R.CYC_RXOK) ∧ (s.countedFrame f).fd R.CYC_FSEQ 0 16 = hdrFseq (lanoth f) ∧
      (s.countedFrame f).rd R.CYC_HMAC_LO = wd (octs f 8 4) := by
  unfold State.countedFrame State.inc State.setF State.fd
  refine ⟨?_, ?_, State.rd_wr_self ..⟩
  · rw [State.rd_wr_ne _ _ (by decide), State.rd_wr_ne _ _ (by decide), State.rd_wr_ne _ _ (by decide), State.rd_wr_self]
  · rw [State.rd_wr_ne _ _ (by decide), State.rd_wr_ne _ _ (by decide), State.rd_wr_self, fld_setFld _ (by decide)]
    exact Nat.mod_eq_of_lt (hdrFseq_lt _)

theorem frameCounted_numbered (s : State) (rest : List Handed) (f : List Byte) (dt : Nat) : FrameCounted s rest f ((s.offered rest dt).numbered f) := by
  obtain ⟨count, fseq, hmac⟩ := rd_countedFrame (s.offered rest dt) f
  have same (a : Nat) : ((s.offered rest dt).numbered f).rd a = ((s.offered rest dt).countedFrame f).rd a := rd_of_regs rfl a
  exact ⟨rfl, (same _).trans count, (congrArg (fld · 0 16) (same _)).trans fseq, rfl, rfl, (same _).trans hmac⟩

theorem cycAccept_kept {s : State} (hs : s.shadow = []) (f : List Byte) (stamp : LineTime) (rate : Int) : QueuesKept (s.numbered f) (s.cycAccept f stamp rate) := by
  unfold State.cycAccept
  extract_lets p s1 s2 s3 _ s4 fr
  have drawn : QueuesKept (s.numbered f) fr.1 := by
    unfold fr
    split_ifs
    · exact .of_regs (by rfl)
    · exact .of_regs (by rfl)
  refine drawn.hostFrame ?_
  unfold fr
  split_ifs <;> exact hs

/-- What follows the acceptance leaves the queues. -/
theorem received_kept (s : State) (h : Handed) (src : Nat) : QueuesKept s (s.received h src) := by
  have exited (t : State) : QueuesKept t (t.dozeExit src) :=
    .raise (.trans (.wr (.of_regs (t := { t with pwr := { t.pwr with mode := .run, modeLast := 1 } }) (by rfl)) (by rfl)) (.of_keeps (quiet_trcPush _ _) (keeps_trcPush 0 _ _)))
  have copied (t : State) : QueuesKept t (t.keepCopy h) := .of_regs (by rfl)
  unfold State.received
  extract_lets wakes woken
  have awake : QueuesKept s woken := .ite (exited s) (.refl s)
  exact .ite (.refl s) (.ite (awake.trans (copied _)) (awake.cycTake.sendDecision.trans (copied _)))

theorem frameCounted_cycRx {s : State} {h : Handed} {rest : List Handed} (hq : s.cyc.handover = h :: rest) (hk : s.cycCheck h = 0) (hs : s.shadow = []) (also dt : Nat) :
    FrameCounted s rest h.oct (s.cycRx also dt) := by
  rw [cycRx_accepts hq also dt hk]
  exact ((frameCounted_numbered s rest h.oct dt).kept (cycAccept_kept (s := s.offered rest dt) hs _ _ _)).kept (received_kept _ _ _)

/-- Settles O33: a frame that fails by its first failed check, and one that passes by what its acceptance counts, which nothing that follows it moves. -/
theorem cycleFrames : Obligations.CycleFrames := by
  unfold Obligations.CycleFrames
  intro s h rest also dt on hq gone
  rw [exec_cycleFrameRx, if_pos on]
  have dropped {Q : State → Prop} (hf : s.follows = false) (hk : s.cycCheck h ≠ 0) (told : ∀ u, Ended s ((s.offered rest dt).cycDrop (s.cycCheck h)) u → Q u) :
      ∃ u, s.done (s.cycRx (also &&& alsoMask) dt) = .next u ∧ gone u ∧ Q u := by
    rw [cycRx_drops hq _ dt hk hf]
    exact done_of fun u e => ⟨(frameGone_cycDrop s rest dt _).ended e, told u e⟩
  obtain ⟨other, address, format, stale, staleEvent⟩ := cycDrop_counts (s.offered rest dt)
  refine ⟨fun hf hk => ?_, fun hf hk => ?_, fun hf hk => ?_, fun hf hk => ?_, fun hf hk => ?_, fun hk _ hs => ?_⟩
  · have counters : ∀ a ∈ [R.CYC_RXOTHER, R.CYC_RXADDR, R.CYC_RXFMT, R.CYC_RXSTALE], settleTouches a = false := by decide
    rw [cycRx_shadow_drops hq _ dt hk hf]
    have lost : FrameGone s rest dt ((s.offered rest dt).keepCopy h) := ⟨rfl, rfl, rfl, rfl, rfl, rfl⟩
    exact done_of fun u e => ⟨lost.ended e, fun a ha => e.rd (counters a ha)⟩
  · exact dropped hf (by omega) fun u e => (e.rd (by decide)).trans (hk ▸ other)
  · exact dropped hf (by omega) fun u e => (e.rd (by decide)).trans (address _ hk)
  · exact dropped hf (by omega) fun u e => ⟨(e.rd (by decide)).trans (format _ hk).1, e.evt (format _ hk).2⟩
  · exact dropped hf (by omega) fun u e => ⟨(e.rd (by decide)).trans (hk ▸ stale), e.evt (hk ▸ staleEvent)⟩
  · have t := frameCounted_cycRx hq hk hs (also &&& alsoMask) dt
    exact done_of fun u e => ⟨e.cyc_handover.trans t.handover, (e.rd (by decide)).trans t.count, (e.fd (by decide)).trans t.fseq, e.cyc_seqv.trans t.seqv,
      e.cyc_hmacv.trans t.hmacv, (e.rd (by decide)).trans t.hmac⟩

end Sys2Proof.Machine

namespace Sys2Proof.Machine

/-! ## DecodeEncode -/

/-- A field of a word is found in the part of the word that holds it. -/
theorem field_low {v w lo n : Nat} {x : BitVec v} {y : BitVec w} {f : BitVec n} (h : lo + n ≤ w) (e : y.extractLsb' lo n = f) : (x ++ y).extractLsb' lo n = f :=
  (BitVec.extractLsb'_append_eq_of_add_le h).trans e

theorem field_high {v w lo n : Nat} {x : BitVec v} {y : BitVec w} {f : BitVec n} (h : w ≤ lo) (e : x.extractLsb' (lo - w) n = f) : (x ++ y).extractLsb' lo n = f :=
  (BitVec.extractLsb'_append_eq_of_le h).trans e

section fields
variable (op func : Nat) (x y z : BitVec 4) (aux : BitVec 8) (imm : BitVec 18) (off : BitVec 26)

/-- The fields of a word of format R (Table 7-6). -/
theorem formR_func : (formR op func x y z aux).extractLsb' 0 6 = BitVec.ofNat 6 func :=
  field_low (by decide) BitVec.extractLsb'_eq_self
theorem formR_aux : (formR op func x y z aux).extractLsb' 6 8 = aux :=
  field_high (by decide) (field_low (by decide) BitVec.extractLsb'_eq_self)
theorem formR_z : (formR op func x y z aux).extractLsb' 14 4 = z :=
  field_high (by decide) (field_high (by decide) (field_low (by decide) BitVec.extractLsb'_eq_self))
theorem formR_y : (formR op func x y z aux).extractLsb' 18 4 = y :=
  field_high (by decide) (field_high (by decide) (field_high (by decide) (field_low (by decide) BitVec.extractLsb'_eq_self)))
theorem formR_x : (formR op func x y z aux).extractLsb' 22 4 = x :=
  field_high (by decide) (field_high (by decide) (field_high (by decide) (field_high (by decide) (field_low (by decide) BitVec.extractLsb'_eq_self))))
theorem formR_op : (formR op func x y z aux).extractLsb' 26 6 = BitVec.ofNat 6 op :=
  field_high (by decide) (field_high (by decide) (field_high (by decide) (field_high (by decide) (field_high (by decide) BitVec.extractLsb'_eq_self))))

theorem formI_imm : (formI op x y imm).extractLsb' 0 18 = imm := field_low (by decide) BitVec.extractLsb'_eq_self
theorem formI_y : (formI op x y imm).extractLsb' 18 4 = y := field_high (by decide) (field_low (by decide) BitVec.extractLsb'_eq_self)
theorem formI_x : (formI op x y imm).extractLsb' 22 4 = x := field_high (by decide) (field_high (by decide) (field_low (by decide) BitVec.extractLsb'_eq_self))
theorem formI_op : (formI op x y imm).extractLsb' 26 6 = BitVec.ofNat 6 op :=
  field_high (by decide) (field_high (by decide) (field_high (by decide) BitVec.extractLsb'_eq_self))

theorem formJ_off : (formJ op off).extractLsb' 0 26 = off := field_low (by decide) BitVec.extractLsb'_eq_self
theorem formJ_op : (formJ op off).extractLsb' 26 6 = BitVec.ofNat 6 op := field_high (by decide) BitVec.extractLsb'_eq_self

/-- The shift amounts and the gate number are the low bits of their field. -/
theorem formR_sh (n : BitVec 5) : (formR op func x y z (0#3 ++ n)).extractLsb' 6 5 = n := field_high (by decide) (field_low (by decide) BitVec.extractLsb'_append_eq_right)
theorem formR_gate (n : BitVec 6) : (formR op func x y z (0#2 ++ n)).extractLsb' 6 6 = n := field_high (by decide) (field_low (by decide) BitVec.extractLsb'_append_eq_right)
theorem formI_sh (n : BitVec 5) : (formI op x y (0#13 ++ n)).extractLsb' 0 5 = n := field_low (by decide) BitVec.extractLsb'_append_eq_right

end fields

/-- The fields of an instruction's word offer the instruction. -/
theorem guessCore_encode (i : CoreIns) : guessCore i.encode = some i := by
  cases i <;> simp only [CoreIns.encode, guessCore, formR_op, formR_func, formR_x, formR_y, formR_z, formR_aux, formR_sh, formR_gate, formI_op, formI_x, formI_y, formI_imm,
    formI_sh, formJ_op, formJ_off]
  case reg f rd ra rb => cases f <;> rfl
  case imm f rd ra v => cases f <;> rfl
  case shift f rd ra n => cases f <;> rfl
  case branch f ra rb off => cases f <;> rfl
  case plain f => cases f <;> rfl
  all_goals rfl

theorem decodeCore_encode (i : CoreIns) : decodeCore i.encode = some i := by
  unfold decodeCore
  rw [guessCore_encode]
  exact if_pos (beq_self_eq_true _)

/-- A word decodes to the instruction whose word it is, and to no other (R386). -/
theorem decodeCore_iff (w : Word) (i : CoreIns) : decodeCore w = some i ↔ i.encode = w := by
  refine ⟨fun h => ?_, fun h => h ▸ decodeCore_encode i⟩
  exact eq_of_beq (Option.filter_eq_some_iff.mp h).2

/-- A word that is not illegal is carried out as its instruction's command. -/
theorem coreCommand_encode (m : Meets) (i : CoreIns) (h : illegalWord i.encode = false) : coreCommand m i.encode = i.instr m := by
  unfold coreCommand
  rw [h, decodeCore_encode]
  rfl

/-- Settles O47: the fields of an instruction's word give the instruction back, and a word that gives one is that instruction's word by the filter of `decodeCore`. -/
theorem decodeEncode : Obligations.DecodeEncode := by
  unfold Obligations.DecodeEncode
  have word {i : CoreIns} {w : Word} (e : i.encode = w) : decodeCore w = some i := (decodeCore_iff w i).mpr e
  refine ⟨decodeCore_iff, coreCommand_encode, fun m w h => if_pos h, fun m => ⟨?_, ?_, ?_⟩, word (by decide), word (by decide), word (by decide), word (by decide), by decide, by decide⟩
  · exact coreCommand_encode m (.lui 1#4 0x10000#18) (by decide)
  · exact coreCommand_encode m (.imm .lw 2#4 1#4 0x20C#18) (by decide)
  · exact coreCommand_encode m (.gate 5#6) (by decide)

end Sys2Proof.Machine

namespace Sys2Proof.Machine

/-! ## CoreArithmetic -/

/-- Saturation to 32 bits is the nearest value of the range. -/
theorem satS_eq (v : Int) : satS 32 v = max (-(2 ^ 31)) (min (2 ^ 31 - 1) v) := by
  unfold satS
  norm_num
  split_ifs <;> omega

theorem word_min (x y : Word) : (if x.slt y then x else y) = BitVec.ofInt 32 (min x.toInt y.toInt) := by
  simp only [BitVec.slt, decide_eq_true_eq]
  split_ifs with h
  · rw [min_eq_left h.le, BitVec.ofInt_toInt]
  · rw [min_eq_right (not_lt.mp h), BitVec.ofInt_toInt]

theorem word_max (x y : Word) : (if x.slt y then y else x) = BitVec.ofInt 32 (max x.toInt y.toInt) := by
  simp only [BitVec.slt, decide_eq_true_eq]
  split_ifs with h
  · rw [max_eq_right h.le, BitVec.ofInt_toInt]
  · rw [max_eq_left (not_lt.mp h), BitVec.ofInt_toInt]

theorem word_mul (x y : Word) : x * y = BitVec.ofInt 32 (x.toInt * y.toInt) := by
  rw [BitVec.ofInt_mul, BitVec.ofInt_toInt, BitVec.ofInt_toInt]

theorem mulHigh_unsigned (x y : Word) : mulHigh x.toNat y.toNat = BitVec.ofNat 32 (x.toNat * y.toNat / 2 ^ 32) := by
  unfold mulHigh wdI
  rw [← BitVec.ofInt_natCast]
  push_cast
  rfl

theorem divS_eq (x y : Word) : divS x y = if y = 0#32 then 0xFFFFFFFF#32 else BitVec.ofInt 32 (x.toInt.tdiv y.toInt) := by
  refine if_congr Iff.rfl rfl (BitVec.eq_of_toInt_eq ?_)
  rw [BitVec.toInt_sdiv, BitVec.toInt_ofInt]

theorem remS_eq (x y : Word) : remS x y = if y = 0#32 then x else BitVec.ofInt 32 (x.toInt.tmod y.toInt) := by
  refine if_congr Iff.rfl rfl ?_
  rw [← BitVec.toInt_srem, BitVec.ofInt_toInt]

theorem immU_eq (imm : BitVec 18) : immU imm = BitVec.ofNat 32 (imm.toNat * 2 ^ 14) := by
  refine BitVec.eq_of_toNat_eq ?_
  rw [immU, BitVec.toNat_shiftLeft, BitVec.toNat_setWidth, BitVec.toNat_ofNat, Nat.shiftLeft_eq, Nat.mod_mul_mod]

theorem slt_imm (x : Word) (imm : BitVec 18) : x.slt (immS imm) = decide (x.toInt < imm.toInt) := by
  rw [BitVec.slt, immS, BitVec.toInt_signExtend_of_le (by decide)]

/-- Writing a register changes the core alone. -/
theorem setGr_cpu (t : State) (r : Fin 16) (v : Word) : t.setGr r v = { t with cpu := (t.setGr r v).cpu } := by
  obtain ⟨g, e⟩ := setGr_eq t r v
  rw [e]

section alu
variable {s : State} {c : Instr} {cyc : Nat} {rd ra rb : Fin 16}

/-- An instruction that writes a value of its two operands to RD and goes on. -/
theorem ran_alu {v : Word} (g : Word → Word → Word) (hx : exec c s = s.ran (s.issue (aluAct cyc rd fun t => g (t.gr ra) (t.gr rb)))) (hv : g (s.gr ra) (s.gr rb) = v)
    (ho : s.OutFollows) (h : s.Runs cyc) : ∃ t, s.Timed t ∧ exec c s = .next ((t.setGr rd v).advance) := by
  obtain ⟨t, tm, e⟩ := ran_issue ho h (plan := aluAct cyc rd fun t => g (t.gr ra) (t.gr rb)) rfl fun t => by rw [setGr_cpu]; rfl
  refine ⟨t, tm, ?_⟩
  rw [hx, e]
  simp only [tm.gr, hv]

/-- One that saturates. -/
theorem ran_sat {v : Int} (g : Word → Word → Int) (hx : exec c s = s.ran (s.issue (satAct cyc rd fun t => satWord (g (t.gr ra) (t.gr rb))))) (hv : g (s.gr ra) (s.gr rb) = v)
    (ho : s.OutFollows) (h : s.Runs cyc) :
    ∃ t, s.Timed t ∧ exec c s = .next (((t.setGr rd (BitVec.ofInt 32 (max (-(2 ^ 31)) (min (2 ^ 31 - 1) v)))).setSat
      (decide (max (-(2 ^ 31)) (min (2 ^ 31 - 1) v) ≠ v))).advance) := by
  obtain ⟨t, tm, e⟩ := ran_issue ho h (plan := satAct cyc rd fun t => satWord (g (t.gr ra) (t.gr rb))) rfl fun t => by
    unfold State.setSat
    split_ifs
    · rw [setGr_cpu]; rfl
    · rw [setGr_cpu]; rfl
  refine ⟨t, tm, ?_⟩
  rw [hx, e]
  simp only [tm.gr, hv, satWord, satS_eq, wdI]

end alu

/-- Settles O38, by the value each instruction's operands give and the time it takes. -/
theorem coreArithmetic : Obligations.CoreArithmetic := by
  unfold Obligations.CoreArithmetic
  refine ⟨fun s rd r v => ?_, fun s rd ra rb imm n ho => ?_⟩
  · obtain ⟨g, e⟩ := setGr_eq s rd v
    refine ⟨?_, by rw [e]; rfl, by rw [e]; rfl, rfl, by rw [e]; rfl, by rw [e]; rfl⟩
    rw [gr_setGr]
    by_cases hr : r = rd
    · rw [if_pos hr, if_pos hr, hr]
    · rw [if_neg hr, if_neg hr]
      split_ifs with h0
      · rw [State.gr, if_pos h0]
      · rfl
  · have alu {c : Instr} {cyc : Nat} {v : Word} (g : Word → Word → Word) (hx : exec c s = s.ran (s.issue (aluAct cyc rd fun t => g (t.gr ra) (t.gr rb))))
        (hv : g (s.gr ra) (s.gr rb) = v) := ran_alu g hx hv ho
    have sat {c : Instr} {cyc : Nat} (g : Word → Word → Int) (hx : exec c s = s.ran (s.issue (satAct cyc rd fun t => satWord (g (t.gr ra) (t.gr rb))))) :=
      ran_sat g hx rfl ho
    simp only [List.forall_mem_cons]
    refine ⟨⟨alu (· + ·) rfl rfl, alu (· - ·) rfl rfl, alu (· &&& ·) rfl rfl, alu (· ||| ·) rfl rfl, alu (· ^^^ ·) rfl rfl,
      alu (fun x y => x <<< shiftOf y) rfl rfl, alu (fun x y => x >>> shiftOf y) rfl rfl, alu (fun x y => x.sshiftRight (shiftOf y)) rfl rfl,
      alu (fun x y => boolWord (x.slt y)) rfl rfl, alu (fun x y => boolWord (x.ult y)) rfl rfl,
      alu (fun x y => if x.slt y then x else y) rfl (word_min _ _), alu (fun x y => if x.slt y then y else x) rfl (word_max _ _),
      alu (fun x _ => clzWord x) rfl rfl, alu (· * ·) rfl (word_mul _ _),
      alu (fun x y => mulHigh x.toInt y.toInt) rfl rfl, alu (fun x y => mulHigh x.toNat y.toNat) rfl (mulHigh_unsigned _ _),
      alu divS rfl (divS_eq _ _), alu divU rfl rfl, alu remS rfl (remS_eq _ _), alu remU rfl rfl,
      alu (fun x _ => x + immS imm) rfl rfl, alu (fun x _ => x &&& immZ imm) rfl rfl, alu (fun x _ => x ||| immZ imm) rfl rfl,
      alu (fun x _ => x ^^^ immZ imm) rfl rfl, alu (fun x _ => boolWord (x.slt (immS imm))) rfl (congrArg boolWord (slt_imm _ _)),
      alu (fun x _ => boolWord (x.ult (immS imm))) rfl rfl, alu (fun _ _ => immU imm) rfl (immU_eq _),
      alu (fun x _ => x <<< n.toNat) rfl rfl, alu (fun x _ => x >>> n.toNat) rfl rfl, alu (fun x _ => x.sshiftRight n.toNat) rfl rfl, ?_⟩,
      sat (fun x y => x.toInt + y.toInt) rfl, sat (fun x y => x.toInt - y.toInt) rfl, sat (fun x y => rshr (x.toInt * y.toInt) n.toNat) rfl, ?_⟩
    · exact List.forall_mem_nil _
    · exact List.forall_mem_nil _

end Sys2Proof.Machine

namespace Sys2Proof.Machine

/-! ## CoreBranches -/

theorem fld_two (v : Word) : fld v 0 2 = v.toNat % 4 := rfl

/-- An instruction that can be fetched stands at a word's address (R345). -/
theorem pc_aligned {s : State} (h : s.canIssue = true) : s.cpu.pc.toNat % 4 = 0 := by
  unfold State.canIssue State.fetchOk at h
  simp only [Bool.and_eq_true, Option.isNone_iff_eq_none] at h
  obtain ⟨-, hf, -⟩ := h
  by_contra hn
  unfold State.accessFault at hf
  split at hf
  · cases hf
  · split_ifs at hf

/-- A distance in words, in bytes. -/
theorem wordOffset {w : Nat} (v : BitVec w) : v.signExtend 32 <<< 2 = BitVec.ofInt 32 (4 * v.toInt) := by
  rw [BitVec.ofInt_mul, BitVec.mul_comm, BitVec.shiftLeft_eq_mul_twoPow]
  rfl

/-- A target some words away from a word's address is a word's address. -/
theorem target_aligned {w : Nat} {pc : Word} (h : pc.toNat % 4 = 0) (v : BitVec w) : (pc + (v.signExtend 32 <<< 2)).toNat % 4 = 0 := by
  rw [BitVec.toNat_add, BitVec.toNat_shiftLeft, Nat.shiftLeft_eq]
  omega

theorem jumpAct_aligned (s : State) {a : Word} (h : a.toNat % 4 = 0) : s.jumpAct a = .run 2 false fun t => t.setPc a := if_neg (by rw [fld_two, h]; decide)

section branch
variable {s : State} {c : Instr} {plan : State → Act} {a : Word}

/-- A transfer to a word's address goes there in 2 cycles. -/
theorem ran_jump (hx : exec c s = s.ran (s.issue plan)) (hp : plan s = s.jumpAct a) (ha : a.toNat % 4 = 0) (ho : s.OutFollows) (h : s.Runs 2) :
    ∃ t, s.Timed t ∧ exec c s = .next (t.setPc a) := by
  rw [hx]
  exact ran_issue ho h (hp.trans (jumpAct_aligned s ha)) fun _ => rfl

/-- A transfer to another address traps with it (R365). -/
theorem jump_trapped (hx : exec c s = s.ran (s.issue plan)) (hp : plan s = s.trapAct 0x12 0 (some a)) (hc : s.canIssue = true) (h : s.CanTrap s.fetchNow.2) :
    ∃ u, exec c s = .next u ∧ s.Trapped u 0x12 0 false s.cpu.pc a := by
  rw [hx]
  exact issue_trap hc h hp fun t => .refl t

/-- A branch, taken and not taken. -/
theorem ran_branch {b : Bool} {off : BitVec 18} (hx : exec c s = s.ran (s.issue plan)) (hp : plan s = s.branchAct b off) (ho : s.OutFollows) :
    (b = true → s.Runs 2 → ∃ t, s.Timed t ∧ exec c s = .next (t.setPc (s.cpu.pc + BitVec.ofInt 32 (4 * off.toInt)))) ∧
      (b = false → s.Runs 1 → ∃ t, s.Timed t ∧ exec c s = .next t.advance) := by
  refine ⟨fun hb h => ?_, fun hb h => ?_⟩
  · subst hb
    rw [← wordOffset]
    exact ran_jump hx hp (target_aligned (pc_aligned h.1.1) off) ho h
  · subst hb
    rw [hx]
    exact ran_issue ho h hp fun _ => rfl

end branch

/-- Settles O40, by the target of each transfer and whether it is word-aligned. -/
theorem coreBranches : Obligations.CoreBranches := by
  unfold Obligations.CoreBranches
  intro s ra rb off far x y
  refine ⟨fun ho => ⟨?_, fun h => ?_, fun ha h => ran_jump rfl rfl ha ho h⟩, fun hn hc h => ?_⟩
  · have branch {c : Instr} {b : Bool} (g : State → Bool) (hx : exec c s = s.ran (s.issue fun t => t.branchAct (g t) off)) (hb : g s = b) :=
      ran_branch hx (congrArg (s.branchAct · off) hb) ho
    simp only [List.forall_mem_cons]
    exact ⟨branch _ rfl rfl, branch _ rfl (by simp [bne, beq_eq_decide, x, y]), branch _ rfl rfl, branch _ rfl (by simp [BitVec.slt, x, y, ← decide_not]),
      branch _ rfl rfl, branch _ rfl (by simp [BitVec.ult, x, y, ← decide_not]), List.forall_mem_nil _⟩
  · rw [← wordOffset]
    exact ran_jump rfl rfl (target_aligned (pc_aligned h.1.1) far) ho h
  · have hf : fld x 0 2 ≠ 0 := hn
    simp only [List.forall_mem_cons]
    exact ⟨jump_trapped rfl (if_pos hf) hc h, jump_trapped rfl (if_pos hf) hc h, List.forall_mem_nil _⟩

end Sys2Proof.Machine

namespace Sys2Proof.Machine

/-! ## Heavy traps, however EADDR comes -/

/-- A field of the core that is not of its own lines stands through time that passes. -/
theorem State.Timed.field {α : Type} {s t : State} (h : s.Timed t) (g : CpuSt → α) (hg : ∀ c : CpuSt, g c.own = g c) : g t.cpu = g s.cpu := by
  rw [← hg, h.own, hg]

theorem past_mono {s : State} {m n : Nat} (h : s.past n = false) (k : m ≤ n) : s.past m = false := by
  unfold State.past at h ⊢
  rw [Bool.and_eq_false_iff] at h ⊢
  refine h.imp id fun h => ?_
  simp only [decide_eq_false_iff_not] at h ⊢
  omega

/-- A trap that can be entered after some cycles overruns nothing in them. -/
theorem overruns_of_canTrap {s : State} {n : Nat} (h : s.CanTrap n) : s.overruns n = false := by
  obtain ⟨-, -, -, -, hp, -⟩ := h
  unfold State.overruns
  rw [past_mono hp (Nat.le_add_right n 36), Bool.and_false]

theorem canTrap_mono {s : State} {m n : Nat} (h : s.CanTrap n) (k : m ≤ n) : s.CanTrap m := by
  obtain ⟨htb, heb, hk, hw, hp, hl⟩ := h
  exact ⟨htb, heb, hk, hw, past_mono hp (by omega), tooLong_mono hl k⟩

/-- The entry of a heavy trap that can be entered: the trap's own record `f` is made, and the entry follows it (R409). -/
theorem heavyTrap_eq {s : State} {pre : Nat} (h : s.CanTrap pre) (hh : s.cpu.held = false) (code sub : Nat) (multi : Bool) (epc : Word) (ea : Option Word) {f : State → State}
    (hf : ({ (f (s.spend pre)).cpu with late := none, expire := false } : CpuSt) = { (s.spend pre).cpu with late := none, expire := false }) :
    s.heavyTrap pre code sub multi epc ea f =
      ((f (s.spend pre)).enterTrap epc (causeWord code sub multi s.cpu.psr.crit) (ea.getD s.cpu.eaddr) (f (s.spend pre)).coreUse).spend 36 := by
  have ho := overruns_of_canTrap h
  obtain ⟨htb, heb, hk, hw, hp, hl⟩ := h
  have t := timed_spend s pre
  have w0 := t.wb_nil hw
  have w1 : (f (s.spend pre)).cpu.wb = [] := (congrArg CpuSt.wb hf :).trans w0
  have h1 : (f (s.spend pre)).cpu.held = false := (congrArg CpuSt.held hf :).trans (t.held.trans hh)
  have p1 : (f (s.spend pre)).cpu.psr = s.cpu.psr := (congrArg CpuSt.psr hf :).trans t.psr
  have a1 : (f (s.spend pre)).cpu.eaddr = s.cpu.eaddr := (congrArg CpuSt.eaddr hf :).trans (t.field CpuSt.eaddr fun _ => rfl)
  have hwait : drainTime (s.spend pre).cpu.wb = 0 := by rw [w0]; rfl
  have hpast : (s.spend pre).past (0 + 36) = false := by rw [past_spend]; exact hp
  unfold State.heavyTrap
  rw [if_neg (by simp [htb, heb]), if_neg (by simp [hk]), if_neg (by simp [ho]), if_neg (by simp [hl]), pass_empty hw, State.unlessReset, if_neg (by rw [t.held, hh]; decide)]
  simp only [hwait, hpast, Bool.false_eq_true, if_false, w1, List.length_nil, State.drain, State.unlessReset, h1, p1, a1]
  rfl

/-- A trap that gives no address leaves EADDR (Table 8-1). -/
theorem heavyTrap_none {s : State} {pre : Nat} (h : s.CanTrap pre) (hh : s.cpu.held = false) (code sub : Nat) (multi : Bool) (epc : Word) :
    s.heavyTrap pre code sub multi epc none id = s.heavyTrap pre code sub multi epc (some s.cpu.eaddr) id := by
  rw [heavyTrap_eq h hh _ _ _ _ _ rfl, heavyTrap_eq h hh _ _ _ _ _ rfl]
  rfl

section traps
variable {s : State} {plan : State → Act} {c : Instr} {cyc code sub : Nat} {epc : Word}

/-- An instruction that meets a trap which records nothing beside its entry, after some cycles of its own. -/
theorem issue_trapped (hc : s.canIssue = true) (h : s.CanTrap (s.fetchNow.2 + cyc)) (hp : plan s = .trap cyc code sub epc none id) :
    ∃ u, s.ran (s.issue plan) = .next u ∧ s.Trapped u code sub false epc s.cpu.eaddr := by
  have hh := (timed_fetch s).held.trans (held_of_canIssue hc)
  have hf := canTrap_fetch h
  have h0 := canTrap_mono h (Nat.le_add_right s.fetchNow.2 cyc)
  have ⟨_, _, _, hw, _, hl⟩ := h0
  have hs : s.holdsStores s.fetchNow.2 = true := by unfold State.holdsStores; rw [hw]
  have e : s.issue plan = s.fetchNow.1.heavyTrap (s.fetchNow.2 + cyc) code sub false epc none id := by
    unfold State.issue
    simp only [hc, overruns_of_canTrap h0, hl, hs, hp, State.perform, if_true, if_false, Bool.false_eq_true]
  obtain ⟨t, -, k, -⟩ := heavyTrap_trapped hf hh code sub false epc s.fetchNow.1.cpu.eaddr (f := id) fun t _ => .refl t
  obtain ⟨u, hu, en⟩ := ended_ran s (s.issue plan)
  refine ⟨u, hu, ?_⟩
  rw [e, heavyTrap_none hf hh] at en
  rw [← (timed_fetch s).field CpuSt.eaddr fun _ => rfl]
  exact (k.congr (by rw [en.cpu]) (rdB_of_mem en.mem en.auxGen)).of_poised (timed_fetch s).poised

/-- An instruction whose checks answer a trap before it does anything. -/
theorem trapAct_trapped (hx : exec c s = s.ran (s.issue plan)) (hp : plan s = s.trapAct code sub none) (hc : s.canIssue = true) (h : s.CanTrap s.fetchNow.2) :
    ∃ u, exec c s = .next u ∧ s.Trapped u code sub false s.cpu.pc s.cpu.eaddr := by
  rw [hx]
  exact issue_trapped (cyc := 0) hc h hp

end traps

/-! ## The base pointer of the spill stack (R353, R360) -/

section scree
variable (s : State) (p : Word)

theorem quiet_screeMove : (s.screeMove p).quiet = s.quiet := by
  unfold State.screeMove
  extract_lets old s1 s2 warn
  refine (quiet_raiseIf s2 _ P.CPU 2).trans ?_
  unfold s2
  split_ifs <;> rfl

theorem screeMove_cpu : (s.screeMove p).cpu = s.cpu := by have e := congrArg State.cpu (quiet_screeMove s p); exact e

theorem rd_screeMove {a : Nat} (ha : raiseTouches P.CPU a = false) (hw : a ≠ R.CPU_SCREE_HWM) : (s.screeMove p).rd a = if a = R.CPU_SCREE_PTR then p else s.rd a := by
  unfold State.screeMove
  extract_lets old s1 s2 warn
  rw [(keeps_raiseIf s2 _ P.CPU 2).rd a ha]
  have e : s2.rd a = s1.rd a := by
    unfold s2
    split_ifs
    · exact State.rd_wr_ne _ _ hw
    · rfl
  exact e.trans (State.rd_wr ..)

end scree

/-! ## CoreSpecial -/

/-- The special registers as time leaves them. -/
theorem State.Timed.special {s t : State} (h : s.Timed t) {n : Nat} (hn : n < 12) :
    t.special n = [psrWord s.cpu.psr, s.cpu.epc, s.cpu.estat, s.cpu.cause, s.cpu.eaddr, s.cpu.vbase, s.cpu.sett, s.cpu.ssp, s.cpu.screeBase, s.cpu.screeLimit,
      s.rd R.CPU_CRIT_MAX, s.cpu.pc].getD n 0#32 := by
  interval_cases n
  · exact congrArg psrWord h.psr
  · exact h.field CpuSt.epc fun _ => rfl
  · exact h.field CpuSt.estat fun _ => rfl
  · exact h.field CpuSt.cause fun _ => rfl
  · exact h.field CpuSt.eaddr fun _ => rfl
  · exact h.field CpuSt.vbase fun _ => rfl
  · exact h.field CpuSt.sett fun _ => rfl
  · exact h.field CpuSt.ssp fun _ => rfl
  · exact h.field CpuSt.screeBase fun _ => rfl
  · exact h.field CpuSt.screeLimit fun _ => rfl
  · exact h.keeps.rd _ (by decide)
  · exact h.pc

/-- What MTS of number `k` makes of a core. -/
def State.mtsCore (s : State) (k : Nat) (v : Word) (c : CpuSt) : CpuSt := (({ s with cpu := c } : State).setSpecial k v).cpu

section special
variable {s : State} {r : Fin 16} {aux : BitVec 8}

theorem mfsAct_run (hn : aux.toNat < 12) (hs : s.cpu.psr.sup = true ∨ aux.toNat = 0 ∨ aux.toNat = 11) :
    s.mfsAct r aux.toNat = .run 1 false fun t => (t.setGr r (t.special aux.toNat)).advance := by
  unfold State.mfsAct
  rw [if_neg (by omega), if_neg]
  rcases hs with h | h | h <;> simp [h]

theorem mtsAct_run (hn : aux.toNat < 11) (hs : s.cpu.psr.sup = true) : s.mtsAct aux.toNat r = .run 2 false fun t => (t.setSpecial aux.toNat (t.gr r)).advance := by
  unfold State.mtsAct State.supOnly
  rw [if_neg (by omega), if_pos hs]

/-- MTS of a register that lies in the core alone. -/
theorem ran_mts {k : Nat} (hF : ∀ t : State, t.setSpecial k (s.gr r) = { t with cpu := s.mtsCore k (s.gr r) t.cpu })
    (own : ∀ c : CpuSt, (s.mtsCore k (s.gr r) c).own = s.mtsCore k (s.gr r) c.own) (pc : ∀ c : CpuSt, (s.mtsCore k (s.gr r) c).pc = c.pc)
    (hk : k < 11) (hn : aux.toNat = k) (hs : s.cpu.psr.sup = true) (ho : s.OutFollows) (h : s.Runs 2) :
    ∃ t, s.Timed t ∧ ∃ u, exec (.mts aux r) s = .next u ∧ u = { t with cpu := u.cpu } ∧ u.cpu.own = { s.mtsCore k (s.gr r) s.cpu with pc := s.cpu.pc + 4#32 }.own := by
  obtain ⟨t, tm, e⟩ := issue_run (plan := fun t => t.mtsAct aux.toNat r) h (mtsAct_run (by omega) hs)
  rw [tm.gr] at e
  refine ⟨t, tm, { t with cpu := { s.mtsCore k (s.gr r) t.cpu with pc := t.cpu.pc + 4#32 } }, ?_, rfl, ?_⟩
  · have x : exec (.mts aux r) s = s.ran (s.issue fun t => t.mtsAct aux.toNat r) := rfl
    rw [x, e, hn, hF, State.advance, State.nextPc, ← pc t.cpu]
    exact ran_steady (out_cpu (tm.out ho) _) tm.pending
  · have o : (s.mtsCore k (s.gr r) t.cpu).own = (s.mtsCore k (s.gr r) s.cpu).own := by rw [own, own, tm.own]
    have e := congrArg (fun c : CpuSt => ({ c with pc := s.cpu.pc + 4#32 } : CpuSt)) o
    rw [tm.pc]
    exact e

/-- MTS of another register ends with the output state settled. -/
theorem ended_mts {k : Nat} (hk : k < 11) (hn : aux.toNat = k) (hs : s.cpu.psr.sup = true) (h : s.Runs 2) :
    ∃ t, s.Timed t ∧ ∃ u, exec (.mts aux r) s = .next u ∧ Ended s (t.setSpecial k (s.gr r)).advance u := by
  obtain ⟨t, tm, u, hu, en⟩ := ended_issue (plan := fun t => t.mtsAct aux.toNat r) h (mtsAct_run (by omega) hs)
  rw [hn, tm.gr] at en
  exact ⟨t, tm, u, hu, en⟩

/-- SCREE_BASE takes a new value, and its pointer with it, where no frame is spilled (R353). -/
theorem mts_screeBase (t : State) (v : Word) :
    (t.setSpecial 8 v).advance.cpu.pc = t.cpu.pc + 4#32 ∧
    (t.rd R.CPU_SCREE_PTR ≠ t.cpu.screeBase → (t.setSpecial 8 v).advance.cpu.screeBase = t.cpu.screeBase ∧ (t.setSpecial 8 v).advance.rd R.CPU_SCREE_PTR = t.rd R.CPU_SCREE_PTR) ∧
    (t.rd R.CPU_SCREE_PTR = t.cpu.screeBase → (t.setSpecial 8 v).advance.cpu.screeBase = screeAddr v ∧
      (t.setSpecial 8 v).advance.rd R.CPU_SCREE_PTR = (t.setSpecial 8 v).advance.cpu.screeBase) := by
  by_cases h : t.rd R.CPU_SCREE_PTR = t.cpu.screeBase
  · have e : t.setSpecial 8 v = ({ t with cpu := { t.cpu with screeBase := screeAddr v } } : State).screeMove (screeAddr v) := if_pos h
    have c := screeMove_cpu ({ t with cpu := { t.cpu with screeBase := screeAddr v } } : State) (screeAddr v)
    have b : (t.setSpecial 8 v).cpu.screeBase = screeAddr v := by rw [e, c]
    have p : (t.setSpecial 8 v).rd R.CPU_SCREE_PTR = screeAddr v := by rw [e]; exact (rd_screeMove _ _ (by decide) (by decide)).trans (if_pos rfl)
    have k : (t.setSpecial 8 v).cpu.pc = t.cpu.pc := by rw [e, c]
    exact ⟨congrArg (· + 4#32) k, fun n => absurd h n, fun _ => ⟨b, p.trans b.symm⟩⟩
  · have e : t.setSpecial 8 v = t := if_neg h
    rw [e]
    exact ⟨rfl, fun _ => ⟨rfl, rfl⟩, fun k => absurd k h⟩

end special

/-- Settles O43, by the register each number names and the checks of number and privilege. -/
theorem coreSpecial : Obligations.CoreSpecial := by
  unfold Obligations.CoreSpecial
  intro s r aux v n
  refine ⟨fun ho hn hs h => ?_, fun hs h => ⟨fun ho => ?_, fun hn => ?_, fun hn hv => ?_⟩, fun hc h => ⟨fun c hm => ?_, fun hs x y z c hm => ?_⟩⟩
  · obtain ⟨t, tm, e⟩ := ran_issue (plan := fun t => t.mfsAct r aux.toNat) ho h (mfsAct_run hn hs) fun t => by rw [setGr_cpu]; rfl
    rw [tm.special hn] at e
    exact ⟨t, tm, e⟩
  · have mts (k : Nat) (hF : ∀ t : State, t.setSpecial k v = { t with cpu := s.mtsCore k v t.cpu }) (own : ∀ c : CpuSt, (s.mtsCore k v c).own = s.mtsCore k v c.own)
        (pc : ∀ c : CpuSt, (s.mtsCore k v c).pc = c.pc) (hk : k < 11) (hn : n = k) := ran_mts (r := r) hF own pc hk hn hs ho h
    simp only [List.forall_mem_cons]
    exact ⟨mts 0 (fun _ => rfl) (fun _ => rfl) (fun _ => rfl) (by decide), mts 1 (fun _ => rfl) (fun _ => rfl) (fun _ => rfl) (by decide),
      mts 2 (fun _ => rfl) (fun _ => rfl) (fun _ => rfl) (by decide), mts 3 (fun _ => rfl) (fun _ => rfl) (fun _ => rfl) (by decide),
      mts 4 (fun _ => rfl) (fun _ => rfl) (fun _ => rfl) (by decide), mts 5 (fun _ => rfl) (fun _ => rfl) (fun _ => rfl) (by decide),
      mts 6 (fun _ => rfl) (fun _ => rfl) (fun _ => rfl) (by decide), mts 7 (fun _ => rfl) (fun _ => rfl) (fun _ => rfl) (by decide),
      mts 9 (fun _ => rfl) (fun _ => rfl) (fun _ => rfl) (by decide), List.forall_mem_nil _⟩
  · obtain ⟨t, tm, u, hu, en⟩ := ended_mts (r := r) (by decide) hn hs h
    obtain ⟨pc, same, moved⟩ := mts_screeBase t v
    have ptr : t.rd R.CPU_SCREE_PTR = s.rd R.CPU_SCREE_PTR := tm.keeps.rd _ (by decide)
    have base : t.cpu.screeBase = s.cpu.screeBase := tm.field CpuSt.screeBase fun _ => rfl
    rw [ptr, base] at same moved
    refine ⟨u, hu, ?_⟩
    rw [en.cpu, en.rd (by decide), ← tm.pc]
    exact ⟨pc, moved, same⟩
  · obtain ⟨t, tm, u, hu, en⟩ := ended_mts (r := r) (by decide) hn hs h
    have e : t.setSpecial 10 v = t.wr R.CPU_CRIT_MAX v := if_neg (by omega)
    rw [e] at en
    exact ⟨u, hu, (en.rd (by decide)).trans (State.rd_wr_self ..), by rw [en.cpu, ← tm.pc]; rfl⟩
  · rw [List.mem_append, List.mem_ite_nil_right, List.mem_ite_nil_right, List.mem_singleton, List.mem_singleton] at hm
    rcases hm with ⟨hn, rfl⟩ | ⟨hn, rfl⟩
    · exact trapAct_trapped (plan := fun t => t.mfsAct r n) rfl (if_pos hn) hc h
    · exact trapAct_trapped (plan := fun t => t.mtsAct n r) rfl (if_pos hn) hc h
  · have user (a : Act) : s.supOnly a = s.trapAct 0x11 0 none := if_neg (by simp [hs])
    simp only [List.mem_append, List.mem_ite_nil_right, List.mem_cons, List.not_mem_nil, or_false] at hm
    rcases hm with ((rfl | rfl | rfl | rfl) | ⟨⟨h1, h10⟩, rfl⟩) | ⟨h10, rfl⟩
    · exact trapAct_trapped (plan := fun t => t.supOnly (t.eretAct x z)) rfl (user _) hc h
    · exact trapAct_trapped (plan := fun t => t.supOnly (t.gretAct x y z)) rfl (user _) hc h
    · exact trapAct_trapped (plan := fun t => t.supOnly (.run 1 false fun u => (if u.cpu.psr.crit then u else u.openWindow).advance)) rfl (user _) hc h
    · exact trapAct_trapped (plan := fun t => t.supOnly (.run 1 false fun u => (if u.cpu.psr.crit then u.closeWindow else u).advance)) rfl (user _) hc h
    · refine trapAct_trapped (plan := fun t => t.mfsAct r n) rfl ?_ hc h
      unfold State.mfsAct
      have h0 : (n != 0) = true := bne_iff_ne.mpr (by omega)
      have h11 : (n != 11) = true := bne_iff_ne.mpr (by omega)
      rw [if_neg (by omega), hs, h0, h11]
      rfl
    · refine trapAct_trapped (plan := fun t => t.mtsAct n r) rfl ?_ hc h
      exact (if_neg (by omega)).trans (user _)

end Sys2Proof.Machine

namespace Sys2Proof.Machine

/-! ## CoreTraps -/

/-- A trap entry leaves a window's expiry as it stands. -/
theorem enterTrap_expire {t : State} (h : t.settOk = true) (epc cause ea use : Word) : (t.enterTrap epc cause ea use).cpu.expire = t.cpu.expire := by
  obtain ⟨m, bd, pb, ps, sb, x, e⟩ := storeWords_eq (t.settWords epc (psrWord t.cpu.psr) cause ea use) t.cpu.sett.toNat
    (fun b hb hb' => sett_sram h b hb (by rwa [settWords_length] at hb')) t
  unfold State.enterTrap
  extract_lets est user s1 _ s2 s3 _ s4
  have c1 : s1.cpu.expire = t.cpu.expire := by have k := congrArg (fun q : State => q.cpu.expire) e; exact k
  have c3 : s3.cpu.expire = s1.cpu.expire := by unfold s3; split_ifs <;> rfl
  obtain ⟨g, e4⟩ := freshBank_eq s4 16 0#32
  rw [e4]
  exact c3.trans c1

theorem held_of_coreOn {s : State} (h : s.coreOn = true) : s.cpu.held = false := by
  unfold State.coreOn at h
  simp only [Bool.and_eq_true, Bool.not_eq_true'] at h
  exact h.1.1.1.2

/-- With no window open, and outside any budget, an expiry that is pending comes next (R401, R417). -/
theorem boundary_expire {s : State} (ho : s.coreOn = true) (hc : s.cpu.psr.crit = false) (hb : s.budgeted = false) (he : s.cpu.expire = true) : s.boundary = .expire := by
  unfold State.boundary State.budgetOver
  rw [ho, hc, hb, he]
  rfl

/-- The window force-closed, CRIT_EXPIRE pending (R417, R418). -/
def State.windowShut (s : State) : State := { s.closeWindow with cpu := { s.closeWindow.cpu with expire := true } }

/-- CRIT_EXPIRE taken up. -/
def State.expireTaken (s : State) : State := { s with cpu := { s.cpu with expire := false } }

section shut
variable {s t x : State}

theorem forceClose_eq (ho : s.coreOn = true) (hc : s.cpu.psr.crit = true) (htb : s.cpu.psr.tb = false) (heb : s.cpu.psr.eb = false) (hw : s.cpu.wb = []) :
    s.forceClose = (s.spend s.winLeft).windowShut := by
  have t := timed_spend s s.winLeft
  unfold State.forceClose
  rw [ho, hc, if_neg (by decide), pass_empty hw, State.unlessReset, if_neg (by rw [t.held, held_of_coreOn ho]; decide), if_neg (by rw [t.psr, htb, heb]; decide)]
  rfl

/-- Time that passes leaves the core executing. -/
theorem State.Timed.coreOn (h : s.Timed t) : t.coreOn = s.coreOn := by
  have w : t.pwr = s.pwr := by have e := congrArg State.pwr h.still; exact e
  have n : t.twn = s.twn := by have e := congrArg State.twn h.still; exact e
  have p := h.field CpuSt.parked fun _ => rfl
  have b : t.rd R.MON_BOOT = s.rd R.MON_BOOT := h.keeps.rd _ (by decide)
  unfold State.coreOn State.romWaits State.frozen State.fd
  rw [b, w, n, p, h.held, h.tckState]

theorem canTrap_windowShut (k : s.Timed t) (h : s.CanTrap 0) (hb : s.budgeted = false) : t.windowShut.CanTrap 0 := by
  obtain ⟨htb, heb, hk, hw, -, -⟩ := h
  have sett := k.field CpuSt.sett fun _ => rfl
  have off : t.windowShut.budgeted = false := k.budgeted.trans hb
  refine ⟨(congrArg Psr.tb k.psr).trans htb, (congrArg Psr.eb k.psr).trans heb, ?_, k.wb_nil hw, ?_, rfl⟩
  · rw [← hk]
    show (inSram t.cpu.sett.toNat && inSram (t.cpu.sett.toNat + 127)) = _
    rw [sett]; rfl
  · unfold State.past
    rw [off]
    rfl

/-- CRIT_EXPIRE is entered from the core as the closed window leaves it. -/
theorem poised_expireTaken (k : s.Timed t) (l : t.windowShut.Timed x) : Poised s.closeWindow.expireTaken x.expireTaken where
  cpu := by
    have shut := congrArg (fun c : CpuSt => ({ c with psr := { c.psr with crit := false }, expire := false, late := none } : CpuSt)) k.own
    have taken := congrArg (fun c : CpuSt => ({ c with expire := false, late := none } : CpuSt)) l.own
    exact taken.trans shut
  rd a ha := (l.poised.rd a ha).trans (k.poised.rd a ha)
  now := l.poised.now.trans k.poised.now
  mem b := (l.rdB b).trans (k.rdB b)

/-- A trap's entry is no matter of an expiry that was pending. -/
theorem State.Trapped.of_expireTaken {u : State} {code sub : Nat} {multi : Bool} {ret bad : Word} (h : s.expireTaken.Trapped u code sub multi ret bad) :
    s.Trapped u code sub multi ret bad :=
  ⟨h.epc, h.cause, h.eaddr, h.estat, h.psr, h.pc, h.bank, h.ring, h.stack, h.sett, h.mem⟩

/-- CRIT_EXPIRE entered from a window that has been closed after some time. -/
theorem takeExpire_trapped (k : s.Timed t) (ho : s.coreOn = true) (hb : s.budgeted = false) (h : s.CanTrap 0) :
    s.closeWindow.Trapped t.windowShut.takeExpire 0x1C 0 false s.cpu.pc s.cpu.eaddr ∧ t.windowShut.takeExpire.cpu.expire = false := by
  have ⟨_, _, hk, _, _, _⟩ := h
  have on : t.windowShut.coreOn = true := k.coreOn.trans ho
  have pc : t.windowShut.cpu.pc = s.cpu.pc := k.pc
  have ea : t.windowShut.cpu.eaddr = s.cpu.eaddr := k.field CpuSt.eaddr fun _ => rfl
  have p := poised_expireTaken k (timed_spend t.windowShut 0)
  have e : t.windowShut.takeExpire = ((t.windowShut.spend 0).expireTaken.enterTrap s.cpu.pc (causeWord 0x1C 0 false false) s.cpu.eaddr (t.windowShut.spend 0).expireTaken.coreUse).spend 36 := by
    rw [State.takeExpire, if_pos (boundary_expire on rfl (k.budgeted.trans hb) rfl)]
    rw [← pc, ← ea]
    exact heavyTrap_eq (canTrap_windowShut k h hb) (held_of_coreOn on) 0x1C 0 false t.windowShut.cpu.pc none (f := State.expireTaken) rfl
  have settOk : (t.windowShut.spend 0).expireTaken.settOk = true := by
    have k : s.closeWindow.expireTaken.settOk = true := hk
    simpa only [State.settOk, p.sett] using k
  obtain ⟨trapped, -⟩ := enterTrap_trapped p hk 0x1C 0 false s.cpu.pc s.cpu.eaddr (t.windowShut.spend 0).expireTaken.coreUse
  have expire := enterTrap_expire settOk s.cpu.pc (causeWord 0x1C 0 false false) s.cpu.eaddr (t.windowShut.spend 0).expireTaken.coreUse
  have last := timed_spend ((t.windowShut.spend 0).expireTaken.enterTrap s.cpu.pc (causeWord 0x1C 0 false false) s.cpu.eaddr (t.windowShut.spend 0).expireTaken.coreUse) 36
  rw [e]
  exact ⟨.of_expireTaken (trapped.congr last.own last.rdB), (last.field CpuSt.expire fun _ => rfl).trans expire⟩

/-- The bound of a window outside any budget closes it and enters CRIT_EXPIRE (R417, R418). -/
theorem critExpire_trapped (ho : s.coreOn = true) (hc : s.cpu.psr.crit = true) (hb : s.budgeted = false) (h : s.CanTrap 0) :
    ∃ u, exec .critExpire s = .next u ∧ s.closeWindow.Trapped u 0x1C 0 false s.cpu.pc s.cpu.eaddr ∧ u.cpu.expire = false := by
  have ⟨htb, heb, _, hw, _, _⟩ := h
  obtain ⟨trapped, expire⟩ := takeExpire_trapped (timed_spend s s.winLeft) ho hb h
  rw [← forceClose_eq ho hc htb heb hw] at trapped expire
  obtain ⟨u, hu, en⟩ := ended_done s s.forceClose.takeExpire
  exact ⟨u, hu, trapped.congr (by rw [en.cpu]) (rdB_of_mem en.mem en.auxGen), by rw [en.cpu]; exact expire⟩

end shut

/-- A fetch that Table 8-3 refuses is a heavy trap with its reason (R345). -/
theorem fetch_trapped {s : State} {why : Nat} (ecc : Ecc) (hb : s.boundary = .issue) (hf : s.accessFault .fetch 4 s.cpu.pc.toNat = some why) (h : s.CanTrap 0) :
    ∃ u, exec (.instructionAccessFault ecc) s = .next u ∧ s.Trapped u 0x13 why false s.cpu.pc s.cpu.pc := by
  have hh : s.cpu.held = false := held_of_boundary (by rw [hb]; decide)
  obtain ⟨t, -, k, -⟩ := heavyTrap_trapped h hh 0x13 why false s.cpu.pc s.cpu.pc (f := fun t => if why = 5 then t.mpuDeny 0 s.cpu.pc.toNat s.cpu.psr.sup else t)
    fun t _ => poised_access t why 0 s.cpu.pc.toNat s.cpu.psr.sup
  have e : s.fetchTrap ecc = s.heavyTrap 0 0x13 why false s.cpu.pc (some s.cpu.pc) fun t => if why = 5 then t.mpuDeny 0 s.cpu.pc.toNat s.cpu.psr.sup else t := by
    unfold State.fetchTrap
    simp only [hb, hf, ne_eq, not_true_eq_false, if_false]
  rw [← e] at k
  obtain ⟨u, hu, en⟩ := ended_done s (s.fetchTrap ecc)
  exact ⟨u, hu, k.congr (by rw [en.cpu]) (rdB_of_mem en.mem en.auxGen)⟩

/-- Settles O44, by the plan of each instruction and the entry of its trap. -/
theorem coreTraps : Obligations.CoreTraps := by
  unfold Obligations.CoreTraps
  intro s ecc
  refine ⟨fun hc h => ⟨fun n => ?_, ?_⟩, fun w hw hc h => ?_, fun why hb hf h => fetch_trapped ecc hb hf h, fun ho hc hb h => critExpire_trapped ho hc hb h⟩
  · exact issue_trapped (plan := fun t => .trap 1 0x1A n.toNat t.nextPc none id) hc h rfl
  · exact issue_trapped (plan := fun t => .trap 1 0x1B 0 t.cpu.pc none id) hc h rfl
  · have e : s.issueIf (illegalWord w) (fun t => t.trapAct 0x10 0 none) = s.issue fun t => t.trapAct 0x10 0 none := if_pos hw
    exact trapAct_trapped (plan := fun t => t.trapAct 0x10 0 none) (congrArg s.ran e) rfl hc h

end Sys2Proof.Machine

namespace Sys2Proof.Machine

/-! ## Reports of self-test leave the core's page -/

/-- The registers of the core's page stand. -/
def CpuRegs (s t : State) : Prop := ∀ a, a / 256 = P.CPU → t.rd a = s.rd a

theorem raiseTouches_cpu {a p : Nat} (h : a / 256 = P.CPU) (hp : p ≠ P.CPU) : raiseTouches p a = false := by
  simp only [raiseTouches, Bool.or_eq_false_iff, beq_eq_false_iff_ne, rEVT, P.QUE, P.LOG, P.TRC, P.PST, R.QUE_EVLOSTCT, R.LOG_LOSTCT, R.TRC_LOST]
  unfold P.CPU at h hp
  omega

theorem settleTouches_cpu {a : Nat} (h : a / 256 = P.CPU) : settleTouches a = false := by
  simp only [settleTouches, raiseTouches_cpu h (show P.SYS ≠ P.CPU by decide), raiseTouches_cpu h (show P.SLF ≠ P.CPU by decide), raiseTouches_cpu h (show P.PST ≠ P.CPU by decide),
    Bool.or_eq_false_iff, beq_eq_false_iff_ne, rFLT, P.PST, P.SLF, R.PST_TRIPCT, R.PST_LAST, R.PST_LASTTICK, R.SLF_LASTV, R.SLF_LASTU, R.SLF_LASTTICK, R.SLF_LASTCT, R.SLF_TRANCT,
    R.SLF_NOTESTCT, R.SLF_DETCT, R.SLF_BKT1, true_and]
  unfold P.CPU at h
  omega

namespace CpuRegs

theorem refl (s : State) : CpuRegs s s := fun _ _ => rfl
theorem trans {s t u : State} (h : CpuRegs s t) (k : CpuRegs t u) : CpuRegs s u := fun a ha => (k a ha).trans (h a ha)
theorem of_regs {s t : State} (h : t.regs = s.regs := by exact rfl) : CpuRegs s t := fun _ _ => rd_of_regs h _
theorem of_keeps {p : Nat} {s t : State} (hp : p ≠ P.CPU) (k : Keeps p s t) : CpuRegs s t := fun a ha => k.rd a (raiseTouches_cpu ha hp)
theorem of_calms {s t : State} (k : Calms s t) : CpuRegs s t := fun a ha => k.rd a (settleTouches_cpu ha)
theorem ite {s t u : State} {c : Prop} [Decidable c] (h : CpuRegs s t) (k : CpuRegs s u) : CpuRegs s (if c then t else u) := by split_ifs <;> assumption

variable {s t : State} (h : CpuRegs s t)
include h

theorem wr {b : Nat} {v : Word} (hb : b / 256 ≠ P.CPU) : CpuRegs s (t.wr b v) := fun a ha => (State.rd_wr_ne _ _ (by rintro rfl; exact hb ha)).trans (h a ha)
theorem inc {b : Nat} (hb : b / 256 ≠ P.CPU) : CpuRegs s (t.inc b) := h.wr hb
theorem raise {p n : Nat} (hp : p ≠ P.CPU) : CpuRegs s (t.raise p n) := h.trans (.of_keeps hp (keeps_raise t p n))
theorem logPush {k p : Nat} {a b : Word} : CpuRegs s (t.logPush k p a b) := h.trans (.of_keeps (by decide) (keeps_logPush 0 t k p a b))
theorem setLane {l : Nat} {x : Lane} : CpuRegs s (t.setLane l x) := h.trans (.ite .of_regs (.ite .of_regs .of_regs))

theorem incBucket {test : Nat} : CpuRegs s (t.incBucket test) := h.wr (by unfold R.SLF_BKT0 P.CPU; omega)

theorem verdict {j : Job} {res spare : Nat} : CpuRegs s (t.verdict j res spare) := by
  unfold State.verdict
  extract_lets b lasting d0 s1 s2 s3 s4 s5 _ s6
  have h0 : CpuRegs s (t.noteLast j d0) := h.trans (.of_calms (calms_noteLast t j d0))
  have h1 : CpuRegs s s1 := by unfold s1; cases lasting <;> exact h0.inc (by decide)
  have h2 : CpuRegs s s2 := .ite (h1.trans (.of_calms (calms_noteNoTest s1))) h1
  have h3 : CpuRegs s s3 := .ite (h2.trans (.of_calms (calms_noteRepair s2 _ _))) h2
  have h5 : CpuRegs s s5 := .ite (h3.logPush.trans (.of_calms (calms_noteLasting s4))) h3.logPush
  have h6 : CpuRegs s s6 := .ite (h5.trans .of_regs) h5
  exact .ite (h6.trans .of_regs) h6

theorem detect {src page : Nat} {u : Word} : CpuRegs s (t.detect src page u) := by
  unfold State.detect
  extract_lets test j s1 s2 s3
  have counted : CpuRegs s s3 := .incBucket (.logPush (.inc (h.raise (by decide)) (by decide)))
  exact .ite counted.verdict (.ite (counted.trans .of_regs) (.ite (.ite (counted.trans .of_regs) counted) (.ite counted.setLane (.ite counted.setLane counted.verdict))))

theorem memReport {g : Region} {a page : Nat} {e : Ecc} : CpuRegs s (t.memReport g a page e) := by
  unfold State.memReport
  extract_lets sram unit pg s1
  have h1 : CpuRegs s s1 := h.trans .of_regs
  split
  · exact h
  · exact h.detect
  · exact h1.detect

theorem liveRead : CpuRegs s t.liveRead := h.trans (.of_keeps (p := P.TCK) (by decide) (keeps_raiseIf t _ P.TCK 8))

end CpuRegs
end Sys2Proof.Machine

namespace Sys2Proof.Machine

/-! ## Stores wherever they fall -/

/-- A store leaves all but memory, its check bits and parity, the bytes of phase 63 and the twin's record, in the carrier table too. -/
theorem memStore_frame (s : State) (a w : Nat) (v : Word) :
    ∃ m bd pb ps sb x, s.memStore a w v = { s with mem := m, bad := bd, parBad := pb, parSet := ps, snapB := sb, twn := x } := by
  unfold State.memStore State.putMem
  extract_lets v' s1 s2 s3
  have h1 : ∃ m sb, s1 = { s with mem := m, snapB := sb } := ⟨_, _, wrN_eq _ a _ w⟩
  have h2 : ∃ bd, s2 = { s1 with bad := bd } := by
    unfold s2; split_ifs
    · exact ⟨_, rfl⟩
    · exact ⟨s1.bad, rfl⟩
  have h3 : ∃ pb ps, s3 = { s2 with parBad := pb, parSet := ps } := by
    unfold s3; split_ifs
    · exact ⟨_, _, rfl⟩
    · exact ⟨s2.parBad, s2.parSet, rfl⟩
  obtain ⟨m, sb, h1⟩ := h1
  obtain ⟨bd, h2⟩ := h2
  obtain ⟨pb, ps, h3⟩ := h3
  obtain ⟨x, e⟩ := note_eq s3 w a (wd (v'.toNat % 2 ^ (8 * w))) 2
  exact ⟨_, _, _, _, _, x, by rw [e, h3, h2, h1]⟩

theorem storeWords_frame (l : List Word) (a : Nat) (s : State) :
    ∃ m bd pb ps sb x, s.storeWords l a = { s with mem := m, bad := bd, parBad := pb, parSet := ps, snapB := sb, twn := x } := by
  induction l generalizing s a with
  | nil => exact ⟨s.mem, s.bad, s.parBad, s.parSet, s.snapB, s.twn, rfl⟩
  | cons w l ih =>
    obtain ⟨m, bd, pb, ps, sb, x, e⟩ := memStore_frame s a 4 w
    obtain ⟨m', bd', pb', ps', sb', x', e'⟩ := ih (a + 4) (s.memStore a 4 w)
    exact ⟨m', bd', pb', ps', sb', x', by rw [State.storeWords, e', e]⟩

/-- SRAM holds no byte of the carrier table. -/
theorem carrier_between {p b : Nat} (h : inSram p = true) (h' : inSram (p + 31) = true) (hb : p ≤ b) (hb' : b < p + 32) : inCarrier b = false := by
  simp only [inSram, Bool.and_eq_true, decide_eq_true_eq] at h h'
  simp only [inCarrier, Bool.and_eq_false_iff, decide_eq_false_iff_not]
  omega

/-! ## A new frame (R348, R349) -/

/-- The keys of a bank that is given b7. -/
theorem key_freshFrame (s : State) (b : Nat) (v : Word) (k : Nat) :
    (s.freshBank b v).key k = if k = b * 8 + 7 then v else if b * 8 ≤ k ∧ k < b * 8 + 7 then 0#32 else s.key k := by
  simp only [State.freshBank, List.foldl, key_setBank]
  split_ifs <;> grind

theorem freshFrame_cpu (s : State) (b : Nat) (v : Word) : (s.freshBank b v).cpu = { s.cpu with gpr := (s.freshBank b v).cpu.gpr } := by
  obtain ⟨g, e⟩ := freshBank_eq s b v
  rw [e]

theorem freshFrame_rd (s : State) (b : Nat) (v : Word) (a : Nat) : (s.freshBank b v).rd a = s.rd a := by
  obtain ⟨g, e⟩ := freshBank_eq s b v
  rw [e]; rfl

theorem freshFrame_rdB (s : State) (b : Nat) (v : Word) (a : Nat) : (s.freshBank b v).rdB a = s.rdB a := by
  obtain ⟨g, e⟩ := freshBank_eq s b v
  rw [e]; rfl

/-! ## The spill (R352) -/

/-- The words of the oldest resident frame. -/
def State.oldest (s : State) : List Word := (List.range 8).map fun i => s.getBank ((s.cpu.ftop + 1) % 16) i

section spill
variable (s : State)

theorem spill_eq : s.spill = ((s.storeWords s.oldest (s.rd R.CPU_SCREE_PTR).toNat).screeMove (s.rd R.CPU_SCREE_PTR + 32#32)).inc R.CPU_SPILLS := rfl

theorem spill_cpu : s.spill.cpu = s.cpu := by
  obtain ⟨m, bd, pb, ps, sb, x, e⟩ := storeWords_frame s.oldest (s.rd R.CPU_SCREE_PTR).toNat s
  have counted (t : State) : (t.inc R.CPU_SPILLS).cpu = t.cpu := rfl
  rw [spill_eq, counted, screeMove_cpu, e]

theorem spill_rd {a : Nat} (ha : raiseTouches P.CPU a = false) (hw : a ≠ R.CPU_SCREE_HWM) (hs : a ≠ R.CPU_SPILLS) :
    s.spill.rd a = if a = R.CPU_SCREE_PTR then s.rd R.CPU_SCREE_PTR + 32#32 else s.rd a := by
  obtain ⟨m, bd, pb, ps, sb, x, e⟩ := storeWords_frame s.oldest (s.rd R.CPU_SCREE_PTR).toNat s
  refine (State.rd_wr_ne _ _ hs).trans ((rd_screeMove (s.storeWords s.oldest (s.rd R.CPU_SCREE_PTR).toNat) _ ha hw).trans ?_)
  rw [e]
  rfl

theorem spill_rdB (b : Nat) : s.spill.rdB b = (s.storeWords s.oldest (s.rd R.CPU_SCREE_PTR).toNat).rdB b := by
  have q := quiet_screeMove (s.storeWords s.oldest (s.rd R.CPU_SCREE_PTR).toNat) (s.rd R.CPU_SCREE_PTR + 32#32)
  exact rdB_of_mem (by have e := congrArg State.mem q; exact e) (by have e := congrArg State.auxGen q; exact e) b

/-- The frame lies in SRAM from where SCREE_PTR points. -/
theorem spill_rdW (h : inSram (s.rd R.CPU_SCREE_PTR).toNat = true) (h' : inSram ((s.rd R.CPU_SCREE_PTR).toNat + 31) = true) {i : Nat} (hi : i < 8) :
    s.spill.rdW ((s.rd R.CPU_SCREE_PTR).toNat + 4 * i) = s.getBank ((s.cpu.ftop + 1) % 16) i := by
  have len : s.oldest.length = 8 := rfl
  obtain ⟨words, -⟩ := storeWords_spec s.oldest (s.rd R.CPU_SCREE_PTR).toNat (fun b hb hb' => carrier_between h h' hb (by omega)) s
  have w := words i (by omega)
  rw [rdW_eq] at w ⊢
  rw [spill_rdB, spill_rdB, spill_rdB, spill_rdB, w]
  interval_cases i <;> rfl

end spill

/-! ## The forward rotation (R348, R349, R352) -/

/-- The bank a forward rotation from the ring or the trap bank makes current. -/
def State.nextBank (s : State) : Nat := if s.cpu.psr.tb then 17 else (s.cpu.ftop + 1) % 16

/-- The state `u` is `s` after a forward rotation that gives the new bank `b7`. -/
structure State.Forwarded (s : State) (b7 : Word) (u : State) : Prop where
  key : ∀ k, u.key k = if k = s.nextBank * 8 + 7 then b7 else if s.nextBank * 8 ≤ k ∧ k < s.nextBank * 8 + 7 then 0#32 else s.key k
  trap : s.cpu.psr.tb = true → u.cpu.own = { s.cpu with psr := { s.cpu.psr with tb := false, eb := true }, gpr := u.cpu.gpr }.own
  ring : s.cpu.psr.tb = false →
    u.cpu.own = { s.cpu with ftop := (s.cpu.ftop + 1) % 16, res := if s.cpu.res = 16 then 16 else s.cpu.res + 1, gpr := u.cpu.gpr }.own
  depth : u.fd R.CPU_DEPTH 0 16 = min 0xFFFF (s.fd R.CPU_DEPTH 0 16 + 1)
  ptr : s.spillDue = true → u.rd R.CPU_SCREE_PTR = s.rd R.CPU_SCREE_PTR + 32#32
  words : s.spillDue = true → inSram (s.rd R.CPU_SCREE_PTR).toNat = true → inSram ((s.rd R.CPU_SCREE_PTR).toNat + 31) = true →
    ∀ i, i < 8 → u.rdW ((s.rd R.CPU_SCREE_PTR).toNat + 4 * i) = s.getBank ((s.cpu.ftop + 1) % 16) i
  mem : s.spillDue = false → ∀ b, u.rdB b = s.rdB b

theorem fd_deeper (s : State) : s.deeper.fd R.CPU_DEPTH 0 16 = min 0xFFFF (s.fd R.CPU_DEPTH 0 16 + 1) := by
  refine (congrArg (fld · 0 16) (State.rd_wr_self ..)).trans ((fld_setFld _ (by decide)).trans (Nat.mod_eq_of_lt ?_))
  omega

theorem deeper_rd (s : State) : s.deeper.rd R.CPU_SCREE_PTR = s.rd R.CPU_SCREE_PTR := State.rd_wr_ne _ _ (by decide)

/-- The ring with room for one frame more. -/
def State.roomMade (s : State) : State := if s.cpu.res = 16 then s.spill else { s with cpu := { s.cpu with res := s.cpu.res + 1 } }

theorem roomMade_cpu (s : State) : s.roomMade.cpu = { s.cpu with res := if s.cpu.res = 16 then 16 else s.cpu.res + 1 } := by
  unfold State.roomMade
  split_ifs with h
  · rw [spill_cpu, ← h]
  · rfl

theorem roomMade_depth (s : State) : s.roomMade.fd R.CPU_DEPTH 0 16 = s.fd R.CPU_DEPTH 0 16 := by
  unfold State.roomMade
  split_ifs
  · exact congrArg (fld · 0 16) ((spill_rd s (by decide) (by decide) (by decide)).trans (if_neg (by decide)))
  · rfl

/-- A change of the core alone, a fresh frame and a deeper stack. -/
theorem forward_ring {s : State} (b7 : Word) (htb : s.cpu.psr.tb = false) :
    s.forward b7 = (({ s.roomMade with cpu := { s.roomMade.cpu with ftop := (s.roomMade.cpu.ftop + 1) % 16 } } : State).freshBank ((s.roomMade.cpu.ftop + 1) % 16) b7).deeper :=
  if_neg (by simp [htb])

theorem forward_forwarded (s : State) (b7 : Word) (heb : s.cpu.psr.eb = false) : s.Forwarded b7 (s.forward b7) := by
  cases htb : s.cpu.psr.tb with
  | true =>
    have due : s.spillDue = false := by simp [State.spillDue, htb]
    have next : s.nextBank = 17 := by simp [State.nextBank, htb]
    have e : s.forward b7 = ((s.setPsr { s.cpu.psr with tb := false, eb := true }).freshBank 17 b7).deeper := if_pos htb
    have cpu := freshFrame_cpu (s.setPsr { s.cpu.psr with tb := false, eb := true }) 17 b7
    rw [e]
    exact ⟨fun k => by rw [next]; exact key_freshFrame (s.setPsr { s.cpu.psr with tb := false, eb := true }) 17 b7 k, fun _ => congrArg CpuSt.own cpu, fun h => absurd (htb.symm.trans h) (by decide),
      (fd_deeper _).trans (by rw [State.fd, freshFrame_rd]; rfl), fun h => absurd (due.symm.trans h) (by decide), fun h => absurd (due.symm.trans h) (by decide),
      fun _ b => freshFrame_rdB (s.setPsr { s.cpu.psr with tb := false, eb := true }) 17 b7 b⟩
  | false =>
    have due : s.spillDue = (s.cpu.res == 16) := by simp [State.spillDue, htb, heb]
    have next : s.nextBank = (s.cpu.ftop + 1) % 16 := by simp [State.nextBank, htb]
    have cpu := roomMade_cpu s
    have spilled (h : s.spillDue = true) : s.roomMade = s.spill := if_pos (by simpa [due] using h)
    have room (h : s.spillDue = false) : s.roomMade = { s with cpu := { s.cpu with res := s.cpu.res + 1 } } := if_neg (by simpa [due] using h)
    have top : s.roomMade.cpu.ftop = s.cpu.ftop := by rw [cpu]
    have gpr : s.roomMade.cpu.gpr = s.cpu.gpr := by rw [cpu]
    have depth := roomMade_depth s
    have e := forward_ring b7 htb
    rw [top] at e
    generalize s.roomMade = x at cpu spilled room top gpr depth e
    have fresh := freshFrame_cpu ({ x with cpu := { x.cpu with ftop := (s.cpu.ftop + 1) % 16 } } : State) ((s.cpu.ftop + 1) % 16) b7
    have rd := freshFrame_rd ({ x with cpu := { x.cpu with ftop := (s.cpu.ftop + 1) % 16 } } : State) ((s.cpu.ftop + 1) % 16) b7
    have rdB := freshFrame_rdB ({ x with cpu := { x.cpu with ftop := (s.cpu.ftop + 1) % 16 } } : State) ((s.cpu.ftop + 1) % 16) b7
    have key := key_freshFrame ({ x with cpu := { x.cpu with ftop := (s.cpu.ftop + 1) % 16 } } : State) ((s.cpu.ftop + 1) % 16) b7
    have mem (b : Nat) : (s.forward b7).rdB b = x.rdB b := by rw [e]; exact rdB b
    refine ⟨fun k => ?_, fun h => absurd (htb.symm.trans h) (by decide), fun _ => ?_, ?_, fun h => ?_, fun h hp hp' i hi => ?_, fun h b => ?_⟩
    · rw [next, e]
      exact (key k).trans (by rw [State.key, gpr]; rfl)
    · rw [e]
      refine congrArg CpuSt.own (fresh.trans ?_)
      rw [cpu]; rfl
    · rw [e, fd_deeper, State.fd, rd, ← depth]
      rfl
    · rw [e, deeper_rd, rd, ← (spill_rd s (a := R.CPU_SCREE_PTR) (by decide) (by decide) (by decide)).trans (if_pos rfl), ← spilled h]
      rfl
    · rw [← spill_rdW s hp hp' hi, ← spilled h, rdW_eq, rdW_eq, mem, mem, mem, mem]
    · rw [mem, room h]
      rfl

theorem State.Timed.key {s t : State} (h : s.Timed t) (k : Nat) : t.key k = s.key k := h.poised.key k

theorem State.Timed.spillDue {s t : State} (h : s.Timed t) : t.spillDue = s.spillDue := by
  unfold State.spillDue
  rw [h.psr, h.res]

namespace State.Forwarded
variable {s t x : State} {b7 : Word}

/-- Time that passes before a rotation is no matter to it. -/
theorem of_timed (h : s.Timed t) (k : t.Forwarded b7 x) : s.Forwarded b7 x := by
  have own := h.own
  have next : t.nextBank = s.nextBank := by unfold State.nextBank; rw [h.psr, h.ftop]
  have ptr : t.rd R.CPU_SCREE_PTR = s.rd R.CPU_SCREE_PTR := h.keeps.rd _ (by decide)
  have depth : t.rd R.CPU_DEPTH = s.rd R.CPU_DEPTH := h.keeps.rd _ (by decide)
  refine ⟨fun i => ?_, fun htb => ?_, fun htb => ?_, ?_, fun hd => ?_, fun hd => ?_, fun hd b => ?_⟩
  · rw [k.key, next, h.key]
  · have e := congrArg (fun c : CpuSt => ({ c with psr := { c.psr with tb := false, eb := true }, gpr := x.cpu.gpr } : CpuSt)) own
    exact (k.trap (by rw [h.psr, htb])).trans e
  · have e := congrArg (fun c : CpuSt => ({ c with ftop := (c.ftop + 1) % 16, res := if c.res = 16 then 16 else c.res + 1, gpr := x.cpu.gpr } : CpuSt)) own
    exact (k.ring (by rw [h.psr, htb])).trans e
  · rw [k.depth, State.fd, depth]; rfl
  · rw [k.ptr (by rw [h.spillDue, hd]), ptr]
  · have w := k.words (by rw [h.spillDue, hd])
    simp only [State.getBank, ptr, h.ftop, h.key] at w
    exact w
  · rw [k.mem (by rw [h.spillDue, hd]), h.rdB]

variable (k : s.Forwarded b7 x)
include k

theorem psr_trap (h : s.cpu.psr.tb = true) : x.cpu.psr = { s.cpu.psr with tb := false, eb := true } := by have e := congrArg CpuSt.psr (k.trap h); exact e
theorem ftop_trap (h : s.cpu.psr.tb = true) : x.cpu.ftop = s.cpu.ftop := by have e := congrArg CpuSt.ftop (k.trap h); exact e
theorem psr_ring (h : s.cpu.psr.tb = false) : x.cpu.psr = s.cpu.psr := by have e := congrArg CpuSt.psr (k.ring h); exact e
theorem ftop_ring (h : s.cpu.psr.tb = false) : x.cpu.ftop = (s.cpu.ftop + 1) % 16 := by have e := congrArg CpuSt.ftop (k.ring h); exact e
theorem res_ring (h : s.cpu.psr.tb = false) : x.cpu.res = if s.cpu.res = 16 then 16 else s.cpu.res + 1 := by have e := congrArg CpuSt.res (k.ring h); exact e

theorem bank (heb : s.cpu.psr.eb = false) : x.bank = s.nextBank := by
  unfold State.bank State.nextBank
  cases h : s.cpu.psr.tb with
  | true => rw [k.psr_trap h]; rfl
  | false => rw [k.psr_ring h, k.ftop_ring h, h, heb, Nat.mod_mod]; rfl

/-- The registers after a rotation: the return address in b7, zeros below it, the common ones as they were. -/
theorem gr (heb : s.cpu.psr.eb = false) (r : Fin 16) : x.gr r = if r.val < 8 then s.gr r else if r.val = 15 then b7 else 0#32 := by
  have lt : s.nextBank < 18 := by unfold State.nextBank; split_ifs <;> omega
  unfold State.gr State.grKey
  rw [k.bank heb, k.key]
  by_cases h8 : r.val < 8
  · rw [if_pos h8, if_pos h8, if_neg (show ¬144 + r.val = s.nextBank * 8 + 7 by omega), if_neg (show ¬(_ ∧ 144 + r.val < s.nextBank * 8 + 7) by omega), if_pos h8]
  · rw [if_neg h8, if_neg h8, if_neg (by omega)]
    by_cases h15 : r.val = 15
    · rw [if_pos h15, if_pos (by omega)]
    · rw [if_neg h15, if_neg (by omega), if_pos (by omega)]

end State.Forwarded

end Sys2Proof.Machine

namespace Sys2Proof.Machine

/-! ## The backward rotation (R350, R355) -/

theorem backKind_ok {s : State} {fill : Ecc} {i : Fin 8} (h : s.backKind fill i = .ok) : s.cpu.psr.eb = true ∨ s.cpu.res ≠ 1 := by
  unfold State.backKind at h
  split_ifs at h with hr
  · simpa using hr
  · extract_lets a at h
    split at h <;> cases h

theorem backKind_fill {s : State} {fill : Ecc} {i : Fin 8} (h : s.backKind fill i = .fill) : s.cpu.psr.eb = false ∧ s.cpu.res = 1 := by
  unfold State.backKind at h
  split_ifs at h with hr
  simpa using hr

theorem backward_trap {s : State} (ecc : Ecc) (i : Fin 8) (h : s.cpu.psr.eb = true) : s.backward ecc i = (s.setPsr { s.cpu.psr with eb := false, tb := true }).shallower := if_pos h

/-- The frame a fill brings in from address `p` to bank `b`. -/
def State.filled (s : State) (b p : Nat) : State := (List.range 8).foldl (fun (s : State) i => s.setBank b i (s.rdW (p + 4 * i))) s

theorem rdW_setBank (s : State) (b i : Nat) (v : Word) (a : Nat) : (s.setBank b i v).rdW a = s.rdW a := rfl

theorem filled_getBank (s : State) (b p : Nat) {i : Nat} (hi : i < 8) : (s.filled b p).getBank b i = s.rdW (p + 4 * i) := by
  have e : List.range 8 = [0, 1, 2, 3, 4, 5, 6, 7] := rfl
  simp only [State.filled, e, List.foldl, State.getBank, key_setBank, rdW_setBank]
  interval_cases i <;> simp

theorem filled_frame (s : State) (b p : Nat) : ∃ g, s.filled b p = { s with cpu := { s.cpu with gpr := g } } := by
  have fold (l : List Nat) (s : State) : ∃ g, l.foldl (fun (s : State) i => s.setBank b i (s.rdW (p + 4 * i))) s = { s with cpu := { s.cpu with gpr := g } } := by
    induction l generalizing s with
    | nil => exact ⟨s.cpu.gpr, rfl⟩
    | cons i l ih =>
      obtain ⟨g, e⟩ := ih (s.setBank b i (s.rdW (p + 4 * i)))
      exact ⟨g, by rw [List.foldl_cons, e]; rfl⟩
  exact fold _ s

/-- The frame before is resident: one that is, or one a fill brings in. -/
def State.resident (s : State) (ecc : Ecc) (i : Fin 8) : State :=
  let p := (s.rd R.CPU_SCREE_PTR).toNat - 32
  if s.cpu.res = 1 then (((s.filled ((s.cpu.ftop + 15) % 16) p).screeMove (wd p)).inc R.CPU_FILLS).memReport .sram (p + 4 * i.val) P.CPU ecc
  else { s with cpu := { s.cpu with res := s.cpu.res - 1 } }

theorem backward_ring {s : State} (ecc : Ecc) (i : Fin 8) (h : s.cpu.psr.eb = false) :
    s.backward ecc i = ({ s.resident ecc i with cpu := { (s.resident ecc i).cpu with ftop := (s.cpu.ftop + 15) % 16 } } : State).shallower := if_neg (by simp [h])

theorem resident_ok {s : State} (ecc : Ecc) (i : Fin 8) (h : s.cpu.res ≠ 1) : s.resident ecc i = { s with cpu := { s.cpu with res := s.cpu.res - 1 } } := if_neg h

/-- A fill puts the frame in its bank and moves SCREE_PTR below it. -/
theorem resident_fill {s : State} (ecc : Ecc) (i : Fin 8) (h : s.cpu.res = 1) :
    (s.resident ecc i).cpu = (s.filled ((s.cpu.ftop + 15) % 16) ((s.rd R.CPU_SCREE_PTR).toNat - 32)).cpu ∧
      (s.resident ecc i).rd R.CPU_SCREE_PTR = wd ((s.rd R.CPU_SCREE_PTR).toNat - 32) := by
  unfold State.resident
  extract_lets p
  rw [if_pos h]
  generalize s.filled ((s.cpu.ftop + 15) % 16) p = x
  have counted (t : State) : (t.inc R.CPU_FILLS).cpu = t.cpu := rfl
  refine ⟨?_, ?_⟩
  · rw [view_cpu (view_memReport rfl), counted, screeMove_cpu]
  · rw [(CpuRegs.refl _).memReport _ (by decide)]
    refine (State.rd_wr_ne _ _ (by decide)).trans ((rd_screeMove x (wd p) (by decide) (by decide)).trans (if_pos rfl))

theorem shallower_rd (s : State) : s.shallower.rd R.CPU_SCREE_PTR = s.rd R.CPU_SCREE_PTR := State.rd_wr_ne _ _ (by decide)

theorem retAct_back {s : State} (fill : Ecc) (i : Fin 8) (htb : s.cpu.psr.tb = false) (ha : (s.gr 15).toNat % 4 = 0) :
    s.retAct fill i = s.backAct 2 fill i fun t => t.setPc (s.gr 15) := by
  unfold State.retAct
  extract_lets target
  rw [htb, if_neg (by decide), if_neg (by rw [fld_two]; unfold target; rw [ha]; decide)]

section calls
variable {s : State}

theorem callAct_run {a : Word} (ha : a.toNat % 4 = 0) (heb : s.cpu.psr.eb = false) (hb : s.spillBlocked = false) :
    s.callAct a = .run (2 + s.spillCyc) s.spillDue fun t => (t.forward t.nextPc).setPc a := by
  unfold State.callAct
  rw [if_neg (by rw [fld_two, ha]; decide), heb, hb, if_neg (by decide), if_neg (by decide)]

/-- A call, whichever gives its target. -/
theorem called {c : Instr} {plan : State → Act} {a : Word} (hx : exec c s = s.ran (s.issue plan)) (hp : plan s = s.callAct a) (ha : a.toNat % 4 = 0) (heb : s.cpu.psr.eb = false)
    (hb : s.spillBlocked = false) (h : s.Runs (2 + s.spillCyc)) :
    ∃ x u, s.Forwarded (s.cpu.pc + 4#32) x ∧ exec c s = .next u ∧ Ended s (x.setPc a) u := by
  obtain ⟨t, tm, u, hu, en⟩ := ended_issue h (hp.trans (callAct_run ha heb hb))
  refine ⟨t.forward t.nextPc, u, ?_, hx.trans hu, en⟩
  have e : t.nextPc = s.cpu.pc + 4#32 := congrArg (· + 4#32) tm.pc
  rw [e]
  exact .of_timed tm (forward_forwarded t _ (by rw [tm.psr, heb]))

/-- A return that finds the frame before in the ring, or the trap bank behind the emergency bank. -/
theorem returned_ok {fill : Ecc} {i : Fin 8} (htb : s.cpu.psr.tb = false) (ha : (s.gr 15).toNat % 4 = 0) (hk : s.backKind fill i = .ok) (h : s.Runs 2) :
    ∃ u, exec (.ret fill i) s = .next u ∧ (∀ b, u.rdB b = s.rdB b) ∧
      (s.cpu.psr.eb = true → u.cpu.own = { s.cpu with psr := { s.cpu.psr with eb := false, tb := true }, pc := s.gr 15 }.own) ∧
      (s.cpu.psr.eb = false → u.cpu.own = { s.cpu with res := s.cpu.res - 1, ftop := (s.cpu.ftop + 15) % 16, pc := s.gr 15 }.own) := by
  have hp : s.retAct fill i = .run 2 false fun t => (t.backward fill i).setPc (s.gr 15) := by
    rw [retAct_back fill i htb ha, State.backAct, hk]
  obtain ⟨t, tm, u, hu, en⟩ := ended_issue (plan := fun t => t.retAct fill i) h hp
  refine ⟨u, hu, fun b => ?_, fun heb => ?_, fun heb => ?_⟩
  · rw [en.rdB, ← tm.rdB]
    cases heb : s.cpu.psr.eb with
    | true => rw [backward_trap fill i (by rw [tm.psr, heb])]; rfl
    | false =>
      have hr : t.cpu.res ≠ 1 := by rw [tm.res]; exact (backKind_ok hk).resolve_left (by simp [heb])
      rw [backward_ring fill i (by rw [tm.psr, heb]), resident_ok fill i hr]; rfl
  · rw [en.cpu, backward_trap fill i (by rw [tm.psr, heb])]
    exact congrArg (fun c : CpuSt => ({ c with psr := { c.psr with eb := false, tb := true }, pc := s.gr 15 } : CpuSt)) tm.own
  · have hr : t.cpu.res ≠ 1 := by rw [tm.res]; exact (backKind_ok hk).resolve_left (by simp [heb])
    rw [en.cpu, backward_ring fill i (by rw [tm.psr, heb]), resident_ok fill i hr]
    exact congrArg (fun c : CpuSt => ({ c with res := c.res - 1, ftop := (c.ftop + 15) % 16, pc := s.gr 15 } : CpuSt)) tm.own

/-- A return that brings the frame before in from SRAM. -/
theorem returned_fill {fill : Ecc} {i : Fin 8} (htb : s.cpu.psr.tb = false) (ha : (s.gr 15).toNat % 4 = 0) (hk : s.backKind fill i = .fill) (h : s.Runs 11) :
    ∃ u, exec (.ret fill i) s = .next u ∧ u.cpu.pc = s.gr 15 ∧ u.cpu.ftop = (s.cpu.ftop + 15) % 16 ∧ u.cpu.res = 1 ∧
      u.rd R.CPU_SCREE_PTR = wd ((s.rd R.CPU_SCREE_PTR).toNat - 32) ∧
      ∀ i, i < 8 → u.getBank ((s.cpu.ftop + 15) % 16) i = s.rdW ((s.rd R.CPU_SCREE_PTR).toNat - 32 + 4 * i) := by
  have hp : s.retAct fill i = .run 11 false fun t => (t.backward fill i).setPc (s.gr 15) := by
    rw [retAct_back fill i htb ha, State.backAct, hk]
  obtain ⟨heb, hr⟩ := backKind_fill hk
  obtain ⟨t, tm, u, hu, en⟩ := ended_issue (plan := fun t => t.retAct fill i) h hp
  have ptr : t.rd R.CPU_SCREE_PTR = s.rd R.CPU_SCREE_PTR := tm.keeps.rd _ (by decide)
  obtain ⟨cpu, moved⟩ := resident_fill (s := t) fill i (by rw [tm.res, hr])
  rw [backward_ring fill i (by rw [tm.psr, heb])] at en
  rw [ptr, tm.ftop] at cpu
  rw [ptr] at moved
  have brought {j : Nat} (hj : j < 8) := filled_getBank t ((s.cpu.ftop + 15) % 16) ((s.rd R.CPU_SCREE_PTR).toNat - 32) hj
  obtain ⟨g, e⟩ := filled_frame t ((s.cpu.ftop + 15) % 16) ((s.rd R.CPU_SCREE_PTR).toNat - 32)
  have last := en.cpu
  have res : u.cpu.res = (t.resident fill i).cpu.res := (congrArg CpuSt.res last :)
  have gpr : u.cpu.gpr = (t.resident fill i).cpu.gpr := (congrArg CpuSt.gpr last :)
  refine ⟨u, hu, (congrArg CpuSt.pc last :), ?_, ?_, (en.rd (by decide)).trans ((shallower_rd _).trans moved), fun j hj => ?_⟩
  · rw [← tm.ftop]; exact (congrArg CpuSt.ftop last :)
  · rw [res, cpu, e, ← hr, ← tm.res]
  · rw [State.getBank, State.key, gpr, cpu]
    refine (brought hj).trans ?_
    simp only [rdW_eq, tm.rdB]

end calls

/-- Settles O41, by the rotation each of a call and a return makes of the banks. -/
theorem coreCalls : Obligations.CoreCalls := by
  unfold Obligations.CoreCalls
  intro s ra far fill fillAt
  refine ⟨fun e he heb ha hb h => ?_, fun htb ha => ⟨fun hk h => ?_, fun hk h => ?_⟩⟩
  · have call : ∃ x u, s.Forwarded (s.cpu.pc + 4#32) x ∧ exec e.1 s = .next u ∧ Ended s (x.setPc e.2) u := by
      simp only [List.mem_cons, List.not_mem_nil, or_false] at he
      rcases he with rfl | rfl
      · rw [← wordOffset] at ha ⊢
        exact called rfl rfl ha heb hb h
      · exact called rfl rfl ha heb hb h
    obtain ⟨x, u, k, hu, en⟩ := call
    have cpu := en.cpu
    have gr (r : Fin 16) : u.gr r = x.gr r := gr_of_cpu (t := u) (s := x.setPc e.2) (by rw [cpu]) r
    have psr : u.cpu.psr = x.cpu.psr := (congrArg CpuSt.psr cpu :)
    have ftop : u.cpu.ftop = x.cpu.ftop := (congrArg CpuSt.ftop cpu :)
    have res : u.cpu.res = x.cpu.res := (congrArg CpuSt.res cpu :)
    refine ⟨u, hu, congrArg CpuSt.pc cpu, ?_, fun r h8 h15 => ?_, fun r h8 => ?_, ?_, fun htb => ⟨?_, ?_, fun hr => ?_⟩, fun htb => ⟨?_, ?_⟩, fun hd => ⟨?_, ?_, fun hp hp' i hi => ?_⟩, fun hd b => ?_⟩
    · rw [gr, k.gr heb]; rfl
    · rw [gr, k.gr heb, if_neg (by omega), if_neg (by omega)]
    · rw [gr, k.gr heb, if_pos h8]
    · exact (en.fd (by decide)).trans k.depth
    · rw [psr, k.psr_ring htb]
    · rw [ftop, k.ftop_ring htb]
    · rw [res, k.res_ring htb, if_neg hr]
    · rw [psr, k.psr_trap htb]
    · rw [ftop, k.ftop_trap htb]
    · obtain ⟨⟨tb, -⟩, r16⟩ : (s.cpu.psr.tb = false ∧ s.cpu.psr.eb = false) ∧ s.cpu.res = 16 := by simpa [State.spillDue] using hd
      rw [res, k.res_ring tb, if_pos r16]
    · exact (en.rd (by decide)).trans (k.ptr hd)
    · exact (en.rdW _).trans (k.words hd hp hp' i hi)
    · exact (en.rdB b).trans (k.mem hd b)
  · obtain ⟨u, hu, mem, trap, ring⟩ := returned_ok htb ha hk h
    have fields : u.cpu.pc = s.gr 15 ∧ u.cpu.gpr = s.cpu.gpr := by
      cases heb : s.cpu.psr.eb with
      | true => exact ⟨(congrArg CpuSt.pc (trap heb) :), (congrArg CpuSt.gpr (trap heb) :)⟩
      | false => exact ⟨(congrArg CpuSt.pc (ring heb) :), (congrArg CpuSt.gpr (ring heb) :)⟩
    obtain ⟨pc, gpr⟩ := fields
    refine ⟨u, hu, pc, fun r hr => ?_, mem, fun heb => ⟨(congrArg CpuSt.psr (ring heb) :), (congrArg CpuSt.ftop (ring heb) :), (congrArg CpuSt.res (ring heb) :), gpr⟩,
      fun heb => ⟨(congrArg CpuSt.psr (trap heb) :), gpr⟩⟩
    unfold State.gr State.grKey State.key
    rw [if_pos hr, if_pos hr, gpr]
  · obtain ⟨u, hu, pc, ftop, res, ptr, bank⟩ := returned_fill htb ha hk h
    exact ⟨u, hu, pc, ftop, res, ptr, by rw [ftop]; exact bank⟩

end Sys2Proof.Machine

namespace Sys2Proof.Machine

/-! ## Parking (R380) -/

section park
variable (s : State)

theorem park_cpu : s.park.cpu = { s.cpu with parked := true, long := s.cpu.long || s.cpu.psr.lp, longPc := if s.cpu.psr.lp then s.cpu.pc else s.cpu.longPc } := by
  have q := quiet_raiseIf (s.parkWith (if s.cpu.ovrThis then min (s.tck.phase - 64) s.tck.budget else s.tck.phase - 64)) s.cpu.psr.lp P.CPU 1
  have e := congrArg State.cpu q
  exact e

theorem park_rd {a : Nat} (ha : raiseTouches P.CPU a = false) : s.park.rd a =
    (s.parkWith (if s.cpu.ovrThis then min (s.tck.phase - 64) s.tck.budget else s.tck.phase - 64)).rd a := (keeps_raiseIf _ _ P.CPU 1).rd a ha

theorem park_pc : s.park.rd R.CPU_PARKPC = s.cpu.pc :=
  (park_rd s (by decide)).trans ((State.rd_wr_ne _ _ (by decide)).trans (State.rd_wr_self ..))

theorem park_use : s.park.rd R.CPU_LASTUSE = wd ((if s.cpu.ovrThis then min (s.tck.phase - 64) s.tck.budget else s.tck.phase - 64) % 2 ^ 19) :=
  (park_rd s (by decide)).trans (State.rd_wr_self ..)

end park

/-! ## The entry of a light event (R407) -/

theorem boundary_event {s : State} {nm : Bool} {page : Nat} (h : s.boundary = .event nm page) :
    s.coreOn = true ∧ s.cpu.psr.tb = false ∧ s.cpu.psr.eb = false := by
  unfold State.boundary at h
  split_ifs at h with ho _ _ _ hb
  all_goals
    simp only [Bool.not_eq_true, Bool.not_eq_false', Bool.or_eq_false_iff] at ho hb
    obtain ⟨⟨-, htb⟩, heb⟩ := hb
    exact ⟨ho, htb, heb⟩

/-- The fresh frame of a light event, the place and the status kept. -/
def State.eventFrame (s : State) : State := ({ s with cpu := { s.cpu with epc := s.cpu.pc, estat := psrWord s.cpu.psr } } : State).forward 0#32

/-- The handler of a light event, with its cause. -/
def State.toHandler (s : State) (cause : Word) : State :=
  { s with cpu := { s.cpu with cause := cause, psr := { s.cpu.psr with sup := true, ie := false, lp := false }, pc := s.cpu.vbase } }

theorem lightEntry_eq {s : State} {nm : Bool} {page : Nat} (h : s.boundary = .event nm page) (hb : s.spillBlocked = false) (ho : s.overruns (3 + s.spillCyc) = false)
    (hs : s.holdsStores (3 + s.spillCyc) = true) : s.lightEntry = (s.spend (3 + s.spillCyc)).eventFrame.toHandler (wd ((if nm then 2 else 1) + page * 256)) := by
  obtain ⟨on, -, -⟩ := boundary_event h
  have p := (pass_holds (s := s) (n := 3 + s.spillCyc) (m := 0) hs).1
  unfold State.lightEntry
  rw [h]
  dsimp only
  rw [hb, if_neg (by decide), ho, if_neg (by decide), p, State.unlessReset, if_neg (by rw [(timed_spend s _).held, held_of_coreOn on]; decide)]
  generalize s.spend (3 + s.spillCyc) = t
  rfl

/-- The core in the handler of a light event. -/
theorem event_entered {s t : State} (tm : s.Timed t) (htb : s.cpu.psr.tb = false) (heb : s.cpu.psr.eb = false) (cause : Word) :
    (t.eventFrame.toHandler cause).cpu.epc = s.cpu.pc ∧ (t.eventFrame.toHandler cause).cpu.estat = psrWord s.cpu.psr ∧
      (t.eventFrame.toHandler cause).cpu.psr = { s.cpu.psr with sup := true, ie := false, lp := false } ∧ (t.eventFrame.toHandler cause).cpu.pc = s.cpu.vbase ∧
      (t.eventFrame.toHandler cause).cpu.ftop = (s.cpu.ftop + 1) % 16 ∧ ∀ r : Fin 16, (t.eventFrame.toHandler cause).gr r = if r.val < 8 then s.gr r else 0#32 := by
  have tb : t.cpu.psr.tb = false := by rw [tm.psr, htb]
  have eb : t.cpu.psr.eb = false := by rw [tm.psr, heb]
  have k : ({ t with cpu := { t.cpu with epc := t.cpu.pc, estat := psrWord t.cpu.psr } } : State).Forwarded 0#32 t.eventFrame := forward_forwarded _ _ eb
  have own := k.ring tb
  have epc : t.eventFrame.cpu.epc = t.cpu.pc := (congrArg CpuSt.epc own :)
  have estat : t.eventFrame.cpu.estat = psrWord t.cpu.psr := (congrArg CpuSt.estat own :)
  have vbase : t.eventFrame.cpu.vbase = t.cpu.vbase := (congrArg CpuSt.vbase own :)
  have psr : t.eventFrame.cpu.psr = t.cpu.psr := k.psr_ring tb
  have ftop : t.eventFrame.cpu.ftop = (t.cpu.ftop + 1) % 16 := k.ftop_ring tb
  have gr (r : Fin 16) := k.gr eb r
  generalize t.eventFrame = x at *
  refine ⟨epc.trans tm.pc, ?_, ?_, ?_, ?_, fun r => ?_⟩
  · rw [← tm.psr]; exact estat
  · rw [← tm.psr, ← psr]; rfl
  · exact vbase.trans (tm.field CpuSt.vbase fun _ => rfl)
  · rw [← tm.ftop]; exact ftop
  · refine (gr r).trans ?_
    rw [← tm.gr]
    split_ifs <;> rfl

/-! ## ERET (R408, R411) -/

section eret
variable {s : State} (fill : Ecc) (i : Fin 8)

/-- The status ERET takes back from ESTAT. -/
def Psr.restored (p : Psr) (estat : Word) : Psr := { p with sup := bitOf estat 0, ie := bitOf estat 1, sat := bitOf estat 6, lp := bitOf estat 5 }

/-- ERET ends a window and goes to EPC. -/
def State.resumeAt (t : State) (epc : Word) : State := t.closeWindow.setPc epc

theorem eretAct_eq (s : State) (hs : s.cpu.epc.toNat % 4 = 0) : s.eretAct fill i =
    if s.cpu.psr.tb then .run 4 false fun t => ((t.setPsr { t.cpu.psr with tb := false }).setPsr (({ t.cpu.psr with tb := false } : Psr).restored s.cpu.estat)).resumeAt s.cpu.epc
    else if s.cpu.psr.eb then .run 4 false fun t => (t.backward .ok 0).resumeAt s.cpu.epc
    else s.backAct 4 fill i fun t => (t.setPsr (t.cpu.psr.restored s.cpu.estat)).resumeAt s.cpu.epc := if_neg (by rw [fld_two, hs]; decide)

/-- ERET of an effect. -/
theorem eret_run {f : State → State} (hs : s.cpu.psr.sup = true) (hp : s.eretAct fill i = .run 4 false f) (h : s.Runs 4) :
    ∃ t, s.Timed t ∧ ∃ u, exec (.eret fill i) s = .next u ∧ u.cpu = (f t).cpu := by
  obtain ⟨t, tm, u, hu, en⟩ := ended_issue (plan := fun t => t.supOnly (t.eretAct fill i)) h ((if_pos hs).trans hp)
  exact ⟨t, tm, u, hu, en.cpu⟩

end eret

/-! ## CoreEvents -/

theorem coreOn_of_canIssue {s : State} (h : s.canIssue = true) : s.coreOn = true := by
  by_contra hc
  have b : s.boundary = .off := by unfold State.boundary; simp [hc]
  simp [State.canIssue, b] at h

theorem parked_of_coreOn {s : State} (h : s.coreOn = true) : s.cpu.parked = false := by
  unfold State.coreOn at h
  simp only [Bool.and_eq_true, Bool.not_eq_true'] at h
  obtain ⟨⟨⟨⟨⟨-, hp⟩, -⟩, -⟩, -⟩, -⟩ := h
  exact hp

/-- A status with its window closed. -/
theorem closed_psr (t : State) : (if t.cpu.psr.crit then t.closeWindow else t).cpu.psr = { t.cpu.psr with crit := false } := by
  split_ifs with h
  · rfl
  · rw [Bool.not_eq_true] at h
    rw [← h]

theorem closed_pc (t : State) : (if t.cpu.psr.crit then t.closeWindow else t).cpu.pc = t.cpu.pc := by
  split_ifs <;> rfl

/-- A light event that may be entered is (R407). -/
theorem lightEventEntry_entered {s : State} {nm : Bool} {page : Nat} (hb : s.boundary = .event nm page) (hk : s.spillBlocked = false) (ho : s.overruns (3 + s.spillCyc) = false)
    (hs : s.holdsStores (3 + s.spillCyc) = true) :
    ∃ u, exec .lightEventEntry s = .next u ∧ u.cpu.epc = s.cpu.pc ∧ u.cpu.estat = psrWord s.cpu.psr ∧ u.cpu.cause = wd ((if nm then 2 else 1) + page * 256) ∧
      u.cpu.psr = { s.cpu.psr with sup := true, ie := false, lp := false } ∧ u.cpu.pc = s.cpu.vbase ∧ u.cpu.ftop = (s.cpu.ftop + 1) % 16 ∧
      (∀ r : Fin 16, 8 ≤ r.val → u.gr r = 0#32) ∧ ∀ r : Fin 16, r.val < 8 → u.gr r = s.gr r := by
  obtain ⟨-, htb, heb⟩ := boundary_event hb
  obtain ⟨epc, estat, psr, pc, ftop, gr⟩ := event_entered (timed_spend s (3 + s.spillCyc)) htb heb (wd ((if nm then 2 else 1) + page * 256))
  obtain ⟨u, hu, en⟩ := ended_done s s.lightEntry
  rw [lightEntry_eq hb hk ho hs] at en
  have regs (r : Fin 16) := (gr_of_cpu (by rw [en.cpu]) r).trans (gr r)
  have cause := congrArg CpuSt.cause en.cpu
  rw [← en.cpu] at epc estat psr pc ftop
  exact ⟨u, hu, epc, estat, cause, psr, pc, ftop, fun r hr => (regs r).trans (if_neg (by omega)), fun r hr => (regs r).trans (if_pos hr)⟩

section instructions
variable {s : State}

/-- CRITB opens a window of CRIT_MAX cycles, or leaves the one that is open (R415, R417). -/
theorem critb_opens (hs : s.cpu.psr.sup = true) (h : s.Runs 1) : ∃ u, exec .critb s = .next u ∧ u.cpu.psr = { s.cpu.psr with crit := true } ∧ u.cpu.pc = s.cpu.pc + 4#32 ∧
    (s.cpu.psr.crit = false → u.cpu.critLeft = s.fd R.CPU_CRIT_MAX 0 8) := by
  obtain ⟨t, tm, u, hu, en⟩ := ended_issue (plan := fun t => t.supOnly (.run 1 false fun u => (if u.cpu.psr.crit then u else u.openWindow).advance)) h (if_pos hs)
  refine ⟨u, hu, ?_, ?_, fun hc => ?_⟩
  · rw [en.cpu, ← tm.psr]
    cases hc : t.cpu.psr.crit with
    | true => rw [if_pos rfl, ← hc]; rfl
    | false => rfl
  · rw [en.cpu, ← tm.pc]
    split_ifs <;> rfl
  · have max : t.rd R.CPU_CRIT_MAX = s.rd R.CPU_CRIT_MAX := tm.keeps.rd _ (by decide)
    rw [en.cpu, tm.psr, hc, State.fd, ← max]
    rfl

/-- CRITE closes the window (R416). -/
theorem crite_closes (hs : s.cpu.psr.sup = true) (h : s.Runs 1) : ∃ u, exec .crite s = .next u ∧ u.cpu.psr = { s.cpu.psr with crit := false } ∧ u.cpu.pc = s.cpu.pc + 4#32 := by
  obtain ⟨t, tm, u, hu, en⟩ := ended_issue (plan := fun t => t.supOnly (.run 1 false fun u => (if u.cpu.psr.crit then u.closeWindow else u).advance)) h (if_pos hs)
  refine ⟨u, hu, ?_, ?_⟩
  · rw [en.cpu, ← tm.psr]
    exact closed_psr t
  · rw [en.cpu, ← tm.pc, ← closed_pc t]
    rfl

/-- YIELD in a tick closes a window and parks (R382). -/
theorem yield_parks (hb : s.budgeted = true) (h : s.Runs 1) : ∃ u, exec .yield s = .next u ∧ u.cpu.psr = { s.cpu.psr with crit := false } ∧ u.cpu.pc = s.cpu.pc + 4#32 ∧
    u.cpu.parked = true ∧ u.rd R.CPU_PARKPC = s.cpu.pc + 4#32 := by
  obtain ⟨t, tm, u, hu, en⟩ := ended_issue (plan := fun _ => .run 1 false fun u => u.yieldNow) h rfl
  have e : t.yieldNow = (if t.cpu.psr.crit then t.closeWindow else t).advance.park := if_pos (by rw [tm.budgeted, hb])
  have pc := closed_pc t
  have psr := closed_psr t
  rw [e] at en
  generalize (if t.cpu.psr.crit then t.closeWindow else t) = y at en pc psr
  have next : y.advance.cpu.pc = s.cpu.pc + 4#32 := by rw [← tm.pc, ← pc]; rfl
  refine ⟨u, hu, ?_, ?_, ?_, ?_⟩
  · rw [en.cpu, park_cpu, ← tm.psr, ← psr]; rfl
  · rw [en.cpu, park_cpu, next]
  · rw [en.cpu, park_cpu]
  · rw [en.rd (by decide), park_pc, next]

/-- Elsewhere YIELD goes on (R382). -/
theorem yield_goesOn (hb : s.budgeted = false) (h : s.Runs 1) :
    ∃ u, exec .yield s = .next u ∧ u.cpu.psr = s.cpu.psr ∧ u.cpu.pc = s.cpu.pc + 4#32 ∧ u.cpu.parked = false := by
  obtain ⟨t, tm, u, hu, en⟩ := ended_issue (plan := fun _ => .run 1 false fun u => u.yieldNow) h rfl
  have e : t.yieldNow = t.advance := if_neg (by simp [tm.budgeted, hb])
  have ⟨⟨hc, _⟩, _⟩ := h
  rw [e] at en
  refine ⟨u, hu, ?_, ?_, ?_⟩
  · rw [en.cpu, ← tm.psr]; rfl
  · rw [en.cpu, ← tm.pc]; rfl
  · rw [en.cpu]
    exact (tm.field CpuSt.parked fun _ => rfl).trans (parked_of_coreOn (coreOn_of_canIssue hc))

/-- FENCE with no store buffered takes its cycle alone (R387). -/
theorem fence_empty (ho : s.OutFollows) (hw : s.cpu.wb = []) (h : s.Runs 1) : ∃ t, s.Timed t ∧ exec .fence s = .next t.advance := by
  obtain ⟨t, tm, e⟩ := issue_after (plan := fun t => .after (drainTime t.cpu.wb) 1 none false State.advance) h (by rw [hw]; rfl)
  have x : exec .fence s = s.ran (s.issue fun t => .after (drainTime t.cpu.wb) 1 none false State.advance) := rfl
  refine ⟨t, tm, ?_⟩
  rw [x, e]
  exact ran_steady (out_cpu (tm.out ho) _) tm.pending

variable (fill : Ecc) (i : Fin 8) (hs : s.cpu.psr.sup = true) (ha : s.cpu.epc.toNat % 4 = 0) (h : s.Runs 4)
include hs ha h

/-- ERET from the trap bank takes ESTAT back (R411). -/
theorem eret_trap (htb : s.cpu.psr.tb = true) : ∃ u, exec (.eret fill i) s = .next u ∧ u.cpu.pc = s.cpu.epc ∧ u.cpu.gpr = s.cpu.gpr ∧
    u.cpu.psr = { s.cpu.psr.restored s.cpu.estat with crit := false, tb := false } := by
  obtain ⟨t, tm, u, hu, cpu⟩ := eret_run fill i hs ((eretAct_eq fill i s ha).trans (if_pos htb)) h
  refine ⟨u, hu, ?_, ?_, ?_⟩
  · rw [cpu]; rfl
  · rw [cpu]; exact tm.gpr
  · rw [cpu, ← tm.psr]; rfl

/-- ERET from the emergency bank goes back to the trap bank (R411). -/
theorem eret_emergency (htb : s.cpu.psr.tb = false) (heb : s.cpu.psr.eb = true) : ∃ u, exec (.eret fill i) s = .next u ∧ u.cpu.pc = s.cpu.epc ∧
    u.cpu.psr = { s.cpu.psr with crit := false, eb := false, tb := true } := by
  obtain ⟨t, tm, u, hu, cpu⟩ := eret_run fill i hs ((eretAct_eq fill i s ha).trans ((if_neg (by simp [htb])).trans (if_pos heb))) h
  rw [backward_trap .ok 0 (by rw [tm.psr, heb])] at cpu
  refine ⟨u, hu, ?_, ?_⟩
  · rw [cpu]; rfl
  · rw [cpu, ← tm.psr]; rfl

/-- ERET from a light event takes ESTAT and the frame before back (R408). -/
theorem eret_event (htb : s.cpu.psr.tb = false) (heb : s.cpu.psr.eb = false) (hk : s.backKind fill i = .ok) : ∃ u, exec (.eret fill i) s = .next u ∧ u.cpu.pc = s.cpu.epc ∧
    u.cpu.ftop = (s.cpu.ftop + 15) % 16 ∧ u.cpu.psr = { s.cpu.psr.restored s.cpu.estat with crit := false } := by
  have hp := (eretAct_eq fill i s ha).trans ((if_neg (by simp [htb])).trans (if_neg (by simp [heb])))
  rw [State.backAct, hk] at hp
  obtain ⟨t, tm, u, hu, cpu⟩ := eret_run fill i hs hp h
  have hr : t.cpu.res ≠ 1 := by rw [tm.res]; exact (backKind_ok hk).resolve_left (by simp [heb])
  rw [backward_ring fill i (by rw [tm.psr, heb]), resident_ok fill i hr] at cpu
  refine ⟨u, hu, ?_, ?_, ?_⟩
  · rw [cpu]; rfl
  · rw [cpu, ← tm.ftop]; rfl
  · rw [cpu, ← tm.psr]; rfl

end instructions

/-- Settles O45, by what each of the entries and instructions makes of the core. -/
theorem coreEvents : Obligations.CoreEvents := by
  unfold Obligations.CoreEvents
  intro s
  refine ⟨fun nm page => lightEventEntry_entered, fun fill i hs ha => ⟨fun htb h => ?_, fun htb heb h => ?_, fun htb heb hk h => ?_⟩, fun hs h => ?_, fun h => ?_, fence_empty,
    fun path h => ⟨?_, ?_⟩⟩
  · exact eret_trap fill i hs ha h htb
  · exact eret_emergency fill i hs ha h htb heb
  · exact eret_event fill i hs ha h htb heb hk
  · obtain ⟨u, hu, psr, pc, left⟩ := critb_opens hs h
    obtain ⟨w, hw, psr', pc'⟩ := crite_closes hs h
    exact ⟨u, w, hu, psr, pc, left, hw, psr', pc'⟩
  · cases hb : s.budgeted with
    | true =>
      obtain ⟨u, hu, psr, pc, parked, place⟩ := yield_parks hb h
      exact ⟨u, hu, psr, pc, parked, fun _ => place⟩
    | false =>
      obtain ⟨u, hu, psr, pc, parked⟩ := yield_goesOn hb h
      exact ⟨u, hu, psr, pc, parked, fun k => by cases k⟩
  · obtain ⟨u, hu, la⟩ := exec_hwmclr h
    exact ⟨u, hu, (la.near.rd _ (by decide)).trans (State.rd_wr_self ..)⟩
  · obtain ⟨u, hu, la⟩ := exec_ovrclr h
    have e := congrArg (fun q : State => q.cpu.ovrct) la.near.shape
    exact ⟨u, hu, e⟩

end Sys2Proof.Machine

namespace Sys2Proof.Machine

/-! ## What reports of self-test leave -/

theorem quiet_noteLast (s : State) (j : Job) (d : Word) : (s.noteLast j d).quiet = s.quiet := by
  rw [State.noteLast, quiet_raise, quiet_wr, quiet_wr, quiet_wr]

theorem quiet_noteNoTest (s : State) : s.noteNoTest.quiet = s.quiet := by
  rw [State.noteNoTest, quiet_inc, quiet_raise]

theorem quiet_noteRepair (s : State) (u : Word) (spare : Nat) : (s.noteRepair u spare).quiet = s.quiet := by
  unfold State.noteRepair
  rw [quiet_logPush, quiet_raise]

section reports
variable {α : Type} {g : State → α} (hq : ∀ s : State, g s.quiet = g s) (hs : ∀ (s : State) (x : SlfSt), g { s with slf := x } = g s)
include hq

theorem kept_of_quiet {s t : State} (h : t.quiet = s.quiet) : g t = g s := by rw [← hq t, h, hq]

/-- An event, a record, a latched fault and a register are no matter to what `quiet` keeps. -/
theorem kept_setFlt (s : State) (p n : Nat) : g (s.setFlt p n) = g s := kept_of_quiet hq (quiet_setFlt s p n)

include hs

omit hq in
theorem kept_setLane (s : State) (l : Nat) (x : Lane) : g (s.setLane l x) = g s := by
  unfold State.setLane
  split_ifs <;> exact hs ..

theorem kept_noteLasting (s : State) : g s.noteLasting = g s :=
  (kept_setFlt hq _ P.SLF 0).trans ((kept_of_quiet hq (quiet_raise _ P.SLF 2)).trans (hs ..))

variable (ht : ∀ (s : State) (x : TwnSt), g { s with twn := x } = g s) (hl : ∀ (s : State) (x : LnkSt), g { s with lnk := x } = g s)
include ht hl

theorem kept_verdict (s : State) (j : Job) (res spare : Nat) : g (s.verdict j res spare) = g s := by
  unfold State.verdict
  extract_lets b lasting d0 s1 s2 s3 s4 s5 _ s6
  have h1 : g s1 = g s := kept_of_quiet hq ((quiet_inc ..).trans (quiet_noteLast ..))
  have h2 : g s2 = g s1 := by
    unfold s2; split_ifs
    · exact kept_of_quiet hq (quiet_noteNoTest s1)
    · rfl
  have h3 : g s3 = g s2 := by
    unfold s3; split_ifs
    · exact kept_of_quiet hq (quiet_noteRepair ..)
    · rfl
  have h4 : g s4 = g s3 := kept_of_quiet hq (quiet_logPush ..)
  have h5 : g s5 = g s4 := by
    unfold s5; split_ifs
    · exact kept_noteLasting hq hs s4
    · rfl
  have h6 : g s6 = g s5 := by
    unfold s6; split_ifs
    · exact hl ..
    · rfl
  have all : g s6 = g s := by rw [h6, h5, h4, h3, h2, h1]
  split_ifs
  · exact (ht _ _).trans ((ht _ _).trans ((ht _ _).trans all))
  · exact (ht _ _).trans ((ht _ _).trans ((ht _ _).trans all))
  · exact all

theorem kept_detect (s : State) (src page : Nat) (u : Word) : g (s.detect src page u) = g s := by
  unfold State.detect
  extract_lets test j s1 s2 s3
  have h1 : g s1 = g s := kept_of_quiet hq ((quiet_inc ..).trans (quiet_raise ..))
  have h2 : g s2 = g s1 := kept_of_quiet hq (quiet_logPush ..)
  have h3 : g s3 = g s := (kept_of_quiet hq (quiet_setF ..)).trans (h2.trans h1)
  have lane (l : Nat) (x : Lane) : g (s3.setLane l x) = g s := (kept_setLane hs s3 l x).trans h3
  have verdict : g (s3.verdict j 3 0) = g s := (kept_verdict hq hs ht hl s3 j 3 0).trans h3
  split_ifs
  · exact verdict
  · exact (hs ..).trans h3
  · exact (ht ..).trans h3
  · exact h3
  · exact lane ..
  · exact lane ..
  · exact verdict

end reports

/-! ## The strobe of a slot (R54) -/

/-- What a strobe latches: the vector unit's levels, the comparators, the slots counted, the phase. -/
def State.latches (s : State) : VecSt × Nat × Nat × Nat := (s.vec, s.pst.condL, s.adc.slot, s.tck.phase)

theorem latches_of_quiet {s t : State} (h : t.quiet = s.quiet) : t.latches = s.latches := kept_of_quiet (g := State.latches) (fun _ => rfl) h

theorem latches_detect (s : State) (src page : Nat) (u : Word) : (s.detect src page u).latches = s.latches :=
  kept_detect (g := State.latches) (fun _ => rfl) (fun _ _ => rfl) (fun _ _ => rfl) (fun _ _ => rfl) s src page u

theorem latches_setFm (s : State) (c : Nat) (x : FmSt) : (s.setFm c x).latches = s.latches := by
  unfold State.setFm
  split_ifs <;> rfl

/-- The samples' publication goes to the channels' registers and the precision window. -/
theorem latches_publish (s : State) : s.publish.latches = s.latches := by
  unfold State.publish
  extract_lets one s1 last
  have step (t : State) (c : Nat) : (one t c).latches = t.latches := (latches_of_quiet (quiet_raiseIf ..)).trans (latches_setFm t c _)
  have h1 : s1.latches = s.latches := (step (one s 0) 1).trans (step s 0)
  split_ifs <;> exact h1

theorem latches_seqSample (s : State) : s.seqSample.latches = s.latches := by
  unfold State.seqSample
  split_ifs <;> rfl

/-- The samples of a slot count it and latch nothing else. -/
theorem latches_sample (s : State) (raws : List Int) : (s.sample raws).latches = (s.vec, s.pst.condL, s.adc.slot + 1, s.tck.phase) := by
  unfold State.sample
  extract_lets raw _ s1 vals s2 bad dec _ s3 s4
  have h1 : s1.latches = s.latches := by unfold s1; split_ifs <;> rfl
  have raws (l : List Nat) (t : State) : (l.foldl (fun (s : State) i => s.wr (R.ADC_RAW0 + 4 * i) (wdI (raw i))) t).latches = t.latches := by
    induction l generalizing t with
    | nil => rfl
    | cons i l ih => exact ih _
  have h2 : s2.latches = s.latches := (raws _ s1).trans h1
  have reports (l : List Nat) (t : State) :
      (l.foldl (fun (s : State) i => ((s.setFlt P.ADC 0).raise P.ADC 1).detect 0x06 P.ADC (wd (i / 3))) t).latches = t.latches := by
    induction l generalizing t with
    | nil => rfl
    | cons i l ih => exact (ih _).trans ((latches_detect ..).trans ((latches_of_quiet (quiet_raise ..)).trans (latches_of_quiet (quiet_setFlt ..))))
  have h4 : s4.latches = s3.latches := reports bad s3
  have h3 : s3.latches = (s2.latches.1, s2.latches.2.1, s2.latches.2.2.1 + 1, s2.latches.2.2.2) := rfl
  have h : s4.latches = (s.vec, s.pst.condL, s.adc.slot + 1, s.tck.phase) := by rw [h4, h3, h2]; rfl
  split_ifs
  · exact h
  · exact (latches_publish s4).trans h

/-- What a strobe latches (R54). -/
theorem slotStrobe_latches {s : State} (h : s.strobeDue = true) (raws : List Int) (hall : Nat) : (s.slotStrobe raws hall).latches =
    ({ s.vec with hall := hall % 8, hallL := hall % 8, encL := s.vec.enc }, s.pst.cond, s.adc.slot + 1,
      max s.tck.phase (s.adc.slot * s.slotLen + s.fd R.TCK_STROBE 0 18)) := by
  have ticks : (s.ticking && s.tck.inTick) = true := by
    simp only [State.strobeDue, Bool.and_eq_true] at h ⊢
    obtain ⟨⟨⟨ticks, -⟩, -⟩, -⟩ := h
    exact ticks
  have moved : s.atPhase (s.adc.slot * s.slotLen + s.fd R.TCK_STROBE 0 18) =
      { s with tck := { s.tck with phase := max s.tck.phase (s.adc.slot * s.slotLen + s.fd R.TCK_STROBE 0 18) } } := if_pos ticks
  unfold State.slotStrobe
  rw [h, if_neg (by decide), moved]
  extract_lets _ _ _ _ _ _ y _ z
  split_ifs
  · rfl
  · exact latches_sample y raws
  · exact (latches_seqSample z).trans (latches_sample y raws)


/-! ## CoreInTick -/

section inTick
variable {s : State}

theorem exec_digestClose (s : State) :
    exec .digestClose s = s.done (if s.turn 3 (s.guardG + 64) then (s.partTo 3 (s.guardG + 64)).digestClose else s) := rfl

/-- The core runs on from where it parked where nothing of Table 8-5 comes first (R381). -/
theorem coreResume_runs (h : s.turn 1 64 = true) (hp : s.cpu.parked = true) (hh : s.cpu.held = false) (hr : s.romWaits = false) (hf : s.frozen = false)
    (hb : ({ s.partTo 1 64 with cpu := { (s.partTo 1 64).cpu with parked := false } } : State).boundary = .issue) :
    s.coreResume = { s.partTo 1 64 with cpu := { (s.partTo 1 64).cpu with parked := false } } := by
  have stays : ((s.partTo 1 64).cpu.parked && !(s.partTo 1 64).cpu.held && !(s.partTo 1 64).romWaits && !(s.partTo 1 64).frozen) = true := by
    have e : ((s.partTo 1 64).cpu.parked && !(s.partTo 1 64).cpu.held && !(s.partTo 1 64).romWaits && !(s.partTo 1 64).frozen) =
      (s.cpu.parked && !s.cpu.held && !s.romWaits && !s.frozen) := rfl
    rw [e, hp, hh, hr, hf]; rfl
  unfold State.coreResume
  rw [h, if_neg (by decide)]
  extract_lets t
  rw [if_pos stays, State.consider, hb]

theorem atBudgetEnd (hb : s.budgeted = true) : s.atPhase s.budgetEnd = { s with tck := { s.tck with phase := max s.tck.phase s.budgetEnd } } := if_pos hb

/-- At the end of the budget the core parks (R379, R380). -/
theorem endBudget_parks (ho : s.coreOn = true) (hb : s.budgeted = true) (hc : s.cpu.psr.crit = false) :
    s.endBudget = ({ s with tck := { s.tck with phase := max s.tck.phase s.budgetEnd } } : State).park := by
  unfold State.endBudget
  rw [ho, hb, if_neg (by decide), atBudgetEnd hb]
  exact if_neg (by simp [hc])

/-- An open window goes on, and is counted once (R379). -/
theorem endBudget_goesOn (ho : s.coreOn = true) (hb : s.budgeted = true) (hc : s.cpu.psr.crit = true) (hv : s.cpu.ovrThis = false) :
    s.endBudget = ({ s with tck := { s.tck with phase := max s.tck.phase s.budgetEnd }
                            cpu := { s.cpu with ovrThis := true, ovrct := min 255 (s.cpu.ovrct + 1) } } : State).raise P.CPU 0 := by
  unfold State.endBudget
  rw [ho, hb, if_neg (by decide), atBudgetEnd hb]
  refine (if_pos hc).trans ?_
  exact if_neg (by simp [hv])

/-- Without a pair nothing closes (R686). -/
theorem digestClose_single {t : State} (h : ¬(2 ≤ t.twn.pstate ∧ t.twn.pstate ≤ 5)) : t.digestClose = t := if_pos (by simp [h])

/-- In a pair the digest closes with the tick's number and starts afresh (R686). -/
theorem digestClose_pair {t : State} (h : 2 ≤ t.twn.pstate) (h' : t.twn.pstate ≤ 5) : t.digestClose.twn.digq = [] ∧ t.digestClose.rd R.TWN_DIGTICK = t.tck.now := by
  unfold State.digestClose
  rw [if_neg (by simp [h, h'])]
  exact ⟨rfl, State.rd_wr_self ..⟩

end inTick

/-- Settles O18, by the state each part of a tick leaves. -/
theorem coreInTick : Obligations.CoreInTick := by
  unfold Obligations.CoreInTick
  refine ⟨fun s => ⟨fun h hp hh hr hf => ?_, fun ho hb hc => ?_, fun ho hb hc hv => ?_⟩, fun s => ⟨fun raws hall h => ?_, fun h hp => ?_, fun h hp hp' => ?_⟩⟩
  · intro t t' hi
    obtain ⟨u, hu, en⟩ := ended_done s s.coreResume
    rw [coreResume_runs h hp hh hr hf hi] at en
    exact ⟨u, hu, en, by rw [en.cpu]⟩
  · intro use
    obtain ⟨u, hu, en⟩ := ended_done s s.endBudget
    rw [endBudget_parks ho hb hc] at en
    refine ⟨u, hu, ?_, ?_, ?_, ?_, fun hl => ⟨?_, ?_, ?_⟩⟩
    · rw [en.cpu, park_cpu]
    · rw [en.cpu, park_cpu]
    · exact (en.rd (by decide)).trans (park_pc _)
    · exact (en.rd (by decide)).trans (park_use _)
    · exact en.evt (bit_raiseIf _ _ hl (by decide))
    · rw [en.cpu, park_cpu, hl, Bool.or_true]
    · rw [en.cpu, park_cpu, hl, if_pos rfl]
  · obtain ⟨u, hu, en⟩ := ended_done s s.endBudget
    rw [endBudget_goesOn ho hb hc hv] at en
    have cpu := en.cpu.trans (congrArg State.cpu (quiet_raise _ P.CPU 0) :)
    refine ⟨u, hu, ?_, ?_, ?_, ?_, en.evt (bit_raise _ _ _ (by decide))⟩
    · rw [cpu]; exact (parked_of_coreOn ho :)
    · rw [cpu]; exact hc
    · rw [cpu]; rfl
    · rw [cpu]; rfl
  · obtain ⟨u, hu, en⟩ := ended_done s (s.slotStrobe raws hall)
    have l := slotStrobe_latches h raws hall
    simp only [State.latches, Prod.mk.injEq] at l
    obtain ⟨vec, condL, slot, phase⟩ := l
    have cond := congrArg (fun q : State => q.pst.condL) en.calms.calm
    exact ⟨u, hu, by rw [en.adc, slot], by rw [en.vec, vec], by rw [en.vec, vec], cond.trans condL, en.tck_phase.trans phase⟩
  · obtain ⟨u, hu, en⟩ := ended_done s (s.partTo 3 (s.guardG + 64)).digestClose
    rw [digestClose_single (t := s.partTo 3 (s.guardG + 64)) hp] at en
    exact ⟨u, by rw [exec_digestClose, if_pos h]; exact hu, en⟩
  · obtain ⟨u, hu, en⟩ := ended_done s (s.partTo 3 (s.guardG + 64)).digestClose
    obtain ⟨digq, tick⟩ := digestClose_pair (t := s.partTo 3 (s.guardG + 64)) hp hp'
    have kept := congrArg (fun q : State => q.twn.digq) en.calms.calm
    exact ⟨u, by rw [exec_digestClose, if_pos h]; exact hu, kept.trans digq, (en.rd (by decide)).trans tick⟩

end Sys2Proof.Machine

namespace Sys2Proof.Machine

/-! ## What stops a long instruction (R372) -/

/-- The facts about an operand that nothing stops. -/
theorem longFault_none {s : State} {k : AccKind} {w a : Nat} {ok : Region → Bool} (h : s.longFault k w a ok = none) :
    s.accessFault k w a = none ∧ ∃ g, memRegion a = some g ∧ ok g = true := by
  unfold State.longFault at h
  split at h
  · cases h
  · next hf =>
    split at h
    · next g hg =>
      split_ifs at h with hk
      exact ⟨hf, g, hg, hk⟩
    · cases h

theorem longRead_none {s : State} {op : LongOp} {a : Nat} {x : Ecc} (h : s.longRead op a x = none) :
    s.longFault .load op.width (if op.bytes then a - a % 4 else a) (longSrc op) = none ∧
      ∀ g, memRegion a = some g → s.flashWait g = false ∧ s.eccAt g a x ≠ .uncorrectable := by
  unfold State.longRead at h
  extract_lets b at h
  split at h
  · cases h
  · next hf hg => exact ⟨hf, fun g e => by rw [hg] at e; cases e⟩
  · next g hf hg =>
    split_ifs at h with hw he
    refine ⟨hf, fun g' e => ?_⟩
    obtain rfl : g = g' := Option.some.inj (hg.symm.trans e)
    exact ⟨by simpa using hw, he⟩

theorem longWrite_none {s : State} {a : Nat} (h : s.longWrite a = none) : s.longFault .store 4 a (· == .sram) = none := Option.map_eq_none_iff.mp h

theorem longSrc_regs (op : LongOp) : longSrc op .regs = false := by cases op <;> rfl

section core
variable {s : State} (c : CpuSt) (k : TckSt) (hp : c.psr = s.cpu.psr)
include hp

/-- Outside the register window an access is a matter of the level and the MPU alone. -/
theorem accessFault_core (kind : AccKind) (w : Nat) {a : Nat} {g : Region} (hg : memRegion a = some g) (hr : g ≠ .regs) :
    ({ s with cpu := c, tck := k } : State).accessFault kind w a = s.accessFault kind w a := by
  have m : ({ s with cpu := c, tck := k } : State).mpuOk kind c.psr.sup a = s.mpuOk kind s.cpu.psr.sup a := by rw [hp]; rfl
  unfold State.accessFault
  have r : (g = .regs) = False := eq_false hr
  rw [hg]
  simp only [m, r, decide_false, Bool.false_and]

theorem longFault_core {kind : AccKind} {w a : Nat} {ok : Region → Bool} (hok : ok .regs = false) (h : s.longFault kind w a ok = none) :
    ({ s with cpu := c, tck := k } : State).longFault kind w a ok = none := by
  obtain ⟨hf, g, hg, hk⟩ := longFault_none h
  have hr : g ≠ .regs := by rintro rfl; simp [hok] at hk
  unfold State.longFault
  rw [accessFault_core c k hp kind w hg hr, hf, hg]
  exact if_pos hk

theorem longRead_core {op : LongOp} {a : Nat} {x : Ecc} (h : s.longRead op a x = none) : ({ s with cpu := c, tck := k } : State).longRead op a x = none := by
  obtain ⟨hf, rest⟩ := longRead_none h
  have f := longFault_core c k hp (longSrc_regs op) hf
  unfold State.longRead
  extract_lets b
  rw [f]
  cases hg : memRegion a with
  | none => rfl
  | some g =>
    obtain ⟨hw, he⟩ := rest g hg
    exact (if_neg (by simpa [State.flashWait] using hw)).trans (if_neg he)

theorem longWrite_core {a : Nat} (h : s.longWrite a = none) : ({ s with cpu := c, tck := k } : State).longWrite a = none :=
  Option.map_eq_none_iff.mpr (longFault_core c k hp rfl (longWrite_none h))

/-- What does not stop an element stops none after time that passes. -/
theorem longStop_core {op : LongOp} {d a : Nat} {x y : Ecc} (h : s.longStop op d a x y = none) : ({ s with cpu := c, tck := k } : State).longStop op d a x y = none := by
  have both {p q : Option Stop} (hp : p = none) (hq : q = none) : p.or q = none := by rw [hp, hq]; rfl
  cases op with
  | bfill => exact longWrite_core c k hp h
  | bmove =>
    obtain ⟨h1, h2⟩ := Option.or_eq_none_iff.mp h
    exact both (longRead_core c k hp h1) (longWrite_core c k hp h2)
  | vmac16 =>
    obtain ⟨h1, h2⟩ := Option.or_eq_none_iff.mp h
    exact both (longRead_core c k hp h1) (longRead_core c k hp h2)
  | vmac32 =>
    obtain ⟨h1, h2⟩ := Option.or_eq_none_iff.mp h
    exact both (longRead_core c k hp h1) (longRead_core c k hp h2)
  | bcrc32 => exact longRead_core c k hp h
  | bcrc16 => exact longRead_core c k hp h

end core

/-! ## The phase at which a long instruction begins -/

theorem spend_phase {s : State} (h : s.budgeted = true) (n : Nat) : (s.spend n).tck.phase = s.tck.phase + n := by
  rw [(spend_clock s n).1, if_pos h]

/-- With an empty write buffer, an instruction that first waits for it has its effect after its fetch and its own cycles. -/
theorem issue_after_empty {s : State} {plan : State → Act} {cyc : Nat} {hit : Option Region} {lg : Bool} {f : State → State} (h : s.Runs cyc) (hw : s.cpu.wb = [])
    (hp : plan s = .after 0 cyc hit lg f) :
    ∃ t, s.Timed t ∧ (s.budgeted = true → t.tck.phase = s.tck.phase + s.fetchNow.2 + cyc) ∧ s.issue plan = f t := by
  obtain ⟨⟨h1, h2, h3⟩, h4⟩ := h
  obtain ⟨c, hc, hcw⟩ := fetchNow_cpu s
  have fetched := timed_fetch s
  have clocks := fetch_clocks s (s.fetchNow.2 + cyc)
  have wb0 : s.fetchNow.1.resumed.cpu.wb = [] := by rw [hc]; exact hcw.trans hw
  have t0 : s.Timed s.fetchNow.1.resumed := fetched.trans (timed_resumed _)
  have p0 : s.fetchNow.1.resumed.tck.phase = s.tck.phase := by rw [hc]; rfl
  have e : s.issue plan = s.fetchNow.1.retire s.fetchNow.2 cyc hit (fun _ t => if lg then t.longHeld else t) f := by
    unfold State.issue
    simp only [h1, ite_true, overruns_mono h2 (Nat.le_add_right _ _), tooLong_mono h3 (Nat.le_add_right _ _), holdsStores_mono h4 (Nat.le_add_right _ _), hp, State.perform, Nat.max_zero,
      Bool.false_eq_true, ite_false]
  have r : s.fetchNow.1.retire s.fetchNow.2 cyc hit (fun _ t => if lg then t.longHeld else t) f =
      (s.fetchNow.1.resumed.pass s.fetchNow.2).unlessReset fun t => ((t.stall hit).pass cyc).unlessReset f := by
    unfold State.retire
    rw [clocks.1, h2, if_neg (by decide), clocks.2.1, h3, if_neg (by decide)]
  generalize s.fetchNow.1.resumed = p at wb0 t0 p0 r
  have t1 := t0.trans (timed_spend p s.fetchNow.2)
  have wb1 := t1.wb_nil hw
  have stalled : (p.spend s.fetchNow.2).stall hit = p.spend s.fetchNow.2 := by unfold State.stall; rw [wb1]
  have t2 := t1.trans (timed_spend (p.spend s.fetchNow.2) cyc)
  have held := held_of_canIssue h1
  refine ⟨(p.spend s.fetchNow.2).spend cyc, t2, fun hb => ?_, ?_⟩
  · rw [spend_phase (t1.budgeted.trans hb), spend_phase (t0.budgeted.trans hb), p0]
  · rw [e, r, pass_empty wb0, State.unlessReset, if_neg (by rw [t1.held, held]; decide), stalled, pass_empty wb1, State.unlessReset, if_neg (by rw [t2.held, held]; decide)]

/-- Where nothing of Table 8-5 stops the core, a long instruction goes on to its first element (R376, R401). -/
theorem goesOn_first {s : State} (ho : s.coreOn = true) (hc : s.cpu.psr.crit = false) (hb : s.budgetOver = false) : s.goesOn true = true := by
  have b : s.boundary ≠ .off ∧ s.boundary ≠ .close ∧ s.boundary ≠ .park := by
    unfold State.boundary
    rw [ho, hc, hb]
    simp only [Bool.not_true, Bool.false_eq_true, if_false, Bool.false_and]
    repeat' split
    all_goals exact ⟨nofun, nofun, nofun⟩
  obtain ⟨off, close, park⟩ := b
  unfold State.goesOn
  cases hb : s.boundary with
  | off => exact absurd hb off
  | close => exact absurd hb close
  | park => exact absurd hb park
  | expire => rfl
  | late => rfl
  | event nm page => rfl
  | issue => rfl

end Sys2Proof.Machine

namespace Sys2Proof.Machine

/-! ## Signed values and the accumulator (R375) -/

theorem sgn_eq_toInt {w n : Nat} (hw : 0 < w) : sgn w n = (BitVec.ofNat w n).toInt := by
  obtain ⟨v, rfl⟩ : ∃ v, w = v + 1 := ⟨w - 1, by omega⟩
  have p : 2 ^ (v + 1) = 2 * 2 ^ v := Nat.pow_succ'
  unfold sgn
  rw [BitVec.toInt_eq_toNat_cond, BitVec.toNat_ofNat, Nat.add_sub_cancel]
  by_cases h : n % 2 ^ (v + 1) < 2 ^ v
  · rw [if_pos h, if_pos (by omega)]
  · rw [if_neg h, if_neg (by omega)]

theorem satS_long (x : Int) : satS 64 x = max (-(2 ^ 63)) (min (2 ^ 63 - 1) x) := by
  unfold satS
  extract_lets hi lo
  have h : hi = 2 ^ 63 - 1 := rfl
  have l : lo = -(2 ^ 63) := rfl
  rw [h, l]
  split_ifs <;> omega

/-- The accumulator holds a saturated sum in its two words. -/
theorem lacc_setLacc (s : State) (x : Int) : (s.setLacc x).lacc = satS 64 x := by
  have lo : -(2 ^ 63) ≤ satS 64 x := by rw [satS_long]; omega
  have hi : satS 64 x < 2 ^ 63 := by rw [satS_long]; omega
  have rdLo : (s.setLacc x).rd R.CPU_LACC_LO = wd (BitVec.ofInt 64 (satS 64 x)).toNat :=
    ((keeps_raiseIf _ _ P.CPU 3).rd _ (by decide)).trans ((State.rd_wr_ne _ _ (by decide)).trans (State.rd_wr_self ..))
  have rdHi : (s.setLacc x).rd R.CPU_LACC_HI = wd ((BitVec.ofInt 64 (satS 64 x)).toNat / 2 ^ 32) :=
    ((keeps_raiseIf _ _ P.CPU 3).rd _ (by decide)).trans (State.rd_wr_self ..)
  have lt := (BitVec.ofInt 64 (satS 64 x)).isLt
  have join : (wd (BitVec.ofInt 64 (satS 64 x)).toNat).toNat + (wd ((BitVec.ofInt 64 (satS 64 x)).toNat / 2 ^ 32)).toNat * 2 ^ 32 = (BitVec.ofInt 64 (satS 64 x)).toNat := by
    simp only [wd, BitVec.toNat_ofNat]
    omega
  rw [State.lacc, rdLo, rdHi, join, sgn_eq_toInt (by decide), BitVec.ofNat_toNat, BitVec.setWidth_eq, BitVec.toInt_ofInt]
  exact Int.bmod_eq_of_le (by omega) (by omega)

theorem cpu_of_quiet {s t : State} (h : t.quiet = s.quiet) : t.cpu = s.cpu := by have e := congrArg State.cpu h; exact e

theorem quiet_setLacc (s : State) (x : Int) : (s.setLacc x).quiet = s.quiet := by
  unfold State.setLacc
  extract_lets y n s1
  rw [quiet_raiseIf]
  exact (quiet_wr ..).trans (quiet_wr ..)

/-! ## The operands as words -/

/-- A word as a signed number. -/
theorem sgn_word (s : State) (a : Nat) : sgn (8 * LongOp.vmac32.width) (s.rdN a LongOp.vmac32.width) = (s.rdW a).toInt := sgn_eq_toInt (by decide)

/-- The half-word in the low bits of a word. -/
theorem sgn_half (s : State) (a : Nat) : sgn (8 * LongOp.vmac16.width) (s.rdN a LongOp.vmac16.width) = ((s.rdW a).extractLsb' 0 16).toInt := by
  have e : sgn (8 * LongOp.vmac16.width) (s.rdN a LongOp.vmac16.width) = sgn 16 (s.rdN a 2) := rfl
  rw [e, sgn_eq_toInt (by decide)]
  refine congrArg BitVec.toInt (BitVec.eq_of_toNat_eq ?_)
  have word : s.rdN a 4 = (s.rdB a).toNat + 256 * ((s.rdB (a + 1)).toNat + 256 * s.rdN (a + 2) 2) := rfl
  have half : s.rdN a 2 = (s.rdB a).toNat + 256 * ((s.rdB (a + 1)).toNat + 256 * 0) := rfl
  rw [BitVec.toNat_ofNat, BitVec.extractLsb'_toNat, State.rdW, wd, BitVec.toNat_ofNat, Nat.shiftRight_zero, half, word]
  omega

/-! ## What an element does beside its registers -/

/-- Time that passes and the reports of a read leave the core but for its lines, memory, and the accumulator. -/
structure Noted (s t : State) : Prop where
  own : t.cpu.own = s.cpu.own
  mem : ∀ b, t.rdB b = s.rdB b
  lacc : t.lacc = s.lacc

theorem lacc_of_rd {s t : State} (hl : t.rd R.CPU_LACC_LO = s.rd R.CPU_LACC_LO) (hh : t.rd R.CPU_LACC_HI = s.rd R.CPU_LACC_HI) : t.lacc = s.lacc := by
  rw [State.lacc, State.lacc, hl, hh]

namespace Noted
variable {s t u : State}

theorem refl (s : State) : Noted s s := ⟨rfl, fun _ => rfl, rfl⟩
theorem trans (h : Noted s t) (k : Noted t u) : Noted s u := ⟨k.own.trans h.own, fun b => (k.mem b).trans (h.mem b), k.lacc.trans h.lacc⟩
theorem of_view (h : t.view = s.view) (k : CpuRegs s t) : Noted s t := ⟨congrArg CpuSt.own (view_cpu h), view_rdB h, lacc_of_rd (k _ (by decide)) (k _ (by decide))⟩
theorem of_timed (h : s.Timed t) : Noted s t := ⟨h.own, h.rdB, lacc_of_rd (h.keeps.rd _ (by decide)) (h.keeps.rd _ (by decide))⟩
theorem gr (h : Noted s t) (r : Fin 16) : t.gr r = s.gr r := gr_of_cpu h.own r
theorem pc (h : Noted s t) : t.cpu.pc = s.cpu.pc := by have e := congrArg CpuSt.pc h.own; exact e
theorem rdW (h : Noted s t) (a : Nat) : t.rdW a = s.rdW a := by simp only [rdW_eq, h.mem]

end Noted

theorem noted_longNote (s : State) (a : Nat) (x : Ecc) : Noted s (s.longNote a x) := by
  unfold State.longNote
  split
  · exact .refl s
  · next g _ =>
    extract_lets s1 s2
    have h1 : Noted s s1 := .of_view (view_memReport rfl) (.memReport (.refl s))
    have h2 : Noted s s2 := by
      unfold s2; split_ifs
      · exact h1.trans (.of_view (view_liveRead rfl) (.liveRead (.refl s1)))
      · exact h1
    split_ifs
    · exact h2.trans ⟨rfl, fun _ => rfl, rfl⟩
    · exact h2

/-! ## The registers after an element (Table 7-5) -/

section step
variable (s : State) {rd ra rb : Fin 16}

theorem longStep_frame (di ai : Nat) : ∃ g, s.longStep rd ra rb di ai = { s with cpu := { s.cpu with gpr := g } } := by
  unfold State.longStep
  extract_lets s1 s2
  have h1 : ∃ g, s1 = { s with cpu := { s.cpu with gpr := g } } := by
    unfold s1; split_ifs
    · exact ⟨s.cpu.gpr, rfl⟩
    · exact setGr_eq ..
  have h2 : ∃ g, s2 = { s1 with cpu := { s1.cpu with gpr := g } } := by
    unfold s2; split_ifs
    · exact ⟨s1.cpu.gpr, rfl⟩
    · exact setGr_eq ..
  obtain ⟨g1, e1⟩ := h1
  obtain ⟨g2, e2⟩ := h2
  obtain ⟨g3, e3⟩ := setGr_eq s2 rb (s2.gr rb - 1#32)
  exact ⟨g3, by rw [e3, e2, e1]⟩

/-- A register that moves on; c0 stays zero. -/
def State.moved (s : State) (r : Fin 16) (n : Nat) : Word := if r.val = 0 then 0#32 else s.gr r + wd n

theorem moved_zero (r : Fin 16) : s.moved r 0 = s.gr r := by
  unfold State.moved
  split_ifs with h
  · exact (if_pos h).symm
  · exact BitVec.add_zero _

/-- RD and RA move on and RB falls. -/
theorem gr_longStep (hda : rd ≠ ra) (hdb : rd ≠ rb) (hab : ra ≠ rb) (hb : rb.val ≠ 0) (di ai : Nat) :
    (s.longStep rd ra rb di ai).gr rb = s.gr rb - 1#32 ∧ (s.longStep rd ra rb di ai).gr ra = s.moved ra ai ∧ (s.longStep rd ra rb di ai).gr rd = s.moved rd di := by
  have step (t : State) (r q : Fin 16) (n : Nat) : (if n = 0 then t else t.setGr r (t.gr r + wd n)).gr q = if q = r then t.moved r n else t.gr q := by
    by_cases h : n = 0
    · rw [if_pos h, h]
      split_ifs with e
      · rw [moved_zero, e]
      · rfl
    · rw [if_neg h, gr_setGr]
      rfl
  have other {t u : State} {r : Fin 16} (h : t.gr r = u.gr r) (n : Nat) : t.moved r n = u.moved r n := by unfold State.moved; rw [h]
  unfold State.longStep
  extract_lets s1 s2
  have g1 (q : Fin 16) : s1.gr q = if q = rd then s.moved rd di else s.gr q := step s rd q di
  have g2 (q : Fin 16) : s2.gr q = if q = ra then s1.moved ra ai else s1.gr q := step s1 ra q ai
  refine ⟨?_, ?_, ?_⟩
  · rw [gr_setGr, if_pos rfl, if_neg hb, g2, if_neg hab.symm, g1, if_neg hdb.symm]
  · rw [gr_setGr, if_neg hab, g2, if_pos rfl]
    exact other (by rw [g1, if_neg hda.symm]) ai
  · rw [gr_setGr, if_neg hdb, g2, if_neg hda, g1, if_pos rfl]

end step

end Sys2Proof.Machine

namespace Sys2Proof.Machine

/-! ## One element and where it leaves the instruction (R374, R376) -/

/-- The state `y` is `z` after the registers of an element have moved on. -/
structure Stepped (rd ra rb : Fin 16) (di ai : Nat) (z y : State) : Prop where
  count : y.gr rb = z.gr rb - 1#32
  src : y.gr ra = z.moved ra ai
  dst : y.gr rd = z.moved rd di
  pc : y.cpu.pc = z.cpu.pc
  mem : ∀ b, y.rdB b = z.rdB b
  lacc : y.lacc = z.lacc

theorem stepped_longStep (z : State) {rd ra rb : Fin 16} (hda : rd ≠ ra) (hdb : rd ≠ rb) (hab : ra ≠ rb) (hb : rb.val ≠ 0) (di ai : Nat) :
    Stepped rd ra rb di ai z (z.longStep rd ra rb di ai) := by
  obtain ⟨count, src, dst⟩ := gr_longStep z hda hdb hab hb di ai
  obtain ⟨g, e⟩ := longStep_frame z (rd := rd) (ra := ra) (rb := rb) di ai
  exact ⟨count, src, dst, by rw [e], fun b => by rw [e]; rfl, by rw [e]; rfl⟩

/-- The state `u` in which a long instruction stands after the element that leaves `y`: complete where RB has come to 0, and else in its place with PSR.LP set. -/
structure Halted (rb : Fin 16) (y u : State) : Prop where
  gr : ∀ r, u.gr r = y.gr r
  mem : ∀ b, u.rdB b = y.rdB b
  lacc : u.lacc = y.lacc
  done : y.gr rb = 0#32 → u.cpu.psr = { y.cpu.psr with lp := false } ∧ u.cpu.pc = y.cpu.pc + 4#32
  held : y.gr rb ≠ 0#32 → u.cpu.psr.lp = true ∧ u.cpu.pc = y.cpu.pc

theorem longRun_done {n : Nat} {s : State} {op : LongOp} {rd ra rb : Fin 16} {x y : Ecc} {first : Bool} (h : s.gr rb = 0#32) : s.longRun n op rd ra rb x y first = s.longDone := by
  unfold State.longRun
  exact if_pos h

theorem longRun_held {s : State} {op : LongOp} {rd ra rb : Fin 16} {x y : Ecc} {first : Bool} (h : s.gr rb ≠ 0#32) : s.longRun 0 op rd ra rb x y first = s.longHeld := by
  unfold State.longRun
  exact if_neg h

/-- With no element left to process, a long instruction completes or stops. -/
theorem halted_longRun (s : State) (op : LongOp) (rd ra rb : Fin 16) (x y : Ecc) (first : Bool) : Halted rb s (s.longRun 0 op rd ra rb x y first) := by
  by_cases h : s.gr rb = 0#32
  · rw [longRun_done h]
    exact ⟨fun _ => rfl, fun _ => rfl, rfl, fun _ => ⟨rfl, rfl⟩, fun k => absurd h k⟩
  · rw [longRun_held h]
    exact ⟨fun _ => rfl, fun _ => rfl, rfl, fun k => absurd k h, fun _ => ⟨rfl, rfl⟩⟩

theorem Halted.rdW {rb : Fin 16} {y u : State} (h : Halted rb y u) (a : Nat) : u.rdW a = y.rdW a := by simp only [rdW_eq, h.mem]

theorem Halted.ended {rb : Fin 16} {r y z u : State} (h : Halted rb y z) (en : Ended r z u) : Halted rb y u where
  gr q := (gr_of_cpu (by rw [en.cpu]) q).trans (h.gr q)
  mem b := (en.rdB b).trans (h.mem b)
  lacc := by rw [← h.lacc, State.lacc, State.lacc, en.rd (by decide), en.rd (by decide)]
  done k := by rw [en.cpu]; exact h.done k
  held k := by rw [en.cpu]; exact h.held k

/-- One element that nothing stops. -/
theorem longRun_one {s : State} {op : LongOp} {rd ra rb : Fin 16} {x y : Ecc} (hk : s.gr rb ≠ 0#32) (hg : s.goesOn true = true) (hc : s.cpu.psr.crit = false)
    (hs : s.longStop op (s.gr rd).toNat (s.gr ra).toNat x y = none) :
    s.longRun 1 op rd ra rb x y true = ((s.spend (op.cyc + op.flashCyc true (s.gr ra).toNat)).longElem op rd ra rb x y).longRun 0 op rd ra rb x y false := by
  have short (n : Nat) : s.tooLong n = false := by unfold State.tooLong; rw [hc]; rfl
  conv_lhs => unfold State.longRun
  simp only [hk, if_false, hg, Bool.not_true, Bool.false_eq_true, if_true, hs, short]

section long
variable {s : State} {c : Instr} {op : LongOp} {rd ra rb : Fin 16} {x y : Ecc} (hx : exec c s = s.ran (s.issue fun t => t.longAct op rd ra rb 1 x y)) (hw : s.cpu.wb = []) (h : s.Runs 3)
include hx hw h

/-- A long instruction with a count of 0 completes after its setup (R370). -/
theorem long_empty (hk : s.gr rb = 0#32) : ∃ t u, s.Timed t ∧ exec c s = .next u ∧ Halted rb t u := by
  have hp : s.longAct op rd ra rb 1 x y = .after 0 3 none true fun t => t.longRun 1 op rd ra rb x y true := by unfold State.longAct; rw [hw]; rfl
  obtain ⟨t, tm, u, hu, en⟩ := ended_issue_after (plan := fun t => t.longAct op rd ra rb 1 x y) h hp
  have e : t.longRun 1 op rd ra rb x y true = t.longRun 0 op rd ra rb x y true := by
    rw [longRun_done (by rw [tm.gr, hk]), longRun_done (by rw [tm.gr, hk])]
  rw [e] at en
  exact ⟨t, u, tm, hx.trans hu, (halted_longRun t op rd ra rb x y true).ended en⟩

/-- A long instruction that nothing stops processes its element. -/
theorem long_element (hc : s.cpu.psr.crit = false) (hb : s.budgeted = false ∨ s.tck.phase + s.fetchNow.2 + 3 < s.budgetEnd) (hk : s.gr rb ≠ 0#32)
    (hs : s.longStop op (s.gr rd).toNat (s.gr ra).toNat x y = none) :
    ∃ t u, s.Timed t ∧ exec c s = .next u ∧ Halted rb (t.longElem op rd ra rb x y) u := by
  have hp : s.longAct op rd ra rb 1 x y = .after 0 3 none true fun t => t.longRun 1 op rd ra rb x y true := by unfold State.longAct; rw [hw]; rfl
  obtain ⟨t, tm, phase, e⟩ := issue_after_empty (plan := fun t => t.longAct op rd ra rb 1 x y) h hw hp
  have inBudget : t.budgetOver = false := by
    unfold State.budgetOver
    rw [tm.budgeted, tm.budgetEnd]
    cases hbu : s.budgeted with
    | false => rfl
    | true =>
      have inTime := hb.resolve_left (by rw [hbu]; decide)
      rw [phase hbu, Bool.true_and, decide_eq_false_iff_not]
      omega
  have on : t.coreOn = true := tm.coreOn.trans (coreOn_of_canIssue h.1.1)
  have crit : t.cpu.psr.crit = false := by rw [tm.psr, hc]
  have stop : t.longStop op (t.gr rd).toNat (t.gr ra).toNat x y = none := by
    rw [tm.gr, tm.gr, tm.calm hc]
    exact longStop_core _ _ tm.psr hs
  rw [longRun_one (by rw [tm.gr]; exact hk) (goesOn_first on crit inBudget) crit stop] at e
  obtain ⟨u, hu, en⟩ := ended_ran s (s.issue fun t => t.longAct op rd ra rb 1 x y)
  rw [e] at en
  exact ⟨_, u, tm.trans (timed_spend t _), hx.trans hu, (halted_longRun _ op rd ra rb x y false).ended en⟩

end long

/-! ## The element of each instruction (Table 7-5) -/

/-- A register that holds an address of SRAM is not c0. -/
theorem moved_sram {s : State} {r : Fin 16} (h : inSram (s.gr r).toNat = true) (n : Nat) : s.moved r n = s.gr r + wd n := by
  have hr : r.val ≠ 0 := by
    intro e
    have z : s.gr r = 0#32 := if_pos e
    rw [z] at h
    exact absurd h (by decide)
  exact if_neg hr

theorem sram_of_write {s : State} {a : Nat} (h : s.longWrite a = none) : inSram a = true := by
  obtain ⟨-, g, hg, hk⟩ := longFault_none (longWrite_none h)
  exact sram_of_region (by rw [hg, beq_iff_eq.mp hk])

/-- VMAC reads its operands in SRAM alone (R372). -/
theorem sram_of_read {s : State} {op : LongOp} {a : Nat} {x : Ecc} (hw : op.wide = false) (h : s.longRead op a x = none) : inSram a = true := by
  obtain ⟨hf, -⟩ := longRead_none h
  have b : op.bytes = false := by
    simp only [LongOp.wide, Bool.or_eq_false_iff] at hw
    obtain ⟨⟨-, h32⟩, h16⟩ := hw
    simp only [LongOp.bytes, h32, h16, Bool.or_false]
  obtain ⟨-, g, hg, hk⟩ := longFault_none hf
  rw [b] at hg
  refine sram_of_region (hg.trans (congrArg some ?_))
  simpa [longSrc, hw] using hk

/-- The registers of `s` after an element, RD holding `d` and RA `a`. -/
structure Element (rd ra rb : Fin 16) (d a : Word) (s y : State) : Prop where
  count : y.gr rb = s.gr rb - 1#32
  src : y.gr ra = a
  dst : y.gr rd = d
  pc : y.cpu.pc = s.cpu.pc

section element
variable {s t : State} {rd ra rb : Fin 16} (n : Noted s t) (hda : rd ≠ ra) (hdb : rd ≠ rb) (hab : ra ≠ rb) (hb : rb.val ≠ 0) (x y : Ecc)
include n hda hdb hab hb

/-- An element whose effect beside the registers leaves them. -/
theorem element_of_own {z : State} (hz : z.cpu.own = t.cpu.own) (di ai : Nat) : Element rd ra rb (s.moved rd di) (s.moved ra ai) s (z.longStep rd ra rb di ai) := by
  have st := stepped_longStep z hda hdb hab hb di ai
  have own := hz.trans n.own
  have moved (r : Fin 16) (k : Nat) : z.moved r k = s.moved r k := by unfold State.moved; rw [gr_of_cpu own]
  have pc : z.cpu.pc = s.cpu.pc := (congrArg CpuSt.pc own :)
  exact ⟨by rw [st.count, gr_of_cpu own], by rw [st.src, moved], by rw [st.dst, moved], by rw [st.pc, pc]⟩

/-- A word of SRAM stored at RD. -/
theorem elem_store {z : State} (nz : Noted t z) (v : Word) (ai : Nat) (hd : inSram (s.gr rd).toNat = true) :
    Element rd ra rb (s.gr rd + 4#32) (s.moved ra ai) s ((z.memStore (s.gr rd).toNat 4 v).longStep rd ra rb 4 ai) ∧
      ((z.memStore (s.gr rd).toNat 4 v).longStep rd ra rb 4 ai).rdW (s.gr rd).toNat = v ∧
      ∀ b, b < (s.gr rd).toNat ∨ (s.gr rd).toNat + 4 ≤ b → ((z.memStore (s.gr rd).toNat 4 v).longStep rd ra rb 4 ai).rdB b = s.rdB b := by
  have hc := carrier_sram hd
  have el := element_of_own n hda hdb hab hb ((congrArg CpuSt.own (cpu_memStore z 4 v hd)).trans nz.own) 4 ai
  have st := stepped_longStep (z.memStore (s.gr rd).toNat 4 v) hda hdb hab hb 4 ai
  rw [moved_sram hd] at el
  refine ⟨el, ?_, fun b hb => ?_⟩
  · rw [rdW_eq, st.mem, st.mem, st.mem, st.mem, ← rdW_eq, rdW_memStore _ _ hc]
  · rw [st.mem, rdB_memStore _ _ _ hc, storedByte, if_neg (by omega), nz.mem, n.mem]

theorem elem_bfill (hd : inSram (s.gr rd).toNat = true) :
    Element rd ra rb (s.gr rd + 4#32) (s.gr ra) s (t.longElem .bfill rd ra rb x y) ∧ (t.longElem .bfill rd ra rb x y).rdW (s.gr rd).toNat = s.gr ra ∧
      ∀ b, b < (s.gr rd).toNat ∨ (s.gr rd).toNat + 4 ≤ b → (t.longElem .bfill rd ra rb x y).rdB b = s.rdB b := by
  have e : t.longElem .bfill rd ra rb x y = (t.memStore (s.gr rd).toNat 4 (s.gr ra)).longStep rd ra rb 4 0 := by rw [← n.gr, ← n.gr]; rfl
  have k := elem_store n hda hdb hab hb (.refl t) (s.gr ra) 0 hd
  rw [moved_zero, ← e] at k
  exact k

theorem elem_bmove (hd : inSram (s.gr rd).toNat = true) :
    Element rd ra rb (s.gr rd + 4#32) (s.moved ra 4) s (t.longElem .bmove rd ra rb x y) ∧ (t.longElem .bmove rd ra rb x y).rdW (s.gr rd).toNat = s.rdW (s.gr ra).toNat ∧
      ∀ b, b < (s.gr rd).toNat ∨ (s.gr rd).toNat + 4 ≤ b → (t.longElem .bmove rd ra rb x y).rdB b = s.rdB b := by
  have nz := noted_longNote t (s.gr ra).toNat x
  have e : t.longElem .bmove rd ra rb x y = ((t.longNote (s.gr ra).toNat x).memStore (s.gr rd).toNat 4 (s.rdW (s.gr ra).toNat)).longStep rd ra rb 4 4 := by
    rw [← n.rdW, ← nz.rdW, ← n.gr, ← n.gr]; rfl
  rw [e]
  exact elem_store n hda hdb hab hb nz _ 4 hd

/-- A product is added to the accumulator, saturating (R375). -/
theorem elem_vmac {z : State} (nz : Noted t z) (p : Int) (w : Nat) (hd : inSram (s.gr rd).toNat = true) (ha : inSram (s.gr ra).toNat = true) :
    Element rd ra rb (s.gr rd + wd w) (s.gr ra + wd w) s ((z.setLacc (z.lacc + p)).longStep rd ra rb w w) ∧
      (∀ b, ((z.setLacc (z.lacc + p)).longStep rd ra rb w w).rdB b = s.rdB b) ∧
      ((z.setLacc (z.lacc + p)).longStep rd ra rb w w).lacc = max (-(2 ^ 63)) (min (2 ^ 63 - 1) (s.lacc + p)) := by
  have q := quiet_setLacc z (z.lacc + p)
  have lacc := lacc_setLacc z (z.lacc + p)
  have mem (b : Nat) : (z.setLacc (z.lacc + p)).rdB b = z.rdB b := by
    obtain ⟨hm, ha⟩ := quiet_mem q
    exact rdB_of_mem hm ha b
  have el := element_of_own n hda hdb hab hb ((congrArg CpuSt.own (cpu_of_quiet q)).trans nz.own) w w
  have st := stepped_longStep (z.setLacc (z.lacc + p)) hda hdb hab hb w w
  rw [moved_sram hd, moved_sram ha] at el
  refine ⟨el, fun b => ?_, ?_⟩
  · rw [st.mem, mem, nz.mem, n.mem]
  · rw [st.lacc, lacc, satS_long, nz.lacc, n.lacc]

/-- A byte goes into a CRC held in RD (R374). -/
theorem elem_bcrc {z : State} (nz : Noted t z) (v : Word) : Element rd ra rb (if rd.val = 0 then 0#32 else v) (s.moved ra 1) s ((z.setGr rd v).longStep rd ra rb 0 1) ∧
    ∀ b, ((z.setGr rd v).longStep rd ra rb 0 1).rdB b = s.rdB b := by
  have st := stepped_longStep (z.setGr rd v) hda hdb hab hb 0 1
  have sz := n.trans nz
  obtain ⟨g, e⟩ := setGr_eq z rd v
  have src : (z.setGr rd v).moved ra 1 = s.moved ra 1 := by unfold State.moved; rw [gr_setGr, if_neg hda.symm, sz.gr]
  refine ⟨⟨?_, ?_, ?_, ?_⟩, fun b => ?_⟩
  · rw [st.count, gr_setGr, if_neg hdb.symm, sz.gr]
  · rw [st.src, src]
  · rw [st.dst, moved_zero, gr_setGr, if_pos rfl]
  · rw [st.pc, e]; exact sz.pc
  · rw [st.mem, e]; exact sz.mem b

theorem elem_vmac16 (hd : inSram (s.gr rd).toNat = true) (ha : inSram (s.gr ra).toNat = true) :
    Element rd ra rb (s.gr rd + 2#32) (s.gr ra + 2#32) s (t.longElem .vmac16 rd ra rb x y) ∧ (∀ b, (t.longElem .vmac16 rd ra rb x y).rdB b = s.rdB b) ∧
      (t.longElem .vmac16 rd ra rb x y).lacc =
        max (-(2 ^ 63)) (min (2 ^ 63 - 1) (s.lacc + ((s.rdW (s.gr ra).toNat).extractLsb' 0 16).toInt * ((s.rdW (s.gr rd).toNat).extractLsb' 0 16).toInt)) := by
  have nz := (noted_longNote t (s.gr ra).toNat x).trans (noted_longNote _ (s.gr rd).toNat y)
  have e : t.longElem .vmac16 rd ra rb x y = ((((t.longNote (s.gr ra).toNat x).longNote (s.gr rd).toNat y).setLacc
      (((t.longNote (s.gr ra).toNat x).longNote (s.gr rd).toNat y).lacc +
        ((s.rdW (s.gr ra).toNat).extractLsb' 0 16).toInt * ((s.rdW (s.gr rd).toNat).extractLsb' 0 16).toInt))).longStep rd ra rb 2 2 := by
    rw [← (n.trans nz).rdW, ← (n.trans nz).rdW, ← sgn_half, ← sgn_half, ← n.gr, ← n.gr]
    rfl
  rw [e]
  exact elem_vmac n hda hdb hab hb nz _ 2 hd ha

theorem elem_vmac32 (hd : inSram (s.gr rd).toNat = true) (ha : inSram (s.gr ra).toNat = true) :
    Element rd ra rb (s.gr rd + 4#32) (s.gr ra + 4#32) s (t.longElem .vmac32 rd ra rb x y) ∧ (∀ b, (t.longElem .vmac32 rd ra rb x y).rdB b = s.rdB b) ∧
      (t.longElem .vmac32 rd ra rb x y).lacc = max (-(2 ^ 63)) (min (2 ^ 63 - 1) (s.lacc + (s.rdW (s.gr ra).toNat).toInt * (s.rdW (s.gr rd).toNat).toInt)) := by
  have nz := (noted_longNote t (s.gr ra).toNat x).trans (noted_longNote _ (s.gr rd).toNat y)
  have e : t.longElem .vmac32 rd ra rb x y = ((((t.longNote (s.gr ra).toNat x).longNote (s.gr rd).toNat y).setLacc
      (((t.longNote (s.gr ra).toNat x).longNote (s.gr rd).toNat y).lacc + (s.rdW (s.gr ra).toNat).toInt * (s.rdW (s.gr rd).toNat).toInt))).longStep rd ra rb 4 4 := by
    rw [← (n.trans nz).rdW, ← (n.trans nz).rdW, ← sgn_word, ← sgn_word, ← n.gr, ← n.gr]
    rfl
  rw [e]
  exact elem_vmac n hda hdb hab hb nz _ 4 hd ha

theorem elem_bcrc32 :
    Element rd ra rb (if rd.val = 0 then 0#32 else wd (crc32Byte (s.gr rd).toNat (s.rdB (s.gr ra).toNat))) (s.moved ra 1) s (t.longElem .bcrc32 rd ra rb x y) ∧
      ∀ b, (t.longElem .bcrc32 rd ra rb x y).rdB b = s.rdB b := by
  have nz := noted_longNote t (s.gr ra).toNat x
  have e : t.longElem .bcrc32 rd ra rb x y =
      ((t.longNote (s.gr ra).toNat x).setGr rd (wd (crc32Byte (s.gr rd).toNat (s.rdB (s.gr ra).toNat)))).longStep rd ra rb 0 1 := by
    rw [← (n.trans nz).mem, ← n.gr, ← n.gr]; rfl
  rw [e]
  exact elem_bcrc n hda hdb hab hb nz _

theorem elem_bcrc16 :
    Element rd ra rb (if rd.val = 0 then 0#32 else wd (crc16Byte ((s.gr rd).toNat % 65536) (s.rdB (s.gr ra).toNat))) (s.moved ra 1) s (t.longElem .bcrc16 rd ra rb x y) ∧
      ∀ b, (t.longElem .bcrc16 rd ra rb x y).rdB b = s.rdB b := by
  have nz := noted_longNote t (s.gr ra).toNat x
  have e : t.longElem .bcrc16 rd ra rb x y =
      ((t.longNote (s.gr ra).toNat x).setGr rd (wd (crc16Byte ((s.gr rd).toNat % 65536) (s.rdB (s.gr ra).toNat)))).longStep rd ra rb 0 1 := by
    rw [← (n.trans nz).mem, ← n.gr, ← n.gr]; rfl
  rw [e]
  exact elem_bcrc n hda hdb hab hb nz _

end element

/-- The count falls by one; at its end the instruction is complete, and before it the instruction holds its place (R374, R376). -/
theorem Halted.progress {s y u : State} {rd ra rb : Fin 16} {d a : Word} (h : Halted rb y u) (el : Element rd ra rb d a s y) :
    u.gr rb = s.gr rb - 1#32 ∧ (s.gr rb = 1#32 → u.cpu.psr.lp = false ∧ u.cpu.pc = s.cpu.pc + 4#32) ∧ (s.gr rb ≠ 1#32 → u.cpu.psr.lp = true ∧ u.cpu.pc = s.cpu.pc) := by
  refine ⟨(h.gr rb).trans el.count, fun e => ?_, fun e => ?_⟩
  · obtain ⟨psr, pc⟩ := h.done (by rw [el.count, e]; rfl)
    exact ⟨by rw [psr], by rw [pc, el.pc]⟩
  · obtain ⟨lp, pc⟩ := h.held (by rw [el.count]; exact fun z => e (sub_eq_zero.mp z))
    exact ⟨lp, by rw [pc, el.pc]⟩

/-- Settles O42, by what one element of each instruction does and whether the count ends with it. -/
theorem coreLong : Obligations.CoreLong := by
  unfold Obligations.CoreLong
  intro s rd ra rb x y hw hc h d a k ops
  refine ⟨fun e he hk => ?_, fun hb hk hda hdb hab e he hs => ?_⟩
  · have plan : ∃ op x' y', exec e.1 s = s.ran (s.issue fun t => t.longAct op rd ra rb 1 x' y') := by
      simp only [ops, List.mem_cons, List.not_mem_nil, or_false] at he
      rcases he with rfl | rfl | rfl | rfl | rfl | rfl <;> exact ⟨_, _, _, rfl⟩
    obtain ⟨op, x', y', hx⟩ := plan
    obtain ⟨t, u, tm, hu, hl⟩ := long_empty hx hw h hk
    obtain ⟨psr, pc⟩ := hl.done (by rw [tm.gr]; exact hk)
    exact ⟨u, hu, by rw [pc, tm.pc], by rw [psr, tm.psr], fun r => (hl.gr r).trans (tm.gr r), fun b => (hl.mem b).trans (tm.rdB b)⟩
  · have hrb : rb.val ≠ 0 := fun z => hk (if_pos z)
    simp only [ops, List.mem_cons, List.not_mem_nil, or_false] at he
    rcases he with rfl | rfl | rfl | rfl | rfl | rfl
    · have stop : s.longStop .bmove d.toNat a.toNat x .ok = none := hs
      obtain ⟨-, write⟩ := Option.or_eq_none_iff.mp stop
      obtain ⟨t, u, tm, hu, hl⟩ := long_element (c := .bmove rd ra rb 1 x) rfl hw h hc hb hk stop
      obtain ⟨el, word, rest⟩ := elem_bmove (.of_timed tm) hda hdb hab hrb x .ok (sram_of_write write)
      obtain ⟨count, last, held⟩ := hl.progress el
      exact ⟨u, hu, count, last, held, nofun, fun _ => ⟨(hl.gr ra).trans el.src, (hl.gr rd).trans el.dst, (hl.rdW _).trans word, fun b hb => (hl.mem b).trans (rest b hb)⟩,
        nofun, nofun, nofun, nofun⟩
    · have stop : s.longStop .bfill d.toNat a.toNat .ok .ok = none := hs
      obtain ⟨t, u, tm, hu, hl⟩ := long_element (c := .bfill rd ra rb 1) rfl hw h hc hb hk stop
      obtain ⟨el, word, rest⟩ := elem_bfill (.of_timed tm) hda hdb hab hrb .ok .ok (sram_of_write stop)
      obtain ⟨count, last, held⟩ := hl.progress el
      exact ⟨u, hu, count, last, held, fun _ => ⟨(hl.gr ra).trans el.src, (hl.gr rd).trans el.dst, (hl.rdW _).trans word, fun b hb => (hl.mem b).trans (rest b hb)⟩,
        nofun, nofun, nofun, nofun, nofun⟩
    · have stop : s.longStop .vmac16 d.toNat a.toNat x y = none := hs
      obtain ⟨readA, readD⟩ := Option.or_eq_none_iff.mp stop
      obtain ⟨t, u, tm, hu, hl⟩ := long_element (c := .vmac16 rd ra rb 1 x y) rfl hw h hc hb hk stop
      obtain ⟨el, mem, sum⟩ := elem_vmac16 (.of_timed tm) hda hdb hab hrb x y (sram_of_read rfl readD) (sram_of_read rfl readA)
      obtain ⟨count, last, held⟩ := hl.progress el
      exact ⟨u, hu, count, last, held, nofun, nofun, fun _ => ⟨(hl.gr ra).trans el.src, (hl.gr rd).trans el.dst, fun b => (hl.mem b).trans (mem b), hl.lacc.trans sum⟩,
        nofun, nofun, nofun⟩
    · have stop : s.longStop .vmac32 d.toNat a.toNat x y = none := hs
      obtain ⟨readA, readD⟩ := Option.or_eq_none_iff.mp stop
      obtain ⟨t, u, tm, hu, hl⟩ := long_element (c := .vmac32 rd ra rb 1 x y) rfl hw h hc hb hk stop
      obtain ⟨el, mem, sum⟩ := elem_vmac32 (.of_timed tm) hda hdb hab hrb x y (sram_of_read rfl readD) (sram_of_read rfl readA)
      obtain ⟨count, last, held⟩ := hl.progress el
      exact ⟨u, hu, count, last, held, nofun, nofun, nofun, fun _ => ⟨(hl.gr ra).trans el.src, (hl.gr rd).trans el.dst, fun b => (hl.mem b).trans (mem b), hl.lacc.trans sum⟩,
        nofun, nofun⟩
    · have stop : s.longStop .bcrc32 d.toNat a.toNat x .ok = none := hs
      obtain ⟨t, u, tm, hu, hl⟩ := long_element (c := .bcrc32 rd ra rb 1 x) rfl hw h hc hb hk stop
      obtain ⟨el, mem⟩ := elem_bcrc32 (.of_timed tm) hda hdb hab hrb x .ok
      obtain ⟨count, last, held⟩ := hl.progress el
      exact ⟨u, hu, count, last, held, nofun, nofun, nofun, nofun, fun _ => ⟨(hl.gr ra).trans el.src, fun b => (hl.mem b).trans (mem b), (hl.gr rd).trans el.dst⟩, nofun⟩
    · have stop : s.longStop .bcrc16 d.toNat a.toNat x .ok = none := hs
      obtain ⟨t, u, tm, hu, hl⟩ := long_element (c := .bcrc16 rd ra rb 1 x) rfl hw h hc hb hk stop
      obtain ⟨el, mem⟩ := elem_bcrc16 (.of_timed tm) hda hdb hab hrb x .ok
      obtain ⟨count, last, held⟩ := hl.progress el
      exact ⟨u, hu, count, last, held, nofun, nofun, nofun, nofun, nofun, fun _ => ⟨(hl.gr ra).trans el.src, fun b => (hl.mem b).trans (mem b), (hl.gr rd).trans el.dst⟩⟩

end Sys2Proof.Machine
